-- ==== Sys2Proof/Word.lean ====
section
/-! DEFINITION. Word.lean: the word types of the TM8, the type of a sparse table, and the operation word. -/

namespace Sys2Proof

abbrev Byte := BitVec 8
abbrev W32 := BitVec 32
abbrev W64 := BitVec 64

/-- A sparse table: keys strictly rising, no entry equal to what its key reads as when unlisted
(Machine/Store.lean gives the reads and writes, and the canonical form as a Bool). -/
abbrev Tbl (α : Type) := List (Nat × α)

/-- R134: the fields of an operation word beside its operation code. -/
structure OpWord where
  dst : BitVec 5
  sa : BitVec 5
  sb : BitVec 5
  sc : BitVec 5
  md : BitVec 4
  imm : BitVec 32
  deriving DecidableEq, Repr

end Sys2Proof
end

