-- ==== Sys2Proof/Cell.lean ====
section
/-! DEFINITION. Cell.lean: the 80-byte cell, link cells, blocks and the small closed types that commands carry
(spec/09 R281 to R290; spec/13 R415 to R419). -/

namespace Sys2Proof

/-- R288 Table 6: a cell. The payload is little-endian: payload byte i is bits [8i+7:8i]. -/
structure Cell where
  dpkg : Nat
  dep : Nat
  spkg : Nat
  sep : Nat
  slice : Nat
  vc : Nat
  epoch : Bool
  ce : Bool
  ece : Bool
  ty : Nat
  gen : Nat
  mseq : Nat
  cidx : Nat
  plen : Nat
  age : Nat
  ctx : Nat
  crc : Nat
  payload : BitVec 512
  deriving DecidableEq, Repr

/-- R283: a cell on a link, with its sideband, and the timebase of its arrival where it is held. -/
structure LCell where
  cell : Cell
  pool : Bool
  agef : Nat
  arr : W64
  deriving DecidableEq, Repr

/-- R281, R282: a received block that is no alignment block: its fifteen slots in slot order (those that carry cells), and
the block control. `unc` tells which codewords are uncorrectable, `sym` how many symbols were corrected. -/
structure Block where
  align : Bool
  uncA : Bool
  uncB : Bool
  sym : Nat
  fseq : Nat
  cells : List LCell
  aseq : Nat
  nak : Bool
  dcrd : List Nat
  scrd : Nat
  deriving DecidableEq, Repr

/-- R286 Table 5: a configuration record. -/
structure CfgRec where
  fresh : Bool
  aseq : Nat
  tSend : W32
  tEcho : W32
  tHold : W32
  free : List Nat
  sfree : Nat
  deriving DecidableEq, Repr

/-- What a protected read finds: nothing, an error that was corrected, or one that cannot be (R415 to R419). -/
inductive Ecc where
  | clean | corrected | uncorrectable
  deriving DecidableEq, Repr

/-- R408, R427: which side of a check an upset hits. -/
inductive Upset where
  | none | data | checker
  deriving DecidableEq, Repr

/-- R184 Table 2: slot codes. -/
inductive SlotCode where
  | idle | read | write | turn | refresh | scrub
  deriving DecidableEq, Repr

/-- R280: why a link is lost. -/
inductive LossCause where
  | los | unc | rplim | credit
  deriving DecidableEq, Repr

end Sys2Proof
end

