-- ==== Sys2Proof/Machine/KilnTypes.lean ====
section
/-! DEFINITION. Machine/KilnTypes.lean: the state of the kiln, of the role it may hold, and of the module's wicks
(spec/12 R363 to R402; spec/10 R327, R328). A wick is named by package × 32 + endpoint, a link of the fabric by package × 48 +
wheel × 12 + link. -/

namespace Sys2Proof.Machine

/-! ### Discovery -/

/-- R374, R375: what the last LINK hello on a link of this module said of its far end. -/
structure HelloSt where
  pkg : Nat
  pkgv : Bool
  wheel : Nat
  link : Nat
  serial : Nat
  /-- the far end has echoed this end -/
  twoWay : Bool
  /-- w3: CAND, the term and the active package that the far kiln knows -/
  cand : Bool
  term : Nat
  act : Option Nat
  deriving DecidableEq, Repr

/-- R402: a JOIN received on an attach link. -/
structure JoinSt where
  serial : Nat
  ctxs : Nat
  fwdCtxs : Nat
  bytes : Nat
  rsp : Nat
  intake : Nat
  col : Nat
  fwdBytes : Nat
  deriving DecidableEq, Repr

/-- R376: one part of the link state of a package: 24 link words of 16 bits, and when it came last. -/
structure LsrPart where
  seq : Nat
  term : Nat
  cand : Bool
  peer : Option Nat
  pri : Nat
  links : List Nat
  heard : W64
  deriving DecidableEq, Repr

/-! ### The role (R371 to R396) -/

/-- A command that has its FMSEQ. -/
structure RoleCmd where
  seq : Nat
  /-- cell type: 0x19 M_ROUTE, 0x1A M_EPOCH, 0x1F M_CTL -/
  ty : Nat
  words : List Nat
  /-- none while its MIRROR is not acknowledged -/
  sent : Option W64
  deriving DecidableEq, Repr

/-- A command that waits for a place in its wick's window. -/
structure CmdBody where
  ty : Nat
  op : Nat
  tail : List Nat
  deriving DecidableEq, Repr

/-- R398: a wick that the role has sent LIGHT to. -/
structure LitWick where
  lit : Bool
  kind : Nat
  serial : Nat
  fw : Nat
  next : Nat
  out : List RoleCmd
  todo : List CmdBody
  /-- the last answer -/
  heard : W64
  deriving DecidableEq, Repr

/-- R327, R328: the table change in progress. -/
structure ChangeSt where
  /-- the step of Table 5 of spec/10 -/
  step : Nat
  epoch : Nat
  /-- wicks whose answer of the present step has not come, and wheel agents that have not reported DRAINED -/
  wait : List Nat
  drain : List Nat
  lastAck : W64
  began : W64
  /-- R387: wheels whose bank has been sent a second time, and wheels that keep their installed epoch -/
  again : List Nat
  skip : List Nat
  deriving DecidableEq, Repr

/-- R393: a member of a slice: package, third-party endpoint, function, clusters, and the saggar and die mask that it was given. -/
structure SliceMem where
  pkg : Nat
  tp : Bool
  ep : Nat
  fn : Nat
  cls : Nat
  sag : Nat
  mask : Nat
  deriving DecidableEq, Repr

structure SliceRec where
  members : List SliceMem
  fence : Nat
  compact : Bool
  deriving DecidableEq, Repr

/-- R396: one module of a group's tree: its parent direction, 7 at the root, and its CHILDREN. -/
structure TreeNode where
  pkg : Nat
  parent : Nat
  children : Nat
  deriving DecidableEq, Repr

structure GroupRec where
  slice : Nat
  fence : Bool
  plane : Nat
  root : Nat
  slots : Nat
  /-- rank and logical core of each member -/
  members : List (Nat × Nat)
  tree : List TreeNode
  deriving DecidableEq, Repr

/-- R392 Table 8: a request. -/
structure KilnReq where
  op : Nat
  flags : Nat
  tag : Nat
  count : Nat
  list : Nat
  result : Nat
  group : Nat
  plane : Nat
  slots : Nat
  box : List Nat
  /-- the reserved bytes are 0 -/
  clear : Bool
  deriving DecidableEq, Repr

/-- The request in progress. -/
structure ReqSt where
  /-- channel of this kiln, none when it entered at the standby -/
  ch : Option Nat
  req : KilnReq
  /-- 0 releases the old saggars, 3 SGREQ, 4 SGREL after a refusal, 5 MLIST, 7 the fence group, 10 a release, 11 GRPW of a group -/
  step : Nat
  tag : Nat
  gnum : Nat
  members : List SliceMem
  group : List (Nat × Nat)
  /-- wicks that have still to answer, once for each command -/
  wait : List Nat
  /-- the code that ends the request once the present step is done -/
  fail : Option Nat
  deriving DecidableEq, Repr

/-- R402: a third-party endpoint that has its number. -/
structure TpRec where
  link : Nat
  serial : Nat
  col : Nat
  deriving DecidableEq, Repr

/-- Everything that the active kiln mirrors to its standby (R380, R383). -/
structure RoleSt where
  lit : Tbl LitWick
  /-- R385: the first trigger that waits, losses of a link within the last second, and links kept out of service, with the time -/
  trig : Option W64
  losses : Tbl (List W64)
  out : Tbl W64
  /-- R377: links that the walk excludes -/
  barred : List Nat
  change : Option ChangeSt
  epoch : Nat
  /-- a first epoch has been installed (R389) -/
  installed : Bool
  /-- routing banks as the role has written them, by (package × 4 + wheel) × 2 + bank -/
  banks : Tbl (Tbl Nat)
  slices : Tbl SliceRec
  groups : Tbl GroupRec
  req : Option ReqSt
  tps : Tbl TpRec
  lost : List Nat
  /-- number of the last REPORT taken from a wick -/
  reps : Tbl Nat
  deriving DecidableEq, Repr

/-- R380: a MIRROR that has not been acknowledged, with what its acknowledgement releases. -/
structure MirrorOut where
  num : Nat
  sent : Bool
  cmd : Option (Nat × Nat)
  /-- RACK to a wick, with its report number -/
  rack : Option (Nat × Nat)
  /-- the end of a request that entered at the standby -/
  done : Option (Nat × List Nat)
  deriving DecidableEq, Repr

/-- What a MIRROR brings. -/
inductive MirrorIn where
  /-- to the standby: the role's state, a command to be sent (wick and FMSEQ), and the return code and result bytes of a request that
  entered there -/
  | state (st : RoleSt) (cmd : Option (Nat × Nat)) (done : Option (Nat × List Nat))
  /-- to the active kiln: a request with the entries of its list, none when the list could not be read -/
  | request (r : KilnReq) (entries : Option (List Nat))
  deriving DecidableEq, Repr

/-- What REPORT does: a wick of this module sends its oldest report that waits, or the active kiln takes one. -/
inductive ReportEv where
  | send (num : Nat)
  | take (pkg ep num kind wheel link : Nat)
  deriving DecidableEq, Repr
/-- For what a kiln has asked its witness for a term. -/
inductive Ask where
  | pair | solo | failover | swap
  deriving DecidableEq, Repr

/-! ### Wicks -/

/-- R31, R32, R371, R398, R400: a wick of this module. -/
structure Wick where
  lit : Bool
  term : Nat
  act : Nat
  stby : Option Nat
  /-- pilot period in µs -/
  period : Nat
  /-- the next FMSEQ, and the last eight answers with their FMSEQ, newest first -/
  expect : Nat
  cache : List (Nat × List Nat)
  pilots : Nat
  lastPilot : W64
  /-- a command whose answer waits (R521): FMSEQ, TERM, OP -/
  busy : Option (Nat × Nat × Nat)
  deriving DecidableEq, Repr

/-! ### The kiln -/

structure KilnSt where
  /-- R365: the last valid frame, the chain and position in the frames it sends, and when it last sent one -/
  enumLast : Option Nat
  enumOut : Option (Nat × Nat)
  enumSent : Option W64
  hello : Tbl HelloSt
  /-- LINK cells sent on a link, and when the last one was -/
  helloSent : Tbl (Nat × W64)
  joins : Tbl JoinSt
  lsr : Tbl LsrPart
  lsrSeq : Nat
  /-- R376: the last change of content, and the last refresh -/
  changed : W64
  flooded : W64
  /-- R378, R381, R382, R384: the request to the witness that is open, when it was first and last sent -/
  ask : Option (Ask × W64 × W64)
  /-- R379: the term it last held; the witness's stored term in MRAM, and whether it has granted since module reset -/
  held : Nat
  witTerm : Nat
  witGranted : Bool
  /-- R381: last beat received and sent -/
  beatIn : W64
  beatOut : W64
  /-- R381, R384: it has stopped issuing commands -/
  stopped : Bool
  /-- R384: last offer, and last try of a deferred one -/
  swapAt : W64
  deferAt : W64
  /-- R380: number of the last MIRROR, those not acknowledged, and the number of the last one taken -/
  mirrorNo : Nat
  mirrors : List MirrorOut
  taken : Nat
  role : RoleSt
  wicks : Tbl Wick
  /-- R393: member lists by slice: 32-bit members by index -/
  mlist : Tbl (Tbl Nat)
  /-- R392: channel of a request that this standby has passed on -/
  passed : Option Nat
  /-- R546: fault records that have been passed to host software, by tag and time, and the tags of the message that is not answered -/
  faultSeen : List (Nat × W64)
  faultMsg : List Nat
  deriving DecidableEq, Repr

def litReset : LitWick := { lit := false, kind := 0, serial := 0, fw := 0, next := 0, out := [], todo := [], heard := 0 }
def roleReset : RoleSt :=
  { lit := [], trig := none, losses := [], out := [], barred := [], change := none, epoch := 0, installed := false, banks := [], slices := [],
    groups := [], req := none, tps := [], lost := [], reps := [] }
def wickReset : Wick :=
  { lit := false, term := 0, act := 0, stby := none, period := 0, expect := 0, cache := [], pilots := 0, lastPilot := 0, busy := none }
def kilnReset : KilnSt :=
  { enumLast := none, enumOut := none, enumSent := none, hello := [], helloSent := [], joins := [], lsr := [], lsrSeq := 0, changed := 0, flooded := 0,
    ask := none, held := 0, witTerm := 0, witGranted := false, beatIn := 0, beatOut := 0, stopped := false, swapAt := 0, deferAt := 0,
    mirrorNo := 0, mirrors := [], taken := 0, role := roleReset, wicks := [], mlist := [], passed := none, faultSeen := [],
    faultMsg := [] }

end Sys2Proof.Machine
end

