-- ==== Sys2Proof/Machine/Store.lean ====
section
/-! DEFINITION. Machine/Store.lean: sparse tables and byte memories in one canonical form, with their reads and writes. -/

namespace Sys2Proof.Machine

/-- The entry listed under key `k`, if any. -/
def tblFind {α : Type} : Tbl α → Nat → Option α
  | [], _ => none
  | (a, v) :: t, k => if a = k then some v else tblFind t k

/-- What key `k` reads as: its entry, or the default of that key. -/
def tblGet {α : Type} (d : Nat → α) (t : Tbl α) (k : Nat) : α := (tblFind t k).getD (d k)

/-- Lists `v` under `k`, in place. -/
def tblPut {α : Type} : Tbl α → Nat → α → Tbl α
  | [], k, v => [(k, v)]
  | (a, w) :: t, k, v =>
    if a = k then (k, v) :: t else if k < a then (k, v) :: (a, w) :: t else (a, w) :: tblPut t k v

/-- Unlists `k`. -/
def tblErase {α : Type} : Tbl α → Nat → Tbl α
  | [], _ => []
  | (a, w) :: t, k => if a = k then tblErase t k else (a, w) :: tblErase t k

/-- Writes `v` under `k`; writing the default of `k` unlists it. -/
def tblSet {α : Type} [DecidableEq α] (d : Nat → α) (t : Tbl α) (k : Nat) (v : α) : Tbl α :=
  if v = d k then tblErase t k else tblPut t k v

/-- Every key of the table is at least `lo`, keys rise, and no entry is a default. -/
def tblWfFrom {α : Type} [DecidableEq α] (d : Nat → α) : Nat → Tbl α → Bool
  | _, [] => true
  | lo, (a, v) :: t => decide (lo ≤ a) && decide (v ≠ d a) && tblWfFrom d (a + 1) t

/-- The canonical form of a table. -/
def tblWf {α : Type} [DecidableEq α] (d : Nat → α) (t : Tbl α) : Bool := tblWfFrom d 0 t

/-- A finite map without a default: an absent key is `none`. The canonical form is that keys rise. -/
def mapWfFrom {α : Type} : Nat → Tbl α → Bool
  | _, [] => true
  | lo, (a, _) :: t => decide (lo ≤ a) && mapWfFrom (a + 1) t

/-- The canonical form of a map. -/
def mapWf {α : Type} (t : Tbl α) : Bool := mapWfFrom 0 t

/-- Applies `f` to the entry under `k`, if it is listed. -/
def mapModify {α : Type} (t : Tbl α) (k : Nat) (f : α → α) : Tbl α :=
  match tblFind t k with
  | some v => tblPut t k (f v)
  | none => t

/-- Applies `f` to what key `k` reads as and writes the result back. -/
def tblModify {α : Type} [DecidableEq α] (d : Nat → α) (t : Tbl α) (k : Nat) (f : α → α) : Tbl α :=
  tblSet d t k (f (tblGet d t k))

/-- Applies `f` to every entry. -/
def tblMap {α : Type} (f : α → α) (t : Tbl α) : Tbl α := t.map fun p => (p.1, f p.2)

/-- A byte memory: cells in canonical form; a byte nothing has written reads 0. -/
abbrev Memory := List Host.Cell

/-- What an unlisted byte reads as (R210 for scratchpad and cluster memory; DESIGN CHOICE for host memory). -/
def memFill (_ : Nat) : Byte := 0

/-- One byte of a memory. -/
def memRead (m : Memory) (a : Nat) : Byte := tblGet memFill m a

/-- Writes one byte. -/
def memWrite (m : Memory) (a : Nat) (b : Byte) : Memory := tblSet memFill m a b

/-- The canonical form of a memory. -/
def Memory.wf (m : Memory) : Bool := tblWf memFill m

/-- `n` bytes from `a` up. -/
def memReadN (m : Memory) (a : Nat) : Nat → List Byte
  | 0 => []
  | n + 1 => memRead m a :: memReadN m (a + 1) n

/-- Writes the bytes in ascending address order from `a`. -/
def memWriteN (m : Memory) (a : Nat) : List Byte → Memory
  | [] => m
  | b :: bs => memWriteN (memWrite m a b) (a + 1) bs

/-- A byte to be written with the mask of the bits that are written. -/
abbrev MByte := Byte × Byte
/-- A byte written whole, and one left unchanged. -/
def mOn (b : Byte) : MByte := (0xFF#8, b)
def mOff : MByte := (0#8, 0#8)
/-- R601, R146: the bits that a write does not enable keep their value. -/
def mMerge (old : Byte) (x : MByte) : Byte := (old &&& ~~~ x.1) ||| (x.2 &&& x.1)

/-- Writes masked bytes from `a` up; a byte with an empty mask is not touched. -/
def memWriteEn (m : Memory) (a : Nat) : List MByte → Memory
  | [] => m
  | x :: xs => memWriteEn (if x.1 = 0#8 then m else memWrite m a (mMerge (memRead m a) x)) (a + 1) xs

/-- Little-endian value of a list of bytes. -/
def leNat : List Byte → Nat
  | [] => 0
  | b :: bs => b.toNat + 256 * leNat bs

/-- `n` bytes of a number, least significant first. -/
def leBytes (n v : Nat) : List Byte :=
  match n with
  | 0 => []
  | k + 1 => BitVec.ofNat 8 v :: leBytes k (v / 256)

/-- Bits [hi:lo] of a number. -/
def bits (v hi lo : Nat) : Nat := (v >>> lo) % 2 ^ (hi + 1 - lo)

/-- Bit `i` of a number as a Bool. -/
def bitAt (v i : Nat) : Bool := v.testBit i

/-- `v` with bits [hi:lo] replaced by `x`. -/
def setBits (v hi lo x : Nat) : Nat :=
  let w := hi + 1 - lo
  v - ((v >>> lo) % 2 ^ w) <<< lo + (x % 2 ^ w) <<< lo

/-- The signed value of a `w`-bit number. -/
def signed (w v : Nat) : Int := if v % 2 ^ w < 2 ^ (w - 1) then (v % 2 ^ w : Nat) else (v % 2 ^ w : Nat) - (2 ^ w : Nat)

/-- A 1 for true. -/
def b2n (b : Bool) : Nat := if b then 1 else 0

/-- Number of binary digits, by halving at most `fuel` times. -/
def bitLenAux : Nat → Nat → Nat
  | 0, _ => 0
  | fuel + 1, v => if v = 0 then 0 else 1 + bitLenAux fuel (v / 2)

/-- Number of binary digits of `v` when it has at most `8 * 2 ^ k` of them: halves the window. -/
def bitLenBy : Nat → Nat → Nat
  | 0, v => bitLenAux 9 v
  | k + 1, v => let h := 8 * 2 ^ k
    if v >>> h = 0 then bitLenBy k v else h + bitLenBy k (v >>> h)

/-- Number of binary digits of `v` (values below `2 ^ 8192`). -/
def bitLen (v : Nat) : Nat := bitLenBy 10 v

/-- Number of trailing zero bits of a `w`-bit value; `w` when it is 0. -/
def ctz : Nat → Nat → Nat
  | 0, _ => 0
  | w + 1, v => if v % 2 = 1 then 0 else 1 + ctz w (v / 2)

/-- Number of ones in the low `w` bits. -/
def popcount : Nat → Nat → Nat
  | 0, _ => 0
  | w + 1, v => v % 2 + popcount w (v / 2)

/-- Replaces the element at position `i`. -/
def listSet {α : Type} (l : List α) (i : Nat) (x : α) : List α := l.set i x

/-- The element at position `i`, or `d`. -/
def listGet {α : Type} (l : List α) (i : Nat) (d : α) : α := l.getD i d

/-- Adds `x` at the end, unless it is already in the list. -/
def addOnce {α : Type} [DecidableEq α] (l : List α) (x : α) : List α := if x ∈ l then l else l ++ [x]

end Sys2Proof.Machine
end

