-- ==== Sys2Proof/Machine/Formats.lean ====
section
/-! DEFINITION. Machine/Formats.lean: storage formats, rounding, and the counter-based generator
(spec/03_numbers_and_exact_sums.md R59 to R62, R79 to R85; format codes of R140). -/

namespace Sys2Proof.Machine

/-- An exact value: a NaN, an infinity, a signed zero, or the non-zero finite value `m * 2 ^ e`. -/
inductive Val where
  | nan
  | inf (neg : Bool)
  | zero (neg : Bool)
  | fin (m : Int) (e : Int)
  deriving DecidableEq, Repr

/-- `m * 2 ^ e`, a zero being positive. -/
def mkFin (m e : Int) : Val := if m = 0 then .zero false else .fin m e

/-- Multiplies by `2 ^ k`. -/
def Val.scale (v : Val) (k : Int) : Val :=
  match v with
  | .fin m e => .fin m (e + k)
  | v => v

/-- Negates. -/
def Val.neg (v : Val) : Val :=
  match v with
  | .nan => .nan
  | .inf s => .inf (!s)
  | .zero s => .zero (!s)
  | .fin m e => .fin (-m) e

/-- The sign of a value that has one. -/
def Val.isNeg (v : Val) : Bool :=
  match v with
  | .nan => false
  | .inf s => s
  | .zero s => s
  | .fin m _ => decide (m < 0)

/-- Weight exponent of the highest set bit of a non-zero `m * 2 ^ e`. -/
def msbOf (m e : Int) : Int := (bitLen m.natAbs : Int) - 1 + e

/-- The two families of encodings (R59, R61). -/
inductive FmtKind where
  | flt (ebits mbits : Nat) (bias : Int)
  | int (w : Nat) (lsb : Int)
  deriving DecidableEq, Repr

/-- How a format treats infinities on output (the columns of Table 7 of spec/03). -/
inductive OutCol where
  | ieee
  | satNan
  | satZero
  | intSat
  deriving DecidableEq, Repr

/-- Format codes of Table 3 of spec/05 (R140). -/
inductive Fmt where
  | fp32 | bf16 | fp16 | e5m2 | e4m3 | int8 | mxE5m2 | mxE4m3 | mxE3m2 | mxE2m3 | mxE2m1 | mxInt8 | int32
  deriving DecidableEq, Repr

/-- R140: the format of a 4-bit code; codes 0xD to 0xF are reserved. -/
def fmtOfCode (c : Nat) : Option Fmt :=
  match c with
  | 0 => some .fp32 | 1 => some .bf16 | 2 => some .fp16 | 3 => some .e5m2 | 4 => some .e4m3
  | 5 => some .int8 | 6 => some .mxE5m2 | 7 => some .mxE4m3 | 8 => some .mxE3m2 | 9 => some .mxE2m3
  | 10 => some .mxE2m1 | 11 => some .mxInt8 | 12 => some .int32 | _ => none

/-- Width in bits (Table 3 of spec/05). -/
def fmtWidth (f : Fmt) : Nat :=
  match f with
  | .fp32 | .int32 => 32
  | .bf16 | .fp16 => 16
  | .e5m2 | .e4m3 | .int8 | .mxE5m2 | .mxE4m3 | .mxInt8 => 8
  | .mxE3m2 | .mxE2m3 => 6
  | .mxE2m1 => 4

/-- R59 Table 1 and R61. -/
def fmtKind (f : Fmt) : FmtKind :=
  match f with
  | .fp32 => .flt 8 23 127
  | .bf16 => .flt 8 7 127
  | .fp16 => .flt 5 10 15
  | .e5m2 | .mxE5m2 => .flt 5 2 15
  | .e4m3 | .mxE4m3 => .flt 4 3 7
  | .mxE3m2 => .flt 3 2 3
  | .mxE2m3 => .flt 2 3 1
  | .mxE2m1 => .flt 2 1 1
  | .int8 => .int 8 0
  | .int32 => .int 32 0
  | .mxInt8 => .int 8 (-6)

/-- Table 7 of spec/03: the column of each format. -/
def fmtCol (f : Fmt) : OutCol :=
  match f with
  | .fp32 | .bf16 | .fp16 | .e5m2 => .ieee
  | .e4m3 | .mxE4m3 | .mxE5m2 => .satNan
  | .mxE3m2 | .mxE2m3 | .mxE2m1 | .mxInt8 => .satZero
  | .int8 | .int32 => .intSat

/-- Is the format an MX element format (codes 0x6 to 0xB)? -/
def fmtIsMx (f : Fmt) : Bool :=
  match f with
  | .mxE5m2 | .mxE4m3 | .mxE3m2 | .mxE2m3 | .mxE2m1 | .mxInt8 => true
  | _ => false

/-- R63: the plain FP8 formats carry a tile scale. -/
def fmtIsPlain8 (f : Fmt) : Bool :=
  match f with
  | .e5m2 | .e4m3 => true
  | _ => false

/-- Canonical NaN encodings of Table 2 of spec/03. -/
def fmtNan (f : Fmt) : Nat :=
  match f with
  | .fp32 => 0x7FC00000
  | .bf16 => 0x7FC0
  | .fp16 => 0x7E00
  | .e5m2 | .mxE5m2 => 0x7E
  | .e4m3 | .mxE4m3 => 0x7F
  | _ => 0

/-- Does an all-ones exponent stand for an infinity and NaNs (R59 Table 1)? -/
def fmtHasInf (f : Fmt) : Bool :=
  match f with
  | .fp32 | .bf16 | .fp16 | .e5m2 | .mxE5m2 => true
  | _ => false

/-- R59, R61: the exact value of an encoding. -/
def decodeFmt (f : Fmt) (x : Nat) : Val :=
  match fmtKind f with
  | .int w lsb => mkFin (signed w x) lsb
  | .flt eb mb bias =>
    let s := bitAt x (eb + mb)
    let e := bits x (eb + mb - 1) mb
    let m := bits x (mb - 1) 0
    let sg : Int := if s then -1 else 1
    if fmtHasInf f && e == 2 ^ eb - 1 then (if m = 0 then .inf s else .nan)
    else if (f == .e4m3 || f == .mxE4m3) && e == 15 && m == 7 then .nan
    else if e = 0 then (if m = 0 then .zero s else .fin (sg * m) (1 - bias - mb))
    else .fin (sg * (2 ^ mb + m : Nat)) (e - bias - mb)

/-- Rounding modes of Table 6 of spec/03 (R79). -/
inductive RMode where
  | rne | rz | ru | rd | sr
  deriving DecidableEq, Repr

/-- Codes 0b101 to 0b111 are reserved (R79). -/
def rmodeOf (c : Nat) : Option RMode :=
  match c with
  | 0 => some .rne | 1 => some .rz | 2 => some .ru | 3 => some .rd | 4 => some .sr | _ => none

/-- R80: `|x| / q` rounded to an integer, where `|x| = a * 2 ^ e` and `q = 2 ^ qe`. -/
def roundQuanta (a : Nat) (e qe : Int) (mode : RMode) (neg : Bool) (r : Nat) : Nat :=
  if qe ≤ e then a <<< (e - qe).toNat
  else
    let sh := (qe - e).toNat
    let z := a >>> sh
    let d := a % 2 ^ sh
    let up := match mode with
      | .rne => decide (2 * d > 2 ^ sh) || (decide (2 * d = 2 ^ sh) && z % 2 == 1)
      | .rz => false
      | .ru => decide (d > 0) && !neg
      | .rd => decide (d > 0) && neg
      | .sr => decide (d > 0) && decide (r < (d <<< 32) >>> sh)
    if up then z + 1 else z

/-- emin of Table 2 of spec/03, and p - 1. -/
def fltEmin (bias : Int) : Int := 1 - bias

/-- The encoding of the largest finite value, without sign (Table 1, Table 2 of spec/03). -/
def fmtMaxEnc (f : Fmt) : Nat :=
  match f with
  | .fp32 => 0x7F7FFFFF
  | .bf16 => 0x7F7F
  | .fp16 => 0x7BFF
  | .e5m2 | .mxE5m2 => 0x7B
  | .e4m3 | .mxE4m3 => 0x7E
  | .mxE3m2 => 0x1F
  | .mxE2m3 => 0x1F
  | .mxE2m1 => 0x7
  | .int8 | .mxInt8 => 127
  | .int32 => 2147483647

/-- An encoding with its sign bit. -/
def withSign (f : Fmt) (s : Bool) (x : Nat) : Nat := if s then x + 2 ^ (fmtWidth f - 1) else x

/-- Encoding of `+Inf` without sign, for the formats that have it. -/
def fmtInfEnc (f : Fmt) : Nat :=
  match fmtKind f with
  | .flt eb mb _ => (2 ^ eb - 1) * 2 ^ mb
  | .int _ _ => 0

/-- The saturated output of an integer or saturating format (R61, R81). -/
def satOut (f : Fmt) (s : Bool) : Nat :=
  match f with
  | .int8 => if s then 0x80 else 0x7F
  | .int32 => if s then 0x80000000 else 0x7FFFFFFF
  | .mxInt8 => if s then 0x81 else 0x7F
  | f => withSign f s (fmtMaxEnc f)

/-- Table 7 of spec/03, the overflow rows. -/
def overOut (f : Fmt) (mode : RMode) (s : Bool) : Nat :=
  match fmtCol f with
  | .ieee =>
    let inf := match mode with
      | .rne | .sr => true
      | .rz => false
      | .ru => !s
      | .rd => s
    if inf then withSign f s (fmtInfEnc f) else withSign f s (fmtMaxEnc f)
  | _ => satOut f s

/-- R80, R81 and Table 7: the encoding of an exact value and whether NV is set. `r` is the draw y0. -/
def roundOut (f : Fmt) (mode : RMode) (r : Nat) (x : Val) : Nat × Bool :=
  match x with
  | .nan =>
    match fmtCol f with
    | .ieee | .satNan => (fmtNan f, false)
    | .satZero | .intSat => (0, true)
  | .inf s =>
    match fmtCol f with
    | .ieee => (withSign f s (fmtInfEnc f), false)
    | _ => (satOut f s, true)
  | .zero _ => (0, false)
  | .fin m e =>
    let s := decide (m < 0)
    let a := m.natAbs
    match fmtKind f with
    | .int w lsb =>
      let n := roundQuanta a e lsb mode s r
      if n > fmtMaxEnc f then (satOut f s, false)
      else (if s then (2 ^ w - n) % 2 ^ w else n, false)
    | .flt _ mb bias =>
      let be := max (msbOf m e) (fltEmin bias)
      let qe := be - mb
      let n := roundQuanta a e qe mode s r
      -- the exponent field is implied: `n` quanta of the binade `be`, a carry moving to the next one
      let enc := n + ((be - fltEmin bias).toNat <<< mb)
      if enc > fmtMaxEnc f then (overOut f mode s, false) else (withSign f s enc, false)

/-- R80 with the output scale exponent `k`. -/
def roundOutK (f : Fmt) (mode : RMode) (r : Nat) (k : Int) (x : Val) : Nat × Bool :=
  roundOut f mode r (x.scale k)

/-- R84: rotation of a 32-bit value. -/
def rotl32 (v : W32) (n : Nat) : W32 := v.rotateLeft n

/-- R84: one round with its four rotation amounts. -/
def genRound (k0 k1 : W32) (i : Nat) (r0 r1 r2 r3 : Nat) (st : W32 × W32 × W32 × W32) : W32 × W32 × W32 × W32 :=
  let (a, b, x, d) := st
  let a := a + b + (k0 + BitVec.ofNat 32 i * 0x9E3779B9#32)
  let d := rotl32 (d ^^^ a) r0
  let x := x + d + (k1 ^^^ (BitVec.ofNat 32 i * 0x7F4A7C15#32))
  let b := rotl32 (b ^^^ x) r1
  let a := a + b
  let d := rotl32 (d ^^^ a) r2
  let x := x + d
  let b := rotl32 (b ^^^ x) r3
  (a, b, x, d)

/-- R84: the generator. -/
def gen (k0 k1 : W32) (s : W64) (c e : W32) : W32 × W32 × W32 × W32 :=
  let st := (s.extractLsb' 0 32, s.extractLsb' 32 32, c, e)
  let st := genRound k0 k1 0 15 11 9 6 st
  let st := genRound k0 k1 1 13 17 7 24 st
  let st := genRound k0 k1 2 10 19 12 5 st
  let (a, b, x, d) := genRound k0 k1 3 21 8 14 3 st
  (a ^^^ k1, b + k0, x ^^^ k0, d + k1)

/-- R85: the generator's inputs of one operation, without the element index. -/
structure GenKey where
  seed : W64
  count : W64
  unit : Nat
  deriving DecidableEq, Repr

/-- R85: word `y` (0 to 3) for element `e`. -/
def draw (g : GenKey) (y e : Nat) : W32 :=
  let (y0, y1, y2, y3) := gen (g.seed.extractLsb' 0 32) (g.seed.extractLsb' 32 32) g.count (BitVec.ofNat 32 g.unit) (BitVec.ofNat 32 e)
  match y with
  | 0 => y0 | 1 => y1 | 2 => y2 | _ => y3

/-- The draw y0 used to round element `e` under SR; 0 in the other modes, which do not use it. -/
def srDraw (mode : RMode) (g : GenKey) (e : Nat) : Nat := if mode = .sr then (draw g 0 e).toNat else 0

/-- Binary32 value of a lane. -/
def f32 (x : W32) : Val := decodeFmt .fp32 x.toNat

/-- Binary32 encoding of a value that is exactly representable. -/
def toF32Exact (x : Val) : W32 :=
  match x with
  | .zero true => 0x80000000#32
  | x => BitVec.ofNat 32 (roundOut .fp32 .rne 0 x).1

/-- The INT32 value of a lane. -/
def i32 (x : W32) : Int := x.toInt

/-- R146: an element of format `f`, as VLD puts it in a lane. -/
def lanedValue (f : Fmt) (x : Nat) : W32 :=
  match f with
  | .int8 => BitVec.ofInt 32 (signed 8 x)
  | .int32 => BitVec.ofNat 32 x
  | f => toF32Exact (decodeFmt f x)

/-- R87: the sign of an exact zero sum of two terms of signs `sa`, `sb`, each zero or cancelling. -/
def zeroSum (mode : RMode) (sa sb : Bool) : Bool := if sa = sb then sa else decide (mode = .rd)

/-- R87: exact sum of two values; an exact zero takes its sign by `zeroSum`. -/
def addVal (mode : RMode) (a b : Val) : Val :=
  match a, b with
  | .nan, _ => .nan
  | _, .nan => .nan
  | .inf s, .inf t => if s = t then .inf s else .nan
  | .inf s, _ => .inf s
  | _, .inf t => .inf t
  | .zero s, .zero t => .zero (zeroSum mode s t)
  | .zero _, y => y
  | x, .zero _ => x
  | .fin m e, .fin n f =>
    let lo := min e f
    let v := m * 2 ^ (e - lo).toNat + n * 2 ^ (f - lo).toNat
    if v = 0 then .zero (zeroSum mode (decide (m < 0)) (decide (n < 0))) else .fin v lo

/-- R87: exact product. -/
def mulVal (a b : Val) : Val :=
  match a, b with
  | .nan, _ => .nan
  | _, .nan => .nan
  | .inf _, .zero _ => .nan
  | .zero _, .inf _ => .nan
  | .inf s, y => .inf (s != y.isNeg)
  | x, .inf t => .inf (x.isNeg != t)
  | .zero s, y => .zero (s != y.isNeg)
  | x, .zero t => .zero (x.isNeg != t)
  | .fin m e, .fin n f => .fin (m * n) (e + f)

/-- Rounds a vector result to binary32; a zero keeps the sign that R87 gave it. -/
def roundLane (mode : RMode) (r : Nat) (x : Val) : W32 :=
  match x with
  | .zero s => if s then 0x80000000#32 else 0#32
  | x => BitVec.ofNat 32 (roundOut .fp32 mode r x).1

end Sys2Proof.Machine
end

