-- ==== Sys2Proof/Machine/Exact.lean ====
section
/-! DEFINITION. Machine/Exact.lean: long registers, compressed exact sums and window accumulators
(spec/03_numbers_and_exact_sums.md R64 to R78, R82). -/

namespace Sys2Proof.Machine

/-- R64: a long register; its finite part is `v.toInt * 2 ^ (-300)`. -/
structure LongReg where
  v : BitVec 640
  pinf : Bool
  ninf : Bool
  nan : Bool
  deriving DecidableEq, Repr

/-- The long register that holds 0. -/
def lrZero : LongReg := { v := 0#640, pinf := false, ninf := false, nan := false }

/-- R77: what a malformed CXS decodes to. -/
def lrNaN : LongReg := { v := 0#640, pinf := false, ninf := false, nan := true }

/-- R65: finite parts add modulo 2^640, flags are ORed. -/
def lrAdd (a b : LongReg) : LongReg :=
  { v := a.v + b.v, pinf := a.pinf || b.pinf, ninf := a.ninf || b.ninf, nan := a.nan || b.nan }

/-- R155 LNNEG. -/
def lrNeg (a : LongReg) : LongReg := { v := -a.v, pinf := a.ninf, ninf := a.pinf, nan := a.nan }

/-- R66: the finite product or value `m * 2 ^ e` as a long register. Bits below 2^-300 do not occur (R66). -/
def lrOfFin (m e : Int) : LongReg :=
  let sh := e + 300
  { lrZero with v := BitVec.ofInt 640 (if 0 ≤ sh then m * 2 ^ sh.toNat else m / 2 ^ (-sh).toNat) }

/-- Enters a value: a NaN sets NAN, an infinity PINF or NINF (R155 LNLANE). -/
def lrOfVal (x : Val) : LongReg :=
  match x with
  | .nan => lrNaN
  | .inf s => { lrZero with pinf := !s, ninf := s }
  | .zero _ => lrZero
  | .fin m e => lrOfFin m e

/-- R70: the value of an exact sum. -/
def lrVal (a : LongReg) : Val :=
  if a.nan || (a.pinf && a.ninf) then .nan
  else if a.pinf then .inf false
  else if a.ninf then .inf true
  else mkFin a.v.toInt (-300)

/-- Does a long register carry a class flag (R117)? -/
def lrFlagged (a : LongReg) : Bool := a.pinf || a.ninf || a.nan

/-! ### Compressed exact sums -/

/-- One CXS cell (R75): 512 bits, memory byte i being bits [8i+7:8i]. -/
abbrev Cxs := BitVec 512

/-- The ten limbs of a magnitude, most significant first, with their indices. -/
def limbsOf (mag : Nat) : List (Nat × Nat) :=
  [9, 8, 7, 6, 5, 4, 3, 2, 1, 0].map fun i => (i, (mag >>> (64 * i)) % 2 ^ 64)

/-- Slots filled from slot 0: slot j is bits [447-64j : 384-64j]. -/
def slotsOf (ls : List Nat) (j : Nat) : Nat :=
  match ls with
  | [] => 0
  | x :: xs => x <<< (384 - 64 * j) + slotsOf xs (j + 1)

/-- R75: a cell from its fields. -/
def cxsCell (mask : Nat) (cont tail : Bool) (a : LongReg) (neg : Bool) (ls : List Nat) : Cxs :=
  BitVec.ofNat 512 ((mask <<< 502) + (b2n cont <<< 501) + (b2n tail <<< 500) + (b2n a.nan <<< 499)
    + (b2n a.ninf <<< 498) + (b2n a.pinf <<< 497) + (b2n neg <<< 496) + slotsOf ls 0)

/-- R76: the canonical encoding: one cell, and a second one when eight or more limbs are present. -/
def cxsEncode (a : LongReg) : Cxs × Option Cxs :=
  let i := a.v.toInt
  let neg := decide (i < 0)
  let present := (limbsOf i.natAbs).filter fun p => p.2 != 0
  let mask := present.foldl (fun acc p => acc + 2 ^ p.1) 0
  let ls := present.map Prod.snd
  if ls.length ≤ 7 then (cxsCell mask false false a neg ls, none)
  else (cxsCell mask true false a neg (ls.take 7), some (cxsCell mask false true a neg (ls.drop 7)))

/-- Field `MASK` of a cell. -/
def cxsMask (c : Cxs) : Nat := bits c.toNat 511 502
def cxsCont (c : Cxs) : Bool := c.getLsbD 501
def cxsTail (c : Cxs) : Bool := c.getLsbD 500
def cxsNeg (c : Cxs) : Bool := c.getLsbD 496
/-- MASK, flags and NEG, which the two cells of a value share (R76). -/
def cxsHead (c : Cxs) : Nat := cxsMask c * 16 + bits c.toNat 499 496
/-- Slot j of a cell. -/
def cxsSlot (c : Cxs) (j : Nat) : Nat := (c.toNat >>> (384 - 64 * j)) % 2 ^ 64

/-- The indices of the present limbs, most significant first. -/
def maskLimbs (mask : Nat) : List Nat := [9, 8, 7, 6, 5, 4, 3, 2, 1, 0].filter fun i => bitAt mask i

/-- R77: the value of the limbs `idx` taken from the slots, or none when a present slot holds 0. -/
def slotSum (slots : List Nat) (idx : List Nat) : Option Nat :=
  match idx, slots with
  | [], _ => some 0
  | i :: is, x :: xs => if x = 0 then none else (slotSum xs is).map (· + x <<< (64 * i))
  | _ :: _, [] => none

/-- R77: decodes one or two cells; `none` when malformed. -/
def cxsDecode? (c : Cxs) (c2 : Option Cxs) : Option LongReg :=
  let idx := maskLimbs (cxsMask c)
  let s1 := [0, 1, 2, 3, 4, 5, 6].map (cxsSlot c)
  let ok1 := bits c.toNat 495 448 == 0 && !cxsTail c
  let body : Option Nat :=
    match c2 with
    | none =>
      if ok1 && !cxsCont c && decide (idx.length ≤ 7) && (s1.drop idx.length).all (· == 0)
      then slotSum s1 idx else none
    | some d =>
      let s2 := [0, 1, 2, 3, 4, 5, 6].map (cxsSlot d)
      if ok1 && cxsCont c && decide (8 ≤ idx.length) && bits d.toNat 495 448 == 0 && cxsTail d && !cxsCont d
          && cxsHead c == cxsHead d && (s2.drop (idx.length - 7)).all (· == 0)
      then slotSum (s1 ++ s2) idx else none
  match body with
  | none => none
  | some mag =>
    let neg := cxsNeg c
    if (neg && mag == 0) || (!neg && decide (2 ^ 639 ≤ mag)) || (neg && decide (2 ^ 639 < mag)) then none
    else some { v := BitVec.ofInt 640 (if neg then -(mag : Int) else mag), pinf := c.getLsbD 497, ninf := c.getLsbD 498, nan := c.getLsbD 499 }

/-- R77: the decode of a value and whether it was malformed. -/
def cxsDecode (c : Cxs) (c2 : Option Cxs) : LongReg × Bool :=
  match cxsDecode? c c2 with
  | some a => (a, false)
  | none => (lrNaN, true)

/-- R124: a wide word as its two 64-byte halves, decoded by R77. -/
def wideDecode (lo hi : BitVec 512) : LongReg × Bool :=
  if cxsCont lo then cxsDecode lo (some hi)
  else if hi = 0#512 then cxsDecode lo none else (lrNaN, true)

/-- R124: the two halves of a wide word. -/
def wideEncode (a : LongReg) : BitVec 512 × BitVec 512 :=
  let (c, d) := cxsEncode a
  (c, d.getD 0#512)

/-- R126: an exact-add into a narrow word: the new cell and whether a malformed-CXS event is recorded. -/
def narrowAdd (word : BitVec 512) (x : LongReg) : BitVec 512 × Bool :=
  let (a, bad) := cxsDecode word none
  match cxsEncode (lrAdd a x) with
  | (c, none) => (c, bad)
  | (_, some _) => ((cxsEncode lrNaN).1, true)

/-- R127: an exact-add into a wide word. -/
def wideAdd (lo hi : BitVec 512) (x : LongReg) : (BitVec 512 × BitVec 512) × Bool :=
  let (a, bad) := wideDecode lo hi
  (wideEncode (lrAdd a x), bad)

/-- The 64 bytes of a word, byte 0 first. -/
def wordBytes (w : BitVec 512) : List Byte := leBytes 64 w.toNat

/-- A 64-byte word from its bytes. -/
def wordOfBytes (bs : List Byte) : BitVec 512 := BitVec.ofNat 512 (leNat bs)

/-! ### Windows -/

/-- R71: a window accumulator; `anchor` is `none` while no anchor is valid. -/
structure Window where
  w : BitVec 128
  anchor : Option Int
  pinf : Bool
  ninf : Bool
  nan : Bool
  deriving DecidableEq, Repr

/-- R71: an empty window. -/
def winEmpty : Window := { w := 0#128, anchor := none, pinf := false, ninf := false, nan := false }

/-- R71: the anchor that a first product sets, clamped. -/
def anchorOf (m e : Int) : Int := max (-300) (min 212 (msbOf m e - 64))

/-- Weight exponent of the lowest set bit of a non-zero product. -/
def lsbOf (m e : Int) : Int := (ctz 640 m.natAbs : Int) + e

/-- R69, R71, R72: one product reaches a window. Answers the window and the spilled product, if it spills.
`fixed` is the anchor of fixed anchor mode. -/
def winProduct (fixed : Option Int) (p : Val) (w : Window) : Window × Option (Int × Int) :=
  match p with
  | .nan => ({ w with nan := true }, none)
  | .inf s => ({ w with pinf := w.pinf || !s, ninf := w.ninf || s }, none)
  | .zero _ => (w, none)
  | .fin m e =>
    let a := w.anchor.getD (fixed.getD (anchorOf m e))
    let w := { w with anchor := some a }
    if a ≤ lsbOf m e && msbOf m e ≤ a + 112 then
      ({ w with w := w.w + BitVec.ofInt 128 (if 0 ≤ e - a then m * 2 ^ (e - a).toNat else m / 2 ^ (a - e).toNat) }, none)
    else (w, some (m, e))

/-- R73: the settle check after the adds of a step. -/
def winSettle (w : Window) : Window × Option (Int × Int) :=
  let top := bits w.w.toNat 127 111
  if top = 0 || top = 2 ^ 17 - 1 then (w, none)
  else ({ w with w := 0#128 }, some (w.w.toInt, w.anchor.getD 0))

/-- R74: the exact value of a window. -/
def winVal (w : Window) : LongReg :=
  { lrOfFin w.w.toInt (w.anchor.getD 0) with pinf := w.pinf, ninf := w.ninf, nan := w.nan }

/-! ### MX blocks -/

/-- R62: the scale exponent of an E8M0 code, `none` for the NaN code. -/
def e8m0 (x : Nat) : Option Int := if x = 255 then none else some ((x : Int) - 127)

/-- An element with its scale (R62, R69): a NaN scale makes it a NaN. -/
def scaledVal (f : Fmt) (x : Nat) (scale : Nat) : Val :=
  match e8m0 scale with
  | none => .nan
  | some k => (decodeFmt f x).scale k

/-- floor(log2) of the larger of two magnitudes, as the pair it came from; zeros are `none`. -/
def maxMsb (acc : Option Int) (x : Val) : Option Int :=
  match x with
  | .fin m e => some (match acc with | none => msbOf m e | some a => max a (msbOf m e))
  | _ => acc

/-- emax of an MX element format (Table 2 of spec/03; 0 for MXINT8, R82). -/
def mxEmax (f : Fmt) : Int :=
  match f with
  | .mxE5m2 => 15 | .mxE4m3 => 8 | .mxE3m2 => 4 | .mxE2m3 => 2 | .mxE2m1 => 2 | _ => 0

/-- R82: one block of results after the output scale: the scale code, the element encodings, and NV. -/
def mxBlock (f : Fmt) (mode : RMode) (rs : List Nat) (xs : List Val) : Nat × List Nat × Bool :=
  if xs.any (fun x => match x with | .nan => true | .inf _ => true | _ => false) then (255, xs.map (fun _ => 0), true)
  else match xs.foldl maxMsb none with
    | none => (127, xs.map (fun _ => 0), false)
    | some a =>
      let x := max (-127) (min 127 (a - mxEmax f))
      let es := (xs.zip rs).map fun p => roundOut f mode p.2 (p.1.scale (-x))
      ((x + 127).toNat, es.map Prod.fst, es.any Prod.snd)

end Sys2Proof.Machine
end

