-- ==== Sys2Proof/Machine/CoreTypes.lean ====
section
/-! DEFINITION. Machine/CoreTypes.lean: the state of one core (spec/04 R91 Table 2, R131; spec/05 R137, R139, R170;
spec/02 R35, R44, R46; spec/13 R404, R408). Plain data. -/

namespace Sys2Proof.Machine

/-- R91: thread states. -/
inductive ThState where
  | run | halt | exc
  deriving DecidableEq, Repr

/-- One thread (R91 Table 2, R170 to R172, R83). -/
structure Thread where
  pc : W64
  st : ThState
  /-- s0 to s31, default 0 -/
  s : Tbl W64
  /-- t0 to t7, default 0 -/
  t : Tbl (BitVec 128)
  /-- v0 to v7, lane l in bits [32l+31:32l], default 0 -/
  v : Tbl (BitVec 2048)
  nv : Bool
  count : W64
  xovf : Bool
  xcause : Byte
  xpc : W64
  xinfo : W64
  /-- STEPW (R143): the step its next operation waits for -/
  waitStep : Option W64
  /-- R92: the issue step of the last branch -/
  branchAt : Option W64
  deriving DecidableEq, Repr

/-- A destination register and what is written into it. -/
inductive RegVal where
  | s (n : Nat) (v : W64)
  | v (n : Nat) (x : BitVec 2048)
  | t (n : Nat) (hi : Bool) (x : W64)
  | ln (n : Nat) (x : LongReg)
  deriving DecidableEq, Repr

/-- A register named by an operation (R135). -/
inductive RegName where
  | s (n : Nat)
  | v (n : Nat)
  | t (n : Nat)
  | ln (n : Nat)
  deriving DecidableEq, Repr

/-- R137: an ungated result on its way: written in step `due`. -/
structure RegWrite where
  due : W64
  thread : Nat
  val : RegVal
  deriving DecidableEq, Repr

/-- R144: a RESUME (with its PC) or STOP that takes effect at step `due`. -/
structure CtlPend where
  due : W64
  target : Nat
  resume : Option W64
  deriving DecidableEq, Repr

/-- R46 Table 4: access classes. -/
inductive AccClass where
  | ownCluster | sameDie | otherDie | dram | fabric | syncWait | dmaDone | timebase
  deriving DecidableEq, Repr

/-- How the words of a load become a register value (R146, R121, R159). -/
inductive LoadKind where
  /-- LD: byte offset in its word, bytes, sign extension -/
  | scalar (dst off width : Nat) (sext : Bool)
  /-- VLD: byte offset in the first word, format code -/
  | vector (dst off fmt : Nat)
  /-- LNLD -/
  | long (dst : Nat)
  /-- VGATH: per lane the address, `none` for a lane that is not selected; `old` keeps those lanes -/
  | gather (dst : Nat) (addrs : List (Option W64)) (old : BitVec 2048)
  deriving DecidableEq, Repr

/-- Where a core address leads (R175 to R178). -/
inductive Region where
  | spad (off : Nat)
  | cluster (die cl off : Nat)
  | tenant (va : Nat)
  | host (a : Nat)
  deriving DecidableEq, Repr

/-- What a thread-class request does at its grant (R97, R125, R160). -/
inductive SpadAct where
  | read
  | write (bytes : List MByte)
  | narrowAdd (x : LongReg)
  /-- XSCADD into a wide word, both halves in one step -/
  | wideAdd (x : LongReg)
  /-- XSCADD's read of its wide source; the add goes to `target` -/
  | wideRead (target : Region) (addr : W64)
  /-- the add of an XSCADD whose scratchpad source has not been read yet: it keeps its place in its banks (R96, R160) -/
  | wideWait
  deriving DecidableEq, Repr

/-- A word waiting in a bank's thread-class queue (R96). -/
structure SpadReq where
  thread : Nat
  issue : W64
  addr : Nat
  reach : W64
  act : SpadAct
  deriving DecidableEq, Repr

/-- An ungated load collecting its words (R97, R93). -/
structure SpadLoad where
  thread : Nat
  issue : W64
  kind : LoadKind
  need : List Nat
  got : Tbl (BitVec 512)
  deriving DecidableEq, Repr

/-- What a gated operation delivers (R44, R163, R170). -/
inductive GResult where
  /-- the words of a load, keyed by core address div 64, or by lane for a gather -/
  | words (w : Tbl (BitVec 512))
  /-- a scalar value or status word -/
  | value (v : W64)
  /-- nothing is written (FENCE writes 0 itself) -/
  | done
  /-- an exception ACCESS at delivery, with its XINFO -/
  | fail (xinfo : W64)
  deriving DecidableEq, Repr

/-- What kind of destination a gated operation has. -/
inductive GKind where
  | load (k : LoadKind)
  | scalar (dst : Nat)
  /-- FENCE: the issue steps of the posted operations it covers (R147) -/
  | fence (dst : Nat) (covers : List W64)
  deriving DecidableEq, Repr

/-- R44, R91: an outstanding gated request. -/
structure Gated where
  thread : Nat
  issue : W64
  due : W64
  pc : W64
  cls : AccClass
  kind : GKind
  /-- set by the unit that performs the request -/
  result : Option GResult
  /-- set when the result has reached the core (RESULT_ARRIVAL) -/
  arrived : Bool
  /-- the thread step count of the operation (R168), and what it received from outside the slice (R260): package, endpoint, bytes -/
  count : W64
  ext : Option (Nat × Nat × List Byte)
  deriving DecidableEq, Repr

/-- How a posted operation stands (R139, R147). -/
inductive PostStatus where
  | waiting
  | performed
  | failed (addr : W64)
  deriving DecidableEq, Repr

/-- R139: an entry of the posted queue, kept after it is performed until a FENCE has covered it. -/
structure Posted where
  thread : Nat
  issue : W64
  cls : AccClass
  addr : W64
  /-- SIGNAL: it takes effect after the thread's earlier posted operations (R164) -/
  signal : Bool
  status : PostStatus
  fenced : Bool
  deriving DecidableEq, Repr

/-- R98: an open window over a scratchpad range. -/
structure OpenWin where
  base : Nat
  size : Nat
  thread : Nat
  issue : W64
  deriving DecidableEq, Repr

/-- Bytes waiting for an external-class slot (R95, R98). -/
structure ExtReq where
  addr : Nat
  bytes : List MByte
  thread : Nat
  issue : W64
  deriving DecidableEq, Repr

/-- R148: a tile descriptor's fields. -/
structure TileDesc where
  base : Nat
  scale : Nat
  tscale : Nat
  fmt : Nat
  role : Nat
  k : Nat
  pitch : Nat
  deriving DecidableEq, Repr

/-- R151 Table 9: an operation in an engine queue. -/
inductive EngKind where
  | mma (a b : TileDesc) (fixed : Option Int)
  | wflush
  | rstore (addr saddr fmt : Nat) (mode : RMode) (k : Int) (keep : Bool) (key : GenKey)
  | xstore (addr : Nat) (keep : Bool)
  | spget (ln elem : Nat)
  | spadd (x : LongReg) (elem : Nat)
  | mclr
  deriving DecidableEq, Repr

/-- R105: an engine queue entry with its progress point (R131). -/
structure EngOp where
  thread : Nat
  issue : W64
  set : Nat
  kind : EngKind
  /-- the dispatch step -/
  disp : Option W64
  /-- array steps taken, or elements flushed -/
  done : Nat
  /-- MMA: its entry in the span log, for the operand CRC (R406) -/
  log : Option Nat
  deriving DecidableEq, Repr

/-- R106: a word in the operand buffer. -/
structure BufWord where
  issue : W64
  addr : Nat
  data : BitVec 512
  deriving DecidableEq, Repr

/-- R110: a spill on its way to a spill entry: the product or settled window `m * 2 ^ e`. -/
structure Spill where
  set : Nat
  elem : Nat
  m : Int
  e : Int
  deriving DecidableEq, Repr

/-- R112, R113: a finished result word waiting for a result-class slot from step `ready` on. -/
structure ResWord where
  issue : W64
  addr : Nat
  bytes : List MByte
  ready : W64
  /-- the scale codes of an MX store go after every element word (R153) -/
  last : Bool
  deriving DecidableEq, Repr

/-- R404: a span log entry. -/
inductive SpanEntry where
  | mma (a b : TileDesc) (fixed : Option Int) (order : List Nat) (crc : W32)
  | spadd (elem : Nat) (x : LongReg)
  deriving DecidableEq, Repr

/-- R107, R115, R404: an accumulator set. -/
structure AccSet where
  /-- 512 windows, default empty -/
  win : Tbl Window
  /-- 512 spill entries, default 0 -/
  spill : Tbl LongReg
  /-- checker column sums 0 to 31, default 0 -/
  col : Tbl LongReg
  /-- checker row sums 0 to 15, default 0 -/
  row : Tbl LongReg
  log : List SpanEntry
  logovf : Bool
  /-- R118: held after a failed check -/
  held : Bool
  /-- R153: an RSTORE or XSTORE may follow the last operation queued on the set -/
  storable : Bool
  /-- R153: a WFLUSH has been queued, and since then nothing but SPGET, SPADD and stores that keep the set -/
  flushed : Bool
  deriving DecidableEq, Repr

/-- A failed check: its syndrome (R116). -/
structure Syndrome where
  cmask : W32
  rmask : BitVec 16
  xc : Bool
  deriving DecidableEq, Repr

/-- R107, R105: one matrix engine. -/
structure Engine where
  queue : List EngOp
  set0 : AccSet
  set1 : AccSet
  buf : List BufWord
  /-- the feeder's slot of the present step has been used, and by which word (usable from the next step on) -/
  fetched : Bool
  fresh : Option BufWord
  spillQ : List Spill
  latch : List Spill
  /-- spill-port places used in the present step (R111) -/
  used : Nat
  /-- what the present step still holds for this engine: a dispatch, an array step, a retirement -/
  mayDispatch : Bool
  mayArray : Bool
  mayRetire : Bool
  results : List ResWord
  /-- R411: checker-suspect (kept across die reset) -/
  suspect : Bool
  deriving DecidableEq, Repr

/-- R407 to R412: a classification in progress or waiting. -/
structure Classify where
  engine : Nat
  set : Nat
  syn : Syndrome
  /-- repeat 1 has run and failed, or was skipped -/
  second : Bool
  began : W64
  /-- the timebase at which it began -/
  since : W64
  deriving DecidableEq, Repr

/-- What kind of context a core position holds. -/
inductive CoreMode where
  /-- no context -/
  | idle
  /-- a context is resident and runs -/
  | live
  /-- stopped at a step boundary (pre-emption, snuff, halt, engine reset) -/
  | stopped
  /-- the field tester runs on it (R420) -/
  | test
  /-- switched out by time-sharing (R475) -/
  | parked
  /-- the item is still being loaded, or the logical core has ended -/
  | loading
  | over
  deriving DecidableEq, Repr

/-- What an access does to one 64-byte word (a wide add: to two). -/
inductive MemAct where
  | read
  | write (bytes : List MByte)
  | narrowAdd (x : LongReg)
  | wideAdd (x : LongReg)
  deriving DecidableEq, Repr

/-- R161 Table 15: fabric atomics. -/
inductive AtomKind where
  | add64 | swap64 | cas64 | min64 | max64 | xadd
  deriving DecidableEq, Repr

/-- R161 Table 16: collectives. -/
inductive CollKind where
  | allreduce | reduce | reduceScatter | broadcast | allgather | barrier | alltoall
  deriving DecidableEq, Repr

/-- What an operation asks of a unit outside its core. -/
inductive OutReq where
  /-- one word of a load or posted store: `key` names the word or lane, `addr` is the address an exception names -/
  | mem (posted : Bool) (key : Nat) (addr : W64) (loc : Region) (act : MemAct)
  | dma (src dst : Region) (len : Nat)
  | signal (h v : W64)
  | sreset (h : W64)
  | wait (h thr : W64)
  | spoll (h : W64)
  | timebase
  | frd (laddr : Region) (rank : W64) (raddr : W64) (len : Nat)
  | fwr (laddr : Region) (rank : W64) (raddr : W64) (len : Nat)
  | fatom (kind : AtomKind) (operand compare : W64) (laddr : Option Region) (rank raddr : W64)
  | send (laddr : Region) (rank : W64) (len tag : Nat)
  | recv (laddr : Region) (any : Bool) (rank : W64) (room tag : Nat)
  | probe (any : Bool) (rank : W64) (tag : Nat)
  | coll (kind : CollKind) (group : W64) (src dst : Option Region) (count : Nat)
  deriving DecidableEq, Repr

/-- One core: its context (R131) and the engine pipeline around it. -/
structure Core where
  mode : CoreMode
  /-- R416: a whole-core stall on an uncorrectable SRAM word -/
  wedged : Bool
  sg : Nat
  lcore : Nat
  /-- the stream of the item that runs here (R290: CTX) -/
  strm : Nat
  rl : Nat
  seed : W64
  /-- due latencies by class, in the order of `AccClass` (R46, R47) -/
  due : List Nat
  /-- the code section, one operation word each (R136) -/
  code : List W64
  step : W64
  /-- threads, default `threadReset` -/
  threads : Tbl Thread
  spad : Memory
  ln : Tbl LongReg
  eng : List Engine
  writes : List RegWrite
  /-- NV sets: the step of the set and the thread (R169) -/
  nvs : List (W64 × Nat)
  ctl : List CtlPend
  posted : List Posted
  gated : List Gated
  wins : List OpenWin
  spadQ : List SpadReq
  loads : List SpadLoad
  extQ : List ExtReq
  /-- banks already served in the present step (R94) -/
  served : List Nat
  /-- steps for which the vector engine and the LAU thread port stay occupied (R93, R114) -/
  veLeft : Nat
  portLeft : Nat
  /-- R117: special tiles -/
  special : W64
  classify : List Classify
  /-- R85 use of NV reported to DONE: thread state at the end (R174) -/
  ended : Bool
  /-- R415: corrected words waiting for their write-back: word address -/
  writebacks : List Nat
  /-- R356: count of barriers that changed the atomic phase -/
  aphase : W32
  /-- R251: the step limit of the item; R270: a core stop, and a thread stop (thread, count) -/
  limit : Option W64
  stopAt : Option W64
  stopTh : Option (Nat × W64)
  /-- R475: steps since it became resident -/
  quantum : Nat
  /-- R454, R475: the timebase of the last issue or delivery, and since when the core has stood in a whole-core stall -/
  active : W64
  stallAt : Option W64
  /-- R454: nanoseconds of the item that do not count toward its limit -/
  paused : Nat
  deriving DecidableEq, Repr

/-- A thread at the start of a context (R83, R245). -/
def threadReset : Thread :=
  { pc := 0, st := .run, s := [], t := [], v := [], nv := false, count := 0, xovf := false, xcause := 0, xpc := 0, xinfo := 0,
    waitStep := none, branchAt := none }

/-- R153: an empty set, as the start of a context leaves it. -/
def setReset : AccSet :=
  { win := [], spill := [], col := [], row := [], log := [], logovf := false, held := false, storable := true, flushed := false }

def engineReset : Engine :=
  { queue := [], set0 := setReset, set1 := setReset, buf := [], fetched := false, fresh := none, spillQ := [], latch := [],
    used := 0, mayDispatch := false, mayArray := false, mayRetire := false, results := [], suspect := false }

/-- R46 Table 4: default due latencies, in the order of `AccClass`. -/
def dueDefaults : List Nat := [32, 128, 512, 1536, 16384, 256, 4096, 64]
/-- R46 Table 4: the least due latency that an image may set. -/
def dueMinima : List Nat := [16, 48, 160, 400, 2048, 16, 256, 32]

/-- A core position without a context: scratchpad and registers read 0 (R210). -/
def coreReset : Core :=
  { mode := .idle, wedged := false, sg := 0, lcore := 0, strm := 0, rl := 1, seed := 0, due := dueDefaults, code := [], step := 0,
    threads := [], spad := [], ln := [], eng := [engineReset, engineReset, engineReset, engineReset], writes := [], nvs := [],
    ctl := [], posted := [], gated := [], wins := [], spadQ := [], loads := [], extQ := [], served := [], veLeft := 0,
    portLeft := 0, special := 0, classify := [], ended := false, writebacks := [], aphase := 0,
    limit := none, stopAt := none, stopTh := none, quantum := 0, active := 0, stallAt := none, paused := 0 }

end Sys2Proof.Machine
end

