-- ==== Sys2Proof/Machine/MemTypes.lean ====
section
/-! DEFINITION. Machine/MemTypes.lean: the state of the memory system: accesses on their way, DRAM words, fault records, DMA
engines, the translation buffers and the table writer (spec/06 R181 to R214; spec/13 R417 to R419; spec/17 R523 to R526). -/

namespace Sys2Proof.Machine

/-- A key tag: the slot a request names and which key it held when the request was translated (R523, R526). -/
structure KeyTag where
  slot : Nat
  id : Nat
  deriving DecidableEq, Repr

/-- A 64-byte word of DRAM that has been written: its plaintext, the key it lies under, and whether it is poisoned (R419). -/
structure DWord where
  data : BitVec 512
  key : Nat
  deriving DecidableEq, Repr

/-- R191, R188: where a word of a tenant lies: its DPA div 64, the tail word of an ACC page, and the key it is translated under. -/
structure Place where
  word : Nat
  tail : Option Nat
  tag : KeyTag
  deriving DecidableEq, Repr

/-- How far an access has come. -/
inductive Stage where
  /-- not translated yet, or waiting at its cluster-memory bank -/
  | waiting
  /-- R195, R198: held by a fault; `none` while 1,024 records are held -/
  | faulted (tag : Option Nat)
  /-- waiting at its pseudo-channel -/
  | ready (at_ : Place)
  /-- R187, R601: read at slot count `at_`, to be written -/
  | half (at_ : Place) (slot : Nat) (data : BitVec 512) (tail : BitVec 512) (bad : Bool)
  /-- performed, with the word that a read delivers -/
  | done (data : BitVec 512)
  /-- failed with status ACCESS (`gone` for a discard of R209) -/
  | failed (gone : Bool)
  deriving DecidableEq, Repr

/-- An access that a thread issued (R175 to R178, R182, R129). Its key in State.acc is its order of arrival. -/
structure Access where
  core : Nat
  thread : Nat
  issue : W64
  posted : Bool
  key : Nat
  addr : W64
  sg : Nat
  loc : Region
  act : MemAct
  /-- the timebase at its arrival (R129: its age) -/
  born : W64
  /-- the thread step count of its operation (R168, R260) -/
  count : W64
  stage : Stage
  deriving DecidableEq, Repr

/-- R192 Table 5 outcomes that refuse or fault. -/
inductive WalkOut where
  | format | lost
  | fault (kind level : Nat)
  | ok (word : Nat) (tail : Option Nat)
  deriving DecidableEq, Repr

/-- R198 Table 6: a fault record. -/
structure FaultRec where
  sg : Nat
  kind : Nat
  mid : Nat
  acct : Nat
  src : Nat
  va : Nat
  tb : W64
  die : Nat
  merged : Nat
  deriving DecidableEq, Repr

/-- R193: a translation held: the saggar, the first VA and size of its page, and its leaf entry. -/
structure TbEntry where
  sg : Nat
  va : Nat
  size : Nat
  leaf : W64
  deriving DecidableEq, Repr

/-- How a DMA transfer stands (R201, R203). -/
inductive XferState where
  | running
  /-- held by a fault record -/
  | faulted (tag : Option Nat)
  /-- stopped at its progress point with a status of Table 17 of spec/05 -/
  | failed (status : Nat)
  deriving DecidableEq, Repr

/-- For whom a transfer runs: a thread's DMA operation, or one piece of a stream item. -/
inductive XferFor where
  | thread (core : Nat) (thread : Nat) (issue : W64)
  | item (stream : Nat) (piece : Nat)
  deriving DecidableEq, Repr

/-- R202, R203: a transfer with its progress point. -/
structure Xfer where
  who : XferFor
  sg : Nat
  src : Region
  dst : Region
  len : Nat
  done : Nat
  st : XferState
  deriving DecidableEq, Repr

/-- R201: a DMA engine; the head of the queue that is served is the transfer in progress. -/
structure DmaEng where
  thq : List Xfer
  feq : List Xfer
  /-- which queue the transfer in progress heads -/
  front : Bool
  /-- a transfer is in progress -/
  busy : Bool
  deriving DecidableEq, Repr

def dmaReset : DmaEng := { thq := [], feq := [], front := false, busy := false }

/-- R194: what the table writer was started with. -/
structure TwJob where
  dst : Nat
  src : Nat
  data : W64
  cnt : Nat
  sg : Nat
  deriving DecidableEq, Repr

/-- R204, R208: the saved state of a saggar: the clusters it held, the logical cluster of each logical core, and transfers with their
engines. Its contexts stay in `State.cores` and its cluster memories in `MemSt.cl`, under names of their own (Machine/Ops.lean). -/
structure SavedSg where
  last : List (Nat × Nat)
  lcl : List (Nat × Nat)
  xfers : List (Nat × Xfer)
  deriving DecidableEq, Repr

end Sys2Proof.Machine
end

