-- ==== Sys2Proof/Machine/PinTypes.lean ====
section
/-! DEFINITION. Machine/PinTypes.lean: the state of the power controller, of the pins, of the I3C port and of start-up beside their
registers (spec/19 R549 to R569; spec/20 R570 to R590; spec/21 R593 to R599). -/

namespace Sys2Proof.Machine

/-- R550 to R566: the power controller. -/
structure PwrSt where
  /-- since when the conditions of R559 have held -/
  idleAt : Option W64
  /-- R555: the last run of the cap loop, and the last time it raised a rail -/
  loopAt : W64
  raisedAt : W64
  /-- dies that the cap has lowered, that the thermal limit has lowered, and that it is lowering -/
  capped : List Nat
  warm : List Nat
  hot : List Nat
  /-- R556: when the thermal limit last lowered a die -/
  coolAt : Tbl W64
  /-- R552: when PWRFAIL_N was released -/
  relAt : Option W64
  deriving DecidableEq, Repr

/-- R574 to R590: pins and the I3C port. -/
structure PinSt where
  /-- PERST0_N and PERST1_N are asserted -/
  perst : Bool × Bool
  /-- R590: the assertion of MRST_N that has not reset the module yet, and whether the pin is low -/
  mrst : Option W64
  mrstLow : Bool
  /-- R582: the reference is lost -/
  noRef : Bool
  /-- R587: the dynamic address -/
  dyn : Option Nat
  /-- R588: MCTP packets of a message that is not complete, and messages that the lantern has not taken: their bytes -/
  mctpPart : Option (List Byte)
  mctp : List (List Byte)
  /-- R589: the management link is up at 1000 Mb/s full duplex -/
  sgmii : Bool
  deriving DecidableEq, Repr

/-- R593: start-up. -/
structure BootSt where
  /-- T0, or the module reset -/
  began : W64
  /-- the steps of Table 1 that are complete -/
  steps : List Nat
  /-- R600: stacks whose init fill has not been done -/
  fill : List Nat
  /-- R426: sherds formed between the previous module reset and this one -/
  sherds : Nat
  deriving DecidableEq, Repr

/-- R565: what wakes the module. -/
inductive Wake where
  | doorbell (strm : Nat)
  | enable (strm : Nat)
  | cell
  | tolerance
  | command
  | flr
  | fieldTest
  deriving DecidableEq, Repr

/-- Where a 32-bit write of host software lands (R8, R218, R539, R569). -/
inductive WriteTo where
  /-- BAR0 of the physical function -/
  | bar0 (off : Nat)
  /-- BAR0 and BAR4 of a function -/
  | vf (fn off : Nat)
  | bar4 (fn off : Nat)
  /-- the first word of a function's MSI-X capability: bit 31 MSI-X Enable, bit 30 Function Mask -/
  | msixCap (fn : Nat)
  /-- bit 0 enables a function after a Function Level Reset (R211) -/
  | fnEnable (fn : Nat)
  /-- host software stores 4 bytes in its own memory -/
  | host (addr : Nat)
  deriving DecidableEq, Repr

def pwrReset : PwrSt := { idleAt := none, loopAt := 0, raisedAt := 0, capped := [], warm := [], hot := [], coolAt := [], relAt := none }
def pinReset : PinSt :=
  { perst := (false, false), mrst := none, mrstLow := false, noRef := false, dyn := none, mctpPart := none, mctp := [], sgmii := false }
def bootReset : BootSt := { began := 0, steps := [1], fill := List.range 32, sherds := 0 }

end Sys2Proof.Machine
end

