-- ==== Sys2Proof/Machine/FabTypes.lean ====
section
/-! DEFINITION. Machine/FabTypes.lean: the state of links, wheels, network interfaces, sync objects and collective groups
(spec/01 R16 to R25; spec/09 R277 to R307; spec/10 R308 to R335; spec/11 R336 to R362). -/

namespace Sys2Proof.Machine

/-- R294: a whole message: its header fields, its prefix words and its data bytes. -/
structure Msg where
  dpkg : Nat
  dep : Nat
  spkg : Nat
  sep : Nat
  slice : Nat
  ty : Nat
  gen : Nat
  mseq : Nat
  ctx : Nat
  ece : Bool
  words : List W64
  data : List Byte
  deriving DecidableEq, Repr

/-! ### Links -/

/-- R284, R285, R303: the sending end of a link. -/
structure Tx where
  /-- the next link sequence, modulo 16,384 -/
  seq : Nat
  /-- the replay buffer: unacknowledged cells with their sequences, oldest first -/
  buf : List (Nat × LCell)
  /-- how many of them have been transmitted since the last replay began -/
  cur : Nat
  /-- dedicated credits by VC and shared credits -/
  ded : List Nat
  shared : Nat
  /-- shared slots that each VC holds -/
  held : List Nat
  /-- cumulative counts of freed slots last seen -/
  seenD : List Nat
  seenS : Nat
  /-- consecutive replays with no advance of the acknowledged sequence -/
  replays : Nat
  /-- timebase of the last advance or transmission of the oldest cell (R285) -/
  since : W64
  deriving DecidableEq, Repr

/-- R284, R304: the receiving end of a link. -/
structure Rx where
  /-- the next sequence expected -/
  exp : Nat
  /-- a NAK to be sent, and that no further one may be sent -/
  nakDue : Bool
  nakHeld : Bool
  /-- the receive buffer, oldest first -/
  buf : List LCell
  /-- cumulative freed slots, by VC and shared -/
  freedD : List Nat
  freedS : Nat
  /-- consecutive blocks with an uncorrectable codeword (R280) -/
  uncRun : Nat
  deriving DecidableEq, Repr

/-- What an optical link's end waits for beside its registers (R278, R279, R286). -/
structure LinkSt where
  tx : Tx
  rx : Rx
  /-- in the 1 ms wait after a failure (R278) -/
  pause : Bool
  /-- consecutive training frames received with RXREADY = 1, by lane -/
  ready : List Nat
  /-- consecutive good blocks in ALIGN -/
  good : Nat
  /-- configuration records received, and the FREE counts and FRESH of the last -/
  recs : Nat
  lastCfg : Option CfgRec
  /-- the time CONFIG was entered: every own T_SEND lies from it on -/
  tSent : W32
  /-- FRESH = 1 is sent: after the wheel starts and after HOLD has expired -/
  fresh : Bool
  /-- equaliser taps of each lane in units of 0.025: c(−1), c(0), c(1) (spec/20 R578) -/
  taps : List (Int × Int × Int)
  /-- the responses that the status word of each lane gives (R279) -/
  answers : List (Nat × Nat × Nat)
  /-- endpoint bound to the link as an attach link (R310) -/
  attach : Option Nat
  /-- package at the far end, and the wheel and link there, as the last M_HELLO gave them -/
  peer : Option (Nat × Nat × Nat)
  /-- the time the present state began -/
  since : W64
  deriving DecidableEq, Repr

/-- R22, R287: one direction of a panel, control or spoke link. -/
structure PanelLink where
  tx : Tx
  rx : Rx
  deriving DecidableEq, Repr

/-- R315: what a wheel has chosen for a cell: an output port and a VC. -/
structure Choice where
  out : Nat
  vc : Nat
  /-- by R318, a minimal link in place of a lost escape link -/
  fallback : Bool
  deriving DecidableEq, Repr

/-- R312, R325, R329: one wheel. -/
structure Wheel where
  /-- routing entries of bank 0 and bank 1 by package, default 0 -/
  bank0 : Tbl (BitVec 16)
  bank1 : Tbl (BitVec 16)
  /-- cells that the agent and the exact adder inject; one of the adder with its next node: a direction, or 8 + a die -/
  own : List (Option Nat × LCell)
  /-- choices made for the cells of input ports, by port then position -/
  choice : Tbl (Tbl Choice)
  /-- per output: the class served last, and the port of each class's last winner -/
  lastClass : Tbl Nat
  lastPort : Tbl Nat
  /-- R318: cells already counted as waiting, by their headers -/
  waited : List Nat
  /-- R326: current epoch of the agent and the exact adder -/
  epoch : W32
  deriving DecidableEq, Repr

/-! ### Network interfaces -/

/-- For whom an outstanding request runs (R296). -/
structure NiReq where
  core : Nat
  thread : Nat
  issue : W64
  posted : Bool
  req : OutReq
  /-- R356, R357: APHASE of the core and the thread step count at the issue -/
  phase : Nat
  count : W64
  deriving DecidableEq, Repr

/-- An outstanding request, under its MSEQ. -/
structure NiOut where
  who : NiReq
  dpkg : Nat
  dep : Nat
  gen : Nat
  /-- response space reserved, in cells (R299) -/
  space : Nat
  /-- this message's own bytes, and where the second message's bytes begin (R297) -/
  part : Nat
  deriving DecidableEq, Repr

/-- R297: the sum over the messages of one request: how many are still out, bytes, and the first status that is not OK. -/
structure NiSum where
  core : Nat
  issue : W64
  left : Nat
  len : Nat
  status : Nat
  deriving DecidableEq, Repr

/-- R298: a message being put together. -/
structure Reasm where
  first : Cell
  got : Tbl Cell
  ce : Bool
  /-- a check has failed: it is not performed -/
  bad : Bool
  /-- R197: held by a fault record (1,024: while no record is free), and refused by its resolution -/
  hold : Option Nat
  refused : Bool
  deriving DecidableEq, Repr

/-- R165: a SEND message that has arrived at a rank. -/
structure Arrived where
  sg : Nat
  rank : Nat
  tag : Nat
  part : Bool
  data : List Byte
  /-- source package and endpoint -/
  src : Nat × Nat
  deriving DecidableEq, Repr

/-- R165: a RECV that has no message yet. -/
structure RecvWait where
  who : NiReq
  sg : Nat
  deriving DecidableEq, Repr

/-- R355 to R359: an ordered atomic held at its target. -/
structure HeldAtom where
  msg : Msg
  phase : Nat
  /-- source rank, logical core, thread, s -/
  rank : Nat
  lcore : Nat
  thread : Nat
  s : Nat
  deriving DecidableEq, Repr

/-- R332: the rate state toward one package. -/
structure RateSt where
  rate : Nat
  lastDec : W64
  lastInc : W64
  /-- tokens in the bucket, in 1/1000 of a cell, and when they were counted -/
  tokens : Nat
  filled : W64
  deriving DecidableEq, Repr

/-- R296 to R301, R326, R330 to R333, R355 to R359: the NI of a compute die. -/
structure Ni where
  nextMseq : Nat
  out : Tbl NiOut
  sums : List NiSum
  /-- requests that wait for a window place, an MSEQ, response space or an open phase -/
  wait : List NiReq
  /-- cells to be sent, oldest first -/
  cells : List LCell
  reasm : List Reasm
  arrived : List Arrived
  recvs : List RecvWait
  atoms : List HeldAtom
  /-- CLOSEs not answered yet: message, phase, count -/
  closes : List (Msg × Nat × Nat)
  /-- R358: ordered atomics sent by phase and endpoint: (saggar, phase, package, endpoint, count) -/
  sentAtoms : List (Nat × Nat × Nat × Nat × Nat)
  /-- R356: the phase whose opening barrier has completed here, by saggar and logical core -/
  phaseOpen : Tbl Nat
  /-- R359: the phases whose closing barrier's GO has reached this endpoint, by saggar: all below this count -/
  phaseGone : Tbl Nat
  rate : Tbl RateSt
  /-- packages from which a response with ECE has come that has not been acted on -/
  ece : List Nat
  /-- R333: since when a cell has waited for a token -/
  limited : Option W64
  epoch : W32
  /-- MSEQs freed without a response, with the time until which they are not given again (R296) -/
  retired : List (Nat × W64)
  late : Nat
  /-- R23: stopped sources (R328) -/
  stopped : Bool
  deriving DecidableEq, Repr

/-! ### Sync objects -/

/-- Who asked for a sync operation: a thread of this die or of another die of the module, or a message. -/
inductive SyncFrom where
  | thread (die : Nat) (who : NiReq)
  | msg (m : Msg)
  deriving DecidableEq, Repr

/-- R341, R342: an operation on its way to an object of a die. -/
structure SyncOp where
  op : Nat
  idx : Nat
  operand : W64
  who : SyncFrom
  sg : Nat
  deriving DecidableEq, Repr

/-- R339 to R345: the sync objects of one die. -/
structure SyncDie where
  /-- counters, default 0 -/
  cnt : Tbl W64
  /-- saggar of each bound block of 256 objects -/
  owner : Tbl Nat
  queue : List SyncOp
  waits : List SyncOp
  /-- SIGNALs that wait for their thread's earlier posted operations (R164) -/
  held : List (NiReq × SyncOp)
  deriving DecidableEq, Repr

/-! ### Collective groups -/

/-- R346 Table 4: a member on this module. -/
structure Member where
  index : Nat
  rank : Nat
  lcore : Nat
  /-- the saggar's core that stands for it is found by its logical core -/
  ep : Nat
  deriving DecidableEq, Repr

/-- A COLL that a member has issued. -/
structure CollOp where
  member : Nat
  who : NiReq
  kind : CollKind
  src : Option Region
  dst : Option Region
  count : Nat
  /-- bytes written into the destination, by their offsets -/
  wrote : List Nat
  /-- ALLTOALL: own WRs sent and not acknowledged, and whether they have been sent -/
  acks : Nat
  sentWr : Bool
  deriving DecidableEq, Repr

/-- R352, R353: the operation in progress at one node: a die NI (0 to 15) or a wheel's adder (16 + wheel). -/
structure ColNode where
  /-- local COLLs, at a die -/
  locals : List CollOp
  /-- STARTs by child: kind, count, members below -/
  starts : Tbl (Nat × Nat × Nat)
  merged : Bool
  /-- values by index and child that have not been added yet -/
  data : Tbl (Tbl (BitVec 512 × Option (BitVec 512)))
  /-- values that travel down, by index -/
  down : Tbl (BitVec 512 × Option (BitVec 512))
  /-- indices sent upward or, at the root, formed -/
  sent : List Nat
  go : Bool
  /-- GO and COL_DONE that have arrived from above -/
  goIn : Bool
  doneIn : Option Nat
  /-- OPNO of the operation in progress, and cells of later operations with the child or parent they came from -/
  opno : Nat
  early : List (Nat × Cell)
  /-- CLOSEs of the fence barrier: sent, and not answered yet (R358) -/
  closing : Bool
  closesOut : Nat
  deriving DecidableEq, Repr

/-- R346 Table 4: a group entry. -/
structure Group where
  /-- 0 FREE, 1 ARMED, 2 RESETTING -/
  st : Nat
  slice : Nat
  fence : Bool
  plane : Nat
  m : Nat
  root : Nat
  members : List Member
  parent : Nat
  children : Nat
  slots : Nat
  opno : Nat
  nodes : Tbl ColNode
  deriving DecidableEq, Repr

/-- R399: a REPORT of a wick that has not been acknowledged: its number, kind, wheel, link and error bits. -/
structure WickReport where
  ep : Nat
  num : Nat
  kind : Nat
  wheel : Nat
  link : Nat
  err : Nat
  /-- when it was last sent -/
  sent : Option W64
  deriving DecidableEq, Repr

def txReset : Tx :=
  { seq := 0, buf := [], cur := 0, ded := List.replicate 14 16, shared := 800, held := List.replicate 14 0,
    seenD := List.replicate 14 0, seenS := 0, replays := 0, since := 0 }
def rxReset : Rx :=
  { exp := 0, nakDue := false, nakHeld := false, buf := [], freedD := List.replicate 14 0, freedS := 0, uncRun := 0 }
def linkReset : LinkSt :=
  { tx := txReset, rx := rxReset, pause := false, ready := [0, 0, 0, 0], good := 0, recs := 0, lastCfg := none, tSent := 0, fresh := true,
    taps := List.replicate 4 (-2, 34, -4), answers := List.replicate 4 (0, 0, 0), attach := none, peer := none, since := 0 }
def panelReset : PanelLink := { tx := txReset, rx := rxReset }
def wheelReset : Wheel :=
  { bank0 := [], bank1 := [], own := [], choice := [], lastClass := [], lastPort := [], waited := [], epoch := 0 }
def niReset : Ni :=
  { nextMseq := 0, out := [], sums := [], wait := [], cells := [], reasm := [], arrived := [], recvs := [], atoms := [], closes := [],
    sentAtoms := [], phaseOpen := [], phaseGone := [], rate := [], ece := [], limited := none, epoch := 0, retired := [], late := 0, stopped := false }
def syncReset : SyncDie := { cnt := [], owner := [], queue := [], waits := [], held := [] }
def colNodeReset : ColNode :=
  { locals := [], starts := [], merged := false, data := [], down := [], sent := [], go := false, goIn := false,
    doneIn := none, opno := 0, early := [], closing := false, closesOut := 0 }
def groupReset : Group :=
  { st := 0, slice := 0, fence := false, plane := 0, m := 0, root := 0, members := [], parent := 7, children := 0, slots := 32,
    opno := 0, nodes := [] }

end Sys2Proof.Machine
end

