-- ==== Sys2Proof/Machine/StmTypes.lean ====
section
/-! DEFINITION. Machine/StmTypes.lean: the state of streams, items, program images, the acceptance journal, the recorder and the
replay engine (spec/07 R215 to R252; spec/08 R253 to R276; spec/16 R477 to R508). -/

namespace Sys2Proof.Machine

/-- R223 Table 5: a segment entry. -/
structure Seg where
  addr : Nat
  len : Nat
  attr : Nat
  deriving DecidableEq, Repr

/-- R222 Table 4: a submission descriptor as fetched. -/
structure Desc where
  seq : Nat
  opc : Nat
  flags : Nat
  img : Nat
  steplim : Nat
  seed : W64
  seg0 : Seg
  seg1 : Seg
  total : Nat
  nseg : Nat
  /-- byte 62 and bits [6:0] of byte 63 -/
  rsv : Nat
  deriving DecidableEq, Repr

/-- R479 Table 2: a journal record whose CRC holds. COMMIT: 0 prepared, 1 committed, 2 retired. -/
structure JRec where
  stream : Nat
  seq : Nat
  mark : Nat
  ofl : Nat
  img : Nat
  steplim : Nat
  seed : W64
  seg0 : Seg
  seg1 : Seg
  digest : W64
  commit : Nat
  deriving DecidableEq, Repr

/-- R237 Table 7: a completion entry. -/
structure Cpl where
  seq : Nat
  ty : Nat
  status : Nat
  crc : W64
  steps : W64
  detail : Nat
  sqhead : Nat
  flags : Nat
  deriving DecidableEq, Repr

/-- R486: a stream-state block. -/
structure JStream where
  seqbase : Nat
  mode : Nat
  used : Bool
  deriving DecidableEq, Repr

/-- An M_JRNL cell that has not been acknowledged (R504). -/
structure JCell where
  kind : Nat
  words : List Nat
  sent : W64
  deriving DecidableEq, Repr

/-- The MRAM of the journal controller and the pair (R477, R486, R491 to R507). -/
structure Journal where
  /-- record slots by 256 × stream + SEQ mod 256; an unlisted slot is free -/
  recs : Tbl JRec
  /-- committed DONE entries by 16 × stream + SEQ mod 16 -/
  dones : Tbl Cpl
  streams : Tbl JStream
  /-- logical blocks that have been moved, with their spare -/
  map : Tbl Nat
  /-- R492: logical blocks that have failed with no spare left -/
  failed : List Nat
  /-- pair record: runner, and the clean-stop flag -/
  runner : Bool
  clean : Bool
  /-- R487: when PWRFAIL_N was asserted: nothing is fetched, and from 1 ms on no MRAM write starts, until module reset -/
  failAt : Option W64
  /-- R493: a BEAT that names this module has come from the peer -/
  named : Bool
  lastHeard : W64
  /-- what the last BEAT said of the twin: PSTATE, RUNNER, SOLO -/
  twin : Nat × Bool × Bool
  /-- twin streams: STM_SEQ, MODE, STATE of the last STATE cell -/
  peer : Tbl (Nat × Nat × Nat)
  unacked : List JCell
  /-- R502: DONEs of the twin that have come before this module's own: by stream × 2^48 + SEQ: STATUS and CRC -/
  early : Tbl (Nat × W64)
  /-- R490: prepared twinned records that wait for an answer to QUERY: stream and SEQ -/
  asked : List (Nat × Nat)
  /-- R500: RECs of the twin that have come: stream, SEQ, digest; and the follower's records with the leader's ACK -/
  twinRec : List (Nat × Nat × W64)
  /-- cells of a sync sent or taken so far (R507) -/
  synced : Nat
  /-- when the last BEAT was sent -/
  beatOut : W64
  /-- own RECs that the twin has answered with OK and that are not accepted yet; own answers to the twin's RECs of DUAL streams, newest first -/
  acked : List (Nat × Nat)
  answered : List (Nat × Nat × Bool)
  /-- SEQ of the last DONE of the twin, by stream -/
  doneFrom : Tbl Nat
  /-- R496: cells that wait because 4,096 are not acknowledged -/
  todo : List JCell
  /-- R490: recovery has taken place since module reset -/
  recovered : Bool
  deriving DecidableEq, Repr

/-- One piece of an item's copies: a part of a segment or a constant section. -/
structure Piece where
  src : Region
  dst : Region
  len : Nat
  /-- index of the data entry in traversal order (DETAIL) -/
  entry : Nat
  /-- its place on the device lies in no region (R248) -/
  bad : Bool
  /-- the bytes enter the item's CRC-64 -/
  out : Bool
  deriving DecidableEq, Repr

/-- R218, R239: one MSI-X vector of a function. -/
structure Vec where
  lastMsg : Option W64
  merged : Bool
  /-- R240, R216: a message waits for the next window, or for the port -/
  defer : Bool
  mask : Bool
  pend : Bool
  /-- message address and data of the table entry -/
  addr : W64
  data : W32
  deriving DecidableEq, Repr

/-- R218, R216, R240: a function beside its registers. -/
structure Func where
  msixEn : Bool
  msixMask : Bool
  vecs : Tbl Vec
  /-- completion entries and messages of the present window -/
  cpl : Nat
  irq : Nat
  win : Nat
  deferred : Bool
  /-- R211: stopped by a Function Level Reset until it is enabled again -/
  stopped : Bool
  /-- PWR_LTR (R562) -/
  ltr : Nat
  deriving DecidableEq, Repr

/-- R245: one logical core of an image. -/
structure LCore where
  rl : Nat
  cluster : Nat
  runmask : W64
  deriving DecidableEq, Repr

/-- R247: one argument of an image. -/
structure Arg where
  dir : Nat
  dest : W64
  maxlen : Nat
  deriving DecidableEq, Repr

/-- R244: a CONST section. -/
structure ConstSec where
  lcore : Nat
  off : Nat
  size : Nat
  dest : W64
  bytes : List Byte
  deriving DecidableEq, Repr

/-- R274: a manifest entry. -/
structure Manifest where
  lcore : Nat
  thread : Nat
  kind : Nat
  count : W64
  addr : W64
  len : Nat
  deriving DecidableEq, Repr

/-- R243 to R247, R273: a program image that LOAD has checked and bound. -/
structure Image where
  home : Nat
  nlcl : Nat
  steplim : Nat
  due : List Nat
  quant : Nat
  cores : List LCore
  /-- code by logical core, and the shared code -/
  code : Tbl (List W64)
  shared : Option (List W64)
  consts : List ConstSec
  slots : Option (List SlotCode)
  policy : Nat
  fixed : W64
  args : List Arg
  manifest : List Manifest
  deriving DecidableEq, Repr

/-- How far the item at the head of a stream has come. -/
inductive ItemPhase where
  /-- LOAD: the image is being copied to its home -/
  | image
  /-- pieces are being copied before the cores start, or LOAD's constants -/
  | copyIn
  | cores
  | copyOut
  /-- it waits for DONE_COMMIT -/
  | finished
  deriving DecidableEq, Repr

/-- R230: the item that runs. -/
structure RunSt where
  rcd : JRec
  sg : Nat
  pieces : List Piece
  phase : ItemPhase
  status : Nat
  detail : Nat
  crc : W64
  /-- XPC of R174 -/
  xpc : W64
  steps : W64
  rerun : Bool
  /-- R229, R267: it is replayed; the record that names it lies at this offset of the log -/
  replay : Option Nat
  began : W64
  /-- the output pieces of a RUN item; the home of LOAD's image and its data entry; the image bytes copied, and the image once it is checked -/
  outs : List Piece
  home : Nat × Nat
  bytes : List Byte
  image : Option Image
  deriving DecidableEq, Repr

/-- An accepted item: its record, whether it has run before, whether it belongs to the log (R259), and its hang reruns (R459). -/
structure Accepted where
  rcd : JRec
  rerun : Bool
  logged : Bool
  hangs : Nat
  deriving DecidableEq, Repr

/-- R241: no flush, slots being taken (with how many have been), or none left to take and FLUSHED still to be posted. -/
inductive FlushPh where
  | none
  | taking (n : Nat)
  | answering
  deriving DecidableEq, Repr

/-- A stream beside its context registers. Number 65,536 stands for the replay engine (R267). -/
structure Strm where
  /-- internal tail, and the device's view of the completion head -/
  tail : Nat
  cqHead : Nat
  /-- descriptors validated and not yet accepted -/
  fetched : List (JRec × List Byte)
  /-- twinned records between W3 and W5, with the time of W1 (R482) -/
  prepared : List (JRec × List Byte × W64)
  accepted : List Accepted
  run : Option RunSt
  /-- R241: how far a flush has come -/
  flush : FlushPh
  /-- completions that wait for their write (R240, R216) -/
  posts : List (Cpl × Bool)
  /-- R239: counted completions since the last request, and when the first of them came -/
  count : Nat
  first : Option W64
  /-- the time of the last read of a slot with the wrong phase (R242) -/
  looked : W64
  deriving DecidableEq, Repr

/-- R259 to R263: the recorder of one saggar. -/
structure LogSt where
  /-- records staged, oldest first: type and body; a record takes its LSN as it enters the ring -/
  buf : List (Nat × List Byte)
  /-- the cluster map and bound slots of the last MAP record -/
  lastMap : List (Nat × Nat × Nat)
  /-- items of the log that are not done -/
  open_ : Nat
  /-- EN = 0 has been written: END follows the last DONE -/
  closing : Bool
  /-- R263: a host write has failed; the ring counts as full until DET_LOG_CFG is written -/
  dead : Bool
  deriving DecidableEq, Repr

/-- R265 to R272: the replay engine. -/
structure Replay where
  /-- byte offset of the next record of the log, and the next places of the input archive and of the output area -/
  pos : Nat
  lsn : Nat
  inPos : Nat
  outPos : Nat
  /-- the relation of logical clusters and bound slots of the MAP record in force -/
  mapRec : List (Nat × Nat × Nat)
  /-- the stop point that is set in the running item: logical core, thread (none: core stop), count, dumped range -/
  stop : Option (Nat × Option Nat × W64 × W64 × Nat)
  deriving DecidableEq, Repr

/-- Streams, functions, images, journal, recorder, replay engine. -/
structure StmSt where
  strms : Tbl Strm
  funcs : Tbl Func
  /-- images by saggar × 65,536 + handle -/
  images : Tbl Image
  jnl : Journal
  logs : Tbl LogSt
  rpl : Replay
  /-- R216: is the port's link up -/
  ports : Bool × Bool
  deriving DecidableEq, Repr

def vecReset : Vec := { lastMsg := none, merged := false, defer := false, mask := true, pend := false, addr := 0, data := 0 }
def funcReset : Func := { msixEn := false, msixMask := false, vecs := [], cpl := 0, irq := 0, win := 0, deferred := false, stopped := false, ltr := 0 }
def strmReset : Strm :=
  { tail := 0, cqHead := 0, fetched := [], prepared := [], accepted := [], run := none, flush := .none, posts := [], count := 0,
    first := none, looked := 0 }
def journalReset : Journal :=
  { recs := [], dones := [], streams := [], map := [], failed := [], runner := false, clean := false, failAt := none,
    named := false, lastHeard := 0, twin := (0, false, false), peer := [], unacked := [], early := [], asked := [], twinRec := [], synced := 0,
    beatOut := 0, acked := [], answered := [], doneFrom := [], todo := [], recovered := false }
def logReset : LogSt := { buf := [], lastMap := [], open_ := 0, closing := false, dead := false }
def replayReset : Replay := { pos := 0, lsn := 0, inPos := 0, outPos := 0, mapRec := [], stop := none }
def stmReset : StmSt :=
  { strms := [], funcs := [], images := [], jnl := journalReset, logs := [], rpl := replayReset, ports := (false, false) }

end Sys2Proof.Machine
end

