-- ==== Sys2Proof/Syntax.lean ====
section
/-! DEFINITION. Syntax.lean: the commands of the TM8, one constructor for each row of spec/opcode_table.json, in the order of the table.
An operation of a core names its core `c` and the operation word `w`. Where a command is an event, its operands name the unit it happens at
and what the surroundings of the module decide in it: an error of a memory read, what a message carries, what a pin does. -/

namespace Sys2Proof

open Sys2Proof.Machine

inductive Instr where
  /-- NOP (R141): Scalar no-operation whose fields must all be zero -/
  | nop (c : Nat) (w : OpWord)
  /-- ADD (R141): Scalar add of sA and b, modulo 2^64 -/
  | add (c : Nat) (w : OpWord)
  /-- SUB (R141): Scalar subtract of b from sA, modulo 2^64 -/
  | sub (c : Nat) (w : OpWord)
  /-- AND (R141): Scalar bitwise AND of sA and b -/
  | and (c : Nat) (w : OpWord)
  /-- OR (R141): Scalar bitwise OR of sA and b -/
  | or (c : Nat) (w : OpWord)
  /-- XOR (R141): Scalar bitwise XOR of sA and b -/
  | xor (c : Nat) (w : OpWord)
  /-- SHL (R141): Scalar shift left of sA by b[5:0] -/
  | shl (c : Nat) (w : OpWord)
  /-- SHR (R141): Scalar logical shift right of sA by b[5:0] -/
  | shr (c : Nat) (w : OpWord)
  /-- SRA (R141): Scalar arithmetic shift right of sA by b[5:0] -/
  | sra (c : Nat) (w : OpWord)
  /-- SLT (R141): Sets sD to 1 when sA is below b as signed values -/
  | slt (c : Nat) (w : OpWord)
  /-- SLTU (R141): Sets sD to 1 when sA is below b as unsigned values -/
  | sltu (c : Nat) (w : OpWord)
  /-- SEQ (R141): Sets sD to 1 when sA equals b -/
  | seq (c : Nat) (w : OpWord)
  /-- MIN (R141): Scalar signed minimum of sA and b -/
  | min (c : Nat) (w : OpWord)
  /-- MAX (R141): Scalar signed maximum of sA and b -/
  | max (c : Nat) (w : OpWord)
  /-- MOVI (R141): Loads the sign-extended immediate into sD -/
  | movi (c : Nat) (w : OpWord)
  /-- MOVH (R141): Places IMM in bits [63:32] above sA[31:0] -/
  | movh (c : Nat) (w : OpWord)
  /-- MUL (R141): Low 64 bits of the product of sA and b -/
  | mul (c : Nat) (w : OpWord)
  /-- MULH (R141): High 64 bits of the signed product of sA and b -/
  | mulh (c : Nat) (w : OpWord)
  /-- MULHU (R141): High 64 bits of the unsigned product of sA and b -/
  | mulhu (c : Nat) (w : OpWord)
  /-- DIV (R142): Signed division truncated toward zero, with fixed results for zero divisors -/
  | div (c : Nat) (w : OpWord)
  /-- DIVU (R142): Unsigned division, with all ones for a zero divisor -/
  | divu (c : Nat) (w : OpWord)
  /-- REM (R142): Signed remainder with the sign of sA -/
  | rem (c : Nat) (w : OpWord)
  /-- REMU (R142): Unsigned remainder of sA by b -/
  | remu (c : Nat) (w : OpWord)
  /-- POPC (R141): Counts the ones in sA -/
  | popc (c : Nat) (w : OpWord)
  /-- CTZ (R141): Counts the trailing zeros of sA, 64 for zero -/
  | ctz (c : Nat) (w : OpWord)
  /-- BEQ (R143): Branches when sA equals sB -/
  | beq (c : Nat) (w : OpWord)
  /-- BNE (R143): Branches when sA differs from sB -/
  | bne (c : Nat) (w : OpWord)
  /-- BLT (R143): Branches when sA is below sB, signed -/
  | blt (c : Nat) (w : OpWord)
  /-- BGE (R143): Branches when sA is at least sB, signed -/
  | bge (c : Nat) (w : OpWord)
  /-- BLTU (R143): Branches when sA is below sB, unsigned -/
  | bltu (c : Nat) (w : OpWord)
  /-- BGEU (R143): Branches when sA is at least sB, unsigned -/
  | bgeu (c : Nat) (w : OpWord)
  /-- JAL (R143): Writes the return PC to sD and jumps by the scaled immediate -/
  | jal (c : Nat) (w : OpWord)
  /-- JR (R143): Jumps to sA plus the immediate, trapping on misalignment -/
  | jr (c : Nat) (w : OpWord)
  /-- HALT (R143): The issuing thread enters HALT -/
  | halt (c : Nat) (w : OpWord)
  /-- BRK (R143): Raises BREAK with IMM recorded in XINFO -/
  | brk (c : Nat) (w : OpWord)
  /-- STEPW (R143): Holds the thread's next operation until the step counter reaches sA plus IMM -/
  | stepw (c : Nat) (w : OpWord)
  /-- TCTL_RESUME (R144): Moves a target thread in HALT or EXC to RUN at PC sB -/
  | tctlResume (c : Nat) (w : OpWord)
  /-- TCTL_STOP (R144): Puts a target thread not in EXC into HALT -/
  | tctlStop (c : Nat) (w : OpWord)
  /-- TCTL_READ (R144): Returns a target thread's state, XOVF and XCAUSE -/
  | tctlRead (c : Nat) (w : OpWord)
  /-- TCTL_READ_XPC (R144): Returns a target thread's XPC -/
  | tctlReadXpc (c : Nat) (w : OpWord)
  /-- TCTL_READ_XINFO (R144): Returns a target thread's XINFO -/
  | tctlReadXinfo (c : Nat) (w : OpWord)
  /-- LD (R146): Scalar load of 1 to 8 bytes, ungated in scratchpad and gated elsewhere -/
  | ld (c : Nat) (w : OpWord)
  /-- ST (R146): Scalar store of 1 to 8 bytes, ungated in scratchpad and posted elsewhere -/
  | st (c : Nat) (w : OpWord)
  /-- VLD (R146): Loads 64 elements of a format into a vector register, converted exactly -/
  | vld (c : Nat) (w : OpWord)
  /-- VST (R146): Packs every lane of vB into memory at a format's width -/
  | vst (c : Nat) (w : OpWord)
  /-- VSTM (R146): Packs the lanes selected by sC into memory, leaving other bytes unchanged -/
  | vstm (c : Nat) (w : OpWord)
  /-- LNLD (R146): Loads a long register from a wide CXS word in the scratchpad -/
  | lnld (c : Nat) (w : OpWord)
  /-- LNST (R146): Stores a long register as a wide CXS word in the scratchpad -/
  | lnst (c : Nat) (w : OpWord)
  /-- FENCE (R147): Waits for the thread's posted operations since its previous FENCE and reports failures -/
  | fence (c : Nat) (w : OpWord)
  /-- MMA (R101): Queues C += A x B into a matrix engine set -/
  | mma (c : Nat) (w : OpWord)
  /-- WFLUSH (R111): Queues a window flush and tile check of a set -/
  | wflush (c : Nat) (w : OpWord)
  /-- RSTORE (R153): Queues a rounding store of a set to the scratchpad -/
  | rstore (c : Nat) (w : OpWord)
  /-- XSTORE (R113): Queues a CXS store of a set's exact values to the scratchpad -/
  | xstore (c : Nat) (w : OpWord)
  /-- SPGET (R151): Queues a copy of an element's spill entry into a long register -/
  | spget (c : Nat) (w : OpWord)
  /-- SPADD (R151): Queues an add of a long register into an element's spill entry -/
  | spadd (c : Nat) (w : OpWord)
  /-- MCLR (R151): Queues the emptying of a set -/
  | mclr (c : Nat) (w : OpWord)
  /-- LNADD (R155): Adds two long registers exactly -/
  | lnadd (c : Nat) (w : OpWord)
  /-- LNMOV (R155): Copies one long register to another -/
  | lnmov (c : Nat) (w : OpWord)
  /-- LNCLR (R155): Clears a long register and its flags -/
  | lnclr (c : Nat) (w : OpWord)
  /-- LNNEG (R155): Negates a long register and exchanges its infinity flags -/
  | lnneg (c : Nat) (w : OpWord)
  /-- LNLANE (R155): Adds the lanes of a vector exactly into a long register -/
  | lnlane (c : Nat) (w : OpWord)
  /-- LNRND (R155): Rounds a long register once into a scalar of a format -/
  | lnrnd (c : Nat) (w : OpWord)
  /-- VADD (R87): Vector binary32 add rounded once -/
  | vadd (c : Nat) (w : OpWord)
  /-- VSUB (R87): Vector binary32 subtract rounded once -/
  | vsub (c : Nat) (w : OpWord)
  /-- VMUL (R87): Vector binary32 multiply rounded once -/
  | vmul (c : Nat) (w : OpWord)
  /-- VFMA (R87): Vector fused multiply-add rounded once -/
  | vfma (c : Nat) (w : OpWord)
  /-- VMIN (R156): Vector lane minimum with canonical NaN -/
  | vmin (c : Nat) (w : OpWord)
  /-- VMAX (R156): Vector lane maximum with canonical NaN -/
  | vmax (c : Nat) (w : OpWord)
  /-- VCVT (R157): Converts each lane between formats with an output scale, rounding once -/
  | vcvt (c : Nat) (w : OpWord)
  /-- VIADD (R156): Vector INT32 add modulo 2^32 -/
  | viadd (c : Nat) (w : OpWord)
  /-- VIMUL (R156): Vector INT32 multiply, low 32 bits -/
  | vimul (c : Nat) (w : OpWord)
  /-- VBCAST (R156): Broadcasts sA[31:0] into every lane -/
  | vbcast (c : Nat) (w : OpWord)
  /-- VLANE (R156): Extracts one lane of a vector into a scalar -/
  | vlane (c : Nat) (w : OpWord)
  /-- VIDX (R156): Writes each lane's index into the lane -/
  | vidx (c : Nat) (w : OpWord)
  /-- VFN (R88): Applies a correctly rounded elementwise function to each lane -/
  | vfn (c : Nat) (w : OpWord)
  /-- VCMP (R158): Compares lanes and writes a 64-bit mask to a scalar -/
  | vcmp (c : Nat) (w : OpWord)
  /-- VSEL (R156): Selects each lane from vA or vB by a scalar mask -/
  | vsel (c : Nat) (w : OpWord)
  /-- VGATH (R121): Gathers one 32-bit element per lane from indexed addresses -/
  | vgath (c : Nat) (w : OpWord)
  /-- VSCAT (R123): Scatters one 32-bit element per lane to indexed addresses -/
  | vscat (c : Nat) (w : OpWord)
  /-- VSCADD (R125): Adds lanes exactly into narrow CXS words at indexed addresses -/
  | vscadd (c : Nat) (w : OpWord)
  /-- XSCADD (R127): Adds a CXS value exactly into a wide or DRAM accumulation word -/
  | xscadd (c : Nat) (w : OpWord)
  /-- DMA (R201): Queues a copy transfer on the cluster's DMA engine, gated on its completion -/
  | dma (c : Nat) (w : OpWord)
  /-- SIGNAL (R164): Posts an add to a sync object after the thread's earlier posted operations -/
  | signal (c : Nat) (w : OpWord)
  /-- WAIT (R343): Waits until a sync object reaches a threshold -/
  | wait (c : Nat) (w : OpWord)
  /-- SRESET (R161): Posts a reset of a sync object to zero -/
  | sreset (c : Nat) (w : OpWord)
  /-- SPOLL (R161): Reads the current value of a sync object -/
  | spoll (c : Nat) (w : OpWord)
  /-- FRD (R161): Reads bytes from a remote rank into local memory -/
  | frd (c : Nat) (w : OpWord)
  /-- FWR (R161): Writes local bytes to a remote rank -/
  | fwr (c : Nat) (w : OpWord)
  /-- FATOM_ADD64 (R161): Remote atomic 64-bit add returning the old value -/
  | fatomAdd64 (c : Nat) (w : OpWord)
  /-- FATOM_SWAP64 (R161): Remote atomic 64-bit swap returning the old value -/
  | fatomSwap64 (c : Nat) (w : OpWord)
  /-- FATOM_CAS64 (R161): Remote atomic compare-and-swap returning the old value -/
  | fatomCas64 (c : Nat) (w : OpWord)
  /-- FATOM_MIN64 (R161): Remote atomic signed minimum returning the old value -/
  | fatomMin64 (c : Nat) (w : OpWord)
  /-- FATOM_MAX64 (R161): Remote atomic signed maximum returning the old value -/
  | fatomMax64 (c : Nat) (w : OpWord)
  /-- FATOM_XADD (R161): Remote exact-add of a wide CXS word returning a status word -/
  | fatomXadd (c : Nat) (w : OpWord)
  /-- SEND (R161): Sends a tagged message to a rank and waits for its MSG_ACK -/
  | send (c : Nat) (w : OpWord)
  /-- RECV (R165): Receives the oldest matching message into local memory -/
  | recv (c : Nat) (w : OpWord)
  /-- PROBE (R161): Reports whether a matching message has arrived -/
  | probe (c : Nat) (w : OpWord)
  /-- COLL_ALLREDUCE (R354): Exact sum of wide words over all members delivered to every member -/
  | collAllreduce (c : Nat) (w : OpWord)
  /-- COLL_REDUCE (R354): Exact sum of wide words delivered to the root -/
  | collReduce (c : Nat) (w : OpWord)
  /-- COLL_REDUCESCATTER (R354): Exact sums scattered in equal shares to the members -/
  | collReducescatter (c : Nat) (w : OpWord)
  /-- COLL_BROADCAST (R354): Copies the root's blocks to every member -/
  | collBroadcast (c : Nat) (w : OpWord)
  /-- COLL_ALLGATHER (R354): Gathers every member's blocks at every member -/
  | collAllgather (c : Nat) (w : OpWord)
  /-- COLL_BARRIER (R354): Completes once every member has started, advancing APHASE on the fence group -/
  | collBarrier (c : Nat) (w : OpWord)
  /-- COLL_ALLTOALL (R354): Exchanges block groups between all members by WR messages after GO -/
  | collAlltoall (c : Nat) (w : OpWord)
  /-- RAND (R167): Returns two words of the counter-based generator -/
  | rand (c : Nat) (w : OpWord)
  /-- VRAND (R167): Fills each lane with a generator word or uniform value -/
  | vrand (c : Nat) (w : OpWord)
  /-- STEPRD (R167): Reads the core step counter or the thread step count -/
  | steprd (c : Nat) (w : OpWord)
  /-- TBRD (R52): Gated read of the serving die's timebase, recorded under LOCK -/
  | tbrd (c : Nat) (w : OpWord)
  /-- FLAGS (R169): Reads the NV flag and optionally clears it -/
  | flags (c : Nat) (w : OpWord)
  /-- TDW (R167): Writes one half of a tile descriptor -/
  | tdw (c : Nat) (w : OpWord)
  /-- TDR (R167): Reads one half of a tile descriptor -/
  | tdr (c : Nat) (w : OpWord)
  /-- BUBBLE (R90): A rotation step whose offered thread is not ready issues nothing -/
  | bubble (c : Nat)
  /-- RESULT_ARRIVAL (R44): A gated result arrives and is held or ends a whole-core stall -/
  | resultArrival (c : Nat) (issue : W64)
  /-- GATED_DELIVERY (R44): At its due step a gated result is delivered, or the whole core stalls -/
  | gatedDelivery (c : Nat)
  /-- SCRATCHPAD_GRANT (R96): A bank grants a waiting word in the first slot of its class -/
  | scratchpadGrant (c b : Nat) (ecc : Ecc)
  /-- EXTERNAL_WRITE (R98): Arriving DMA or fabric bytes are written into an open window in external slots -/
  | externalWrite (c b : Nat)
  /-- POSTED_PERFORMED (R139): A posted operation is performed at its target and frees its queue entry -/
  | postedPerformed (c : Nat) (issue : W64)
  /-- MMA_DISPATCH (R105): A queued MMA dispatches once its set and the engine allow -/
  | mmaDispatch (c e : Nat)
  /-- FEEDER_FETCH (R106): The feeder fetches one operand word from its slot's bank -/
  | feederFetch (c e : Nat)
  /-- ARRAY_STEP (R102): The array delivers products into windows and spill queues when its slab is present -/
  | arrayStep (c e : Nat)
  /-- SPILL_RETIRE (R110): The LAU retires up to 16 spill queue entries per engine into spill entries -/
  | spillRetire (c e : Nat)
  /-- WFLUSH_DISPATCH (R111): A queued WFLUSH starts once the set has no array steps left -/
  | wflushDispatch (c e : Nat)
  /-- WFLUSH_COMPLETE (R116): The last flush step compares elements with checker sums -/
  | wflushComplete (c e : Nat)
  /-- RSTORE_DISPATCH (R112): A queued RSTORE starts rounding 16 elements per step after a passed check -/
  | rstoreDispatch (c e : Nat)
  /-- XSTORE_DISPATCH (R113): A queued XSTORE starts encoding 16 elements per step -/
  | xstoreDispatch (c e : Nat)
  /-- RESULT_WORD_WRITE (R112): A completed result word is written in a result-class slot of its bank -/
  | resultWordWrite (c b : Nat)
  /-- ENGINE_OP_DISPATCH (R151): A queued SPGET, SPADD or MCLR dispatches when its condition holds -/
  | engineOpDispatch (c e : Nat)
  /-- LOGICAL_CORE_END (R174): A logical core ends when all threads are halted or excepted and nothing is outstanding -/
  | logicalCoreEnd (c : Nat)
  /-- REPEAT_COMPLETE (R408): A classification repeat finishes its flush and check -/
  | repeatComplete (c : Nat)
  /-- TRANSLATE_ACCESS (R192): The MMU translates an access from its buffer or by a page walk -/
  | translateAccess (id : Nat) (hit : Bool)
  /-- FAULT_RETRY (R199): Kiln firmware resolves a fault record by walking again -/
  | faultRetry (tag : Nat)
  /-- FAULT_REFUSE (R199): Kiln firmware resolves a fault record by failing its accesses -/
  | faultRefuse (tag : Nat)
  /-- FAULT_TIMEOUT (R199): An unresolved record resolves as REFUSE after FTMO ms -/
  | faultTimeout (tag : Nat)
  /-- MMU_TW_GO (R194): Starts a table-writer write or copy of page-table entries -/
  | mmuTwGo (v : W32)
  /-- TABLE_WRITER_DONE (R194): The table writer finishes and removes stale translations, clearing BUSY -/
  | tableWriterDone (readOk : Bool)
  /-- DMA_UNIT_WRITE (R202): A DMA engine writes its next unit after translating it -/
  | dmaUnitWrite (i : Nat) (hit hostErr : Bool)
  /-- DMA_TRANSFER_COMPLETE (R201): A transfer finishes or stops and the engine takes the next queued one -/
  | dmaTransferComplete (i : Nat)
  /-- DRAM_SLOT (R184): A memory controller performs one slot-table action per pseudo-channel -/
  | dramSlot (stack pc : Nat) (code : SlotCode) (ecc : Ecc)
  /-- DRAM_EXACT_ADD_WRITE (R187): The result of a DRAM exact-add is written at least 24 slots after its read -/
  | dramExactAddWrite (stack pc : Nat)
  /-- RMW_WRITE (R601): A partial write merges its bytes and writes the word at least 24 slots after its read -/
  | rmwWrite (stack pc : Nat)
  /-- INIT_FILL (R600): Each controller writes every word with a fill word at reset or L4 exit -/
  | initFill (k : Nat)
  /-- TNT_PREEMPT_SAVE (R204): Starts pre-emption of an ACTIVE saggar into its save area -/
  | tntPreemptSave (sg : Nat)
  /-- PREEMPT_SAVE_COMPLETE (R204): After save and scrub, the clusters are released and the saggar is SAVED -/
  | preemptSaveComplete
  /-- TNT_PREEMPT_RESTORE (R208): Restores a SAVED saggar onto bound clusters -/
  | tntPreemptRestore (sg : Nat)
  /-- RESTORE_COMPLETE (R208): Images are read back, cores restart and the saggar becomes ACTIVE -/
  | restoreComplete
  /-- FLR (R211): A Function Level Reset stops and snuffs a function's work within 100 ms -/
  | flr (f : Nat)
  /-- DB_SQ_TAIL (R219): Host writes a new submission tail for a stream -/
  | dbSqTail (n : Nat) (v : W32)
  /-- DB_CQ_HEAD (R219): Host writes a new completion head for a stream -/
  | dbCqHead (n : Nat) (v : W32)
  /-- STM_EN_SET (R221): Enables a stream after checking its context, or starts a RECOVER stream -/
  | stmEnSet (n : Nat)
  /-- STM_EN_CLEAR (R221): Disables a STOPPED or HALTED stream with nothing in flight -/
  | stmEnClear (n : Nat)
  /-- STM_FLUSH (R241): Takes written slots, posts FLUSHED and stops the stream -/
  | stmFlush (n : Nat)
  /-- STM_RESUME (R225): Returns a STOPPED or HALTED stream to RUN -/
  | stmResume (n : Nat)
  /-- STM_SEQ_WRITE (R486): Sets the next accepted sequence number and retires the DONE cache -/
  | stmSeqWrite (n : Nat) (seq : BitVec 48)
  /-- TNT_FN_STRM_WRITE (R217): Assigns a function its range of streams -/
  | tntFnStrmWrite (f : Nat) (v : W32)
  /-- TNT_FN_PORT_WRITE (R252): Chooses the host port that carries a function -/
  | tntFnPortWrite (f : Nat) (v : W32)
  /-- DESCRIPTOR_FETCH (R224): The front end reads a descriptor and its lists and validates them -/
  | descriptorFetch (n : Nat) (hostErr : Bool) (badList : Option Nat)
  /-- PHASE_RECHECK (R242): A slot with invalid phase below the tail is read again every 1 µs -/
  | phaseRecheck (n : Nat)
  /-- ACCEPT_COMMIT (R482): The journal record is committed for an accepted item -/
  | acceptCommit (n bad lat : Nat)
  /-- NOP_ITEM (R222): An item of opcode NOP runs with no work -/
  | nopItem (n : Nat)
  /-- RUN_ITEM (R230): An item of opcode RUN starts by image lookup, argument checks and loading -/
  | runItem (n : Nat) (badList : Option Nat)
  /-- LOAD_ITEM (R243): An item of opcode LOAD copies, checks and binds a program image -/
  | loadItem (n : Nat) (badList : Option Nat)
  /-- UNLOAD_ITEM (R243): An item of opcode UNLOAD frees an image handle -/
  | unloadItem (n : Nat)
  /-- STEP_LIMIT_REACHED (R251): A logical core reaching the step limit stops the item with STEPLIMIT -/
  | stepLimitReached (n : Nat)
  /-- ITEM_CORES_ENDED (R230): Every logical core has ended and outputs are copied with CRC-64 -/
  | itemCoresEnded (n : Nat)
  /-- DONE_COMMIT (R485): After outputs reach the host port the DONE entry is committed and the record retired -/
  | doneCommit (n : Nat)
  /-- COALESCE_TIMEOUT (R239): TMO µs after the first counted completion an interrupt is requested -/
  | coalesceTimeout (n : Nat)
  /-- MSIX_MERGED_SEND (R239): Merged interrupt requests produce one message 1 µs after the last -/
  | msixMergedSend (f v : Nat)
  /-- BUDGET_WINDOW (R240): A new 100 µs window releases deferred completions and interrupts -/
  | budgetWindow (f : Nat)
  /-- DET_CTL_LOCK_WRITE (R253): Changes the determinism lock while every saggar is FREE -/
  | detCtlLockWrite (v : W32)
  /-- DET_LOG_CFG_WRITE (R259): Opens or closes a saggar's log and restarts a failed ring -/
  | detLogCfgWrite (sg : Nat) (v : W32)
  /-- DET_LOG_HEAD_WRITE (R262): Host advances the log ring head within the allowed range -/
  | detLogHeadWrite (sg : Nat) (v : W32)
  /-- LOG_TAIL_ADVANCE (R262): Records complete at the host port advance DET_LOG_TAIL -/
  | logTailAdvance (sg : Nat) (hostErr : Bool)
  /-- DET_RPL_GO (R265): Starts or continues the replay engine on a saggar -/
  | detRplGo (v : W32)
  /-- DET_RPL_ABORT (R272): Snuffs the stopped replay item and sets the engine IDLE -/
  | detRplAbort
  /-- REPLAY_ITEM (R267): The replay engine runs the next logged item and compares its DONE -/
  | replayItem (hostErr : Bool)
  /-- STOP_POINT_REACHED (R270): The replay stops at a core or thread stop point and writes the dump -/
  | stopPointReached (hit hostErr : Bool)
  /-- DET_TB_LO_READ (R58): Reading the timebase low word latches the high word -/
  | detTbLoRead
  /-- M_TIME_EXCHANGE (R54): Every 1 ms a module exchanges M_TIME with its parent and slews its offset -/
  | mTimeExchange
  /-- M_TIME (R391): An M_TIME request or reply is stamped and answered link-locally -/
  | mTime (w l sub exch : Nat) (t1 t2 t3 : W64) (mpkg hops : Nat)
  /-- TB_SYNC_TIMEOUT (R56): No M_TIME for 10 ms clears SYNCED and sets LOST -/
  | tbSyncTimeout
  /-- PPS_EDGE (R57): A 1PPS edge latches the timebase and steers the time master -/
  | ppsEdge (rising : Bool)
  /-- FAB_LNK_EN_WRITE (R278): Enables a link into DETECT or sends it to OFF -/
  | fabLnkEnWrite (w l : Nat) (v : W32)
  /-- RETRAIN (R280): A RETRAIN write forces the link from ACTIVE to DETECT -/
  | retrain (w l : Nat)
  /-- HWMCLR (R306): Clears every occupancy high-water mark of a link -/
  | hwmclr (w l : Nat)
  /-- SIGNAL_DETECT (R278): Signal on all four lanes for 100 µs moves a link to TRAIN -/
  | signalDetect (w l lanes : Nat)
  /-- TRAINING_FRAME (R279): A received training frame adjusts or answers equaliser requests -/
  | trainingFrame (w l : Nat) (ctl : W32) (far : Bool)
  /-- LINK_TIME_LIMIT (R278): A state exceeding its limit sets TRAINFAIL and waits 1 ms -/
  | linkTimeLimit (w l : Nat)
  /-- LINK_RESTART_DELAY (R278): The 1 ms wait after a failure ends and the link enters DETECT -/
  | linkRestartDelay (w l : Nat)
  /-- BLOCK_RECEIVE (R281): A received block is decoded, its cells taken in sequence and its control applied -/
  | blockReceive (w l : Nat) (b : Block)
  /-- REPLAY_TIMEOUT (R285): A cell unacknowledged for TMO µs triggers a replay -/
  | replayTimeout (panel : Bool) (a b : Nat)
  /-- CONFIG_RECORD (R286): Configuration records in CONFIG resume or freshly restart the link -/
  | configRecord (w l : Nat) (r : CfgRec)
  /-- LINK_LOSS (R280): LOS, UNC, RPLIM or CREDIT takes an ACTIVE link to DETECT -/
  | linkLoss (w l : Nat) (why : LossCause)
  /-- HOLD_EXPIRY (R286): After HOLD µs a down link drops its saved sequences -/
  | holdExpiry (w l : Nat)
  /-- PANEL_TRANSFER (R287): A panel link transfer is checked by CRC and taken or replayed -/
  | panelTransfer (a b : Nat) (bad : Bool) (cvc : Nat)
  /-- CELL_AGE_DISCARD (R293): A cell whose age reaches 4 ms is discarded and reported -/
  | cellAgeDiscard (node port pos : Nat)
  /-- MESSAGE_REASSEMBLED (R298): A complete message is checked and performed whole at its target -/
  | messageReassembled (d i : Nat) (hit : Bool)
  /-- RESPONSE_MATCH (R296): A response is matched by MSEQ and GEN or dropped as late -/
  | responseMatch (d i : Nat)
  /-- WHEEL_ROUTE (R315): A wheel chooses an adaptive or escape output for a cell each round -/
  | wheelRoute (w port pos : Nat)
  /-- OUTPUT_ARBITRATE (R329): An output picks the next cell by class, age and port -/
  | outputArbitrate (node out : Nat)
  /-- ECE_DECREASE (R332): A response with ECE lowers the NI's rate toward the package -/
  | eceDecrease (d pkg : Nat)
  /-- RATE_INCREASE (R332): Each AIINT µs without decrease raises the rate by AI -/
  | rateIncrease (d pkg : Nat)
  /-- M_ROUTE (R387): Writes routing entries into a bank, checking it on LAST -/
  | mRoute (w seq term : Nat) (ws : List Nat)
  /-- M_EPOCH (R327): Flips the current bank or epoch at a wheel agent or wick -/
  | mEpoch (ep seq term n : Nat)
  /-- DRAINED (R327): A wheel holding no cell of the old epoch reports DRAINED -/
  | drained (w : Nat)
  /-- EPOCH_RETIRE (R327): The kiln retires the DRAINING bank after acknowledgements and 4,100 µs -/
  | epochRetire (told : Bool)
  /-- COL_START_MERGE (R352): A node merges its children's STARTs and sends one upward -/
  | colStartMerge (node gn : Nat)
  /-- COL_DATA_REDUCE (R353): A node adds one value per child for an index and sends the sum -/
  | colDataReduce (node gn i : Nat)
  /-- COL_GO (R352): GO travelling down lets destination writes and ordered atomics proceed -/
  | colGo (node gn : Nat)
  /-- COL_DONE (R354): COL_DONE at a member completes its COLL delivery -/
  | colDone (node gn : Nat)
  /-- SIG_ADD (R342): Adds to a sync object and answers waits it satisfies -/
  | sigAdd (d i : Nat)
  /-- SIG_RESET (R342): Sets a sync object's counter to zero -/
  | sigReset (d i : Nat)
  /-- SIG_WAIT (R342): Answers or records a wait on a sync object -/
  | sigWait (d i : Nat)
  /-- SIG_POLL (R341): Returns a sync object's counter -/
  | sigPoll (d i : Nat)
  /-- SIG_CLOSE (R359): Answered once the counted ordered atomics of a phase have arrived -/
  | sigClose (d : Nat)
  /-- ORDERED_ATOMIC_PERFORM (R359): At GO the target performs held atomics in key order -/
  | orderedAtomicPerform (d sg : Nat) (hit : Bool)
  /-- ENUM_FRAME_RECEIVE (R365): Two identical valid frames give the module its chain position -/
  | enumFrameReceive (f : Nat)
  /-- ENUM_FRAME_SEND (R365): Every 32 µs the module sends the next position on ENUM_OUT -/
  | enumFrameSend
  /-- KLN_ENUM_CHAIN_WRITE (R366): Writes the chain number, numbering the head module -/
  | klnEnumChainWrite (c : BitVec 6)
  /-- HEAD_STRAP (R584): ENUM_IN high for 2 ms marks the module as head -/
  | headStrap
  /-- M_HELLO_LINK (R374): A LINK hello is exchanged and forwarded for discovery -/
  | mHelloLink (w l : Nat) (ws : List Nat)
  /-- HELLO_TIMER (R374): Every 1 ms a wheel agent sends M_HELLO on each active link -/
  | helloTimer (w l : Nat)
  /-- LIGHT (R398): The role lights a wick with term, FMSEQ and epoch -/
  | light (pkg ep first term act : Nat) (stby : Option Nat) (period epoch : Nat)
  /-- LIT (R398): A wick reports itself lit to the role -/
  | lit (pkg ep kind serial term fw : Nat)
  /-- JOIN (R402): A third-party endpoint declares its capacities to join -/
  | join (pkg w l : Nat) (j : JoinSt)
  /-- LSR (R376): A newer link-state part is kept and flooded onward -/
  | lsr (spkg origin part : Nat) (p : LsrPart)
  /-- LSR_REFRESH (R376): Every 100 ms a kiln refloods its link state -/
  | lsrRefresh
  /-- QUIET (R376): No LSR change for 2 ms makes the topology quiet -/
  | quiet
  /-- ELECTION (R378): On a quiet topology the kilns elect a pair or a solo candidate -/
  | election
  /-- TERMREQ (R379): A witness grants or denies a term request -/
  | termreq (t requester : Nat)
  /-- GRANT (R381): A granted kiln becomes SOLO or ACTIVE and sends TERM -/
  | grant (spkg term : Nat)
  /-- DENY (R381): A denied kiln becomes FOLLOWER or aborts a swap -/
  | deny (spkg : Nat)
  /-- WITNESS_RETRY (R382): A kiln with no witness repeats TERMREQ every 1 ms -/
  | witnessRetry
  /-- BEAT (R381): Every 100 µs the pair exchange a beat -/
  | beat (recv : Bool) (spkg : Nat)
  /-- BEAT_TIMEOUT (R381): No beat for FMTMO starts failover -/
  | beatTimeout
  /-- MIRROR (R380): The standby takes mirrored state and sends its copy of commands -/
  | mirror (spkg num term : Nat) (m : MirrorIn)
  /-- MACK (R380): The standby's acknowledgement lets the active kiln send a command -/
  | mack (spkg num : Nat)
  /-- SYNC (R383): A SOLO kiln copies its state to its partner, which becomes STANDBY -/
  | sync (copy : Option (Nat × RoleSt))
  /-- SWAP_TIMER (R384): Every SWAP minutes the active kiln offers the role or defers -/
  | swapTimer
  /-- SWAPNOW (R384): Host asks the active kiln to offer the role now -/
  | swapnow
  /-- HANDOVER (R384): The standby asks the witness for the next term -/
  | handover (spkg : Nat)
  /-- ABORT (R384): A failed swap lets the former active resume under its term -/
  | abort (spkg : Nat)
  /-- COMMAND_RESEND (R373): The role resends an unanswered command after 500 µs -/
  | commandResend (pkg ep seq : Nat)
  /-- WICK_TIMEOUT (R373): A wick silent for 10 ms is taken down -/
  | wickTimeout (pkg ep : Nat)
  /-- PACKAGE_LOST (R373): A package with every link down or a stale LSR is marked lost -/
  | packageLost (pkg : Nat)
  /-- RECOMP (R385): Host triggers a route recompute on the active kiln -/
  | recomp
  /-- RECOMPUTE (R386): After the hold the RCE computes every bank of every plane -/
  | recompute (us : Nat) (pps : List Nat)
  /-- RD32 (R399): A wick reads a register for the role -/
  | rd32 (ep seq term off : Nat)
  /-- WR32 (R399): A wick writes a register for the role -/
  | wr32 (ep seq term off : Nat) (v : W32)
  /-- TERM (R371): A wick adopts a newer term and the pair's packages -/
  | term (ep seq term act : Nat) (stby : Option Nat)
  /-- DOWN (R398): A wick returns to unlit and stops its die's sources -/
  | down (ep seq term : Nat)
  /-- SPMRD (R399): A compute wick reports a cluster's spare map -/
  | spmrd (ep seq term cl : Nat)
  /-- MLIST (R393): A CTL wick takes a slice member list and expands the rank table -/
  | mlist (seq term : Nat) (ws : List Nat)
  /-- GRPW (R396): Writes a collective group entry at a wheel agent or wick -/
  | grpw (ep seq term : Nat) (ws : List Nat)
  /-- SGREQ (R519): The lantern carves a slice-bound saggar for the role -/
  | sgreq (seq term : Nat) (ws : List Nat)
  /-- SGREL (R521): The lantern releases the saggar bound to a slice -/
  | sgrel (seq term : Nat) (ws : List Nat)
  /-- TPARENT (R391): Gives a module its time-tree parent link -/
  | tparent (seq term wheel link : Nat) (master : Bool) (hops mpkg : Nat)
  /-- RSP (R399): The role takes a wick's answer to a command -/
  | rsp (pkg ep : Nat) (ws : List Nat)
  /-- REPORT (R399): A wick reports a link or drain event to the active kiln -/
  | report (e : ReportEv)
  /-- RACK (R399): The kiln acknowledges a wick's report -/
  | rack (ep num : Nat)
  /-- SLICE_CREATE (R393): Creates a slice with its saggars, rank table and fence group -/
  | sliceCreate (c : Nat) (hostErr : Bool)
  /-- SLICE_DESTROY (R392): Destroys a slice and releases its saggars -/
  | sliceDestroy (c : Nat)
  /-- SLICE_RECARVE (R393): Re-creates a slice under its tag with the same rank count -/
  | sliceRecarve (c : Nat) (hostErr : Bool)
  /-- GROUP_CREATE (R396): Creates a collective group and lays its tree -/
  | groupCreate (c : Nat) (hostErr : Bool)
  /-- GROUP_DESTROY (R392): Destroys a collective group -/
  | groupDestroy (c : Nat)
  /-- M_SNUFF (R397): A member takes a snuff of a slice into its wicks' snuff masks -/
  | mSnuff (spkg slice origin number reason : Nat)
  /-- SNUFF_ORIGIN (R462): An origin kiln snuffs a slice locally and sends M_SNUFF to members -/
  | snuffOrigin
  /-- RST_SNUFF_GO (R465): Host makes this kiln the origin of a snuff -/
  | rstSnuffGo (slice : Nat)
  /-- SETTLE_END (R464): When settle ends and the slice is ready its items rerun -/
  | settleEnd (job : Nat)
  /-- PILOT_SEND (R453): Each pilot period a wick evaluates hangs and sends M_PILOT -/
  | pilotSend (ep : Nat)
  /-- M_PILOT (R455): The watcher counts a pilot as good or missed -/
  | mPilot (ep : Nat) (lit sick : Bool) (mask : BitVec 256)
  /-- PILOT_PERIOD_MISS (R455): A period ending without a pilot counts a miss -/
  | pilotPeriodMiss (ep : Nat)
  /-- RUNG_CONTEXT_ABORT (R456): Rung 1 snuffs the jobs of hung contexts -/
  | rungContextAbort (ep : Nat)
  /-- ENGINE_RESET (R457): Rung 2 idles the engines of the named cores -/
  | engineReset (ep : Nat)
  /-- SAGGAR_FLUSH (R458): Rung 3 discards a saggar's contexts on the die and scrubs -/
  | saggarFlush (ep : Nat)
  /-- RUNG_DIE_RESET (R456): Rung 4 starts a die reset -/
  | rungDieReset (ep : Nat)
  /-- POWER_CYCLE (R460): Stops streams, snuffs jobs, completes the journal record and asserts PWRCYC_REQ_N -/
  | powerCycle
  /-- DIE_RESET (R468): Starts a compute die reset after its hold-off -/
  | dieReset (d : Nat)
  /-- EMBER_DONE (R466): The ember is written and the reset continues with snuff and controller stop -/
  | emberDone (d : Nat)
  /-- EMBER_ABANDON (R468): An ember unfinished at 5 ms is abandoned with INC set -/
  | emberAbandon (d : Nat)
  /-- RESET_HOLD_RELEASE (R468): After 100 µs the reset releases, GEN advances and alignment repeats -/
  | resetHoldRelease (d : Nat)
  /-- DIE_SELF_TEST (R594): The die self-test completes and the die comes UP, retires, goes OFF or is fenced -/
  | dieSelfTest (d : Nat) (bad : List (Nat × Nat)) (dieBad : Bool)
  /-- DIE_RESET_TIMEOUT (R469): A die not UP CYC ms after step 1 fails the reset -/
  | dieResetTimeout (d : Nat)
  /-- RST_DIE_RESET (R468): Host requests a reset of a die -/
  | rstDieReset (d : Nat)
  /-- RST_DIE_FENCE (R473): Host requests a fence of a die -/
  | rstDieFence (d : Nat)
  /-- CORE_FENCE (R471): A core is frozen, its job snuffed and its slot moved to a spare -/
  | coreFence (c : Nat)
  /-- DIE_FENCE (R473): A die's compute domain is held in reset and slices re-carved or remapped -/
  | dieFence (d : Nat)
  /-- WHEEL_FENCE (R474): A wheel's links are disabled and NIs move to another wheel index -/
  | wheelFence (w : Nat)
  /-- QUANTUM_SWITCH (R475): A time-shared core switches logical core at its quantum -/
  | quantumSwitch (c : Nat)
  /-- YIELD_SWITCH (R475): A time-shared core switches after YIELD µs of stall -/
  | yieldSwitch (c : Nat)
  /-- RST_RET_VAL_CLR (R472): Clears a fence retirement, making the position a spare -/
  | rstRetValClr
  /-- RST_EMB_CTL_GO (R467): Copies a selected ember to host memory -/
  | rstEmbCtlGo
  /-- KILN_LOCKSTEP_FAULT (R364): A lockstep disagreement stops both kiln pairs -/
  | kilnLockstepFault
  /-- KILN_RESTART (R461): The lantern restarts the kiln pairs without a role -/
  | kilnRestart
  /-- SPARE_MOVE (R491): A failing MRAM block is moved to a spare -/
  | spareMove (blk count : Nat)
  /-- PWRFAIL_ASSERT (R487): PWRFAIL_N stops fetching and brings the journal to a clean stop -/
  | pwrfailAssert
  /-- PWRFAIL_RELEASE (R552): PWRFAIL_N released with input present sets PFREL -/
  | pwrfailRelease
  /-- PFREL_CYCLE (R552): 10 ms after release the device requests a power cycle -/
  | pfrelCycle
  /-- INPUT_UNDERVOLT (R550): Input below 40 V for 10 µs counts as PWRFAIL_N -/
  | inputUndervolt
  /-- INPUT_OVERVOLT (R552): Input above 58 V for 10 µs raises RAIL -/
  | inputOvervolt (on : Bool)
  /-- RAIL_OUT_OF_LIMITS (R552): A rail outside ±3 % for 20 µs raises RAIL -/
  | railOutOfLimits (rail : Nat) (on : Bool)
  /-- JOURNAL_RECOVERY (R490): At module reset every used stream is rebuilt from the journal -/
  | journalRecovery (bad : List Nat)
  /-- REC (R498): A twin prepares and commits a received journal record -/
  | recCell (spkg : Nat) (r : JRec)
  /-- JRNL_ACK (R500): An ACK commits a waiting record or settles a DUAL comparison -/
  | jrnlAck (spkg n seq kind status : Nat)
  /-- JRNL_DONE (R502): A twin takes a DONE entry and compares it for divergence -/
  | jrnlDone (spkg n : Nat) (c : Cpl)
  /-- JRNL_STATE (R494): A twin's stream state is taken for fetch conditions -/
  | jrnlState (spkg n seq mode state : Nat)
  /-- JRNL_BEAT (R504): Every 100 µs a member sends a pairing beat -/
  | jrnlBeat
  /-- QUERY (R504): A twin answers whether it holds a record committed, done or absent -/
  | query (spkg n seq : Nat)
  /-- SYNCREQ (R507): Starts a rejoin transfer into the other member -/
  | syncreq (spkg : Nat)
  /-- SYNCEND (R507): Ends a rejoin and makes the receiver the holder -/
  | syncend (spkg count : Nat)
  /-- JRNL_RESEND (R504): An unacknowledged M_JRNL cell is resent after 1 ms -/
  | jrnlResend (i : Nat)
  /-- TWINLOST (R505): No M_JRNL for TMO ms marks the twin lost -/
  | twinlost
  /-- SOLO (R506): The module leaves the pair and runs twinned streams alone -/
  | solo
  /-- REJOIN (R507): A SOLO member restores the pair by transferring its journal -/
  | rejoin
  /-- SG_CREATE (R519): The lantern carves a saggar and loads its key -/
  | sgCreate (c : Nat)
  /-- SG_DESTROY (R521): The lantern releases an unbound saggar and erases its key -/
  | sgDestroy (c : Nat)
  /-- REKEY (R527): Loads a new key version and drains the old one -/
  | rekey (c : Nat)
  /-- ZEROISE (R527): Zeroes a saggar's or every key and ends accepted items with KEYLOSS -/
  | zeroise (c : Nat)
  /-- PKEY_UPDATE (R530): Writes a signed new persistent key bank -/
  | pkeyUpdate (c : Nat) (hostErr : Bool)
  /-- FW_UPDATE (R512): Writes a verified bundle and selects it for next reset -/
  | fwUpdate (c : Nat) (hostErr : Bool)
  /-- SVN_COMMIT (R512): Burns the running bundle's SVN into fuses -/
  | svnCommit (c : Nat)
  /-- KEY_DRAIN_ERASE (R526): A draining version with no outstanding requests is erased -/
  | keyDrainErase (sg : Nat)
  /-- TNT_SG_BIND_WRITE (R517): Prepares a FREE saggar with its function -/
  | tntSgBindWrite (n : Nat) (v : W32)
  /-- GET_VERSION (R514): SPDM request answered with the supported version -/
  | getVersion (f : Nat)
  /-- GET_CAPABILITIES (R514): SPDM request answered with capabilities -/
  | getCapabilities (f : Nat)
  /-- NEGOTIATE_ALGORITHMS (R514): SPDM algorithm negotiation -/
  | negotiateAlgorithms (f : Nat)
  /-- GET_DIGESTS (R514): SPDM request for certificate digests -/
  | getDigests (f : Nat)
  /-- GET_CERTIFICATE (R514): SPDM request for the slot 0 certificate chain -/
  | getCertificate (f slot off len : Nat)
  /-- CHALLENGE (R514): SPDM challenge signed with the alias key -/
  | challenge (f slot : Nat) (nonce : List Byte)
  /-- GET_MEASUREMENTS (R513): SPDM request for the measurement indices -/
  | getMeasurements (f op : Nat)
  /-- KEY_EXCHANGE (R514): SPDM key exchange opening a secured session -/
  | keyExchange (f : Nat) (req : List Byte)
  /-- FINISH (R514): SPDM finish completing a session -/
  | finish (f id : Nat) (macOk : Bool)
  /-- HEARTBEAT (R514): SPDM session heartbeat -/
  | heartbeat (f id : Nat)
  /-- KEY_UPDATE (R514): SPDM session key update -/
  | keyUpdate (f id op : Nat)
  /-- END_SESSION (R514): SPDM end of a secured session -/
  | endSession (f id : Nat)
  /-- IDE_KM (R533): Sets IDE stream keys within a secured session -/
  | ideKm (f id port strm : Nat) (set1 : Bool)
  /-- RECOVERY_BUNDLE (R511): In RECOVERY the ROM takes a signed bundle over I3C into bundle A -/
  | recoveryBundle (b : List Byte)
  /-- MBX_BIND (R537): Binds or unbinds a mailbox channel's two parties -/
  | mbxBind (c : Nat) (v : W32)
  /-- MBX_LOCK (R538): Locks a channel's binding until module reset -/
  | mbxLock (hi : Bool) (v : W32)
  /-- MBX_PAY_WRITE (R541): A party writes a payload word when allowed -/
  | mbxPayWrite (c k mid : Nat) (v : W32)
  /-- MBX_DB_SET (R541): A sets pending bits, making the channel BUSY -/
  | mbxDbSet (c mid : Nat) (v : W32)
  /-- MBX_DB_PEND (R541): B clears pending bits -/
  | mbxDbPend (c mid : Nat) (v : W32)
  /-- MBX_DB_MASK (R544): B writes the mask, interrupting on unmasked pending bits -/
  | mbxDbMask (c mid : Nat) (v : W32)
  /-- MBX_ACK_CODE (R541): B writes CODE, sets VALID and frees the channel -/
  | mbxAckCode (c mid code : Nat)
  /-- MBX_ACK_VALID_CLEAR (R541): A clears VALID -/
  | mbxAckValidClear (c mid : Nat)
  /-- PARTY_LOST (R545): The hub ends a message for a lost party -/
  | partyLost (mid : Nat)
  /-- SHERD_EXPORT (R547): The lantern writes sherds as CPER records to host memory -/
  | sherdExport (c : Nat) (hostErr : Option Nat)
  /-- ERROR_LINE_FRAME (R432): The collector takes an event frame from a die's error line -/
  | errorLineFrame (die : Nat) (frame : BitVec 16)
  /-- LINE_FAULT (R433): A bad line raises LINE and reads the wick's pending set -/
  | lineFault (die : Nat) (stuck present : Bool)
  /-- FAULT_EVENT (R430): An event is counted, captured and acted on by its severity -/
  | faultEvent (ctl : Option Nat) (detail : Bool)
  /-- SRAM_WRITEBACK (R415): The corrected word is written back in the next slot -/
  | sramWriteback (c b : Nat)
  /-- DETAIL_TIMEOUT (R436): Missing detail after 1 ms sets NODETAIL -/
  | detailTimeout
  /-- FLT_SRC_STAT_CLEAR (R438): Clears a source status bit and its count unless LIVE -/
  | fltSrcStatClear (w : Nat) (v : W32)
  /-- CAPV_CLEAR (R437): Clears the first-error capture -/
  | capvClear
  /-- FLT_INJ_GO (R439): Arms one check-bit injection at a source's checker -/
  | fltInjGo (v : W32)
  /-- HALT_CHANNEL_CHANGE (R440): A filtered halt channel changes level, starting or ending a disagreement -/
  | haltChannelChange (b on : Bool)
  /-- HALT_DISC (R441): A disagreement lasting TDISC raises HALT_DISC -/
  | haltDisc
  /-- HALT_ASSERT (R442): Both channels asserted halt the module and snuff its jobs -/
  | haltAssert
  /-- HALT_RELEASE (R443): Both channels deasserted end the halt -/
  | haltRelease
  /-- HALT_RESUME (R443): 10 ms after release streams resume fetching -/
  | haltResume
  /-- MGP_FRAME_RECEIVE (R444): A management frame is checked whole and taken or dropped -/
  | mgpFrameReceive (b : List Byte) (fcsOk : Bool)
  /-- KMP_ACK (R447): An ACK releases a held REPORT or SHERD -/
  | kmpAck
  /-- KMP_RESEND (R447): Unacknowledged messages are resent every 100 ms -/
  | kmpResend (seq : Nat)
  /-- TELEM (R448): Every TPER seconds a telemetry message is sent -/
  | telem
  /-- PATCHUNK (R449): Stages a pattern set chunk and answers PATACK -/
  | patchunk
  /-- PATTERN_STAGE_TIMEOUT (R449): A staged set idle for 10 minutes is discarded -/
  | patternStageTimeout
  /-- KMP_TERMREQ (R450): The kiln sends a term request to a tray witness -/
  | kmpTermreq
  /-- KMP_GRANT (R450): A tray witness grant is taken for an outstanding request -/
  | kmpGrant
  /-- KMP_DENY (R450): A tray witness denial is taken for an outstanding request -/
  | kmpDeny
  /-- TRANSIENT_WINDOW (R414): A new transient window begins for the counts -/
  | transientWindow
  /-- FIELD_TEST_START (R420): The field tester starts patterns on the next eligible position -/
  | fieldTestStart (d : Nat)
  /-- FIELD_TEST_END (R421): A test passes or fails, clearing suspects or fencing -/
  | fieldTestEnd (d : Nat)
  /-- FIELD_TEST_ABORT (R422): Binding a tested cluster stops the test and scrubs -/
  | fieldTestAbort (d cl pos : Nat)
  /-- FTNOW (R428): Starts a field test round now -/
  | ftnow
  /-- TST_INJ_GO (R427): Arms a data or checker corruption of an engine set -/
  | tstInjGo (v : W32)
  /-- CAP_LOOP (R555): Every 100 µs the cap lowers or raises core rails -/
  | capLoop (pin vin : Nat)
  /-- THERMAL_THROTTLE (R556): A junction at 95 °C lowers its rail until 93 °C -/
  | thermalThrottle (d tj : Nat)
  /-- THERM (R556): A junction at 100 °C for 1 ms raises THERM -/
  | therm (d : Nat)
  /-- PWR_RAIL_VSET_WRITE (R554): Sets a die's core rail, slewed at 10 mV per µs -/
  | pwrRailVsetWrite (d v : Nat)
  /-- POWER_STATE_SELECT (R564): After IDLE µs the module moves to the deepest allowed state -/
  | powerStateSelect
  /-- WAKE_EVENT (R565): A wake event returns the module to L0 -/
  | wakeEvent (w : Wake)
  /-- PWR_LTR_WRITE (R562): A function writes its latency tolerance -/
  | pwrLtrWrite (f v : Nat)
  /-- PWR_PEER_TOL_WRITE (R563): Writes the fabric peers' tolerance -/
  | pwrPeerTolWrite (v : Nat)
  /-- PWR_CTL_WAKE (R565): A WAKE write is a wake event -/
  | pwrCtlWake
  /-- PWR_CTL_HOLD (R565): HOLD holds the module in L0 -/
  | pwrCtlHold (on : Bool)
  /-- PERST_ASSERT (R574): PERSTn_N resets a host port's functions -/
  | perstAssert (hp1 : Bool)
  /-- PERST_DEASSERT (R574): The port trains and answers configuration -/
  | perstDeassert (hp1 : Bool)
  /-- MRST_N (R590): MRST_N acts as PWRFAIL_N and resets the module -/
  | mrstN (low : Bool)
  /-- REFCLK_LOSS (R582): A lost reference raises RAIL -/
  | refclkLoss (on : Bool)
  /-- ENTDAA (R587): I3C dynamic address assignment -/
  | entdaa (a : BitVec 7)
  /-- SETNEWDA (R587): I3C new dynamic address -/
  | setnewda (a : BitVec 7)
  /-- RSTDAA (R587): I3C reset of the dynamic address -/
  | rstdaa
  /-- GETPID (R587): I3C read of the provisional ID -/
  | getpid
  /-- GETBCR (R587): I3C read of the BCR -/
  | getbcr
  /-- GETDCR (R587): I3C read of the DCR -/
  | getdcr
  /-- GETSTATUS (R587): I3C status read -/
  | getstatus
  /-- I3C_REGISTER_READ (R588): An I3C frame reads a BAR0 register -/
  | i3cRegisterRead (off : Nat) (pecOk : Bool)
  /-- I3C_REGISTER_WRITE (R588): An I3C frame writes an allowed register -/
  | i3cRegisterWrite (off : Nat) (v : W32) (pecOk : Bool)
  /-- MCTP_PACKET (R588): An I3C frame carries MCTP with SPDM or PLDM -/
  | mctpPacket (b : List Byte) (pecOk : Bool)
  /-- SGMII_AUTONEG (R589): The management link comes up only at 1000 Mb/s full duplex -/
  | sgmiiAutoneg (speed : Nat) (full : Bool)
  /-- START_UP (R593): From T0 the module runs the start-up sequence -/
  | startUp (n : Nat) (bad : List Nat) (badPos : List (Nat × Nat × Nat))
  /-- REGISTER_WRITE (R10): A write to a register with no row of its own is checked and stored -/
  | registerWrite (t : WriteTo) (v : W32)
  /-- CLUSTER_MEMORY_SERVE (R129): Each cluster-memory bank serves its oldest waiting request, ties by core number, including narrow or wide exact adds -/
  | clusterMemoryServe (d cl b : Nat) (ecc : Ecc)
  /-- HOST_PORT_LINK_DOWN (R216): A host port's PCIe link goes down and all traffic of the functions it carries waits -/
  | hostPortLinkDown (hp1 : Bool)
  /-- HOST_PORT_LINK_UP (R216): A host port's PCIe link returns and the waiting traffic of its functions resumes -/
  | hostPortLinkUp (hp1 : Bool)
  /-- PPS_LOST (R57): No valid 1PPS edge arrives within 1 µs after it was due, so PPS_SEEN clears and PPS_LOST is raised -/
  | ppsLost
  /-- SWAP_DEFER_RETRY (R384): Every 1 s while SWAPDEF is set, the active kiln tries the deferred swap again -/
  | swapDeferRetry
  /-- HANDOVER_TIMEOUT (R384): With no witness answer 10 ms after HANDOVER, the standby sends ABORT -/
  | handoverTimeout
  /-- JRNL_BEAT_RECEIVE (R493): A received M_JRNL BEAT naming this module moves PSTATE toward PAIRED and updates RUNNER and SOLO knowledge -/
  | jrnlBeatReceive (spkg pst : Nat) (runner solo : Bool) (named : Nat)
  /-- EMBER_COPY_DONE (R467): The ember copy to host memory finishes or fails, clearing BUSY and setting ERR on failure -/
  | emberCopyDone (hostErr : Bool)
  /-- MRST_N_RESET (R590): The module resets at the later of 2 ms after MRST_N assertion and the deassertion of MRST_N -/
  | mrstNReset
  deriving DecidableEq, Repr

end Sys2Proof
end

