-- ==== Sys2Proof/Config.lean ====
section
/-! DEFINITION. Config.lean: the values that the spec leaves open. Each is a constant without a body, so nothing can be proved
about which value it is; the assumption log names each. -/

namespace Sys2Proof.Config

/-- R600: what DRAM word `word` (DPA div 64) reads as under key `key` when nothing has been written to it since the init fill. -/
opaque fillWord (key word : Nat) : BitVec 512

/-- R522, R527: what word `word` with plaintext `data` under key `kw` reads as under another key `kr`. -/
opaque crossKey (kw kr word : Nat) (data : BitVec 512) : BitVec 512

/-- R509, R530: does an ECDSA P-384 signature (r, s) over `msg` verify under the public key `point`? -/
opaque ecdsaOk (point msg r s : List (BitVec 8)) : Bool

/-- R509: SHA-384. -/
opaque sha384 (msg : List (BitVec 8)) : List (BitVec 8)

/-- R511: does a bundle verify against the root key hash in fuses? -/
opaque bundleOk (bundle : List (BitVec 8)) : Bool

/-- R511: the SVN of a bundle's manifest, and the firmware version that its wicks report (R398). -/
opaque bundleSvn (bundle : List (BitVec 8)) : Nat
opaque bundleVersion (bundle : List (BitVec 8)) : Nat

/-- R511, R513: the measurement of image `index` (2 to 5) of a bundle. -/
opaque bundleDigest (index : Nat) (bundle : List (BitVec 8)) : List (BitVec 8)

/-- R513: the measurement of the lantern ROM. -/
opaque romDigest : List (BitVec 8)

/-- R510, R511: the device certificate chain that a running bundle yields, ending in the alias key. -/
opaque certChain (bundle : List (BitVec 8)) : List (BitVec 8)

/-- R514: what the lantern returns under the alias key for a request: nonces, key shares, signatures and MACs. -/
opaque aliasAnswer (bundle request : List (BitVec 8)) : List (BitVec 8)

/-- R426: byte `i` of the 200 bytes before the section body in the CPER record of a sherd, where neither R426 nor the layout that UEFI
gives fixes it. -/
opaque cperByte (sherd : List (BitVec 8)) (i : Nat) : BitVec 8

/-- R587: the status word that the I3C target answers to GETSTATUS, by the timebase: the spec gives no content. -/
opaque i3cStatus (tb : BitVec 64) : BitVec 16

end Sys2Proof.Config
end

