-- ==== Sys2Proof/Machine/Flags.lean ====
section
/-! DEFINITION. Machine/Flags.lean: the NV flag (spec/05 R169), the exception record and XOVF (R170 to R173),
and the thread step count (spec/03 R83). -/

namespace Sys2Proof.Machine

/-- The threads of a core: an unlisted one stands as the start of a context leaves it. -/
def threadDef (_ : Nat) : Thread := threadReset
def getThread (c : Core) (th : Nat) : Thread := tblGet threadDef c.threads th
def setThread (c : Core) (th : Nat) (x : Thread) : Core := { c with threads := tblSet threadDef c.threads th x }
def modThread (c : Core) (th : Nat) (f : Thread → Thread) : Core := setThread c th (f (getThread c th))

/-- R169: NV of thread `th` is set in the present step; it is seen from the next step on. -/
def scheduleNv (c : Core) (step : W64) (th : Nat) (nv : Bool) : Core :=
  if nv then { c with nvs := c.nvs ++ [(step, th)] } else c

/-- R169: the sets made in step `step` become visible. -/
def applyNv (c : Core) (step : W64) : Core :=
  let now := c.nvs.filter fun p => p.1 == step
  let c := { c with nvs := c.nvs.filter fun p => p.1 != step }
  now.foldl (fun c p => modThread c p.2 fun t => { t with nv := true }) c

/-- R170, R172: a thread takes an exception: it enters EXC with its record, or sets XOVF when it is already there. -/
def takeException (t : Thread) (cause : Nat) (xpc xinfo : W64) : Thread :=
  match t.st with
  | .exc => { t with xovf := true }
  | _ => { t with st := .exc, xcause := BitVec.ofNat 8 cause, xpc := xpc, xinfo := xinfo }

/-- Table 19 of spec/05: the exception causes. -/
def xIllegal : Nat := 1
def xMisaligned : Nat := 2
def xAddress : Nat := 3
def xOpenWindow : Nat := 4
def xDescriptor : Nat := 5
def xRange : Nat := 6
def xAccess : Nat := 7
def xBreak : Nat := 8

/-- R83: one more step in which the thread issued an operation. -/
def countIssue (t : Thread) : Thread := { t with count := t.count + 1 }

/-- R144 Table 6: the state code that TCTL returns. -/
def stateCode (s : ThState) : Nat :=
  match s with
  | .run => 0 | .halt => 1 | .exc => 2

/-- R173, R144: RESUME. A target in RUN is left unchanged. -/
def resumeThread (t : Thread) (pc : W64) : Thread :=
  match t.st with
  | .run => t
  | _ => { t with st := .run, pc := pc, xovf := false, waitStep := none, branchAt := none }

/-- R144: STOP. A target in EXC is left unchanged. -/
def stopThread (t : Thread) : Thread :=
  match t.st with
  | .exc => t
  | _ => { t with st := .halt }

/-- R171: among the failing checks of an operation the lowest code is recorded; the first of that code. -/
def lowestCheck : List (Nat × W64) → Option (Nat × W64)
  | [] => none
  | x :: xs =>
    match lowestCheck xs with
    | none => some x
    | some y => if x.1 ≤ y.1 then some x else some y

end Sys2Proof.Machine
end

