-- ==== Sys2Proof/Machine/Operands.lean ====
section
/-! DEFINITION. Machine/Operands.lean: operand forms of the operation word (spec/05 R134, R135, R141, R145, R148, R149,
R159), core addresses (spec/06 R175 to R178), and the register interlock of R137. -/

namespace Sys2Proof.Machine

/-- R134: the word of an operation code and its fields. -/
def opEncode (op : Nat) (w : OpWord) : W64 :=
  BitVec.ofNat 64 (op <<< 56 + w.dst.toNat <<< 51 + w.sa.toNat <<< 46 + w.sb.toNat <<< 41 + w.sc.toNat <<< 36
    + w.md.toNat <<< 32 + w.imm.toNat)

/-- R134: operation code and fields of a word. -/
def opDecode (x : W64) : Nat × OpWord :=
  ((x.extractLsb' 56 8).toNat,
   { dst := x.extractLsb' 51 5, sa := x.extractLsb' 46 5, sb := x.extractLsb' 41 5, sc := x.extractLsb' 36 5,
     md := x.extractLsb' 32 4, imm := x.extractLsb' 0 32 })

/-- What a core sees of the module when one of its operations issues. -/
structure Ctx where
  /-- DET_CTL.LOCK -/
  lock : Bool
  die : Nat
  cl : Nat
  /-- the saggar's cluster map (R176): logical cluster to die and cluster -/
  clmap : Nat → Option (Nat × Nat)
  /-- a place in the thread queue of the core's DMA engine is free (R201) -/
  dmaFree : Bool
  /-- the group that a COLL handle names, when the issuing logical core is a member of it: number of members, whether this
  member is the root, and whether it is the fence group (R346, R354, R356) -/
  group : W64 → Option (Nat × Bool × Bool)

/-! ### Registers -/

/-- R91: s0 reads 0. -/
def readS (t : Thread) (n : BitVec 5) : W64 := if n = 0#5 then 0#64 else tblGet (fun _ => 0#64) t.s n.toNat
def readV (t : Thread) (n : BitVec 5) : BitVec 2048 := tblGet (fun _ => 0#2048) t.v n.toNat
def readT (t : Thread) (n : BitVec 5) : BitVec 128 := tblGet (fun _ => 0#128) t.t n.toNat
def readLn (c : Core) (n : Nat) : LongReg := tblGet (fun _ => lrZero) c.ln n

/-- R91: writes to s0 are discarded. -/
def writeS (t : Thread) (n : Nat) (v : W64) : Thread :=
  if n = 0 then t else { t with s := tblSet (fun _ => 0#64) t.s n v }
def writeV (t : Thread) (n : Nat) (x : BitVec 2048) : Thread := { t with v := tblSet (fun _ => 0#2048) t.v n x }
def writeT (t : Thread) (n : Nat) (hi : Bool) (x : W64) : Thread :=
  let old := tblGet (fun _ => 0#128) t.t n
  let new : BitVec 128 := if hi then x ++ old.extractLsb' 0 64 else old.extractLsb' 64 64 ++ x
  { t with t := tblSet (fun _ => 0#128) t.t n new }

/-- Writes a result into the register it is for. -/
def writeReg (c : Core) (th : Nat) (r : RegVal) : Core :=
  match r with
  | .s n v => modThread c th fun t => writeS t n v
  | .v n x => modThread c th fun t => writeV t n x
  | .t n hi x => modThread c th fun t => writeT t n hi x
  | .ln n x => { c with ln := tblSet (fun _ => lrZero) c.ln n x }

/-- Lane `l` of a vector. -/
def lane (v : BitVec 2048) (l : Nat) : W32 := v.extractLsb' (32 * l) 32

/-- A vector from its 64 lanes. -/
def lanesFrom (n : Nat) (f : Nat → W32) : Nat :=
  match n with
  | 0 => 0
  | k + 1 => lanesFrom k f + (f k).toNat <<< (32 * k)
def ofLanes (f : Nat → W32) : BitVec 2048 := BitVec.ofNat 2048 (lanesFrom 64 f)

/-- The lane numbers. -/
def laneIdx : List Nat := List.range 64

/-! ### The interlock of R137 -/

def regOf (r : RegVal) : RegName :=
  match r with
  | .s n _ => .s n
  | .v n _ => .v n
  | .t n _ _ => .t n
  | .ln n _ => .ln n

def loadDest (k : LoadKind) : RegName :=
  match k with
  | .scalar d _ _ _ => .s d
  | .vector d _ _ => .v d
  | .long d => .ln d
  | .gather d _ _ => .v d

def gatedDest (k : GKind) : RegName :=
  match k with
  | .load k => loadDest k
  | .scalar d => .s d
  | .fence d _ => .s d

/-- Does an earlier operation still have to write `r`? LN registers belong to the core, the others to their thread. -/
def regBusy (c : Core) (th : Nat) (r : RegName) : Bool :=
  let mine (t : Nat) : Bool := match r with
    | .ln _ => true
    | _ => t == th
  c.writes.any (fun w => mine w.thread && regOf w.val == r)
  || c.loads.any (fun l => mine l.thread && loadDest l.kind == r)
  || c.gated.any (fun g => mine g.thread && gatedDest g.kind == r)
  || c.eng.any (fun e => e.queue.any fun o => match o.kind with
      | .spget ln _ => r == .ln ln
      | _ => false)

/-! ### Operand forms -/

/-- R141: operand b: sB, or IMM sign-extended when MOD[0] is set. -/
def operandB (t : Thread) (w : OpWord) : W64 := if w.md.getLsbD 0 then w.imm.signExtend 64 else readS t w.sb

/-- R141: the fields that the form of b leaves unused, and MOD[3:1], must be 0. -/
def badB (w : OpWord) : Bool :=
  w.sc != 0 || bits w.md.toNat 3 1 != 0 || (if w.md.getLsbD 0 then w.sb != 0 else w.imm != 0)

/-- Which fields an operation uses (R135): the rest must be 0. -/
structure Uses where
  dst : Bool := false
  sa : Bool := false
  sb : Bool := false
  sc : Bool := false
  md : Bool := false
  imm : Bool := false

/-- R135: a non-zero unused field. -/
def badUnused (u : Uses) (w : OpWord) : Bool :=
  (!u.dst && w.dst != 0) || (!u.sa && w.sa != 0) || (!u.sb && w.sb != 0) || (!u.sc && w.sc != 0)
  || (!u.md && w.md != 0) || (!u.imm && w.imm != 0)

/-- R135: a vector or tile register field has two unused upper bits; a long register field has one. -/
def bad8 (f : BitVec 5) : Bool := decide (8 ≤ f.toNat)
def bad16 (f : BitVec 5) : Bool := decide (16 ≤ f.toNat)

/-- R145: sA + IMM sign-extended. -/
def effAddr (t : Thread) (w : OpWord) : W64 := readS t w.sa + w.imm.signExtend 64

/-- R143: PC + IMM sign-extended times 8. -/
def branchTarget (pc : W64) (w : OpWord) : W64 := pc + (w.imm.signExtend 64 <<< 3)

/-! ### Core addresses -/

/-- R175: the region of one byte. -/
def regionByte (x : Ctx) (a : Nat) : Option Region :=
  if a < 0x200000 then some (.spad a)
  else if 0x200000000 ≤ a && a < 0x400000000 then
    let o := a - 0x200000000
    (x.clmap (o >>> 25)).map fun p => .cluster p.1 p.2 (o % 2 ^ 25)
  else if 0x1000000000000 ≤ a && a < 0x2000000000000 then some (.tenant (a % 2 ^ 48))
  else if 2 ^ 63 ≤ a && a < 2 ^ 64 then some (.host (a % 2 ^ 63))
  else none

/-- R176: the unit that an extent may not leave: a region, each logical cluster being one. -/
def regionTag (a : Nat) : Nat :=
  if a < 0x200000 then 0
  else if 0x200000000 ≤ a && a < 0x400000000 then 1 + (a - 0x200000000) >>> 25
  else if 0x1000000000000 ≤ a && a < 0x2000000000000 then 1000
  else if 2 ^ 63 ≤ a && a < 2 ^ 64 then 1001
  else 1002

/-- R175: the region of an extent of `n` bytes; `none` raises ADDRESS. -/
def regionOf (x : Ctx) (a : W64) (n : Nat) : Option Region :=
  let last := a.toNat + (n - 1)
  if regionTag a.toNat = regionTag last then regionByte x a.toNat else none

/-- R176: the access class of a region as core (die, cluster) sees it. -/
def classOf (x : Ctx) (r : Region) : AccClass :=
  match r with
  | .spad _ => .ownCluster
  | .cluster d c _ => if d = x.die then (if c = x.cl then .ownCluster else .sameDie) else .otherDie
  | .tenant _ => .dram
  | .host _ => .dmaDone

/-- Position of a class in Table 4 of spec/02. -/
def classIdx (k : AccClass) : Nat :=
  match k with
  | .ownCluster => 0 | .sameDie => 1 | .otherDie => 2 | .dram => 3 | .fabric => 4 | .syncWait => 5 | .dmaDone => 6 | .timebase => 7

/-- R47: the due latency that the image gives a class. -/
def dueOf (c : Core) (k : AccClass) : Nat := listGet c.due (classIdx k) 0

/-- Do two byte ranges meet? -/
def overlaps (a n b m : Nat) : Bool := decide (a < b + m) && decide (b < a + n) && decide (0 < n) && decide (0 < m)

/-- R99: does a range of the scratchpad touch an open window? -/
def touchesWindow (c : Core) (a n : Nat) : Bool := c.wins.any fun w => overlaps a n w.base w.size

/-! ### Tile descriptors -/

/-- R148: the fields of a descriptor. -/
def tileOf (x : BitVec 128) : TileDesc :=
  let v := x.toNat
  { base := bits v 20 0, scale := bits v 52 32, tscale := bits v 71 64, fmt := bits v 75 72, role := bits v 76 76,
    k := bits v 93 80, pitch := bits v 111 96 }

/-- R148: a reserved field that is not 0. -/
def tileReserved (x : BitVec 128) : Bool :=
  let v := x.toNat
  bits v 31 21 != 0 || bits v 63 53 != 0 || bits v 79 77 != 0 || bits v 95 94 != 0 || bits v 127 112 != 0

/-- R149: bytes of a row (A) or column (B). -/
def tileRowBytes (d : TileDesc) : Nat := d.k * ((fmtOfCode d.fmt).map fmtWidth).getD 0 / 8
/-- Rows of A or columns of B. -/
def tileLines (d : TileDesc) : Nat := if d.role = 0 then 16 else 32
/-- Bytes from BASE to the end of the operand. -/
def tileExtent (d : TileDesc) : Nat := (tileLines d - 1) * d.pitch + tileRowBytes d
/-- R149: bytes of the block scales, 0 without them. -/
def tileScaleExtent (d : TileDesc) : Nat :=
  match fmtOfCode d.fmt with
  | some f => if fmtIsMx f then tileLines d * (d.k / 32) else 0
  | none => 0

/-- R150: does a descriptor in place `role` fail its own checks? -/
def tileBad (x : BitVec 128) (role : Nat) : Bool :=
  let d := tileOf x
  match fmtOfCode d.fmt with
  | none => true
  | some f =>
    tileReserved x || f == .int32 || decide (d.k < 32) || decide (8192 < d.k) || d.k % 32 != 0 || d.role != role
    || d.base % 64 != 0 || d.scale % 64 != 0 || d.pitch % 64 != 0 || decide (d.pitch < tileRowBytes d)
    || (!fmtIsMx f && d.scale != 0) || (!fmtIsPlain8 f && d.tscale != 0)
    || decide (0x200000 < d.base + tileExtent d) || decide (0x200000 < d.scale + tileScaleExtent d)

/-- R103: may the formats of A and B be combined? -/
def pairOk (fa fb : Fmt) : Bool :=
  match fa, fb with
  | .int8, .int8 => true
  | .mxInt8, .mxInt8 => true
  | .int8, _ => false
  | _, .int8 => false
  | .mxInt8, _ => false
  | _, .mxInt8 => false
  | _, _ => true

/-! ### Indexed operands (R159) -/

/-- The stride of an indexed operation: IMM, or IMM[23:0] in the masked form of VSCAT and VSCADD. -/
def strideOf (scatter : Bool) (w : OpWord) : Nat :=
  if scatter && w.md.getLsbD 2 then w.imm.toNat % 2 ^ 24 else w.imm.toNat

/-- Is lane `l` selected? -/
def laneOn (t : Thread) (scatter : Bool) (w : OpWord) (l : Nat) : Bool :=
  if scatter then
    (if w.md.getLsbD 2 then (readS t (w.imm.extractLsb' 24 5)).getLsbD l else true)
  else (if w.md.getLsbD 0 then (readS t w.sc).getLsbD l else true)

/-- The address of lane `l`. -/
def laneAddr (t : Thread) (scatter : Bool) (w : OpWord) (l : Nat) : W64 :=
  readS t w.sa + BitVec.ofNat 64 ((lane (readV t w.sb) l).toNat * strideOf scatter w)

/-- The selected lanes with their addresses, lowest lane first. -/
def laneAddrs (t : Thread) (scatter : Bool) (w : OpWord) : List (Nat × W64) :=
  (laneIdx.filter (laneOn t scatter w)).map fun l => (l, laneAddr t scatter w l)

end Sys2Proof.Machine
end

