-- ==== Sys2Proof/Machine/Engine.lean ====
section
/-! DEFINITION. Machine/Engine.lean: matrix engines, feeders, spills, flushes, stores and their checks
(spec/04 R94 to R97, R101 to R118; spec/05 R151 to R154; spec/13 R404 to R410). -/

namespace Sys2Proof.Machine

/-! ### Scratchpad slots (R94, R95) -/

/-- `a` is not later than `b`, for steps less than 2^63 apart. -/
def stepLe (a b : W64) : Bool := decide ((b - a).toNat < 2 ^ 63)

/-- R94: the bank of a scratchpad or cluster-memory address. -/
def bankOf (a : Nat) : Nat := (a / 64) % 16

/-- R95: `u` of bank `b` in step `n`. -/
def slotU (b : Nat) (n : W64) : Nat := (b + 16 - n.toNat % 16) % 16

/-- Table 4 of spec/04. -/
inductive SlotClass where
  | feeder (engine : Nat)
  | result
  | external
  | thread
  deriving DecidableEq, Repr

def slotClass (b : Nat) (n : W64) : SlotClass :=
  match slotU b n with
  | 0 => .feeder 0 | 4 => .feeder 1 | 8 => .feeder 2 | 12 => .feeder 3
  | 1 => .result | 9 => .result
  | 5 => .external | 13 => .external
  | _ => .thread

/-- The step in which the core is: the one whose issue has taken place last. -/
def nowOf (c : Core) : W64 := c.step - 1

/-- A 64-byte word of the scratchpad. -/
def spadWord (m : Memory) (a : Nat) : BitVec 512 := wordOfBytes (memReadN m (a / 64 * 64) 64)
def spadPut (m : Memory) (a : Nat) (w : BitVec 512) : Memory := memWriteN m (a / 64 * 64) (wordBytes w)

/-! ### CRC-32C (R264) -/

def crc32cBit (c : W32) : W32 := if c.getLsbD 0 then (c >>> 1) ^^^ 0x82F63B78#32 else c >>> 1
def crc32cByte (c : W32) (b : Byte) : W32 :=
  let c := c ^^^ b.zeroExtend 32
  crc32cBit (crc32cBit (crc32cBit (crc32cBit (crc32cBit (crc32cBit (crc32cBit (crc32cBit c)))))))
/-- R264: CRC-32C of `bs` after bytes whose CRC-32C is `c`; `c = 0` for none. -/
def crc32cAdd (c : W32) (bs : List Byte) : W32 := ~~~ (bs.foldl crc32cByte (~~~ c))

/-! ### Sets and engines -/

def getEng (c : Core) (e : Nat) : Engine := listGet c.eng e engineReset
def setEng (c : Core) (e : Nat) (x : Engine) : Core := { c with eng := listSet c.eng e x }
def getSet (x : Engine) (i : Nat) : AccSet := if i = 0 then x.set0 else x.set1
def putSet (x : Engine) (i : Nat) (a : AccSet) : Engine := if i = 0 then { x with set0 := a } else { x with set1 := a }

def setWin (a : AccSet) (e : Nat) : Window := tblGet (fun _ => winEmpty) a.win e
def setSpill (a : AccSet) (e : Nat) : LongReg := tblGet (fun _ => lrZero) a.spill e
def addSpill (a : AccSet) (e : Nat) (x : LongReg) : AccSet :=
  { a with spill := tblModify (fun _ => lrZero) a.spill e (lrAdd · x) }
def addCol (a : AccSet) (j : Nat) (x : LongReg) : AccSet := { a with col := tblModify (fun _ => lrZero) a.col j (lrAdd · x) }
def addRow (a : AccSet) (i : Nat) (x : LongReg) : AccSet := { a with row := tblModify (fun _ => lrZero) a.row i (lrAdd · x) }

/-- R153, R404: an emptied set. -/
def emptySet (a : AccSet) : AccSet :=
  { a with win := [], spill := [], col := [], row := [], log := [], logovf := false }

/-- R74: the exact value of an element. -/
def elemVal (a : AccSet) (e : Nat) : LongReg := lrAdd (setSpill a e) (winVal (setWin a e))

/-- R404: appends to the span log, or sets LOGOVF when it holds 64 entries. -/
def appendSpan (a : AccSet) (x : SpanEntry) : AccSet :=
  if a.log.length < 64 ∧ a.logovf = false then { a with log := a.log ++ [x] } else { a with logovf := true }

/-! ### Operands of an MMA -/

/-- R102 Table 5: rate classes. -/
inductive RateClass where
  | b4 | b8 | b16 | b32
  deriving DecidableEq, Repr

def rateOf (f : Fmt) : RateClass :=
  match f with
  | .mxE2m1 => .b4
  | .fp32 => .b32
  | .bf16 | .fp16 => .b16
  | _ => .b8

def rateRank (r : RateClass) : Nat :=
  match r with
  | .b4 => 0 | .b8 => 1 | .b16 => 2 | .b32 => 3

/-- The format of a descriptor that has passed R150. -/
def tileFmt (d : TileDesc) : Fmt := (fmtOfCode d.fmt).getD .fp32

/-- R103: the pair runs at the rate of the slower class. -/
def pairRate (a b : TileDesc) : RateClass :=
  let ra := rateOf (tileFmt a)
  let rb := rateOf (tileFmt b)
  if rateRank ra ≤ rateRank rb then rb else ra

/-- Table 5: array steps for a depth of K. -/
def arraySteps (a b : TileDesc) : Nat :=
  match pairRate a b with
  | .b4 => a.k / 2 | .b8 => a.k | .b16 => 2 * a.k | .b32 => 8 * a.k

/-- R102, R104: the values of k whose products array step `j` delivers. -/
def stepKs (r : RateClass) (j : Nat) : List Nat :=
  match r with
  | .b4 => [2 * j, 2 * j + 1]
  | .b8 => [j]
  | .b16 => if j % 2 = 1 then [j / 2] else []
  | .b32 => if j % 8 = 7 then [j / 8] else []

/-- R106: the slab of array step `j`. -/
def slabOf (r : RateClass) (j : Nat) : Nat :=
  match r with
  | .b4 => j / 32 | .b8 => j / 64 | .b16 => j / 128 | .b32 => j / 512

/-- `n` consecutive word addresses from word `w`. -/
def wordRange (lo hi : Nat) : List Nat := (List.range (hi / 64 + 1 - lo / 64)).map fun i => (lo / 64 + i) * 64

/-- R106: the words of one line (row or column) for k from 64s on. -/
def lineWords (d : TileDesc) (n s : Nat) : List Nat :=
  let w := fmtWidth (tileFmt d)
  let base := d.base + n * d.pitch
  let k1 := min d.k (64 * s + 64)
  if k1 ≤ 64 * s then [] else wordRange (base + 64 * s * w / 8) (base + (k1 * w - 1) / 8)

/-- R106, R149: the words of the block scales of slab `s`. -/
def scaleWords (d : TileDesc) (s : Nat) : List Nat :=
  if fmtIsMx (tileFmt d) then
    let per := d.k / 32
    let ws := (List.range (tileLines d)).flatMap fun n =>
      wordRange (d.scale + n * per + 2 * s) (d.scale + n * per + min (2 * s + 1) (per - 1))
    ws.foldl addOnce []
  else []

/-- R106: the words of slab `s`, in list order, each once. -/
def slabWords (a b : TileDesc) (s : Nat) : List Nat :=
  ((List.range 16).flatMap (fun n => lineWords a n s) ++ (List.range 32).flatMap (fun n => lineWords b n s)
    ++ scaleWords a s ++ scaleWords b s).foldl addOnce []

/-- Slabs of a depth. -/
def slabCount (a : TileDesc) : Nat := (a.k + 63) / 64

/-- A byte through a lookup of 64-byte words by address. -/
def wordByte (look : Nat → BitVec 512) (a : Nat) : Nat := ((look (a / 64 * 64)).toNat >>> (8 * (a % 64))) % 256

/-- `w` bits from bit `bit` of the byte at `base` on. -/
def fieldBits (look : Nat → BitVec 512) (base bit w : Nat) : Nat :=
  let a := base + bit / 8
  let v := wordByte look a + 256 * wordByte look (a + 1) + 65536 * wordByte look (a + 2) + 16777216 * wordByte look (a + 3)
  (v >>> (bit % 8)) % 2 ^ w

/-- R149, R62, R63: element k of line n with its scale. -/
def tileElem (look : Nat → BitVec 512) (d : TileDesc) (n k : Nat) : Val :=
  let f := tileFmt d
  let x := fieldBits look (d.base + n * d.pitch) (k * fmtWidth f) (fmtWidth f)
  if fmtIsMx f then scaledVal f x (wordByte look (d.scale + n * (d.k / 32) + k / 32))
  else if fmtIsPlain8 f then scaledVal f x d.tscale
  else decodeFmt f x

/-! ### Array steps (R102 to R104, R115) -/

/-- The products of one value of k: operands of every row and column. -/
structure KOperands where
  a : List Val
  b : List Val

def kOperands (look : Nat → BitVec 512) (da db : TileDesc) (k : Nat) : KOperands :=
  { a := (List.range 16).map fun i => tileElem look da i k, b := (List.range 32).map fun j => tileElem look db j k }

/-- R69: the product of element (i, j) for one k. -/
def kProduct (o : KOperands) (e : Nat) : Val := mulVal (listGet o.a (e / 32) (.zero false)) (listGet o.b (e % 32) (.zero false))

/-- Exact sum of a list of values. -/
def sumVals (l : List Val) : Val := l.foldl (addVal .rne) (.zero false)

/-- R115: the checker accumulators after one k. -/
def checkerStep (s : AccSet) (o : KOperands) : AccSet :=
  let sa := sumVals o.a
  let sb := sumVals o.b
  let s := (List.range 32).foldl (fun s j => addCol s j (lrOfVal (mulVal sa (listGet o.b j (.zero false))))) s
  (List.range 16).foldl (fun s i => addRow s i (lrOfVal (mulVal (listGet o.a i (.zero false)) sb))) s

/-- R72: the products of one element in an array step, in order; then R73. -/
def elemStep (fixed : Option Int) (ops : List KOperands) (e : Nat) (w : Window) : Window × List (Int × Int) :=
  let (w, sp) := ops.foldl (fun (acc : Window × List (Int × Int)) o =>
    let (w, s) := winProduct fixed (kProduct o e) acc.1
    (w, acc.2 ++ s.toList)) (w, [])
  let (w, s) := winSettle w
  (w, sp ++ s.toList)

/-- R110: one array step on a set: the new set and its spills in queue order. -/
def arrayProducts (setNo : Nat) (s : AccSet) (fixed : Option Int) (ops : List KOperands) : AccSet × List Spill :=
  let (win, sp) := (List.range 512).foldl (fun (acc : Tbl Window × List Spill) e =>
    let (w, sp) := elemStep fixed ops e (tblGet (fun _ => winEmpty) acc.1 e)
    (tblSet (fun _ => winEmpty) acc.1 e w, acc.2 ++ sp.map fun p => { set := setNo, elem := e, m := p.1, e := p.2 }))
    (s.win, [])
  (ops.foldl checkerStep { s with win := win }, sp)

/-- The queue entry whose MMA takes array steps: the first dispatched one. -/
def activeMma (x : Engine) : Option EngOp :=
  x.queue.find? fun o => match o.kind with
    | .mma _ _ _ => o.disp.isSome
    | _ => false

/-- The operand buffer as a lookup for one MMA. -/
def bufLook (x : Engine) (issue : W64) (a : Nat) : BitVec 512 :=
  match x.buf.find? fun w => w.issue == issue && w.addr == a with
  | some w => w.data
  | none => 0#512

/-- R106: every word of the slab of the next array step is in the buffer. -/
def slabReady (x : Engine) (o : EngOp) : Bool :=
  match o.kind with
  | .mma a b _ => (slabWords a b (slabOf (pairRate a b) o.done)).all fun w => x.buf.any fun z => z.issue == o.issue && z.addr == w
  | _ => false

/-- R105, R106, R110: may the array take a step in step `n`? -/
def arrayReady (x : Engine) (n : W64) : Bool :=
  match activeMma x with
  | some o => x.latch.isEmpty && decide (12 ≤ (n - o.disp.getD n).toNat) && slabReady x o
  | none => false

/-- Replaces the queue entry of an issue step. -/
def updOp (x : Engine) (issue : W64) (f : EngOp → EngOp) : Engine :=
  { x with queue := x.queue.map fun o => if o.issue = issue then f o else o }
def dropOp (x : Engine) (issue : W64) : Engine := { x with queue := x.queue.filter fun o => o.issue != issue }

/-- R110: spills enter the queue, and the latch when it is full. -/
def pushSpills (x : Engine) (sp : List Spill) : Engine :=
  let room := 64 - x.spillQ.length
  { x with spillQ := x.spillQ ++ sp.take room, latch := x.latch ++ sp.drop room }

/-- ARRAY_STEP (R102): one array step of the engine's active MMA. -/
def arrayStep (x : Engine) : Engine :=
  match activeMma x with
  | none => { x with mayArray := false }
  | some o =>
    match o.kind with
    | .mma a b fixed =>
      let r := pairRate a b
      let ops := (stepKs r o.done).map (kOperands (bufLook x o.issue) a b)
      let (s, sp) := arrayProducts o.set (getSet x o.set) fixed ops
      let x := pushSpills (putSet { x with mayArray := false } o.set s) sp
      let next := o.done + 1
      -- R106: words that no later slab of this MMA lists leave the buffer
      let still := ((List.range (slabCount a)).filter fun t => slabOf r next ≤ t).flatMap (slabWords a b)
      if next = arraySteps a b then
        dropOp { x with buf := x.buf.filter fun w => w.issue != o.issue } o.issue
      else
        let x := if slabOf r next = slabOf r o.done then x
          else { x with buf := x.buf.filter fun w => w.issue != o.issue || still.contains w.addr }
        updOp x o.issue fun o => { o with done := next }
    | _ => { x with mayArray := false }

/-- SPILL_RETIRE (R110): the latch refills the queue, then up to 16 entries retire into their spill entries. -/
def spillRetire (x : Engine) : Engine :=
  let room := 64 - x.spillQ.length
  let q := x.spillQ ++ x.latch.take room
  let x := { x with spillQ := q.drop 16, latch := x.latch.drop room, used := (q.take 16).length, mayRetire := false }
  (q.take 16).foldl (fun x p => putSet x p.set (addSpill (getSet x p.set) p.elem (lrOfFin p.m p.e))) x

/-! ### Feeder (R106, R406) -/

/-- The slabs that the feeder may fetch, as (MMA, slab), in order: that of the next array step and the one after it. -/
def feedSlabs (x : Engine) : List (EngOp × Nat) :=
  let ms := x.queue.filter fun o => match o.kind with
    | .mma _ _ _ => o.disp.isSome
    | _ => false
  let seq := ms.flatMap fun o => match o.kind with
    | .mma a b _ => ((List.range (slabCount a)).filter fun t => slabOf (pairRate a b) o.done ≤ t).map fun t => (o, t)
    | _ => []
  seq.take 2

/-- The word that the feeder of engine `e` fetches in step `n`. -/
def feedNext (x : Engine) (e : Nat) (n : W64) : Option (EngOp × Nat) :=
  let bank := (4 * e + n.toNat) % 16
  let ws := (feedSlabs x).flatMap fun p => match p.1.kind with
    | .mma a b _ => (slabWords a b p.2).map fun w => (p.1, w)
    | _ => []
  ws.find? fun p => bankOf p.2 == bank && !(x.buf.any fun z => z.issue == p.1.issue && z.addr == p.2)

/-- R406: the fetched word enters the operand CRC of its log entry. -/
def logFetch (a : AccSet) (i : Option Nat) (addr : Nat) (w : BitVec 512) : AccSet :=
  match i with
  | none => a
  | some i =>
    match listGet a.log i (.spadd 0 lrZero) with
    | .mma da db fx ord crc => { a with log := listSet a.log i (.mma da db fx (ord ++ [addr]) (crc32cAdd crc (wordBytes w))) }
    | .spadd _ _ => a

/-- FEEDER_FETCH (R106) in step `n`. -/
def feederFetch (c : Core) (x : Engine) (e : Nat) (n : W64) : Engine :=
  match feedNext x e n with
  | none => { x with fetched := true }
  | some (o, a) =>
    let w := spadWord c.spad a
    let x := putSet x o.set (logFetch (getSet x o.set) o.log a w)
    { x with fetched := true, fresh := some { issue := o.issue, addr := a, data := w } }

/-! ### Dispatch (R105, R151 Table 9) -/

/-- The operation that dispatches next: the first without a dispatch step. -/
def dispatchHead (x : Engine) : Option EngOp := x.queue.find? fun o => o.disp.isNone

def isMma (o : EngOp) : Bool :=
  match o.kind with
  | .mma _ _ _ => true
  | _ => false
def isFlush (o : EngOp) : Bool :=
  match o.kind with
  | .wflush => true
  | _ => false
def isStore (o : EngOp) : Bool :=
  match o.kind with
  | .rstore _ _ _ _ _ _ _ => true
  | .xstore _ _ => true
  | _ => false
def isSp (o : EngOp) : Bool :=
  match o.kind with
  | .spget _ _ => true
  | .spadd _ _ => true
  | _ => false

/-- The entries ahead of `o`, all dispatched when `o` is the dispatch head. -/
def aheadOf (x : Engine) (o : EngOp) : List EngOp := x.queue.takeWhile fun p => p.issue != o.issue

/-- R105 and Table 9: may the dispatch head dispatch? `portFree` says that the LAU thread port is free. -/
def mayDispatchNow (x : Engine) (portFree : Bool) : Bool :=
  match dispatchHead x with
  | none => false
  | some o =>
    let ahead := aheadOf x o
    let noMma := ahead.all fun p => !(isMma p && p.set == o.set)
    let noStore := ahead.all fun p => !((isFlush p || isStore p) && p.set == o.set)
    let unheld := !x.set0.held && !x.set1.held
    unheld && (match o.kind with
      | .mma _ _ _ => noStore && ahead.dropLast.all fun p => !isMma p
      | .wflush => noMma
      | .rstore _ _ _ _ _ _ _ => noMma && ahead.all fun p => !(isFlush p && p.set == o.set)
      | .xstore _ _ => noMma && ahead.all fun p => !(isFlush p && p.set == o.set)
      | .spget _ _ => noMma && noStore && portFree
      | .spadd _ _ => noMma && noStore && portFree
      | .mclr => noMma && noStore)

/-- Dispatch of an MMA (R105, R404). -/
def dispatchMma (x : Engine) (n : W64) : Engine :=
  match dispatchHead x with
  | some o =>
    match o.kind with
    | .mma a b fixed =>
      let s := getSet x o.set
      let s' := appendSpan s (.mma a b fixed [] 0#32)
      let i := if s.log.length < s'.log.length then some s.log.length else none
      updOp (putSet { x with mayDispatch := false } o.set s') o.issue fun o => { o with disp := some n, log := i }
    | _ => x
  | none => x

/-- Dispatch of a WFLUSH (R111). -/
def dispatchFlush (x : Engine) (n : W64) : Engine :=
  match dispatchHead x with
  | some o => if isFlush o then updOp { x with mayDispatch := false } o.issue fun o => { o with disp := some n } else x
  | none => x

/-- R74: elements `done` to `done + k - 1` flush. -/
def flushElems (s : AccSet) (first k : Nat) : AccSet :=
  (List.range k).foldl (fun s i =>
    let e := first + i
    { addSpill s e (winVal (setWin s e)) with win := tblSet (fun _ => winEmpty) s.win e winEmpty }) s

/-- The flush in progress. -/
def activeFlush (x : Engine) : Option EngOp := x.queue.find? fun o => isFlush o && o.disp.isSome

/-- R111: places of the spill port that are left in the present step. -/
def flushRoom (x : Engine) : Nat := 16 - x.used

/-- Does the flush reach its last element in the present step? -/
def flushLast (x : Engine) : Bool :=
  match activeFlush x with
  | some o => decide (512 ≤ o.done + flushRoom x)
  | none => false

/-- R111: the elements that the flush in progress takes in a step that is not its last. -/
def flushAdvance (x : Engine) : Engine :=
  match activeFlush x with
  | some o =>
    let k := min (flushRoom x) (512 - o.done)
    updOp (putSet x o.set (flushElems (getSet x o.set) o.done k)) o.issue fun o => { o with done := o.done + k }
  | none => x

/-- Sum of long registers. -/
def lrSum (l : List LongReg) : LongReg := l.foldl lrAdd lrZero

/-- R116: the exact comparison of a flushed set; `none` when every comparison holds. -/
def checkSet (elem : Nat → LongReg) (col row : Nat → LongReg) : Option Syndrome :=
  let cm := (List.range 32).map fun j => decide ((lrSum ((List.range 16).map fun i => elem (32 * i + j))).v ≠ (col j).v)
  let rm := (List.range 16).map fun i => decide ((lrSum ((List.range 32).map fun j => elem (32 * i + j))).v ≠ (row i).v)
  let xc := decide ((lrSum ((List.range 32).map col)).v ≠ (lrSum ((List.range 16).map row)).v)
  let mask (l : List Bool) : Nat := (l.zipIdx).foldl (fun acc p => if p.1 then acc + 2 ^ p.2 else acc) 0
  if xc || cm.any id || rm.any id then some { cmask := BitVec.ofNat 32 (mask cm), rmask := BitVec.ofNat 16 (mask rm), xc := xc } else none

def setCol (a : AccSet) (j : Nat) : LongReg := tblGet (fun _ => lrZero) a.col j
def setRow (a : AccSet) (i : Nat) : LongReg := tblGet (fun _ => lrZero) a.row i

/-- R117: does any element or checker accumulator carry a class flag? -/
def setFlagged (a : AccSet) : Bool :=
  a.spill.any (fun p => lrFlagged p.2) || a.col.any (fun p => lrFlagged p.2) || a.row.any (fun p => lrFlagged p.2)
  || a.win.any fun p => p.2.pinf || p.2.ninf || p.2.nan

/-- R427: an injected corruption: KIND 1 inverts bit 0 of element (0, 0), KIND 2 that of column 0's accumulator. -/
def corruptSet (a : AccSet) (kind : Nat) : AccSet :=
  let flip (x : LongReg) : LongReg := { x with v := x.v ^^^ 1#640 }
  match kind with
  | 1 => { a with spill := tblModify (fun _ => lrZero) a.spill 0 flip }
  | 2 => { a with col := tblModify (fun _ => lrZero) a.col 0 flip }
  | _ => a

/-- WFLUSH_COMPLETE (R116 to R118): the last elements flush and the set is checked; `kind` is a corruption of R427.
Answers the core and the syndrome of a failed check. -/
def flushComplete (c : Core) (e : Nat) (kind : Nat) : Core × Option Syndrome :=
  let x := getEng c e
  match activeFlush x with
  | none => (c, none)
  | some o =>
    let s := corruptSet (flushElems (getSet x o.set) o.done (512 - o.done)) kind
    let x := dropOp { x with used := 16 } o.issue
    if setFlagged s then ({ setEng c e (putSet x o.set s) with special := c.special + 1 }, none)
    else
      match checkSet (setSpill s) (setCol s) (setRow s) with
      | none => (setEng c e (putSet x o.set s), none)
      | some syn =>
        let c := setEng c e (putSet x o.set { s with held := true })
        ({ c with classify := c.classify ++ [{ engine := e, set := o.set, syn := syn, second := x.suspect, began := nowOf c, since := 0 }] }, some syn)

/-! ### Stores (R112, R113, R153) -/

/-- Packs encodings of `w` bits, the element of the lower index less significant. -/
def packBits (w : Nat) : List Nat → Nat
  | [] => 0
  | x :: xs => x % 2 ^ w + packBits w xs <<< w

/-- The result words of an RSTORE that dispatches in step `d`, with the elements whose rounding sets NV. -/
def rstoreWords (s : AccSet) (issue : W64) (addr saddr fmt : Nat) (mode : RMode) (k : Int) (key : GenKey) (d : W64) :
    List ResWord × List Nat :=
  let f := (fmtOfCode fmt).getD .fp32
  let w := fmtWidth f
  let vals := (List.range 512).map fun e => (lrVal (setSpill s e)).scale k
  let drw (e : Nat) := srDraw mode key e
  let rows : List (Nat × List Nat × List Bool) :=
    if fmtIsMx f then (List.range 16).map fun i =>
      let xs := (vals.drop (32 * i)).take 32
      let (sc, es, nv) := mxBlock f mode ((List.range 32).map fun j => drw (32 * i + j)) xs
      (sc, es, es.map fun _ => nv)
    else (List.range 16).map fun i =>
      let rs := (List.range 32).map fun j => roundOut f mode (drw (32 * i + j)) (listGet vals (32 * i + j) (.zero false))
      (0, rs.map Prod.fst, rs.map Prod.snd)
  let whole := packBits w (rows.flatMap fun r => r.2.1)
  let words := (List.range w).map fun i =>
    let last := (512 * (i + 1) - 1) / w
    { issue := issue, addr := addr + 64 * i, bytes := (wordBytes (BitVec.ofNat 512 (whole >>> (512 * i)))).map mOn,
      ready := d + BitVec.ofNat 64 (last / 16 + 1), last := false : ResWord }
  let nvs := ((rows.flatMap fun r => r.2.2).zipIdx.filter fun p => p.1).map Prod.snd
  if fmtIsMx f then
    let codes := rows.map fun r => mOn (BitVec.ofNat 8 r.1)
    let off := saddr % 64
    let pre : List MByte := List.replicate off mOff
    (words ++ [{ issue := issue, addr := saddr / 64 * 64, bytes := pre ++ codes, ready := d, last := true }], nvs)
  else (words, nvs)

/-- The 1,024 words of an XSTORE that dispatches in step `d` (R113). -/
def xstoreWords (s : AccSet) (issue : W64) (addr : Nat) (d : W64) : List ResWord :=
  (List.range 512).flatMap fun e =>
    let (a, b) := wideEncode (setSpill s e)
    let r := d + BitVec.ofNat 64 (e / 16 + 1)
    [{ issue := issue, addr := addr + 128 * e, bytes := (wordBytes a).map mOn, ready := r, last := false },
     { issue := issue, addr := addr + 128 * e + 64, bytes := (wordBytes b).map mOn, ready := r, last := false }]

/-- RSTORE_DISPATCH and XSTORE_DISPATCH in step `n` (R112, R113, R169). -/
def dispatchStore (c : Core) (e : Nat) (n : W64) : Core :=
  let x := getEng c e
  match dispatchHead x with
  | none => c
  | some o =>
    let s := getSet x o.set
    let mark (x : Engine) (ws : List ResWord) : Engine :=
      updOp { x with mayDispatch := false, results := x.results ++ ws } o.issue fun o => { o with disp := some n }
    match o.kind with
    | .rstore addr saddr fmt mode k _ key =>
      let (ws, nvs) := rstoreWords s o.issue addr saddr fmt mode k key n
      nvs.foldl (fun c el => scheduleNv c (n + BitVec.ofNat 64 (el / 16)) o.thread true) (setEng c e (mark x ws))
    | .xstore addr _ => setEng c e (mark x (xstoreWords s o.issue addr n))
    | _ => c

/-- R96: the oldest of the words that wait, by the step from which each waits. -/
def oldestWord (l : List ResWord) : Option ResWord :=
  l.foldl (fun a r => match a with
    | some x => if stepLe x.ready r.ready then some x else some r
    | none => some r) none

/-- The result word that bank `b` takes in step `n`: ascending engine, oldest word first (R96, R112, R153). -/
def resultNext (c : Core) (b : Nat) (n : W64) : Option (Nat × ResWord) :=
  (List.range 4).findSome? fun e =>
    let rs := (getEng c e).results
    (oldestWord (rs.filter fun r => bankOf r.addr == b && stepLe r.ready n
      && (!r.last || (rs.all fun q => q.issue != r.issue || q.last)))).map fun r => (e, r)

/-- RESULT_WORD_WRITE (R112): the word is written; the last one completes the store and empties the set unless kept. -/
def resultWrite (c : Core) (b : Nat) (n : W64) : Core :=
  match resultNext c b n with
  | none => c
  | some (e, r) =>
    let x := getEng c e
    let rest := x.results.filter fun q => !(q.issue == r.issue && q.addr == r.addr && q.last == r.last)
    let rest := rest.map fun q => if q.issue = r.issue ∧ q.last ∧ stepLe q.ready n then { q with ready := n + 1 } else q
    let x := { x with results := rest }
    let c := { c with spad := memWriteEn c.spad r.addr r.bytes, served := b :: c.served }
    if rest.any fun q => q.issue == r.issue then setEng c e x
    else
      match x.queue.find? fun o => o.issue == r.issue with
      | none => setEng c e x
      | some o =>
        let keep := match o.kind with
          | .rstore _ _ _ _ _ k _ => k
          | .xstore _ k => k
          | _ => true
        let x := if keep then x else putSet x o.set (emptySet (getSet x o.set))
        setEng c e (dropOp x o.issue)

/-- ENGINE_OP_DISPATCH (R151, R404, R405): SPGET, SPADD and MCLR do their work in their dispatch step. -/
def dispatchSp (c : Core) (e : Nat) (n : W64) : Core :=
  let x := getEng c e
  match dispatchHead x with
  | none => c
  | some o =>
    let s := getSet x o.set
    let x := dropOp { x with mayDispatch := false } o.issue
    match o.kind with
    | .spget ln el =>
      { setEng c e x with writes := c.writes ++ [{ due := n + 4, thread := o.thread, val := .ln ln (setSpill s el) }], portLeft := max c.portLeft 1 }
    | .spadd v el =>
      let s := addRow (addCol (addSpill s el v) (el % 32) v) (el / 32) v
      { setEng c e (putSet x o.set (appendSpan s (.spadd el v))) with portLeft := max c.portLeft 1 }
    | .mclr => setEng c e (putSet x o.set (emptySet s))
    | _ => c

/-! ### Repeats (R408 to R410) -/

/-- The repeat store: exact element values and checker sums. -/
structure Repeat where
  set : AccSet
  crcOk : Bool

/-- R408: one span log entry performed into the repeat store, from the operands as the scratchpad holds them. -/
def repeatEntry (m : Memory) (r : Repeat) (x : SpanEntry) : Repeat :=
  match x with
  | .spadd el v => { r with set := addRow (addCol (addSpill r.set el v) (el % 32) v) (el / 32) v }
  | .mma a b _ ord crc =>
    let look (w : Nat) := spadWord m w
    let now := ord.foldl (fun c w => crc32cAdd c (wordBytes (look w))) 0#32
    let ops := (List.range a.k).map (kOperands look a b)
    let s := (List.range 512).foldl (fun s e => addSpill s e (lrSum (ops.map fun o => lrOfVal (kProduct o e)))) r.set
    { set := ops.foldl checkerStep s, crcOk := r.crcOk && now == crc }

/-- R408: a whole repeat, with a corruption of R427. -/
def repeatRun (m : Memory) (log : List SpanEntry) (kind : Nat) : Repeat :=
  let r := log.foldl (repeatEntry m) { set := emptySet setReset, crcOk := true }
  { r with set := corruptSet r.set kind }

/-- R408: does the repeat's own check pass? -/
def repeatPass (r : Repeat) : Bool :=
  setFlagged r.set || (checkSet (setSpill r.set) (setCol r.set) (setRow r.set)).isNone

/-- R409: exact equality of the 512 values, flags included. -/
def sameValues (a b : AccSet) : Bool := (List.range 512).all fun e => elemVal a e == elemVal b e

/-- R407 to R410 Table 1: what a classification step decides. -/
inductive ClassOutcome where
  /-- repeat 1 failed or was skipped: repeat 2 follows -/
  | again
  /-- classification ends with this class code -/
  | ends (cls : Nat)
  deriving DecidableEq, Repr

/-- R409: the sibling that runs repeat 2. -/
def siblingOf (c : Core) (e : Nat) : Option Nat := (List.range 4).find? fun f => f != e && !(getEng c f).suspect

/-- R410: a set that stands as after a passed flush, with the given values and checker sums. -/
def settleSet (s : AccSet) (vals sums : AccSet) : AccSet :=
  { s with win := [], spill := vals.spill, col := sums.col, row := sums.row, held := false }

/-- REPEAT_COMPLETE (R408 to R410) for the first classification of the core: answers the core and the outcome.
`kind1` and `kind2` are the corruptions (R427) that meet the repeats on the failing engine and on the sibling. -/
def repeatComplete (c : Core) (kind1 kind2 : Nat) : Core × Option ClassOutcome :=
  match c.classify with
  | [] => (c, none)
  | k :: rest =>
    let x := getEng c k.engine
    let s := getSet x k.set
    let close (c : Core) : Core := { c with classify := rest }
    let put (s : AccSet) (sus : Bool) : Core :=
      close (setEng c k.engine { putSet x k.set s with suspect := x.suspect || sus })
    let drop : Core := close (setEng c k.engine (putSet x k.set { emptySet s with held := false }))
    if s.logovf then (drop, some (.ends 7))
    else
      let r := repeatRun c.spad s.log (if k.second then kind2 else kind1)
      if k.second && (siblingOf c k.engine).isNone then (drop, some (.ends 5))
      else if !r.crcOk then (drop, some (.ends 6))
      else if !k.second then
        if repeatPass r then
          if sameValues r.set s then (put (settleSet s s r.set) true, some (.ends 2))
          else (put (settleSet s r.set r.set) false, some (.ends 1))
        else ({ c with classify := { k with second := true } :: rest }, some .again)
      else if repeatPass r then
        if sameValues r.set s then (put (settleSet s s r.set) true, some (.ends 3)) else (drop, some (.ends 4))
      else (drop, some (.ends 5))

end Sys2Proof.Machine
end

