-- ==== Sys2Proof/Machine/CoreStep.lean ====
section
/-! DEFINITION. Machine/CoreStep.lean: what a step of a core holds beside the issue of an operation: results falling due,
bank grants, gated deliveries (spec/02 R34, R35, R44, R45, R49; spec/04 R89, R90, R94 to R100; spec/05 R137, R144, R147, R169, R170). -/

namespace Sys2Proof.Machine

/-! ### Loads -/

/-- The words of a load, by core address div 64. -/
def wordsLook (ws : Tbl (BitVec 512)) (k : Nat) : BitVec 512 := tblGet (fun _ => 0#512) ws k

/-- The key of the first word. -/
def firstKey (ws : Tbl (BitVec 512)) : Nat := (ws.head?.map Prod.fst).getD 0

/-- The 4 bytes at an address. -/
def lookW32 (ws : Tbl (BitVec 512)) (a : Nat) : W32 := (wordsLook ws (a / 64)).extractLsb' (8 * (a % 64)) 32

/-- R146, R121: the register value that the words of a load make. -/
def loadValue (k : LoadKind) (ws : Tbl (BitVec 512)) : RegVal :=
  match k with
  | .scalar dst off width sext =>
    let x := ((wordsLook ws (firstKey ws)).toNat >>> (8 * off)) % 2 ^ (8 * width)
    .s dst (if sext then BitVec.ofInt 64 (signed (8 * width) x) else BitVec.ofNat 64 x)
  | .vector dst off fmt =>
    let f := (fmtOfCode fmt).getD .fp32
    let k0 := firstKey ws
    let look (a : Nat) := wordsLook ws (k0 + a / 64)
    .v dst (ofLanes fun l => lanedValue f (fieldBits look off (l * fmtWidth f) (fmtWidth f)))
  | .long dst => let k0 := firstKey ws; .ln dst (wideDecode (wordsLook ws k0) (wordsLook ws (k0 + 1))).1
  | .gather dst addrs old =>
    .v dst (ofLanes fun l => match listGet addrs l none with
      | some a => lookW32 ws a.toNat
      | none => lane old l)

/-- Was the wide word of an LNLD malformed (R77)? -/
def loadMalformed (k : LoadKind) (ws : Tbl (BitVec 512)) : Bool :=
  match k with
  | .long _ => let k0 := firstKey ws; (wideDecode (wordsLook ws k0) (wordsLook ws (k0 + 1))).2
  | _ => false

/-- Steps from the last grant to the result (R93, R121, R146). -/
def loadTail (k : LoadKind) : W64 :=
  match k with
  | .long _ => 8
  | _ => 6

/-! ### Thread-class grants (R95 to R97) -/

/-- The banks that a request uses. -/
def reqBanks (r : SpadReq) : List Nat :=
  match r.act with
  | .wideAdd _ => [bankOf r.addr, (bankOf r.addr + 1) % 16]
  | .wideRead _ _ => [bankOf r.addr, (bankOf r.addr + 1) % 16]
  | .wideWait => [bankOf r.addr, (bankOf r.addr + 1) % 16]
  | _ => [bankOf r.addr]

/-- R96: bank `b` serves in issue order: its oldest request, once that has reached the bank by step `n`. -/
def bankHead (c : Core) (b : Nat) (n : W64) : Option SpadReq :=
  match c.spadQ.find? fun r => (reqBanks r).contains b with
  | some r => if stepLe r.reach n && r.act != .wideWait then some r else none
  | none => none

/-- The request that bank `b` grants in step `n`; a wide request is granted by its first bank, in a slot common to both (R160). -/
def grantNext (c : Core) (b : Nat) (n : W64) : Option SpadReq :=
  if slotClass b n = .thread ∧ b ∉ c.served ∧ b ∉ c.writebacks then
    match bankHead c b n with
    | none => none
    | some r =>
      match reqBanks r with
      | [_, b'] =>
        if bankOf r.addr = b ∧ slotClass b' n = .thread ∧ b' ∉ c.served ∧ b' ∉ c.writebacks ∧ bankHead c b' n = some r then some r else none
      | _ => some r
  else none

/-- R415: a corrected word waits in bank `b` for the next slot of its reader's class. -/
def writebackDue (c : Core) (b : Nat) (n : W64) : Bool := c.writebacks.contains b && slotClass b n == .thread && !c.served.contains b

/-- R160: the source of an XSCADD has been read in step `n`: its add waits for the next common slot, in the place it holds. -/
def sourceRead (q : List SpadReq) (issue n : W64) (x : LongReg) : List SpadReq :=
  q.map fun r => if r.issue = issue ∧ r.act = .wideWait then { r with reach := n + 1, act := .wideAdd x } else r

/-- What a grant or an issue leaves to the units outside the core. -/
structure Emit where
  thread : Nat
  issue : W64
  req : OutReq
  deriving DecidableEq, Repr

/-- A core after an event, with what it hands on: requests, and whether a malformed CXS was met (R77). -/
structure CoreOut where
  core : Core
  emits : List Emit
  malformed : Bool

/-- R97: the effect of a grant at bank `b` in step `n`. -/
def doGrant (c : Core) (r : SpadReq) (n : W64) : CoreOut :=
  let c := { c with spadQ := c.spadQ.erase r, served := reqBanks r ++ c.served }
  match r.act with
  | .write bs => { core := { c with spad := memWriteEn c.spad r.addr bs }, emits := [], malformed := false }
  | .narrowAdd x =>
    let (w, bad) := narrowAdd (spadWord c.spad r.addr) x
    { core := { c with spad := spadPut c.spad r.addr w }, emits := [], malformed := bad }
  | .wideAdd x =>
    let ((lo, hi), bad) := wideAdd (spadWord c.spad r.addr) (spadWord c.spad (r.addr + 64)) x
    { core := { c with spad := spadPut (spadPut c.spad r.addr lo) (r.addr + 64) hi }, emits := [], malformed := bad }
  | .wideRead target addr =>
    let (x, bad) := wideDecode (spadWord c.spad r.addr) (spadWord c.spad (r.addr + 64))
    match target with
    | .spad _ => { core := { c with spadQ := sourceRead c.spadQ r.issue n x }, emits := [], malformed := bad }
    | .tenant _ => { core := c, emits := [{ thread := r.thread, issue := r.issue, req := .mem true 0 addr target (.narrowAdd x) }], malformed := bad }
    | _ => { core := c, emits := [{ thread := r.thread, issue := r.issue, req := .mem true 0 addr target (.wideAdd x) }], malformed := bad }
  | .wideWait => { core := c, emits := [], malformed := false }
  | .read =>
    match c.loads.find? fun l => l.issue == r.issue with
    | none => { core := c, emits := [], malformed := false }
    | some l =>
      let got := tblPut l.got (r.addr / 64) (spadWord c.spad r.addr)
      if l.need.all fun k => (tblFind got k).isSome then
        let w : RegWrite := { due := n + loadTail l.kind, thread := l.thread, val := loadValue l.kind got }
        { core := { c with loads := c.loads.filter (fun q => q.issue != l.issue), writes := c.writes ++ [w] },
          emits := [], malformed := loadMalformed l.kind got }
      else
        { core := { c with loads := c.loads.map fun q => if q.issue = l.issue then { q with got := got } else q }, emits := [], malformed := false }

/-! ### External class (R95, R96, R98) -/

/-- R96: the oldest external word of bank `b`, when the slot is its class's. -/
def extNext (c : Core) (b : Nat) (n : W64) : Option ExtReq :=
  if slotClass b n = .external ∧ b ∉ c.served then c.extQ.find? fun r => bankOf r.addr == b else none

/-- EXTERNAL_WRITE (R98): arriving bytes are written into their bank. -/
def extWrite (c : Core) (b : Nat) (n : W64) : Core :=
  match extNext c b n with
  | none => c
  | some r => { c with extQ := c.extQ.erase r, spad := memWriteEn c.spad r.addr r.bytes, served := b :: c.served }

/-- Splits bytes that arrive at scratchpad address `a` into words of one bank each. -/
def extSplit (fuel : Nat) (thread : Nat) (issue : W64) (a : Nat) (bs : List MByte) : List ExtReq :=
  match fuel with
  | 0 => []
  | k + 1 =>
    if bs.isEmpty then []
    else
      let n := 64 - a % 64
      { addr := a, bytes := bs.take n, thread := thread, issue := issue } :: extSplit k thread issue (a + n) (bs.drop n)

/-! ### What the present step still holds -/

/-- R95 to R97, R105, R106, R110, R116: an event of step `n` that has not taken place. -/
def engineDue (x : Engine) (e : Nat) (n : W64) : Bool :=
  x.mayDispatch || (!x.fetched && (feedNext x e n).isSome) || x.mayArray
  || (x.mayRetire && !(x.spillQ.isEmpty && x.latch.isEmpty)) || flushLast x

def bankDue (c : Core) (b : Nat) (n : W64) : Bool :=
  (grantNext c b n).isSome || (extNext c b n).isSome || writebackDue c b n
  || (slotClass b n == .result && !c.served.contains b && (resultNext c b n).isSome)

def stepEventsDue (c : Core) : Bool :=
  let n := nowOf c
  (List.range 4).any (fun e => engineDue (getEng c e) e n) || (List.range 16).any fun b => bankDue c b n

/-! ### From one step to the next -/

/-- The engine at the start of the next step: the fetched word is in the buffer, the flush has taken its elements. -/
def engineNext (x : Engine) : Engine :=
  let x := flushAdvance x
  { x with buf := x.buf ++ x.fresh.toList, fresh := none, fetched := false, used := 0, mayDispatch := false, mayArray := false, mayRetire := false }

/-- R144: RESUME and STOP that take effect in step `n`. -/
def applyCtl (c : Core) (n : W64) : Core :=
  let now := c.ctl.filter fun p => p.due == n
  let c := { c with ctl := c.ctl.filter fun p => p.due != n }
  now.foldl (fun c p => modThread c p.target fun t => match p.resume with
    | some pc => resumeThread t pc
    | none => stopThread t) c

/-- R137: results that are written in step `n`. -/
def applyWrites (c : Core) (n : W64) : Core :=
  let now := c.writes.filter fun w => w.due == n
  let c := { c with writes := c.writes.filter fun w => w.due != n }
  now.foldl (fun c w => writeReg c w.thread w.val) c

/-- The core at the start of step `c.step`, the events of the step before it being over. -/
def beginStep (c : Core) : Core :=
  let c := applyNv c (c.step - 1)
  let c := { c with eng := c.eng.map engineNext, served := [], veLeft := c.veLeft - 1, portLeft := c.portLeft - 1 }
  applyCtl (applyWrites c c.step) c.step

/-- R105: is the LAU thread port taken in this step by an SPGET or SPADD that dispatches in it? The lowest engine goes first. -/
def portFreeFor (c : Core) (e : Nat) : Bool :=
  c.portLeft == 0 && (List.range e).all fun f => match dispatchHead (getEng c f) with
    | some o => !(isSp o && mayDispatchNow (getEng c f) true)
    | none => true

def spTakesPort (c : Core) : Bool :=
  (List.range 4).any fun e => match dispatchHead (getEng c e) with
    | some o => isSp o && mayDispatchNow (getEng c e) (portFreeFor c e)
    | none => false

/-- Once the issue of step `n` is over: what the engines do in it. -/
def armEngines (c : Core) (n : W64) : Core :=
  { c with eng := (List.range 4).map fun e =>
      let x := getEng c e
      { x with mayDispatch := mayDispatchNow x (portFreeFor c e), mayArray := arrayReady x n, mayRetire := true } }

/-- R35: the step ends and the counter advances. -/
def endIssue (c : Core) : Core :=
  let c := armEngines c c.step
  { c with step := c.step + 1, quantum := c.quantum + 1, stallAt := none }

/-! ### Gated deliveries -/

/-- R89: the thread to which the present step is offered. -/
def offered (c : Core) : Nat := c.step.toNat % c.rl

/-- R147: has every covered operation been performed? -/
def coversDone (c : Core) (covers : List W64) : Bool :=
  c.posted.all fun p => !covers.contains p.issue || p.status != .waiting

/-- R147: the first failed covered operation, in issue order. -/
def coversFailed (c : Core) (covers : List W64) : Option W64 :=
  (c.posted.filter fun p => covers.contains p.issue).findSome? fun p => match p.status with
    | .failed a => some a
    | _ => none

/-- Has the result of a gated request reached the core? A FENCE waits for its covered operations. -/
def gatedHere (c : Core) (g : Gated) : Bool :=
  match g.kind with
  | .fence _ covers => coversDone c covers
  | _ => g.arrived

/-- R45: ascending thread, then ascending issue step. -/
def gatedBefore (a b : Gated) : Bool := decide (a.thread < b.thread) || (a.thread == b.thread && stepLe a.issue b.issue)
def insertGated (g : Gated) : List Gated → List Gated
  | [] => [g]
  | x :: xs => if gatedBefore g x then g :: x :: xs else x :: insertGated g xs

/-- R45: the gated requests that fall due in step `c.step`, in delivery order. With LOCK clear: those of the thread to which
the step is offered whose results are there (R49). -/
def dueGated (lock : Bool) (c : Core) : List Gated :=
  let due := c.gated.filter fun g =>
    if lock then g.due == c.step || (gatedHere c g && stepLe g.due c.step) else gatedHere c g && g.thread == offered c
  due.foldr insertGated []

/-- R122: the scratchpad lanes of a gather, read at its delivery. -/
def gatherSpad (c : Core) (addrs : List (Option W64)) (ws : Tbl (BitVec 512)) : Tbl (BitVec 512) :=
  addrs.foldl (fun ws a => match a with
    | some a => if a.toNat < 0x200000 then tblPut ws (a.toNat / 64) (spadWord c.spad a.toNat) else ws
    | none => ws) ws

/-- R98, R163, R170: a delivery: the destination is written or the thread takes ACCESS; the operation's window closes. -/
def deliver (c : Core) (g : Gated) : Core :=
  let c := { c with gated := c.gated.erase g, wins := c.wins.filter fun w => w.issue != g.issue }
  let fail (x : W64) : Core := modThread c g.thread fun t => takeException t xAccess g.pc x
  match g.kind with
  | .fence dst covers =>
    let bad := coversFailed c covers
    let c := { c with posted := c.posted.filter fun p => !covers.contains p.issue }
    match bad with
    | some a => modThread c g.thread fun t => takeException t xAccess g.pc a
    | none => writeReg c g.thread (.s dst 0)
  | .scalar dst =>
    match g.result with
    | some (.value v) => writeReg c g.thread (.s dst v)
    | some (.fail x) => fail x
    | _ => c
  | .load k =>
    match g.result with
    | some (.words ws) =>
      let ws := match k with
        | .gather _ addrs _ => gatherSpad c addrs ws
        | _ => ws
      writeReg c g.thread (loadValue k ws)
    | some (.fail x) => fail x
    | _ => c

/-- R174: nothing of the core is outstanding. -/
def nothingOutstanding (c : Core) : Bool :=
  c.gated.isEmpty && c.posted.all (fun p => p.status != .waiting) && (c.eng.all fun e => e.queue.isEmpty && e.results.isEmpty)
  && c.wins.isEmpty && c.writes.isEmpty && c.spadQ.isEmpty && c.loads.isEmpty

/-- R174: every thread that exists is in HALT or EXC. -/
def allStopped (c : Core) : Bool := (List.range c.rl).all fun th => (getThread c th).st != .run

end Sys2Proof.Machine
end

