-- ==== Sys2Proof/Machine/CoreIssue.lean ====
section
/-! DEFINITION. Machine/CoreIssue.lean: the issue of an operation (spec/04 R89, R90; spec/05 R135 to R139, R170, R171). -/

namespace Sys2Proof.Machine

/-- What one operation is: its checks, its needs and its effect. `th` is the issuing thread, the core stands in its issue step. -/
structure Body where
  /-- R135, R144, R152, R153, R166: the operation is illegal -/
  illegal : Ctx → Core → Nat → OpWord → Bool
  reads : OpWord → List RegName := fun _ => []
  writes : OpWord → List RegName := fun _ => []
  /-- the other checks at issue, as (XCAUSE, XINFO) -/
  checks : Ctx → Core → Nat → OpWord → List (Nat × W64) := fun _ _ _ _ => []
  /-- R90 Table 1: the resources are there -/
  ready : Ctx → Core → Nat → OpWord → Bool := fun _ _ _ _ => true
  /-- R139: the operation takes an entry of the posted queue -/
  posts : Ctx → Core → Nat → OpWord → Bool := fun _ _ _ _ => false
  /-- the effect, beside the advance of the PC and of the counts -/
  effect : Ctx → Core → Nat → OpWord → Core × List OutReq := fun _ c _ _ => (c, [])
  /-- the next PC, when it is not PC + 8 -/
  target : Core → Nat → OpWord → Option W64 := fun _ _ _ => none
  /-- the step that the thread then waits for (STEPW, R143) -/
  wait : Core → Nat → OpWord → Option W64 := fun _ _ _ => none

/-- The word at a PC; none outside the code section, or at a PC that is no multiple of 8 (R136). -/
def fetchAt (c : Core) (pc : W64) : Option W64 := if pc.toNat % 8 = 0 then c.code[pc.toNat / 8]? else none

/-- R90, R91, R92, R143, R144: may thread `th` issue an operation at all in this step? -/
def threadOffered (c : Core) (th : Nat) : Bool :=
  let t := getThread c th
  t.st == .run && !(c.ctl.any fun p => p.target == th)
  && (match t.waitStep with
    | some w => decide (w.toNat ≤ c.step.toNat)
    | none => true)
  && (match t.branchAt with
    | some i => c.step != i + 1
    | none => true)
  && (match c.stopTh with
    | some (k, n) => k != th || decide (t.count.toNat < n.toNat)
    | none => true)

/-- What the offered step comes to. -/
inductive IssueKind where
  /-- R90 -/
  | bubble
  /-- R139 with LOCK set: the whole core stalls -/
  | stall
  | raise (cause : Nat) (xinfo : W64)
  | issue

/-- Posted operations not yet performed (R139). -/
def postedWaiting (c : Core) : Nat := (c.posted.filter fun p => p.status == .waiting).length

/-- R137, R170, R171, Table 1 of spec/04: what becomes of the operation. `word` is the operation word for XINFO. -/
def issueKind (b : Body) (x : Ctx) (c : Core) (th : Nat) (w : OpWord) (word : W64) : IssueKind :=
  if (b.reads w).any (regBusy c th) then .bubble
  else
    let ill := if b.illegal x c th w then [(xIllegal, word)] else []
    match lowestCheck (ill ++ (if ill.isEmpty then b.checks x c th w else [])) with
    | some (cause, xi) => .raise cause xi
    | none =>
      if (b.writes w).any (regBusy c th) || !b.ready x c th w then .bubble
      else if b.posts x c th w && decide (256 ≤ postedWaiting c) then (if x.lock then .stall else .bubble)
      else .issue

/-- R170: an exception at issue; the step counts for R83. -/
def raiseAt (c : Core) (th : Nat) (cause : Nat) (xinfo : W64) : Core :=
  modThread c th fun t => countIssue (takeException t cause t.pc xinfo)

/-- An issued operation: its effect, the next PC and the thread step count. -/
def issueAt (b : Body) (x : Ctx) (c : Core) (th : Nat) (w : OpWord) : Core × List OutReq :=
  let t := getThread c th
  let next := (b.target c th w).getD (t.pc + 8)
  let (c', out) := b.effect x c th w
  (modThread c' th fun t => countIssue { t with pc := next, waitStep := b.wait c th w }, out)

/-- The outgoing requests of an operation, as the operation of thread `th` issued in step `n`. -/
def emitsOf (th : Nat) (n : W64) (rs : List OutReq) : List Emit := rs.map fun r => { thread := th, issue := n, req := r }

/-- One step of the core whose offered thread has `word` at its PC, an operation with body `b`. Answers nothing when the step
is a bubble (R90): that is the command BUBBLE. -/
def stepIssue (b : Body) (x : Ctx) (c : Core) (w : OpWord) (word : W64) : Option (Core × List Emit) :=
  let c1 := beginStep c
  let th := offered c1
  if threadOffered c1 th ∧ fetchAt c1 (getThread c1 th).pc = some word then
    match issueKind b x c1 th w word with
    | .bubble => none
    | .stall => some (c, [])
    | .raise cause xi => some (endIssue (raiseAt c1 th cause xi), [])
    | .issue =>
      let (c2, out) := issueAt b x c1 th w
      some (endIssue c2, emitsOf th c1.step out)
  else none

/-! ### Results and requests -/

/-- R137: an ungated result, written in step i + `lat`. -/
def result (c : Core) (th lat : Nat) (r : RegVal) : Core :=
  { c with writes := c.writes ++ [{ due := c.step + BitVec.ofNat 64 lat, thread := th, val := r }] }

/-- R44: a new gated request. -/
def addGated (c : Core) (th : Nat) (cls : AccClass) (k : GKind) : Core :=
  { c with gated := c.gated ++ [{ thread := th, issue := c.step, due := c.step + BitVec.ofNat 64 (dueOf c cls), pc := (getThread c th).pc,
                                  cls := cls, kind := k, result := none, arrived := false, count := (getThread c th).count, ext := none }] }

/-- R139: a new posted entry. -/
def addPosted (c : Core) (th : Nat) (cls : AccClass) (addr : W64) (signal : Bool) : Core :=
  { c with posted := c.posted ++ [{ thread := th, issue := c.step, cls := cls, addr := addr, signal := signal, status := .waiting, fenced := false }] }

/-- R91: the thread has fewer than 16 outstanding gated requests. -/
def gatedRoom (c : Core) (th : Nat) : Bool := decide ((c.gated.filter fun g => g.thread == th).length < 16)
/-- R91: the core has fewer than 16 open windows. -/
def windowRoom (c : Core) : Bool := decide (c.wins.length < 16)

/-- Requests waiting in the thread queue of bank `b`. -/
def bankLoad (c : Core) (b : Nat) : Nat := (c.spadQ.filter fun r => (reqBanks r).contains b).length
/-- Table 1 of spec/04: every bank that the words name has a free entry. -/
def banksFree (c : Core) (words : List Nat) : Bool := words.all fun a => decide (bankLoad c (bankOf a) < 8)

/-- R96: a thread-class request reaches its bank 2 steps after issue. -/
def spadReq (c : Core) (th : Nat) (addr : Nat) (act : SpadAct) : SpadReq :=
  { thread := th, issue := c.step, addr := addr, reach := c.step + 2, act := act }

def pushSpad (c : Core) (rs : List SpadReq) : Core := { c with spadQ := c.spadQ ++ rs }

/-- An ungated load of the words at `words`. -/
def addLoad (c : Core) (th : Nat) (k : LoadKind) (words : List Nat) : Core :=
  let c := pushSpad c (words.map fun a => spadReq c th a .read)
  { c with loads := c.loads ++ [{ thread := th, issue := c.step, kind := k, need := words.map (· / 64), got := [] }] }

/-- R98: opens a window over a scratchpad destination. -/
def openWindow (c : Core) (th : Nat) (r : Region) (size : Nat) : Core :=
  match r with
  | .spad off => { c with wins := c.wins ++ [{ base := off, size := size, thread := th, issue := c.step }] }
  | _ => c

def isSpad (r : Region) : Bool :=
  match r with
  | .spad _ => true
  | _ => false
def isHost (r : Region) : Bool :=
  match r with
  | .host _ => true
  | _ => false
def isTenant (r : Region) : Bool :=
  match r with
  | .tenant _ => true
  | _ => false

/-- The words of `n` bytes from address `a`. -/
def wordsOf (a n : Nat) : List Nat := if n = 0 then [] else wordRange a (a + n - 1)

/-- R99: the check of a thread access of `n` bytes against the open windows. -/
def windowCheck (x : Ctx) (c : Core) (r : Region) (n : Nat) (addr : W64) : List (Nat × W64) :=
  match r with
  | .spad off => if x.lock && touchesWindow c off n then [(xOpenWindow, addr)] else []
  | _ => []

/-- R154: the scratchpad regions that queued engine operations still read or write. -/
def engineRegions (c : Core) : List (Nat × Nat) :=
  c.eng.flatMap fun e => e.queue.flatMap fun o => match o.kind with
    | .mma a b _ => [(a.base, tileExtent a), (a.scale, tileScaleExtent a), (b.base, tileExtent b), (b.scale, tileScaleExtent b)]
    | .rstore addr saddr fmt _ _ _ _ =>
      let f := (fmtOfCode fmt).getD .fp32
      [(addr, 64 * fmtWidth f), (saddr, if fmtIsMx f then 16 else 0)]
    | .xstore addr _ => [(addr, 65536)]
    | _ => []

/-- R154: the check of an operation that would open a window. -/
def openCheck (x : Ctx) (c : Core) (r : Region) (n : Nat) (addr : W64) : List (Nat × W64) :=
  match r with
  | .spad off =>
    if x.lock && (touchesWindow c off n || (engineRegions c).any fun p => overlaps off n p.1 p.2) then [(xOpenWindow, addr)] else []
  | _ => []

/-- Alignment (cause MISALIGNED, XINFO the address). -/
def alignCheck (addr : W64) (n : Nat) : List (Nat × W64) := if addr.toNat % n = 0 then [] else [(xMisaligned, addr)]

end Sys2Proof.Machine
end

