-- ==== Sys2Proof/Machine/LntTypes.lean ====
section
/-! DEFINITION. Machine/LntTypes.lean: the state of the lantern beside its registers: the boot NOR, key banks, SPDM and IDE
(spec/17 R510 to R533). -/

namespace Sys2Proof.Machine

/-- R529 Table 10: a valid persistent key bank: its version and its keys: identifier, kind, point. -/
structure KeyBank where
  version : Nat
  keys : List (Nat × Nat × List Byte)
  deriving DecidableEq, Repr

/-- R514: a secured session of a function: its number, and whether FINISH has completed it. -/
structure SpdmSess where
  fn : Nat
  id : Nat
  open_ : Bool
  deriving DecidableEq, Repr

/-- Where the answer of a release that waits for a drain goes (R521). -/
inductive ReleaseTo where
  /-- the channel of SG_DESTROY -/
  | chan (c : Nat)
  /-- the CTL wick, for SGREL -/
  | wick
  deriving DecidableEq, Repr

structure LntSt where
  /-- R510, R512: bundles A and B, and the valid boot header copies: version and selector (false for A) -/
  bundleA : List Byte
  bundleB : List Byte
  hdr0 : Option (Nat × Bool)
  hdr1 : Option (Nat × Bool)
  /-- the bundle that runs -/
  running : List Byte
  /-- R529: the valid key banks -/
  pkA : Option KeyBank
  pkB : Option KeyBank
  /-- R527: a REKEY that waits for the erasure of an older version: channel and saggar -/
  rekeyWait : Option (Nat × Nat)
  /-- a REKEY whose old version drains: channel and saggar -/
  rekeyDrain : List (Nat × Nat)
  /-- R521: releases at step 4, by saggar -/
  release : List (Nat × ReleaseTo)
  /-- R514: how far a requester has negotiated, by function, 256 for the I3C port: 1 version, 2 capabilities, 3 algorithms -/
  spdm : Tbl Nat
  sess : List SpdmSess
  nextSess : Nat
  /-- R533: IDE selective streams by port × 16 + stream: the key sets that hold keys -/
  ide : Tbl (Bool × Bool)
  deriving DecidableEq, Repr

def lntReset : LntSt :=
  { bundleA := [], bundleB := [], hdr0 := none, hdr1 := none, running := [], pkA := none, pkB := none, rekeyWait := none, rekeyDrain := [], release := [],
    spdm := [], sess := [], nextSess := 1, ide := [] }

end Sys2Proof.Machine
end

