-- ==== Sys2Proof/Machine/Regs.lean ====
section
/-! DEFINITION. Machine/Regs.lean: the register map of BAR0: every register's offset, fields, access types, reset values and
reserved encodings, from the register tables of spec/ (R8 to R13 of spec/00, and the table of each block). A register that a
table indexes has one row with its strides. Offsets are those of BAR0; the four FAB_CC copies are one register (R335). -/

namespace Sys2Proof.Machine

/-- R11 Table 6. No register of the tables is RWS. -/
inductive FAcc where
  | rw | ro | wo | w1c | w1s | rwl
  deriving DecidableEq, Repr

/-- A bit range. -/
structure Fld where
  hi : Nat
  lo : Nat
  deriving DecidableEq, Repr

/-- One field: place, access, reset value, and the values that a write may load (R10). -/
structure FieldSpec where
  fld : Fld
  acc : FAcc
  rst : Nat
  okLo : Nat := 0
  okHi : Nat := 0xFFFFFFFF
  okZero : Bool := false

/-- One register, or one array of them. -/
structure RegRow where
  base : Nat
  dims : List (Nat × Nat)
  fields : List FieldSpec

/-- A field of a register value. -/
def fldGet (v : W32) (f : Fld) : Nat := bits v.toNat f.hi f.lo
/-- A register value with a field replaced. -/
def fldSet (v : W32) (f : Fld) (x : Nat) : W32 := BitVec.ofNat 32 (setBits v.toNat f.hi f.lo x)

def r_ID_PART : Nat := 0x0
def r_ID_GRADE : Nat := 0x4
def r_ID_STEP : Nat := 0x8
def r_ID_SER_LO : Nat := 0xC
def r_ID_SER_HI : Nat := 0x10
def r_DET_TB_LO : Nat := 0x70100
def r_DET_TB_HI : Nat := 0x70104
def r_DET_TB_STAT : Nat := 0x70108
def r_DET_TB_CFG : Nat := 0x7010C
def r_DET_TB_PPS_LO : Nat := 0x70110
def r_DET_TB_PPS_HI : Nat := 0x70114
def r_DET_GSTALL_CNT : Nat := 0x70118
def r_DET_GSTALL_US : Nat := 0x7011C
def r_MMU_CTL : Nat := 0x60000
def r_MMU_STAT : Nat := 0x60004
def r_MMU_FCNT : Nat := 0x60008
def r_MMU_WCNT : Nat := 0x6000C
def r_MMU_TW_DST_LO : Nat := 0x60010
def r_MMU_TW_DST_HI : Nat := 0x60014
def r_MMU_TW_SRC_LO : Nat := 0x60018
def r_MMU_TW_SRC_HI : Nat := 0x6001C
def r_MMU_TW_DATA_LO : Nat := 0x60020
def r_MMU_TW_DATA_HI : Nat := 0x60024
def r_MMU_TW_CTL : Nat := 0x60028
def r_MMU_TW_STAT : Nat := 0x6002C
def r_MMU_ROOT_LO (i : Nat) : Nat := 0x61000 + 0x8 * i
def r_MMU_ROOT_HI (i : Nat) : Nat := 0x61004 + 0x8 * i
def r_TNT_PREEMPT : Nat := 0x50000
def r_TNT_PRE_STAT : Nat := 0x50004
def r_TNT_CLMAP_SEL : Nat := 0x50008
def r_TNT_CLMAP_VAL : Nat := 0x5000C
def r_TNT_SG_STATE (i : Nat) : Nat := 0x51000 + 0x20 * i
def r_TNT_SG_SAVE_LO (i : Nat) : Nat := 0x51004 + 0x20 * i
def r_TNT_SG_SAVE_HI (i : Nat) : Nat := 0x51008 + 0x20 * i
def r_TNT_SG_SAVE_SZ (i : Nat) : Nat := 0x5100C + 0x20 * i
def r_STM_SQB_LO (i : Nat) : Nat := 0x100000 + 0x40 * i
def r_STM_SQB_HI (i : Nat) : Nat := 0x100004 + 0x40 * i
def r_STM_CQB_LO (i : Nat) : Nat := 0x100008 + 0x40 * i
def r_STM_CQB_HI (i : Nat) : Nat := 0x10000C + 0x40 * i
def r_STM_CFG (i : Nat) : Nat := 0x100010 + 0x40 * i
def r_STM_CTL (i : Nat) : Nat := 0x100014 + 0x40 * i
def r_STM_COAL (i : Nat) : Nat := 0x100018 + 0x40 * i
def r_STM_SEQ_LO (i : Nat) : Nat := 0x10001C + 0x40 * i
def r_STM_SEQ_HI (i : Nat) : Nat := 0x100020 + 0x40 * i
def r_STM_PTR (i : Nat) : Nat := 0x100024 + 0x40 * i
def r_STM_STAT (i : Nat) : Nat := 0x100028 + 0x40 * i
def r_STM_LDONE_LO (i : Nat) : Nat := 0x10002C + 0x40 * i
def r_STM_LDONE_HI (i : Nat) : Nat := 0x100030 + 0x40 * i
def r_STM_ACCNT (i : Nat) : Nat := 0x100034 + 0x40 * i
def r_STM_REJCNT (i : Nat) : Nat := 0x100038 + 0x40 * i
def r_STM_DUPCNT (i : Nat) : Nat := 0x10003C + 0x40 * i
def r_TNT_FN_STRM (i : Nat) : Nat := 0x52000 + 0x10 * i
def r_TNT_FN_BUDGET (i : Nat) : Nat := 0x52004 + 0x10 * i
def r_TNT_FN_STAT (i : Nat) : Nat := 0x52008 + 0x10 * i
def r_TNT_FN_PORT (i : Nat) : Nat := 0x5200C + 0x10 * i
def r_DET_CTL : Nat := 0x70000
def r_DET_STAT : Nat := 0x70004
def r_DET_RPL_CTL : Nat := 0x70200
def r_DET_RPL_STAT : Nat := 0x70204
def r_DET_RPL_LOG_LO : Nat := 0x70208
def r_DET_RPL_LOG_HI : Nat := 0x7020C
def r_DET_RPL_LOG_LEN : Nat := 0x70210
def r_DET_RPL_IN_LO : Nat := 0x70214
def r_DET_RPL_IN_HI : Nat := 0x70218
def r_DET_RPL_OUT_LO : Nat := 0x7021C
def r_DET_RPL_OUT_HI : Nat := 0x70220
def r_DET_RPL_DUMP_LO : Nat := 0x70224
def r_DET_RPL_DUMP_HI : Nat := 0x70228
def r_DET_RPL_SEQ_LO : Nat := 0x7022C
def r_DET_RPL_SEQ_HI : Nat := 0x70230
def r_DET_RPL_PT : Nat := 0x70234
def r_DET_RPL_CNT_LO : Nat := 0x70238
def r_DET_RPL_CNT_HI : Nat := 0x7023C
def r_DET_RPL_ADDR_LO : Nat := 0x70240
def r_DET_RPL_ADDR_HI : Nat := 0x70244
def r_DET_RPL_LEN : Nat := 0x70248
def r_DET_RPL_ITEMS : Nat := 0x7024C
def r_DET_RPL_MISCNT : Nat := 0x70250
def r_DET_RPL_LSN_LO : Nat := 0x70254
def r_DET_RPL_LSN_HI : Nat := 0x70258
def r_DET_LOG_LO (i : Nat) : Nat := 0x71000 + 0x20 * i
def r_DET_LOG_HI (i : Nat) : Nat := 0x71004 + 0x20 * i
def r_DET_LOG_CFG (i : Nat) : Nat := 0x71008 + 0x20 * i
def r_DET_LOG_HEAD (i : Nat) : Nat := 0x7100C + 0x20 * i
def r_DET_LOG_TAIL (i : Nat) : Nat := 0x71010 + 0x20 * i
def r_DET_LOG_STAT (i : Nat) : Nat := 0x71014 + 0x20 * i
def r_DET_LOG_LSN_LO (i : Nat) : Nat := 0x71018 + 0x20 * i
def r_DET_LOG_LSN_HI (i : Nat) : Nat := 0x7101C + 0x20 * i
def r_FAB_LNK_CTL (i : Nat) (j : Nat) : Nat := 0x90000 + 0x4000 * i + 0x400 * j
def r_FAB_LNK_STAT (i : Nat) (j : Nat) : Nat := 0x90004 + 0x4000 * i + 0x400 * j
def r_FAB_LNK_ERR (i : Nat) (j : Nat) : Nat := 0x90008 + 0x4000 * i + 0x400 * j
def r_FAB_LNK_RTMO (i : Nat) (j : Nat) : Nat := 0x9000C + 0x4000 * i + 0x400 * j
def r_FAB_FEC_CW_LO (i : Nat) (j : Nat) : Nat := 0x90010 + 0x4000 * i + 0x400 * j
def r_FAB_FEC_CW_HI (i : Nat) (j : Nat) : Nat := 0x90014 + 0x4000 * i + 0x400 * j
def r_FAB_FEC_SYM_LO (i : Nat) (j : Nat) : Nat := 0x90018 + 0x4000 * i + 0x400 * j
def r_FAB_FEC_SYM_HI (i : Nat) (j : Nat) : Nat := 0x9001C + 0x4000 * i + 0x400 * j
def r_FAB_FEC_UNC (i : Nat) (j : Nat) : Nat := 0x90020 + 0x4000 * i + 0x400 * j
def r_FAB_RTX_NAKTX (i : Nat) (j : Nat) : Nat := 0x90024 + 0x4000 * i + 0x400 * j
def r_FAB_RTX_NAKRX (i : Nat) (j : Nat) : Nat := 0x90028 + 0x4000 * i + 0x400 * j
def r_FAB_RTX_TMO (i : Nat) (j : Nat) : Nat := 0x9002C + 0x4000 * i + 0x400 * j
def r_FAB_RTX_CELLS (i : Nat) (j : Nat) : Nat := 0x90030 + 0x4000 * i + 0x400 * j
def r_FAB_DROP_AGE (i : Nat) (j : Nat) : Nat := 0x90034 + 0x4000 * i + 0x400 * j
def r_FAB_DROP_HDR (i : Nat) (j : Nat) : Nat := 0x90038 + 0x4000 * i + 0x400 * j
def r_FAB_DROP_LOSS (i : Nat) (j : Nat) : Nat := 0x9003C + 0x4000 * i + 0x400 * j
def r_FAB_CE_MARKS (i : Nat) (j : Nat) : Nat := 0x90040 + 0x4000 * i + 0x400 * j
def r_FAB_STALL_LO (i : Nat) (j : Nat) : Nat := 0x90044 + 0x4000 * i + 0x400 * j
def r_FAB_STALL_HI (i : Nat) (j : Nat) : Nat := 0x90048 + 0x4000 * i + 0x400 * j
def r_FAB_VC_CELLS_LO (i : Nat) (j : Nat) (k : Nat) : Nat := 0x90100 + 0x4000 * i + 0x400 * j + 0x10 * k
def r_FAB_VC_CELLS_HI (i : Nat) (j : Nat) (k : Nat) : Nat := 0x90104 + 0x4000 * i + 0x400 * j + 0x10 * k
def r_FAB_VC_WORDS_LO (i : Nat) (j : Nat) (k : Nat) : Nat := 0x90108 + 0x4000 * i + 0x400 * j + 0x10 * k
def r_FAB_VC_WORDS_HI (i : Nat) (j : Nat) (k : Nat) : Nat := 0x9010C + 0x4000 * i + 0x400 * j + 0x10 * k
def r_FAB_VC_OCC (i : Nat) (j : Nat) (k : Nat) : Nat := 0x90200 + 0x4000 * i + 0x400 * j + 0x4 * k
def r_FAB_WH_CTL (i : Nat) : Nat := 0x93000 + 0x4000 * i
def r_FAB_VC_BUF (i : Nat) (j : Nat) : Nat := 0x93040 + 0x4000 * i + 0x4 * j
def r_FAB_RT_STAT (i : Nat) : Nat := 0x93100 + 0x4000 * i
def r_FAB_RT_EPOCH (i : Nat) : Nat := 0x93104 + 0x4000 * i
def r_FAB_RT_OLD (i : Nat) : Nat := 0x93108 + 0x4000 * i
def r_FAB_RT_SEL (i : Nat) : Nat := 0x9310C + 0x4000 * i
def r_FAB_RT_ENT (i : Nat) : Nat := 0x93110 + 0x4000 * i
def r_FAB_RT_ADAPT (i : Nat) : Nat := 0x93120 + 0x4000 * i
def r_FAB_RT_ESC (i : Nat) : Nat := 0x93124 + 0x4000 * i
def r_FAB_RT_FALLBK (i : Nat) : Nat := 0x93128 + 0x4000 * i
def r_FAB_RT_WAIT (i : Nat) : Nat := 0x9312C + 0x4000 * i
def r_FAB_CE_THR (i : Nat) (j : Nat) : Nat := 0x93200 + 0x4000 * i + 0x4 * j
def r_FAB_CC_CTL : Nat := 0x93800
def r_FAB_CC_TIME : Nat := 0x93804
def r_FAB_CC_AI : Nat := 0x93808
def r_FAB_CC_ECE : Nat := 0x9380C
def r_FAB_CC_LIMUS : Nat := 0x93810
def r_FAB_CC_WINWAIT : Nat := 0x93814
def r_FAB_CC_SEL : Nat := 0x93818
def r_FAB_CC_RATE : Nat := 0x9381C
def r_KLN_CFG : Nat := 0x80000
def r_KLN_PAIR : Nat := 0x80004
def r_KLN_SHAPE : Nat := 0x80008
def r_KLN_TIMING : Nat := 0x8000C
def r_KLN_ENUM : Nat := 0x80010
def r_KLN_CTL : Nat := 0x80014
def r_KLN_STAT : Nat := 0x80018
def r_KLN_TERM : Nat := 0x8001C
def r_KLN_FMPKG : Nat := 0x80020
def r_KLN_EPOCH : Nat := 0x80024
def r_KLN_TOPO : Nat := 0x80028
def r_KLN_LNKUP : Nat := 0x8002C
def r_KLN_RC_CNT : Nat := 0x80030
def r_KLN_RC_TIME : Nat := 0x80034
def r_KLN_FO_CNT : Nat := 0x80038
def r_KLN_SPM_SEL : Nat := 0x80040
def r_KLN_SPM_VAL : Nat := 0x80044
def r_KLN_TP_SEL : Nat := 0x80048
def r_KLN_TP_VAL : Nat := 0x8004C
def r_TST_CTL : Nat := 0xA0000
def r_TST_CFG : Nat := 0xA0004
def r_TST_TW_CFG : Nat := 0xA0008
def r_TST_THR : Nat := 0xA000C
def r_TST_STAT : Nat := 0xA0010
def r_TST_PATVER : Nat := 0xA0014
def r_TST_RUNS : Nat := 0xA0018
def r_TST_FAILS : Nat := 0xA001C
def r_TST_ABORTS : Nat := 0xA0020
def r_TST_CLS_CNT (i : Nat) : Nat := 0xA0030 + 0x4 * i
def r_TST_ENG_SEL : Nat := 0xA0050
def r_TST_ENG_VAL : Nat := 0xA0054
def r_TST_INJ : Nat := 0xA0060
def r_TST_SHD_CNT : Nat := 0xA0100
def r_TST_SHD_IDX : Nat := 0xA0104
def r_TST_SHD_DATA (i : Nat) : Nat := 0xA0200 + 0x4 * i
def r_FLT_CFG : Nat := 0x30000
def r_FLT_STAT : Nat := 0x30004
def r_FLT_LINE_STAT : Nat := 0x30008
def r_FLT_LINE_ERR : Nat := 0x3000C
def r_FLT_LINE_LIVE : Nat := 0x30010
def r_FLT_SRC_SEL : Nat := 0x30020
def r_FLT_SRC_CFG : Nat := 0x30024
def r_FLT_SRC_INFO : Nat := 0x30028
def r_FLT_SRC_STAT (i : Nat) : Nat := 0x30100 + 0x4 * i
def r_FLT_CAP_STAT : Nat := 0x30200
def r_FLT_CAP_ID : Nat := 0x30204
def r_FLT_CAP_ADDR_LO : Nat := 0x30208
def r_FLT_CAP_ADDR_HI : Nat := 0x3020C
def r_FLT_CAP_TB_LO : Nat := 0x30210
def r_FLT_CAP_TB_HI : Nat := 0x30214
def r_FLT_CAP_SYND_LO : Nat := 0x30218
def r_FLT_CAP_SYND_HI : Nat := 0x3021C
def r_FLT_CAP_OWNER : Nat := 0x30220
def r_FLT_INJ : Nat := 0x30300
def r_FLT_HALT_CFG : Nat := 0x30400
def r_FLT_HALT_STAT : Nat := 0x30404
def r_FLT_MGP_CTL : Nat := 0x30800
def r_FLT_MGP_MAC_LO : Nat := 0x30804
def r_FLT_MGP_MAC_HI : Nat := 0x30808
def r_FLT_MGP_VLAN : Nat := 0x3080C
def r_FLT_MGP_IP4 : Nat := 0x30810
def r_FLT_MGP_IP6 (i : Nat) : Nat := 0x30814 + 0x4 * i
def r_FLT_MGP_DST4 : Nat := 0x30824
def r_FLT_MGP_DST6 (i : Nat) : Nat := 0x30828 + 0x4 * i
def r_FLT_MGP_DROP (i : Nat) : Nat := 0x30840 + 0x4 * i
def r_FLT_MGP_RXOK : Nat := 0x30870
def r_FLT_MGP_TXOK : Nat := 0x30874
def r_RST_CFG : Nat := 0x20000
def r_RST_PILOT : Nat := 0x20004
def r_RST_LAD_A : Nat := 0x20008
def r_RST_LAD_B : Nat := 0x2000C
def r_RST_WATCH : Nat := 0x20010
def r_RST_RUN : Nat := 0x20014
def r_RST_SNUFF : Nat := 0x20020
def r_RST_SNUFF_STAT : Nat := 0x20024
def r_RST_DIE : Nat := 0x20028
def r_RST_DIE_STAT (i : Nat) : Nat := 0x20100 + 0x4 * i
def r_RST_RET_SEL : Nat := 0x20200
def r_RST_RET_VAL : Nat := 0x20204
def r_RST_EMB_OFF (i : Nat) : Nat := 0x20300 + 0x4 * i
def r_RST_EMB_SEL : Nat := 0x20310
def r_RST_EMB_INFO : Nat := 0x20314
def r_RST_EMB_DST_LO : Nat := 0x20318
def r_RST_EMB_DST_HI : Nat := 0x2031C
def r_RST_EMB_CTL : Nat := 0x20320
def r_JNL_PAIR : Nat := 0xB0000
def r_JNL_CTL : Nat := 0xB0004
def r_JNL_STAT : Nat := 0xB0008
def r_JNL_SPARE : Nat := 0xB000C
def r_JNL_COMMITS : Nat := 0xB0010
def r_JNL_RECOV : Nat := 0xB0014
def r_JNL_DIVCNT : Nat := 0xB0018
def r_JNL_DIV_LO : Nat := 0xB001C
def r_JNL_DIV_HI : Nat := 0xB0020
def r_JNL_LAT : Nat := 0xB0024
def r_JNL_TWIN_TX : Nat := 0xB0028
def r_JNL_TWIN_RTX : Nat := 0xB002C
def r_TNT_LAN_STAT : Nat := 0x50010
def r_TNT_ZCNT : Nat := 0x50014
def r_TNT_SOB_SEL : Nat := 0x50020
def r_TNT_SOB_VAL : Nat := 0x50024
def r_TNT_SG_BIND (i : Nat) : Nat := 0x51010 + 0x20 * i
def r_TNT_SG_KEY (i : Nat) : Nat := 0x51014 + 0x20 * i
def r_TNT_SG_SOB (i : Nat) : Nat := 0x51018 + 0x20 * i
def r_MBX_STAT : Nat := 0x40000
def r_MBX_VIOL_ID : Nat := 0x40004
def r_MBX_BIND (i : Nat) : Nat := 0x40100 + 0x4 * i
def r_MBX_LOCK_LO : Nat := 0x40200
def r_MBX_LOCK_HI : Nat := 0x40204
def r_MBX_PAY (i : Nat) (j : Nat) : Nat := 0x41000 + 0x200 * i + 0x4 * j
def r_MBX_DB_SET (i : Nat) : Nat := 0x41100 + 0x200 * i
def r_MBX_DB_PEND (i : Nat) : Nat := 0x41104 + 0x200 * i
def r_MBX_DB_MASK (i : Nat) : Nat := 0x41108 + 0x200 * i
def r_MBX_ACK (i : Nat) : Nat := 0x4110C + 0x200 * i
def r_MBX_CH_CFG (i : Nat) : Nat := 0x41110 + 0x200 * i
def r_MBX_CH_CNT (i : Nat) : Nat := 0x41114 + 0x200 * i
def r_PWR_CTL : Nat := 0x10000
def r_PWR_CFG : Nat := 0x10004
def r_PWR_STAT : Nat := 0x10008
def r_PWR_CAP : Nat := 0x1000C
def r_PWR_IN : Nat := 0x10010
def r_PWR_PEER_TOL : Nat := 0x10014
def r_PWR_MINTOL : Nat := 0x10018
def r_PWR_MINSRC : Nat := 0x1001C
def r_PWR_RAIL (i : Nat) : Nat := 0x10100 + 0x4 * i
def r_PWR_FN_LTR (i : Nat) : Nat := 0x11000 + 0x4 * i
def r_RST_BOOT_STAT : Nat := 0x20400
def r_RST_BOOT_DIE : Nat := 0x20404

def f_ID_PART_PART : Fld := ⟨31, 16⟩
def f_ID_GRADE_GRADE : Fld := ⟨3, 0⟩
def f_ID_GRADE_CDCNT : Fld := ⟨12, 8⟩
def f_ID_GRADE_CPD : Fld := ⟨24, 16⟩
def f_ID_STEP_LETTER : Fld := ⟨7, 4⟩
def f_ID_STEP_DIGIT : Fld := ⟨3, 0⟩
def f_ID_SER_LO_SER : Fld := ⟨31, 0⟩
def f_ID_SER_HI_SER : Fld := ⟨31, 0⟩
def f_DET_TB_LO_TB : Fld := ⟨31, 0⟩
def f_DET_TB_HI_TB : Fld := ⟨31, 0⟩
def f_DET_TB_STAT_SYNCED : Fld := ⟨0, 0⟩
def f_DET_TB_STAT_PPS_SEEN : Fld := ⟨1, 1⟩
def f_DET_TB_STAT_LOST : Fld := ⟨2, 2⟩
def f_DET_TB_STAT_MASTER : Fld := ⟨3, 3⟩
def f_DET_TB_STAT_HOPS : Fld := ⟨15, 8⟩
def f_DET_TB_STAT_ERRNS : Fld := ⟨31, 16⟩
def f_DET_TB_CFG_PPS_EN : Fld := ⟨0, 0⟩
def f_DET_TB_CFG_PPS_EDGE : Fld := ⟨1, 1⟩
def f_DET_TB_CFG_SLEW_PPM : Fld := ⟨31, 16⟩
def f_DET_TB_PPS_LO_TB : Fld := ⟨31, 0⟩
def f_DET_TB_PPS_HI_TB : Fld := ⟨31, 0⟩
def f_DET_GSTALL_CNT_CNT : Fld := ⟨31, 0⟩
def f_DET_GSTALL_US_US : Fld := ⟨31, 0⟩
def f_MMU_CTL_FTMO : Fld := ⟨15, 0⟩
def f_MMU_STAT_FPEND : Fld := ⟨10, 0⟩
def f_MMU_STAT_FQFULL : Fld := ⟨16, 16⟩
def f_MMU_STAT_FMTERR : Fld := ⟨17, 17⟩
def f_MMU_FCNT_CNT : Fld := ⟨31, 0⟩
def f_MMU_WCNT_CNT : Fld := ⟨31, 0⟩
def f_MMU_TW_DST_LO_DST : Fld := ⟨31, 3⟩
def f_MMU_TW_DST_HI_DST : Fld := ⟨8, 0⟩
def f_MMU_TW_SRC_LO_SRC : Fld := ⟨31, 3⟩
def f_MMU_TW_SRC_HI_SRC : Fld := ⟨30, 0⟩
def f_MMU_TW_DATA_LO_DATA : Fld := ⟨31, 0⟩
def f_MMU_TW_DATA_HI_DATA : Fld := ⟨31, 0⟩
def f_MMU_TW_CTL_CNT : Fld := ⟨15, 0⟩
def f_MMU_TW_CTL_SG : Fld := ⟨23, 16⟩
def f_MMU_TW_CTL_GO : Fld := ⟨31, 31⟩
def f_MMU_TW_STAT_BUSY : Fld := ⟨0, 0⟩
def f_MMU_TW_STAT_ERR : Fld := ⟨1, 1⟩
def f_MMU_TW_STAT_ECODE : Fld := ⟨7, 4⟩
def f_MMU_ROOT_LO_ROOT : Fld := ⟨31, 12⟩
def f_MMU_ROOT_HI_ROOT : Fld := ⟨8, 0⟩
def f_TNT_PREEMPT_SG : Fld := ⟨7, 0⟩
def f_TNT_PREEMPT_ACT : Fld := ⟨9, 8⟩
def f_TNT_PREEMPT_GO : Fld := ⟨31, 31⟩
def f_TNT_PRE_STAT_BUSY : Fld := ⟨0, 0⟩
def f_TNT_PRE_STAT_DONE : Fld := ⟨1, 1⟩
def f_TNT_PRE_STAT_ERR : Fld := ⟨2, 2⟩
def f_TNT_PRE_STAT_SG : Fld := ⟨15, 8⟩
def f_TNT_PRE_STAT_ECODE : Fld := ⟨23, 16⟩
def f_TNT_CLMAP_SEL_SG : Fld := ⟨7, 0⟩
def f_TNT_CLMAP_SEL_LCL : Fld := ⟨15, 8⟩
def f_TNT_CLMAP_VAL_V : Fld := ⟨0, 0⟩
def f_TNT_CLMAP_VAL_DIE : Fld := ⟨7, 4⟩
def f_TNT_CLMAP_VAL_CL : Fld := ⟨11, 8⟩
def f_TNT_SG_STATE_STATE : Fld := ⟨2, 0⟩
def f_TNT_SG_STATE_CLCNT : Fld := ⟨15, 8⟩
def f_TNT_SG_SAVE_LO_VA : Fld := ⟨31, 16⟩
def f_TNT_SG_SAVE_HI_VA : Fld := ⟨15, 0⟩
def f_TNT_SG_SAVE_SZ_SZ : Fld := ⟨15, 0⟩
def f_STM_SQB_LO_BASE : Fld := ⟨31, 12⟩
def f_STM_SQB_HI_BASE : Fld := ⟨30, 0⟩
def f_STM_CQB_LO_BASE : Fld := ⟨31, 12⟩
def f_STM_CQB_HI_BASE : Fld := ⟨30, 0⟩
def f_STM_CFG_SQLOG : Fld := ⟨3, 0⟩
def f_STM_CFG_CQLOG : Fld := ⟨11, 8⟩
def f_STM_CFG_VEC : Fld := ⟨26, 16⟩
def f_STM_CFG_MODE : Fld := ⟨29, 28⟩
def f_STM_CTL_EN : Fld := ⟨0, 0⟩
def f_STM_CTL_FLUSH : Fld := ⟨1, 1⟩
def f_STM_CTL_RESUME : Fld := ⟨2, 2⟩
def f_STM_COAL_CNT : Fld := ⟨7, 0⟩
def f_STM_COAL_TMO : Fld := ⟨23, 8⟩
def f_STM_SEQ_LO_SEQ : Fld := ⟨31, 0⟩
def f_STM_SEQ_HI_SEQ : Fld := ⟨15, 0⟩
def f_STM_PTR_SQHEAD : Fld := ⟨15, 0⟩
def f_STM_PTR_CQTAIL : Fld := ⟨31, 16⟩
def f_STM_STAT_STATE : Fld := ⟨2, 0⟩
def f_STM_STAT_SQPH : Fld := ⟨3, 3⟩
def f_STM_STAT_CQPH : Fld := ⟨4, 4⟩
def f_STM_STAT_NOACC : Fld := ⟨5, 5⟩
def f_STM_STAT_DBERR : Fld := ⟨6, 6⟩
def f_STM_STAT_PHWAIT : Fld := ⟨7, 7⟩
def f_STM_STAT_ECODE : Fld := ⟨15, 8⟩
def f_STM_STAT_INFLIGHT : Fld := ⟨24, 16⟩
def f_STM_LDONE_LO_SEQ : Fld := ⟨31, 0⟩
def f_STM_LDONE_HI_SEQ : Fld := ⟨15, 0⟩
def f_STM_LDONE_HI_VALID : Fld := ⟨31, 31⟩
def f_STM_ACCNT_CNT : Fld := ⟨31, 0⟩
def f_STM_REJCNT_CNT : Fld := ⟨31, 0⟩
def f_STM_DUPCNT_CNT : Fld := ⟨31, 0⟩
def f_TNT_FN_STRM_SBASE : Fld := ⟨9, 0⟩
def f_TNT_FN_STRM_SCNT : Fld := ⟨26, 16⟩
def f_TNT_FN_BUDGET_CPL : Fld := ⟨15, 0⟩
def f_TNT_FN_BUDGET_IRQ : Fld := ⟨31, 16⟩
def f_TNT_FN_STAT_ERR : Fld := ⟨0, 0⟩
def f_TNT_FN_STAT_CPLDEF : Fld := ⟨1, 1⟩
def f_TNT_FN_STAT_IRQDEF : Fld := ⟨2, 2⟩
def f_TNT_FN_STAT_DEFCNT : Fld := ⟨31, 16⟩
def f_TNT_FN_PORT_PORT : Fld := ⟨0, 0⟩
def f_DET_CTL_LOCK : Fld := ⟨0, 0⟩
def f_DET_STAT_LOCKERR : Fld := ⟨0, 0⟩
def f_DET_RPL_CTL_SG : Fld := ⟨7, 0⟩
def f_DET_RPL_CTL_GO : Fld := ⟨8, 8⟩
def f_DET_RPL_CTL_ABORT : Fld := ⟨9, 9⟩
def f_DET_RPL_CTL_ENG : Fld := ⟨10, 10⟩
def f_DET_RPL_CTL_INSRC : Fld := ⟨11, 11⟩
def f_DET_RPL_STAT_STATE : Fld := ⟨2, 0⟩
def f_DET_RPL_STAT_ECODE : Fld := ⟨15, 8⟩
def f_DET_RPL_STAT_MAPSAME : Fld := ⟨16, 16⟩
def f_DET_RPL_LOG_LO_ADDR : Fld := ⟨31, 6⟩
def f_DET_RPL_LOG_HI_ADDR : Fld := ⟨30, 0⟩
def f_DET_RPL_LOG_LEN_LEN : Fld := ⟨31, 0⟩
def f_DET_RPL_IN_LO_ADDR : Fld := ⟨31, 6⟩
def f_DET_RPL_IN_HI_ADDR : Fld := ⟨30, 0⟩
def f_DET_RPL_OUT_LO_ADDR : Fld := ⟨31, 6⟩
def f_DET_RPL_OUT_HI_ADDR : Fld := ⟨30, 0⟩
def f_DET_RPL_DUMP_LO_ADDR : Fld := ⟨31, 6⟩
def f_DET_RPL_DUMP_HI_ADDR : Fld := ⟨30, 0⟩
def f_DET_RPL_SEQ_LO_SEQ : Fld := ⟨31, 0⟩
def f_DET_RPL_SEQ_HI_SEQ : Fld := ⟨15, 0⟩
def f_DET_RPL_SEQ_HI_STRM : Fld := ⟨31, 16⟩
def f_DET_RPL_PT_LCORE : Fld := ⟨11, 0⟩
def f_DET_RPL_PT_THREAD : Fld := ⟨17, 12⟩
def f_DET_RPL_PT_KIND : Fld := ⟨19, 18⟩
def f_DET_RPL_PT_MIDX : Fld := ⟨31, 20⟩
def f_DET_RPL_CNT_LO_CNT : Fld := ⟨31, 0⟩
def f_DET_RPL_CNT_HI_CNT : Fld := ⟨31, 0⟩
def f_DET_RPL_ADDR_LO_ADDR : Fld := ⟨31, 0⟩
def f_DET_RPL_ADDR_HI_ADDR : Fld := ⟨31, 0⟩
def f_DET_RPL_LEN_LEN : Fld := ⟨24, 0⟩
def f_DET_RPL_ITEMS_CNT : Fld := ⟨31, 0⟩
def f_DET_RPL_MISCNT_CNT : Fld := ⟨31, 0⟩
def f_DET_RPL_LSN_LO_LSN : Fld := ⟨31, 0⟩
def f_DET_RPL_LSN_HI_LSN : Fld := ⟨31, 0⟩
def f_DET_LOG_LO_BASE : Fld := ⟨31, 12⟩
def f_DET_LOG_HI_BASE : Fld := ⟨30, 0⟩
def f_DET_LOG_CFG_SZLOG : Fld := ⟨4, 0⟩
def f_DET_LOG_CFG_EN : Fld := ⟨8, 8⟩
def f_DET_LOG_CFG_DATA : Fld := ⟨9, 9⟩
def f_DET_LOG_HEAD_HEAD : Fld := ⟨31, 4⟩
def f_DET_LOG_TAIL_TAIL : Fld := ⟨31, 4⟩
def f_DET_LOG_STAT_ACTIVE : Fld := ⟨0, 0⟩
def f_DET_LOG_STAT_BLOCK : Fld := ⟨1, 1⟩
def f_DET_LOG_STAT_HOSTERR : Fld := ⟨2, 2⟩
def f_DET_LOG_STAT_HEADERR : Fld := ⟨3, 3⟩
def f_DET_LOG_STAT_BUF : Fld := ⟨31, 16⟩
def f_DET_LOG_LSN_LO_LSN : Fld := ⟨31, 0⟩
def f_DET_LOG_LSN_HI_LSN : Fld := ⟨31, 0⟩
def f_FAB_LNK_CTL_EN : Fld := ⟨0, 0⟩
def f_FAB_LNK_CTL_RETRAIN : Fld := ⟨1, 1⟩
def f_FAB_LNK_CTL_HWMCLR : Fld := ⟨2, 2⟩
def f_FAB_LNK_CTL_RPLIM : Fld := ⟨15, 8⟩
def f_FAB_LNK_CTL_HOLD : Fld := ⟨31, 16⟩
def f_FAB_LNK_STAT_STATE : Fld := ⟨2, 0⟩
def f_FAB_LNK_STAT_FRESH : Fld := ⟨3, 3⟩
def f_FAB_LNK_STAT_SIGDET : Fld := ⟨7, 4⟩
def f_FAB_LNK_STAT_DOWNCNT : Fld := ⟨15, 8⟩
def f_FAB_LNK_STAT_DELAY : Fld := ⟨31, 16⟩
def f_FAB_LNK_ERR_LOS : Fld := ⟨0, 0⟩
def f_FAB_LNK_ERR_UNC : Fld := ⟨1, 1⟩
def f_FAB_LNK_ERR_RPLIM : Fld := ⟨2, 2⟩
def f_FAB_LNK_ERR_CREDIT : Fld := ⟨3, 3⟩
def f_FAB_LNK_ERR_TRAINFAIL : Fld := ⟨4, 4⟩
def f_FAB_LNK_ERR_HDR : Fld := ⟨5, 5⟩
def f_FAB_LNK_ERR_LOSS : Fld := ⟨6, 6⟩
def f_FAB_LNK_RTMO_TMO : Fld := ⟨15, 0⟩
def f_FAB_FEC_CW_LO_CNT : Fld := ⟨31, 0⟩
def f_FAB_FEC_CW_HI_CNT : Fld := ⟨31, 0⟩
def f_FAB_FEC_SYM_LO_CNT : Fld := ⟨31, 0⟩
def f_FAB_FEC_SYM_HI_CNT : Fld := ⟨31, 0⟩
def f_FAB_FEC_UNC_CNT : Fld := ⟨31, 0⟩
def f_FAB_RTX_NAKTX_CNT : Fld := ⟨31, 0⟩
def f_FAB_RTX_NAKRX_CNT : Fld := ⟨31, 0⟩
def f_FAB_RTX_TMO_CNT : Fld := ⟨31, 0⟩
def f_FAB_RTX_CELLS_CNT : Fld := ⟨31, 0⟩
def f_FAB_DROP_AGE_CNT : Fld := ⟨31, 0⟩
def f_FAB_DROP_HDR_CNT : Fld := ⟨31, 0⟩
def f_FAB_DROP_LOSS_CNT : Fld := ⟨31, 0⟩
def f_FAB_CE_MARKS_CNT : Fld := ⟨31, 0⟩
def f_FAB_STALL_LO_NS : Fld := ⟨31, 0⟩
def f_FAB_STALL_HI_NS : Fld := ⟨31, 0⟩
def f_FAB_VC_CELLS_LO_CNT : Fld := ⟨31, 0⟩
def f_FAB_VC_CELLS_HI_CNT : Fld := ⟨31, 0⟩
def f_FAB_VC_WORDS_LO_CNT : Fld := ⟨31, 0⟩
def f_FAB_VC_WORDS_HI_CNT : Fld := ⟨31, 0⟩
def f_FAB_VC_OCC_HWM : Fld := ⟨13, 0⟩
def f_FAB_VC_OCC_OCC : Fld := ⟨29, 16⟩
def f_FAB_WH_CTL_LOCK : Fld := ⟨0, 0⟩
def f_FAB_VC_BUF_MIN : Fld := ⟨13, 0⟩
def f_FAB_VC_BUF_CAP : Fld := ⟨29, 16⟩
def f_FAB_RT_STAT_CUR : Fld := ⟨0, 0⟩
def f_FAB_RT_STAT_B0ST : Fld := ⟨2, 1⟩
def f_FAB_RT_STAT_B1ST : Fld := ⟨4, 3⟩
def f_FAB_RT_STAT_DRAINED : Fld := ⟨5, 5⟩
def f_FAB_RT_EPOCH_EPOCHNO : Fld := ⟨31, 0⟩
def f_FAB_RT_OLD_OLDCNT : Fld := ⟨15, 0⟩
def f_FAB_RT_SEL_IDX : Fld := ⟨11, 0⟩
def f_FAB_RT_SEL_BANK : Fld := ⟨12, 12⟩
def f_FAB_RT_ENT_ENTRY : Fld := ⟨15, 0⟩
def f_FAB_RT_ADAPT_CNT : Fld := ⟨31, 0⟩
def f_FAB_RT_ESC_CNT : Fld := ⟨31, 0⟩
def f_FAB_RT_FALLBK_CNT : Fld := ⟨31, 0⟩
def f_FAB_RT_WAIT_CNT : Fld := ⟨31, 0⟩
def f_FAB_CE_THR_THR : Fld := ⟨13, 0⟩
def f_FAB_CC_CTL_EN : Fld := ⟨0, 0⟩
def f_FAB_CC_CTL_MD : Fld := ⟨3, 1⟩
def f_FAB_CC_CTL_RMIN : Fld := ⟨25, 16⟩
def f_FAB_CC_TIME_HOLD : Fld := ⟨15, 0⟩
def f_FAB_CC_TIME_AIINT : Fld := ⟨31, 16⟩
def f_FAB_CC_AI_AI : Fld := ⟨9, 0⟩
def f_FAB_CC_AI_WIN : Fld := ⟨22, 16⟩
def f_FAB_CC_ECE_CNT : Fld := ⟨31, 0⟩
def f_FAB_CC_LIMUS_US : Fld := ⟨31, 0⟩
def f_FAB_CC_WINWAIT_CNT : Fld := ⟨31, 0⟩
def f_FAB_CC_SEL_DIE : Fld := ⟨3, 0⟩
def f_FAB_CC_SEL_DPKG : Fld := ⟨15, 4⟩
def f_FAB_CC_RATE_RATE : Fld := ⟨10, 0⟩
def f_KLN_CFG_CAND : Fld := ⟨0, 0⟩
def f_KLN_CFG_PRI : Fld := ⟨9, 2⟩
def f_KLN_CFG_LOCK : Fld := ⟨31, 31⟩
def f_KLN_PAIR_PEER : Fld := ⟨11, 0⟩
def f_KLN_PAIR_PEERV : Fld := ⟨12, 12⟩
def f_KLN_PAIR_WIT : Fld := ⟨27, 16⟩
def f_KLN_PAIR_WITK : Fld := ⟨29, 28⟩
def f_KLN_SHAPE_SXM1 : Fld := ⟨3, 0⟩
def f_KLN_SHAPE_SYM1 : Fld := ⟨7, 4⟩
def f_KLN_SHAPE_SZM1 : Fld := ⟨11, 8⟩
def f_KLN_SHAPE_FIX : Fld := ⟨12, 12⟩
def f_KLN_SHAPE_OPEN : Fld := ⟨15, 13⟩
def f_KLN_SHAPE_ORIGIN : Fld := ⟨27, 16⟩
def f_KLN_SHAPE_ORGV : Fld := ⟨28, 28⟩
def f_KLN_TIMING_FMTMO : Fld := ⟨7, 0⟩
def f_KLN_TIMING_RCHOLD : Fld := ⟨15, 8⟩
def f_KLN_TIMING_SWAP : Fld := ⟨26, 16⟩
def f_KLN_ENUM_CHAIN : Fld := ⟨5, 0⟩
def f_KLN_ENUM_CHAINV : Fld := ⟨6, 6⟩
def f_KLN_ENUM_POS : Fld := ⟨13, 8⟩
def f_KLN_ENUM_POSV : Fld := ⟨14, 14⟩
def f_KLN_ENUM_HEAD : Fld := ⟨15, 15⟩
def f_KLN_ENUM_PKG : Fld := ⟨27, 16⟩
def f_KLN_ENUM_PKGV : Fld := ⟨28, 28⟩
def f_KLN_ENUM_ENUMERR : Fld := ⟨29, 29⟩
def f_KLN_CTL_RECOMP : Fld := ⟨0, 0⟩
def f_KLN_CTL_SWAPNOW : Fld := ⟨1, 1⟩
def f_KLN_STAT_ROLE : Fld := ⟨2, 0⟩
def f_KLN_STAT_QUIET : Fld := ⟨3, 3⟩
def f_KLN_STAT_WITLOST : Fld := ⟨4, 4⟩
def f_KLN_STAT_PEERLOST : Fld := ⟨5, 5⟩
def f_KLN_STAT_CHG : Fld := ⟨6, 6⟩
def f_KLN_STAT_CHGSTEP : Fld := ⟨9, 7⟩
def f_KLN_STAT_SWAPDEF : Fld := ⟨10, 10⟩
def f_KLN_STAT_BADBANK : Fld := ⟨11, 11⟩
def f_KLN_STAT_MISWIRE : Fld := ⟨12, 12⟩
def f_KLN_STAT_DUPPKG : Fld := ⟨13, 13⟩
def f_KLN_TERM_TERM : Fld := ⟨23, 0⟩
def f_KLN_FMPKG_ACT : Fld := ⟨11, 0⟩
def f_KLN_FMPKG_ACTV : Fld := ⟨12, 12⟩
def f_KLN_FMPKG_STBY : Fld := ⟨27, 16⟩
def f_KLN_FMPKG_STBYV : Fld := ⟨28, 28⟩
def f_KLN_EPOCH_EPOCHNO : Fld := ⟨31, 0⟩
def f_KLN_TOPO_NPKG : Fld := ⟨12, 0⟩
def f_KLN_TOPO_XLINK : Fld := ⟨31, 16⟩
def f_KLN_LNKUP_UP : Fld := ⟨17, 0⟩
def f_KLN_RC_CNT_CNT : Fld := ⟨31, 0⟩
def f_KLN_RC_TIME_RCUS : Fld := ⟨15, 0⟩
def f_KLN_RC_TIME_INSUS : Fld := ⟨31, 16⟩
def f_KLN_FO_CNT_FO : Fld := ⟨15, 0⟩
def f_KLN_FO_CNT_SW : Fld := ⟨31, 16⟩
def f_KLN_SPM_SEL_DIE : Fld := ⟨3, 0⟩
def f_KLN_SPM_SEL_CL : Fld := ⟨7, 4⟩
def f_KLN_SPM_SEL_SLOT : Fld := ⟨11, 8⟩
def f_KLN_SPM_VAL_BOUND : Fld := ⟨15, 0⟩
def f_KLN_SPM_VAL_POS : Fld := ⟨20, 16⟩
def f_KLN_SPM_VAL_SPARES : Fld := ⟨25, 21⟩
def f_KLN_TP_SEL_EP : Fld := ⟨4, 0⟩
def f_KLN_TP_VAL_V : Fld := ⟨0, 0⟩
def f_KLN_TP_VAL_LINK : Fld := ⟨4, 1⟩
def f_KLN_TP_VAL_LIT : Fld := ⟨5, 5⟩
def f_TST_CTL_FTEN : Fld := ⟨0, 0⟩
def f_TST_CTL_FTNOW : Fld := ⟨1, 1⟩
def f_TST_CTL_LOCK : Fld := ⟨2, 2⟩
def f_TST_CFG_PERIOD : Fld := ⟨7, 0⟩
def f_TST_CFG_MAXDIE : Fld := ⟨12, 8⟩
def f_TST_CFG_TMO : Fld := ⟨31, 16⟩
def f_TST_TW_CFG_WIN : Fld := ⟨15, 0⟩
def f_TST_THR_ENGD : Fld := ⟨7, 0⟩
def f_TST_THR_ENGC : Fld := ⟨15, 8⟩
def f_TST_THR_SRAM : Fld := ⟨23, 16⟩
def f_TST_THR_DRAM : Fld := ⟨31, 24⟩
def f_TST_STAT_RUNNING : Fld := ⟨4, 0⟩
def f_TST_STAT_PATV : Fld := ⟨8, 8⟩
def f_TST_STAT_PATERR : Fld := ⟨9, 9⟩
def f_TST_STAT_SHDOVF : Fld := ⟨10, 10⟩
def f_TST_PATVER_VERSION : Fld := ⟨31, 0⟩
def f_TST_RUNS_CNT : Fld := ⟨31, 0⟩
def f_TST_FAILS_CNT : Fld := ⟨31, 0⟩
def f_TST_ABORTS_CNT : Fld := ⟨31, 0⟩
def f_TST_CLS_CNT_CNT : Fld := ⟨31, 0⟩
def f_TST_ENG_SEL_DIE : Fld := ⟨3, 0⟩
def f_TST_ENG_SEL_CL : Fld := ⟨7, 4⟩
def f_TST_ENG_SEL_SLOT : Fld := ⟨11, 8⟩
def f_TST_ENG_SEL_ENG : Fld := ⟨13, 12⟩
def f_TST_ENG_VAL_CHKSUS : Fld := ⟨3, 0⟩
def f_TST_ENG_VAL_DCNT : Fld := ⟨23, 16⟩
def f_TST_ENG_VAL_CCNT : Fld := ⟨31, 24⟩
def f_TST_INJ_DIE : Fld := ⟨3, 0⟩
def f_TST_INJ_CL : Fld := ⟨7, 4⟩
def f_TST_INJ_SLOT : Fld := ⟨11, 8⟩
def f_TST_INJ_ENG : Fld := ⟨13, 12⟩
def f_TST_INJ_SET : Fld := ⟨14, 14⟩
def f_TST_INJ_KIND : Fld := ⟨16, 15⟩
def f_TST_INJ_PERSIST : Fld := ⟨17, 17⟩
def f_TST_INJ_GO : Fld := ⟨31, 31⟩
def f_TST_SHD_CNT_CNT : Fld := ⟨31, 0⟩
def f_TST_SHD_IDX_IDX : Fld := ⟨11, 0⟩
def f_TST_SHD_DATA_DATA : Fld := ⟨31, 0⟩
def f_FLT_CFG_DUALRAIL : Fld := ⟨0, 0⟩
def f_FLT_CFG_INJEN : Fld := ⟨1, 1⟩
def f_FLT_CFG_VEC : Fld := ⟨26, 16⟩
def f_FLT_CFG_LOCK : Fld := ⟨31, 31⟩
def f_FLT_STAT_FAULT : Fld := ⟨0, 0⟩
def f_FLT_STAT_HALTED : Fld := ⟨1, 1⟩
def f_FLT_STAT_INJERR : Fld := ⟨2, 2⟩
def f_FLT_LINE_STAT_SEEN : Fld := ⟨19, 0⟩
def f_FLT_LINE_ERR_ERR : Fld := ⟨19, 0⟩
def f_FLT_LINE_LIVE_LIVE : Fld := ⟨19, 0⟩
def f_FLT_SRC_SEL_SRC : Fld := ⟨9, 0⟩
def f_FLT_SRC_CFG_SEV : Fld := ⟨2, 0⟩
def f_FLT_SRC_INFO_STAT : Fld := ⟨0, 0⟩
def f_FLT_SRC_INFO_LIVE : Fld := ⟨1, 1⟩
def f_FLT_SRC_INFO_CNT : Fld := ⟨15, 8⟩
def f_FLT_SRC_INFO_TOTAL : Fld := ⟨31, 16⟩
def f_FLT_SRC_STAT_STAT : Fld := ⟨31, 0⟩
def f_FLT_CAP_STAT_CAPV : Fld := ⟨0, 0⟩
def f_FLT_CAP_STAT_MULTI : Fld := ⟨1, 1⟩
def f_FLT_CAP_STAT_NODETAIL : Fld := ⟨2, 2⟩
def f_FLT_CAP_STAT_INJ : Fld := ⟨3, 3⟩
def f_FLT_CAP_STAT_SRC : Fld := ⟨13, 4⟩
def f_FLT_CAP_STAT_MORE : Fld := ⟨31, 16⟩
def f_FLT_CAP_ID_MID : Fld := ⟨15, 0⟩
def f_FLT_CAP_ID_ACCT : Fld := ⟨19, 16⟩
def f_FLT_CAP_ADDR_LO_ADDR : Fld := ⟨31, 0⟩
def f_FLT_CAP_ADDR_HI_ADDR : Fld := ⟨31, 0⟩
def f_FLT_CAP_TB_LO_TB : Fld := ⟨31, 0⟩
def f_FLT_CAP_TB_HI_TB : Fld := ⟨31, 0⟩
def f_FLT_CAP_SYND_LO_SYND : Fld := ⟨31, 0⟩
def f_FLT_CAP_SYND_HI_SYND : Fld := ⟨31, 0⟩
def f_FLT_CAP_OWNER_SLICE : Fld := ⟨9, 0⟩
def f_FLT_CAP_OWNER_SLV : Fld := ⟨10, 10⟩
def f_FLT_CAP_OWNER_SG : Fld := ⟨23, 16⟩
def f_FLT_CAP_OWNER_SGV : Fld := ⟨24, 24⟩
def f_FLT_INJ_SRC : Fld := ⟨9, 0⟩
def f_FLT_INJ_MODE : Fld := ⟨11, 10⟩
def f_FLT_INJ_CL : Fld := ⟨15, 12⟩
def f_FLT_INJ_SLOT : Fld := ⟨19, 16⟩
def f_FLT_INJ_GO : Fld := ⟨31, 31⟩
def f_FLT_HALT_CFG_TDISC : Fld := ⟨8, 0⟩
def f_FLT_HALT_STAT_A : Fld := ⟨0, 0⟩
def f_FLT_HALT_STAT_B : Fld := ⟨1, 1⟩
def f_FLT_HALT_STAT_DISC : Fld := ⟨2, 2⟩
def f_FLT_HALT_STAT_DCNT : Fld := ⟨31, 16⟩
def f_FLT_MGP_CTL_EN : Fld := ⟨0, 0⟩
def f_FLT_MGP_CTL_V6 : Fld := ⟨1, 1⟩
def f_FLT_MGP_CTL_NTAG : Fld := ⟨3, 2⟩
def f_FLT_MGP_CTL_TPER : Fld := ⟨23, 16⟩
def f_FLT_MGP_MAC_LO_MAC : Fld := ⟨31, 0⟩
def f_FLT_MGP_MAC_HI_MAC : Fld := ⟨15, 0⟩
def f_FLT_MGP_VLAN_OVID : Fld := ⟨11, 0⟩
def f_FLT_MGP_VLAN_IVID : Fld := ⟨27, 16⟩
def f_FLT_MGP_IP4_ADDR : Fld := ⟨31, 0⟩
def f_FLT_MGP_IP6_ADDR : Fld := ⟨31, 0⟩
def f_FLT_MGP_DST4_ADDR : Fld := ⟨31, 0⟩
def f_FLT_MGP_DST6_ADDR : Fld := ⟨31, 0⟩
def f_FLT_MGP_DROP_CNT : Fld := ⟨31, 0⟩
def f_FLT_MGP_RXOK_CNT : Fld := ⟨31, 0⟩
def f_FLT_MGP_TXOK_CNT : Fld := ⟨31, 0⟩
def f_RST_CFG_DFMODE : Fld := ⟨0, 0⟩
def f_RST_CFG_EMBSPM : Fld := ⟨1, 1⟩
def f_RST_CFG_CFGERR : Fld := ⟨2, 2⟩
def f_RST_CFG_LOCK : Fld := ⟨31, 31⟩
def f_RST_PILOT_PERIOD : Fld := ⟨15, 0⟩
def f_RST_PILOT_MISS : Fld := ⟨19, 16⟩
def f_RST_LAD_A_ENG : Fld := ⟨7, 0⟩
def f_RST_LAD_A_FLUSH : Fld := ⟨15, 8⟩
def f_RST_LAD_A_DIE : Fld := ⟨31, 16⟩
def f_RST_LAD_B_CYC : Fld := ⟨15, 0⟩
def f_RST_LAD_B_HOLDOFF : Fld := ⟨31, 16⟩
def f_RST_WATCH_CTXTMO : Fld := ⟨15, 0⟩
def f_RST_WATCH_ITMO : Fld := ⟨23, 16⟩
def f_RST_WATCH_HRETRY : Fld := ⟨27, 24⟩
def f_RST_RUN_YIELD : Fld := ⟨15, 0⟩
def f_RST_RUN_SETTLE : Fld := ⟨23, 16⟩
def f_RST_SNUFF_SLICE : Fld := ⟨9, 0⟩
def f_RST_SNUFF_GO : Fld := ⟨31, 31⟩
def f_RST_SNUFF_STAT_ERR : Fld := ⟨0, 0⟩
def f_RST_SNUFF_STAT_REASON : Fld := ⟨15, 8⟩
def f_RST_SNUFF_STAT_MERGED : Fld := ⟨23, 16⟩
def f_RST_SNUFF_STAT_CNT : Fld := ⟨31, 24⟩
def f_RST_DIE_DIE : Fld := ⟨4, 0⟩
def f_RST_DIE_ACT : Fld := ⟨9, 8⟩
def f_RST_DIE_GO : Fld := ⟨31, 31⟩
def f_RST_DIE_STAT_STATE : Fld := ⟨2, 0⟩
def f_RST_DIE_STAT_RUNG : Fld := ⟨5, 3⟩
def f_RST_DIE_STAT_GEN : Fld := ⟨15, 8⟩
def f_RST_DIE_STAT_RCNT : Fld := ⟨23, 16⟩
def f_RST_DIE_STAT_MISSED : Fld := ⟨27, 24⟩
def f_RST_DIE_STAT_SICK : Fld := ⟨28, 28⟩
def f_RST_DIE_STAT_EMBINC : Fld := ⟨29, 29⟩
def f_RST_RET_SEL_DIE : Fld := ⟨3, 0⟩
def f_RST_RET_SEL_CL : Fld := ⟨7, 4⟩
def f_RST_RET_SEL_POS : Fld := ⟨12, 8⟩
def f_RST_RET_VAL_RETIRED : Fld := ⟨0, 0⟩
def f_RST_RET_VAL_CLR : Fld := ⟨1, 1⟩
def f_RST_RET_VAL_CAUSE : Fld := ⟨3, 2⟩
def f_RST_EMB_OFF_OFF : Fld := ⟨20, 10⟩
def f_RST_EMB_SEL_SLOT : Fld := ⟨2, 0⟩
def f_RST_EMB_INFO_V : Fld := ⟨0, 0⟩
def f_RST_EMB_INFO_INC : Fld := ⟨1, 1⟩
def f_RST_EMB_INFO_DIE : Fld := ⟨6, 2⟩
def f_RST_EMB_INFO_GEN : Fld := ⟨15, 8⟩
def f_RST_EMB_INFO_TRIG : Fld := ⟨17, 16⟩
def f_RST_EMB_DST_LO_ADDR : Fld := ⟨31, 12⟩
def f_RST_EMB_DST_HI_ADDR : Fld := ⟨30, 0⟩
def f_RST_EMB_CTL_GO : Fld := ⟨0, 0⟩
def f_RST_EMB_CTL_BUSY : Fld := ⟨1, 1⟩
def f_RST_EMB_CTL_ERR : Fld := ⟨2, 2⟩
def f_JNL_PAIR_PEER : Fld := ⟨11, 0⟩
def f_JNL_PAIR_PEERV : Fld := ⟨12, 12⟩
def f_JNL_PAIR_AUTOSOLO : Fld := ⟨13, 13⟩
def f_JNL_PAIR_TMO : Fld := ⟨23, 16⟩
def f_JNL_PAIR_LOCK : Fld := ⟨31, 31⟩
def f_JNL_CTL_SOLO : Fld := ⟨0, 0⟩
def f_JNL_CTL_REJOIN : Fld := ⟨1, 1⟩
def f_JNL_STAT_PSTATE : Fld := ⟨2, 0⟩
def f_JNL_STAT_LEADER : Fld := ⟨3, 3⟩
def f_JNL_STAT_RUNNER : Fld := ⟨4, 4⟩
def f_JNL_STAT_NOSPARE : Fld := ⟨5, 5⟩
def f_JNL_STAT_TWINLOST : Fld := ⟨6, 6⟩
def f_JNL_STAT_DIVERGE : Fld := ⟨7, 7⟩
def f_JNL_STAT_SPLIT : Fld := ⟨8, 8⟩
def f_JNL_STAT_REJERR : Fld := ⟨9, 9⟩
def f_JNL_STAT_CLEAN : Fld := ⟨10, 10⟩
def f_JNL_SPARE_USED : Fld := ⟨11, 0⟩
def f_JNL_COMMITS_CNT : Fld := ⟨31, 0⟩
def f_JNL_RECOV_RERUN : Fld := ⟨15, 0⟩
def f_JNL_RECOV_DISC : Fld := ⟨31, 16⟩
def f_JNL_DIVCNT_CNT : Fld := ⟨31, 0⟩
def f_JNL_DIV_LO_SEQ : Fld := ⟨31, 0⟩
def f_JNL_DIV_HI_SEQ : Fld := ⟨15, 0⟩
def f_JNL_DIV_HI_STREAM : Fld := ⟨31, 16⟩
def f_JNL_LAT_LOCNS : Fld := ⟨15, 0⟩
def f_JNL_LAT_TWUS : Fld := ⟨31, 16⟩
def f_JNL_TWIN_TX_CNT : Fld := ⟨31, 0⟩
def f_JNL_TWIN_RTX_CNT : Fld := ⟨31, 0⟩
def f_TNT_LAN_STAT_BOOT : Fld := ⟨1, 0⟩
def f_TNT_LAN_STAT_BUNDLE : Fld := ⟨2, 2⟩
def f_TNT_LAN_STAT_PKBANK : Fld := ⟨3, 3⟩
def f_TNT_LAN_STAT_BANKERR : Fld := ⟨4, 4⟩
def f_TNT_LAN_STAT_FSTEP : Fld := ⟨7, 5⟩
def f_TNT_LAN_STAT_SVN : Fld := ⟨15, 8⟩
def f_TNT_ZCNT_CNT : Fld := ⟨31, 0⟩
def f_TNT_SOB_SEL_DIE : Fld := ⟨3, 0⟩
def f_TNT_SOB_SEL_BLOCK : Fld := ⟨9, 4⟩
def f_TNT_SOB_VAL_V : Fld := ⟨0, 0⟩
def f_TNT_SOB_VAL_SG : Fld := ⟨14, 8⟩
def f_TNT_SG_BIND_FN : Fld := ⟨7, 0⟩
def f_TNT_SG_BIND_PREP : Fld := ⟨8, 8⟩
def f_TNT_SG_BIND_SLICE : Fld := ⟨19, 10⟩
def f_TNT_SG_BIND_SLV : Fld := ⟨20, 20⟩
def f_TNT_SG_KEY_SLOT : Fld := ⟨7, 0⟩
def f_TNT_SG_KEY_OLD : Fld := ⟨15, 8⟩
def f_TNT_SG_KEY_DRAIN : Fld := ⟨16, 16⟩
def f_TNT_SG_KEY_KVER : Fld := ⟨31, 24⟩
def f_TNT_SG_SOB_BLOCKS : Fld := ⟨6, 0⟩
def f_TNT_SG_SOB_DIES : Fld := ⟨31, 16⟩
def f_MBX_STAT_BINDERR : Fld := ⟨0, 0⟩
def f_MBX_STAT_VIOL : Fld := ⟨1, 1⟩
def f_MBX_STAT_VIOLCNT : Fld := ⟨31, 16⟩
def f_MBX_VIOL_ID_MID : Fld := ⟨15, 0⟩
def f_MBX_VIOL_ID_CH : Fld := ⟨21, 16⟩
def f_MBX_BIND_AMID : Fld := ⟨15, 0⟩
def f_MBX_BIND_BMID : Fld := ⟨31, 16⟩
def f_MBX_LOCK_LO_LOCK : Fld := ⟨31, 0⟩
def f_MBX_LOCK_HI_LOCK : Fld := ⟨31, 0⟩
def f_MBX_PAY_DATA : Fld := ⟨31, 0⟩
def f_MBX_DB_SET_SET : Fld := ⟨31, 0⟩
def f_MBX_DB_PEND_PEND : Fld := ⟨31, 0⟩
def f_MBX_DB_MASK_MASK : Fld := ⟨31, 0⟩
def f_MBX_ACK_CODE : Fld := ⟨15, 0⟩
def f_MBX_ACK_VALID : Fld := ⟨16, 16⟩
def f_MBX_ACK_BUSY : Fld := ⟨17, 17⟩
def f_MBX_ACK_PWERR : Fld := ⟨18, 18⟩
def f_MBX_ACK_ACKERR : Fld := ⟨19, 19⟩
def f_MBX_CH_CFG_AVEC : Fld := ⟨10, 0⟩
def f_MBX_CH_CFG_ACKIE : Fld := ⟨11, 11⟩
def f_MBX_CH_CFG_BVEC : Fld := ⟨26, 16⟩
def f_MBX_CH_CNT_MSGCNT : Fld := ⟨15, 0⟩
def f_MBX_CH_CNT_ACKCNT : Fld := ⟨31, 16⟩
def f_PWR_CTL_WAKE : Fld := ⟨0, 0⟩
def f_PWR_CTL_HOLD : Fld := ⟨1, 1⟩
def f_PWR_CFG_MAXST : Fld := ⟨2, 0⟩
def f_PWR_CFG_L4EN : Fld := ⟨3, 3⟩
def f_PWR_CFG_IDLE : Fld := ⟨30, 16⟩
def f_PWR_CFG_LOCK : Fld := ⟨31, 31⟩
def f_PWR_STAT_STATE : Fld := ⟨2, 0⟩
def f_PWR_STAT_TARGET : Fld := ⟨5, 3⟩
def f_PWR_STAT_CAPPED : Fld := ⟨6, 6⟩
def f_PWR_STAT_CAPLIM : Fld := ⟨7, 7⟩
def f_PWR_STAT_PFAIL : Fld := ⟨8, 8⟩
def f_PWR_STAT_PFREL : Fld := ⟨9, 9⟩
def f_PWR_STAT_THROT : Fld := ⟨10, 10⟩
def f_PWR_STAT_WAKECNT : Fld := ⟨31, 16⟩
def f_PWR_CAP_CAPW : Fld := ⟨13, 0⟩
def f_PWR_IN_PIN : Fld := ⟨15, 0⟩
def f_PWR_IN_VIN : Fld := ⟨31, 16⟩
def f_PWR_PEER_TOL_TOL : Fld := ⟨23, 0⟩
def f_PWR_MINTOL_T : Fld := ⟨23, 0⟩
def f_PWR_MINSRC_SRC : Fld := ⟨8, 0⟩
def f_PWR_RAIL_VSET : Fld := ⟨6, 0⟩
def f_PWR_RAIL_VEFF : Fld := ⟨14, 8⟩
def f_PWR_RAIL_TJ : Fld := ⟨23, 16⟩
def f_PWR_FN_LTR_TOL : Fld := ⟨23, 0⟩
def f_PWR_FN_LTR_ACTIVE : Fld := ⟨24, 24⟩
def f_RST_BOOT_STAT_STEP : Fld := ⟨4, 0⟩
def f_RST_BOOT_STAT_DONE : Fld := ⟨5, 5⟩
def f_RST_BOOT_STAT_FAIL : Fld := ⟨6, 6⟩
def f_RST_BOOT_STAT_FSTEP : Fld := ⟨11, 7⟩
def f_RST_BOOT_STAT_FCODE : Fld := ⟨15, 12⟩
def f_RST_BOOT_STAT_MS : Fld := ⟨31, 16⟩
def f_RST_BOOT_DIE_UP : Fld := ⟨20, 0⟩

def regRows0 : List RegRow := [
  ⟨0x0, [],
    [⟨f_ID_PART_PART, .ro, 0x78, 0, 0xFFFFFFFF, false⟩]⟩,
  ⟨0x4, [],
    [⟨f_ID_GRADE_GRADE, .ro, 0x1, 0, 0xFFFFFFFF, false⟩, ⟨f_ID_GRADE_CDCNT, .ro, 0x10, 0, 0xFFFFFFFF, false⟩, ⟨f_ID_GRADE_CPD, .ro, 0x100, 0, 0xFFFFFFFF, false⟩]⟩,
  ⟨0x8, [],
    [⟨f_ID_STEP_LETTER, .ro, 0x1, 0, 0xFFFFFFFF, false⟩, ⟨f_ID_STEP_DIGIT, .ro, 0x1, 0, 0xFFFFFFFF, false⟩]⟩,
  ⟨0xC, [],
    [⟨f_ID_SER_LO_SER, .ro, 0x1, 0, 0xFFFFFFFF, false⟩]⟩,
  ⟨0x10, [],
    [⟨f_ID_SER_HI_SER, .ro, 0x0, 0, 0xFFFFFFFF, false⟩]⟩,
  ⟨0x70100, [],
    [⟨f_DET_TB_LO_TB, .ro, 0x0, 0, 0xFFFFFFFF, false⟩]⟩,
  ⟨0x70104, [],
    [⟨f_DET_TB_HI_TB, .ro, 0x0, 0, 0xFFFFFFFF, false⟩]⟩,
  ⟨0x70108, [],
    [⟨f_DET_TB_STAT_SYNCED, .ro, 0x0, 0, 0xFFFFFFFF, false⟩, ⟨f_DET_TB_STAT_PPS_SEEN, .ro, 0x0, 0, 0xFFFFFFFF, false⟩, ⟨f_DET_TB_STAT_LOST, .w1c, 0x0, 0, 0xFFFFFFFF, false⟩, ⟨f_DET_TB_STAT_MASTER, .ro, 0x0, 0, 0xFFFFFFFF, false⟩, ⟨f_DET_TB_STAT_HOPS, .ro, 0x0, 0, 0xFFFFFFFF, false⟩, ⟨f_DET_TB_STAT_ERRNS, .ro, 0x0, 0, 0xFFFFFFFF, false⟩]⟩,
  ⟨0x7010C, [],
    [⟨f_DET_TB_CFG_PPS_EN, .rw, 0x0, 0, 0xFFFFFFFF, false⟩, ⟨f_DET_TB_CFG_PPS_EDGE, .rw, 0x0, 0, 0xFFFFFFFF, false⟩, ⟨f_DET_TB_CFG_SLEW_PPM, .rw, 0x3E8, 1, 1000, false⟩]⟩,
  ⟨0x70110, [],
    [⟨f_DET_TB_PPS_LO_TB, .ro, 0x0, 0, 0xFFFFFFFF, false⟩]⟩,
  ⟨0x70114, [],
    [⟨f_DET_TB_PPS_HI_TB, .ro, 0x0, 0, 0xFFFFFFFF, false⟩]⟩,
  ⟨0x70118, [],
    [⟨f_DET_GSTALL_CNT_CNT, .ro, 0x0, 0, 0xFFFFFFFF, false⟩]⟩,
  ⟨0x7011C, [],
    [⟨f_DET_GSTALL_US_US, .ro, 0x0, 0, 0xFFFFFFFF, false⟩]⟩,
  ⟨0x60000, [],
    [⟨f_MMU_CTL_FTMO, .rw, 0x3E8, 1, 65535, false⟩]⟩,
  ⟨0x60004, [],
    [⟨f_MMU_STAT_FPEND, .ro, 0x0, 0, 0xFFFFFFFF, false⟩, ⟨f_MMU_STAT_FQFULL, .ro, 0x0, 0, 0xFFFFFFFF, false⟩, ⟨f_MMU_STAT_FMTERR, .w1c, 0x0, 0, 0xFFFFFFFF, false⟩]⟩,
  ⟨0x60008, [],
    [⟨f_MMU_FCNT_CNT, .ro, 0x0, 0, 0xFFFFFFFF, false⟩]⟩,
  ⟨0x6000C, [],
    [⟨f_MMU_WCNT_CNT, .ro, 0x0, 0, 0xFFFFFFFF, false⟩]⟩,
  ⟨0x60010, [],
    [⟨f_MMU_TW_DST_LO_DST, .rw, 0x0, 0, 0xFFFFFFFF, false⟩]⟩,
  ⟨0x60014, [],
    [⟨f_MMU_TW_DST_HI_DST, .rw, 0x0, 0, 0xFFFFFFFF, false⟩]⟩,
  ⟨0x60018, [],
    [⟨f_MMU_TW_SRC_LO_SRC, .rw, 0x0, 0, 0xFFFFFFFF, false⟩]⟩]

def regRows1 : List RegRow := [
  ⟨0x6001C, [],
    [⟨f_MMU_TW_SRC_HI_SRC, .rw, 0x0, 0, 0xFFFFFFFF, false⟩]⟩,
  ⟨0x60020, [],
    [⟨f_MMU_TW_DATA_LO_DATA, .rw, 0x0, 0, 0xFFFFFFFF, false⟩]⟩,
  ⟨0x60024, [],
    [⟨f_MMU_TW_DATA_HI_DATA, .rw, 0x0, 0, 0xFFFFFFFF, false⟩]⟩,
  ⟨0x60028, [],
    [⟨f_MMU_TW_CTL_CNT, .rw, 0x0, 0, 0xFFFFFFFF, false⟩, ⟨f_MMU_TW_CTL_SG, .rw, 0x0, 0, 0xFFFFFFFF, false⟩, ⟨f_MMU_TW_CTL_GO, .w1s, 0x0, 0, 0xFFFFFFFF, false⟩]⟩,
  ⟨0x6002C, [],
    [⟨f_MMU_TW_STAT_BUSY, .ro, 0x0, 0, 0xFFFFFFFF, false⟩, ⟨f_MMU_TW_STAT_ERR, .w1c, 0x0, 0, 0xFFFFFFFF, false⟩, ⟨f_MMU_TW_STAT_ECODE, .ro, 0x0, 0, 0xFFFFFFFF, false⟩]⟩,
  ⟨0x61000, [(0x8, 128)],
    [⟨f_MMU_ROOT_LO_ROOT, .rw, 0x0, 0, 0xFFFFFFFF, false⟩]⟩,
  ⟨0x61004, [(0x8, 128)],
    [⟨f_MMU_ROOT_HI_ROOT, .rw, 0x0, 0, 0xFFFFFFFF, false⟩]⟩,
  ⟨0x50000, [],
    [⟨f_TNT_PREEMPT_SG, .rw, 0x0, 0, 0xFFFFFFFF, false⟩, ⟨f_TNT_PREEMPT_ACT, .rw, 0x0, 0, 1, false⟩, ⟨f_TNT_PREEMPT_GO, .w1s, 0x0, 0, 0xFFFFFFFF, false⟩]⟩,
  ⟨0x50004, [],
    [⟨f_TNT_PRE_STAT_BUSY, .ro, 0x0, 0, 0xFFFFFFFF, false⟩, ⟨f_TNT_PRE_STAT_DONE, .w1c, 0x0, 0, 0xFFFFFFFF, false⟩, ⟨f_TNT_PRE_STAT_ERR, .w1c, 0x0, 0, 0xFFFFFFFF, false⟩, ⟨f_TNT_PRE_STAT_SG, .ro, 0x0, 0, 0xFFFFFFFF, false⟩, ⟨f_TNT_PRE_STAT_ECODE, .ro, 0x0, 0, 0xFFFFFFFF, false⟩]⟩,
  ⟨0x50008, [],
    [⟨f_TNT_CLMAP_SEL_SG, .rw, 0x0, 0, 0xFFFFFFFF, false⟩, ⟨f_TNT_CLMAP_SEL_LCL, .rw, 0x0, 0, 0xFFFFFFFF, false⟩]⟩,
  ⟨0x5000C, [],
    [⟨f_TNT_CLMAP_VAL_V, .ro, 0x0, 0, 0xFFFFFFFF, false⟩, ⟨f_TNT_CLMAP_VAL_DIE, .ro, 0x0, 0, 0xFFFFFFFF, false⟩, ⟨f_TNT_CLMAP_VAL_CL, .ro, 0x0, 0, 0xFFFFFFFF, false⟩]⟩,
  ⟨0x51000, [(0x20, 128)],
    [⟨f_TNT_SG_STATE_STATE, .ro, 0x0, 0, 0xFFFFFFFF, false⟩, ⟨f_TNT_SG_STATE_CLCNT, .ro, 0x0, 0, 0xFFFFFFFF, false⟩]⟩,
  ⟨0x51004, [(0x20, 128)],
    [⟨f_TNT_SG_SAVE_LO_VA, .rw, 0x0, 0, 0xFFFFFFFF, false⟩]⟩,
  ⟨0x51008, [(0x20, 128)],
    [⟨f_TNT_SG_SAVE_HI_VA, .rw, 0x0, 0, 0xFFFFFFFF, false⟩]⟩,
  ⟨0x5100C, [(0x20, 128)],
    [⟨f_TNT_SG_SAVE_SZ_SZ, .rw, 0x0, 0, 0xFFFFFFFF, false⟩]⟩,
  ⟨0x100000, [(0x40, 65536)],
    [⟨f_STM_SQB_LO_BASE, .rw, 0x0, 0, 0xFFFFFFFF, false⟩]⟩,
  ⟨0x100004, [(0x40, 65536)],
    [⟨f_STM_SQB_HI_BASE, .rw, 0x0, 0, 0xFFFFFFFF, false⟩]⟩,
  ⟨0x100008, [(0x40, 65536)],
    [⟨f_STM_CQB_LO_BASE, .rw, 0x0, 0, 0xFFFFFFFF, false⟩]⟩,
  ⟨0x10000C, [(0x40, 65536)],
    [⟨f_STM_CQB_HI_BASE, .rw, 0x0, 0, 0xFFFFFFFF, false⟩]⟩,
  ⟨0x100010, [(0x40, 65536)],
    [⟨f_STM_CFG_SQLOG, .rw, 0x4, 4, 15, false⟩, ⟨f_STM_CFG_CQLOG, .rw, 0x5, 5, 16, false⟩, ⟨f_STM_CFG_VEC, .rw, 0x0, 0, 0xFFFFFFFF, false⟩, ⟨f_STM_CFG_MODE, .rw, 0x0, 0, 2, false⟩]⟩]

def regRows2 : List RegRow := [
  ⟨0x100014, [(0x40, 65536)],
    [⟨f_STM_CTL_EN, .rw, 0x0, 0, 0xFFFFFFFF, false⟩, ⟨f_STM_CTL_FLUSH, .w1s, 0x0, 0, 0xFFFFFFFF, false⟩, ⟨f_STM_CTL_RESUME, .w1s, 0x0, 0, 0xFFFFFFFF, false⟩]⟩,
  ⟨0x100018, [(0x40, 65536)],
    [⟨f_STM_COAL_CNT, .rw, 0x1, 0, 0xFFFFFFFF, false⟩, ⟨f_STM_COAL_TMO, .rw, 0x0, 0, 0xFFFFFFFF, false⟩]⟩,
  ⟨0x10001C, [(0x40, 65536)],
    [⟨f_STM_SEQ_LO_SEQ, .rw, 0x0, 0, 0xFFFFFFFF, false⟩]⟩,
  ⟨0x100020, [(0x40, 65536)],
    [⟨f_STM_SEQ_HI_SEQ, .rw, 0x0, 0, 0xFFFFFFFF, false⟩]⟩,
  ⟨0x100024, [(0x40, 65536)],
    [⟨f_STM_PTR_SQHEAD, .ro, 0x0, 0, 0xFFFFFFFF, false⟩, ⟨f_STM_PTR_CQTAIL, .ro, 0x0, 0, 0xFFFFFFFF, false⟩]⟩,
  ⟨0x100028, [(0x40, 65536)],
    [⟨f_STM_STAT_STATE, .ro, 0x0, 0, 0xFFFFFFFF, false⟩, ⟨f_STM_STAT_SQPH, .ro, 0x0, 0, 0xFFFFFFFF, false⟩, ⟨f_STM_STAT_CQPH, .ro, 0x0, 0, 0xFFFFFFFF, false⟩, ⟨f_STM_STAT_NOACC, .ro, 0x0, 0, 0xFFFFFFFF, false⟩, ⟨f_STM_STAT_DBERR, .w1c, 0x0, 0, 0xFFFFFFFF, false⟩, ⟨f_STM_STAT_PHWAIT, .ro, 0x0, 0, 0xFFFFFFFF, false⟩, ⟨f_STM_STAT_ECODE, .ro, 0x0, 0, 0xFFFFFFFF, false⟩, ⟨f_STM_STAT_INFLIGHT, .ro, 0x0, 0, 0xFFFFFFFF, false⟩]⟩,
  ⟨0x10002C, [(0x40, 65536)],
    [⟨f_STM_LDONE_LO_SEQ, .ro, 0x0, 0, 0xFFFFFFFF, false⟩]⟩,
  ⟨0x100030, [(0x40, 65536)],
    [⟨f_STM_LDONE_HI_SEQ, .ro, 0x0, 0, 0xFFFFFFFF, false⟩, ⟨f_STM_LDONE_HI_VALID, .ro, 0x0, 0, 0xFFFFFFFF, false⟩]⟩,
  ⟨0x100034, [(0x40, 65536)],
    [⟨f_STM_ACCNT_CNT, .ro, 0x0, 0, 0xFFFFFFFF, false⟩]⟩,
  ⟨0x100038, [(0x40, 65536)],
    [⟨f_STM_REJCNT_CNT, .ro, 0x0, 0, 0xFFFFFFFF, false⟩]⟩,
  ⟨0x10003C, [(0x40, 65536)],
    [⟨f_STM_DUPCNT_CNT, .ro, 0x0, 0, 0xFFFFFFFF, false⟩]⟩,
  ⟨0x52000, [(0x10, 256)],
    [⟨f_TNT_FN_STRM_SBASE, .rw, 0x0, 0, 0xFFFFFFFF, false⟩, ⟨f_TNT_FN_STRM_SCNT, .rw, 0x0, 0, 0xFFFFFFFF, false⟩]⟩,
  ⟨0x52004, [(0x10, 256)],
    [⟨f_TNT_FN_BUDGET_CPL, .rw, 0x0, 0, 0xFFFFFFFF, false⟩, ⟨f_TNT_FN_BUDGET_IRQ, .rw, 0x0, 0, 0xFFFFFFFF, false⟩]⟩,
  ⟨0x52008, [(0x10, 256)],
    [⟨f_TNT_FN_STAT_ERR, .w1c, 0x0, 0, 0xFFFFFFFF, false⟩, ⟨f_TNT_FN_STAT_CPLDEF, .ro, 0x0, 0, 0xFFFFFFFF, false⟩, ⟨f_TNT_FN_STAT_IRQDEF, .ro, 0x0, 0, 0xFFFFFFFF, false⟩, ⟨f_TNT_FN_STAT_DEFCNT, .ro, 0x0, 0, 0xFFFFFFFF, false⟩]⟩,
  ⟨0x5200C, [(0x10, 256)],
    [⟨f_TNT_FN_PORT_PORT, .rw, 0x0, 0, 0xFFFFFFFF, false⟩]⟩,
  ⟨0x70000, [],
    [⟨f_DET_CTL_LOCK, .rw, 0x1, 0, 0xFFFFFFFF, false⟩]⟩,
  ⟨0x70004, [],
    [⟨f_DET_STAT_LOCKERR, .w1c, 0x0, 0, 0xFFFFFFFF, false⟩]⟩,
  ⟨0x70200, [],
    [⟨f_DET_RPL_CTL_SG, .rw, 0x0, 0, 0xFFFFFFFF, false⟩, ⟨f_DET_RPL_CTL_GO, .w1s, 0x0, 0, 0xFFFFFFFF, false⟩, ⟨f_DET_RPL_CTL_ABORT, .w1s, 0x0, 0, 0xFFFFFFFF, false⟩, ⟨f_DET_RPL_CTL_ENG, .rw, 0x0, 0, 0xFFFFFFFF, false⟩, ⟨f_DET_RPL_CTL_INSRC, .rw, 0x0, 0, 0xFFFFFFFF, false⟩]⟩,
  ⟨0x70204, [],
    [⟨f_DET_RPL_STAT_STATE, .ro, 0x0, 0, 0xFFFFFFFF, false⟩, ⟨f_DET_RPL_STAT_ECODE, .ro, 0x0, 0, 0xFFFFFFFF, false⟩, ⟨f_DET_RPL_STAT_MAPSAME, .ro, 0x0, 0, 0xFFFFFFFF, false⟩]⟩,
  ⟨0x70208, [],
    [⟨f_DET_RPL_LOG_LO_ADDR, .rw, 0x0, 0, 0xFFFFFFFF, false⟩]⟩]

def regRows3 : List RegRow := [
  ⟨0x7020C, [],
    [⟨f_DET_RPL_LOG_HI_ADDR, .rw, 0x0, 0, 0xFFFFFFFF, false⟩]⟩,
  ⟨0x70210, [],
    [⟨f_DET_RPL_LOG_LEN_LEN, .rw, 0x0, 0, 0xFFFFFFFF, false⟩]⟩,
  ⟨0x70214, [],
    [⟨f_DET_RPL_IN_LO_ADDR, .rw, 0x0, 0, 0xFFFFFFFF, false⟩]⟩,
  ⟨0x70218, [],
    [⟨f_DET_RPL_IN_HI_ADDR, .rw, 0x0, 0, 0xFFFFFFFF, false⟩]⟩,
  ⟨0x7021C, [],
    [⟨f_DET_RPL_OUT_LO_ADDR, .rw, 0x0, 0, 0xFFFFFFFF, false⟩]⟩,
  ⟨0x70220, [],
    [⟨f_DET_RPL_OUT_HI_ADDR, .rw, 0x0, 0, 0xFFFFFFFF, false⟩]⟩,
  ⟨0x70224, [],
    [⟨f_DET_RPL_DUMP_LO_ADDR, .rw, 0x0, 0, 0xFFFFFFFF, false⟩]⟩,
  ⟨0x70228, [],
    [⟨f_DET_RPL_DUMP_HI_ADDR, .rw, 0x0, 0, 0xFFFFFFFF, false⟩]⟩,
  ⟨0x7022C, [],
    [⟨f_DET_RPL_SEQ_LO_SEQ, .rw, 0x0, 0, 0xFFFFFFFF, false⟩]⟩,
  ⟨0x70230, [],
    [⟨f_DET_RPL_SEQ_HI_SEQ, .rw, 0x0, 0, 0xFFFFFFFF, false⟩, ⟨f_DET_RPL_SEQ_HI_STRM, .rw, 0x0, 0, 0xFFFFFFFF, false⟩]⟩,
  ⟨0x70234, [],
    [⟨f_DET_RPL_PT_LCORE, .rw, 0x0, 0, 0xFFFFFFFF, false⟩, ⟨f_DET_RPL_PT_THREAD, .rw, 0x0, 0, 0xFFFFFFFF, false⟩, ⟨f_DET_RPL_PT_KIND, .rw, 0x0, 0, 0xFFFFFFFF, false⟩, ⟨f_DET_RPL_PT_MIDX, .rw, 0x0, 0, 0xFFFFFFFF, false⟩]⟩,
  ⟨0x70238, [],
    [⟨f_DET_RPL_CNT_LO_CNT, .rw, 0x0, 0, 0xFFFFFFFF, false⟩]⟩,
  ⟨0x7023C, [],
    [⟨f_DET_RPL_CNT_HI_CNT, .rw, 0x0, 0, 0xFFFFFFFF, false⟩]⟩,
  ⟨0x70240, [],
    [⟨f_DET_RPL_ADDR_LO_ADDR, .rw, 0x0, 0, 0xFFFFFFFF, false⟩]⟩,
  ⟨0x70244, [],
    [⟨f_DET_RPL_ADDR_HI_ADDR, .rw, 0x0, 0, 0xFFFFFFFF, false⟩]⟩,
  ⟨0x70248, [],
    [⟨f_DET_RPL_LEN_LEN, .rw, 0x0, 0, 0xFFFFFFFF, false⟩]⟩,
  ⟨0x7024C, [],
    [⟨f_DET_RPL_ITEMS_CNT, .ro, 0x0, 0, 0xFFFFFFFF, false⟩]⟩,
  ⟨0x70250, [],
    [⟨f_DET_RPL_MISCNT_CNT, .ro, 0x0, 0, 0xFFFFFFFF, false⟩]⟩,
  ⟨0x70254, [],
    [⟨f_DET_RPL_LSN_LO_LSN, .ro, 0x0, 0, 0xFFFFFFFF, false⟩]⟩,
  ⟨0x70258, [],
    [⟨f_DET_RPL_LSN_HI_LSN, .ro, 0x0, 0, 0xFFFFFFFF, false⟩]⟩]

def regRows4 : List RegRow := [
  ⟨0x71000, [(0x20, 128)],
    [⟨f_DET_LOG_LO_BASE, .rw, 0x0, 0, 0xFFFFFFFF, false⟩]⟩,
  ⟨0x71004, [(0x20, 128)],
    [⟨f_DET_LOG_HI_BASE, .rw, 0x0, 0, 0xFFFFFFFF, false⟩]⟩,
  ⟨0x71008, [(0x20, 128)],
    [⟨f_DET_LOG_CFG_SZLOG, .rw, 0x10, 16, 31, false⟩, ⟨f_DET_LOG_CFG_EN, .rw, 0x0, 0, 0xFFFFFFFF, false⟩, ⟨f_DET_LOG_CFG_DATA, .rw, 0x0, 0, 0xFFFFFFFF, false⟩]⟩,
  ⟨0x7100C, [(0x20, 128)],
    [⟨f_DET_LOG_HEAD_HEAD, .rw, 0x0, 0, 0xFFFFFFFF, false⟩]⟩,
  ⟨0x71010, [(0x20, 128)],
    [⟨f_DET_LOG_TAIL_TAIL, .ro, 0x0, 0, 0xFFFFFFFF, false⟩]⟩,
  ⟨0x71014, [(0x20, 128)],
    [⟨f_DET_LOG_STAT_ACTIVE, .ro, 0x0, 0, 0xFFFFFFFF, false⟩, ⟨f_DET_LOG_STAT_BLOCK, .ro, 0x0, 0, 0xFFFFFFFF, false⟩, ⟨f_DET_LOG_STAT_HOSTERR, .w1c, 0x0, 0, 0xFFFFFFFF, false⟩, ⟨f_DET_LOG_STAT_HEADERR, .w1c, 0x0, 0, 0xFFFFFFFF, false⟩, ⟨f_DET_LOG_STAT_BUF, .ro, 0x0, 0, 0xFFFFFFFF, false⟩]⟩,
  ⟨0x71018, [(0x20, 128)],
    [⟨f_DET_LOG_LSN_LO_LSN, .ro, 0x0, 0, 0xFFFFFFFF, false⟩]⟩,
  ⟨0x7101C, [(0x20, 128)],
    [⟨f_DET_LOG_LSN_HI_LSN, .ro, 0x0, 0, 0xFFFFFFFF, false⟩]⟩,
  ⟨0x90000, [(0x4000, 4), (0x400, 12)],
    [⟨f_FAB_LNK_CTL_EN, .rw, 0x1, 0, 0xFFFFFFFF, false⟩, ⟨f_FAB_LNK_CTL_RETRAIN, .w1s, 0x0, 0, 0xFFFFFFFF, false⟩, ⟨f_FAB_LNK_CTL_HWMCLR, .w1s, 0x0, 0, 0xFFFFFFFF, false⟩, ⟨f_FAB_LNK_CTL_RPLIM, .rw, 0x10, 1, 255, false⟩, ⟨f_FAB_LNK_CTL_HOLD, .rw, 0x64, 1, 4000, false⟩]⟩,
  ⟨0x90004, [(0x4000, 4), (0x400, 12)],
    [⟨f_FAB_LNK_STAT_STATE, .ro, 0x0, 0, 0xFFFFFFFF, false⟩, ⟨f_FAB_LNK_STAT_FRESH, .ro, 0x0, 0, 0xFFFFFFFF, false⟩, ⟨f_FAB_LNK_STAT_SIGDET, .ro, 0x0, 0, 0xFFFFFFFF, false⟩, ⟨f_FAB_LNK_STAT_DOWNCNT, .ro, 0x0, 0, 0xFFFFFFFF, false⟩, ⟨f_FAB_LNK_STAT_DELAY, .ro, 0x0, 0, 0xFFFFFFFF, false⟩]⟩,
  ⟨0x90008, [(0x4000, 4), (0x400, 12)],
    [⟨f_FAB_LNK_ERR_LOS, .w1c, 0x0, 0, 0xFFFFFFFF, false⟩, ⟨f_FAB_LNK_ERR_UNC, .w1c, 0x0, 0, 0xFFFFFFFF, false⟩, ⟨f_FAB_LNK_ERR_RPLIM, .w1c, 0x0, 0, 0xFFFFFFFF, false⟩, ⟨f_FAB_LNK_ERR_CREDIT, .w1c, 0x0, 0, 0xFFFFFFFF, false⟩, ⟨f_FAB_LNK_ERR_TRAINFAIL, .w1c, 0x0, 0, 0xFFFFFFFF, false⟩, ⟨f_FAB_LNK_ERR_HDR, .w1c, 0x0, 0, 0xFFFFFFFF, false⟩, ⟨f_FAB_LNK_ERR_LOSS, .w1c, 0x0, 0, 0xFFFFFFFF, false⟩]⟩,
  ⟨0x9000C, [(0x4000, 4), (0x400, 12)],
    [⟨f_FAB_LNK_RTMO_TMO, .rw, 0x14, 1, 1000, false⟩]⟩,
  ⟨0x90010, [(0x4000, 4), (0x400, 12)],
    [⟨f_FAB_FEC_CW_LO_CNT, .ro, 0x0, 0, 0xFFFFFFFF, false⟩]⟩,
  ⟨0x90014, [(0x4000, 4), (0x400, 12)],
    [⟨f_FAB_FEC_CW_HI_CNT, .ro, 0x0, 0, 0xFFFFFFFF, false⟩]⟩,
  ⟨0x90018, [(0x4000, 4), (0x400, 12)],
    [⟨f_FAB_FEC_SYM_LO_CNT, .ro, 0x0, 0, 0xFFFFFFFF, false⟩]⟩,
  ⟨0x9001C, [(0x4000, 4), (0x400, 12)],
    [⟨f_FAB_FEC_SYM_HI_CNT, .ro, 0x0, 0, 0xFFFFFFFF, false⟩]⟩,
  ⟨0x90020, [(0x4000, 4), (0x400, 12)],
    [⟨f_FAB_FEC_UNC_CNT, .ro, 0x0, 0, 0xFFFFFFFF, false⟩]⟩,
  ⟨0x90024, [(0x4000, 4), (0x400, 12)],
    [⟨f_FAB_RTX_NAKTX_CNT, .ro, 0x0, 0, 0xFFFFFFFF, false⟩]⟩,
  ⟨0x90028, [(0x4000, 4), (0x400, 12)],
    [⟨f_FAB_RTX_NAKRX_CNT, .ro, 0x0, 0, 0xFFFFFFFF, false⟩]⟩,
  ⟨0x9002C, [(0x4000, 4), (0x400, 12)],
    [⟨f_FAB_RTX_TMO_CNT, .ro, 0x0, 0, 0xFFFFFFFF, false⟩]⟩]

def regRows5 : List RegRow := [
  ⟨0x90030, [(0x4000, 4), (0x400, 12)],
    [⟨f_FAB_RTX_CELLS_CNT, .ro, 0x0, 0, 0xFFFFFFFF, false⟩]⟩,
  ⟨0x90034, [(0x4000, 4), (0x400, 12)],
    [⟨f_FAB_DROP_AGE_CNT, .ro, 0x0, 0, 0xFFFFFFFF, false⟩]⟩,
  ⟨0x90038, [(0x4000, 4), (0x400, 12)],
    [⟨f_FAB_DROP_HDR_CNT, .ro, 0x0, 0, 0xFFFFFFFF, false⟩]⟩,
  ⟨0x9003C, [(0x4000, 4), (0x400, 12)],
    [⟨f_FAB_DROP_LOSS_CNT, .ro, 0x0, 0, 0xFFFFFFFF, false⟩]⟩,
  ⟨0x90040, [(0x4000, 4), (0x400, 12)],
    [⟨f_FAB_CE_MARKS_CNT, .ro, 0x0, 0, 0xFFFFFFFF, false⟩]⟩,
  ⟨0x90044, [(0x4000, 4), (0x400, 12)],
    [⟨f_FAB_STALL_LO_NS, .ro, 0x0, 0, 0xFFFFFFFF, false⟩]⟩,
  ⟨0x90048, [(0x4000, 4), (0x400, 12)],
    [⟨f_FAB_STALL_HI_NS, .ro, 0x0, 0, 0xFFFFFFFF, false⟩]⟩,
  ⟨0x90100, [(0x4000, 4), (0x400, 12), (0x10, 14)],
    [⟨f_FAB_VC_CELLS_LO_CNT, .ro, 0x0, 0, 0xFFFFFFFF, false⟩]⟩,
  ⟨0x90104, [(0x4000, 4), (0x400, 12), (0x10, 14)],
    [⟨f_FAB_VC_CELLS_HI_CNT, .ro, 0x0, 0, 0xFFFFFFFF, false⟩]⟩,
  ⟨0x90108, [(0x4000, 4), (0x400, 12), (0x10, 14)],
    [⟨f_FAB_VC_WORDS_LO_CNT, .ro, 0x0, 0, 0xFFFFFFFF, false⟩]⟩,
  ⟨0x9010C, [(0x4000, 4), (0x400, 12), (0x10, 14)],
    [⟨f_FAB_VC_WORDS_HI_CNT, .ro, 0x0, 0, 0xFFFFFFFF, false⟩]⟩,
  ⟨0x90200, [(0x4000, 4), (0x400, 12), (0x4, 14)],
    [⟨f_FAB_VC_OCC_HWM, .ro, 0x0, 0, 0xFFFFFFFF, false⟩, ⟨f_FAB_VC_OCC_OCC, .ro, 0x0, 0, 0xFFFFFFFF, false⟩]⟩,
  ⟨0x93000, [(0x4000, 4)],
    [⟨f_FAB_WH_CTL_LOCK, .w1s, 0x0, 0, 0xFFFFFFFF, false⟩]⟩,
  ⟨0x93040, [(0x4000, 4), (0x4, 14)],
    [⟨f_FAB_VC_BUF_MIN, .rwl, 0x0, 0, 0xFFFFFFFF, false⟩, ⟨f_FAB_VC_BUF_CAP, .rwl, 0x2000, 0, 0xFFFFFFFF, false⟩]⟩,
  ⟨0x93100, [(0x4000, 4)],
    [⟨f_FAB_RT_STAT_CUR, .ro, 0x0, 0, 0xFFFFFFFF, false⟩, ⟨f_FAB_RT_STAT_B0ST, .ro, 0x0, 0, 0xFFFFFFFF, false⟩, ⟨f_FAB_RT_STAT_B1ST, .ro, 0x0, 0, 0xFFFFFFFF, false⟩, ⟨f_FAB_RT_STAT_DRAINED, .ro, 0x0, 0, 0xFFFFFFFF, false⟩]⟩,
  ⟨0x93104, [(0x4000, 4)],
    [⟨f_FAB_RT_EPOCH_EPOCHNO, .ro, 0x0, 0, 0xFFFFFFFF, false⟩]⟩,
  ⟨0x93108, [(0x4000, 4)],
    [⟨f_FAB_RT_OLD_OLDCNT, .ro, 0x0, 0, 0xFFFFFFFF, false⟩]⟩,
  ⟨0x9310C, [(0x4000, 4)],
    [⟨f_FAB_RT_SEL_IDX, .rw, 0x0, 0, 0xFFFFFFFF, false⟩, ⟨f_FAB_RT_SEL_BANK, .rw, 0x0, 0, 0xFFFFFFFF, false⟩]⟩,
  ⟨0x93110, [(0x4000, 4)],
    [⟨f_FAB_RT_ENT_ENTRY, .ro, 0x0, 0, 0xFFFFFFFF, false⟩]⟩,
  ⟨0x93120, [(0x4000, 4)],
    [⟨f_FAB_RT_ADAPT_CNT, .ro, 0x0, 0, 0xFFFFFFFF, false⟩]⟩]

def regRows6 : List RegRow := [
  ⟨0x93124, [(0x4000, 4)],
    [⟨f_FAB_RT_ESC_CNT, .ro, 0x0, 0, 0xFFFFFFFF, false⟩]⟩,
  ⟨0x93128, [(0x4000, 4)],
    [⟨f_FAB_RT_FALLBK_CNT, .ro, 0x0, 0, 0xFFFFFFFF, false⟩]⟩,
  ⟨0x9312C, [(0x4000, 4)],
    [⟨f_FAB_RT_WAIT_CNT, .ro, 0x0, 0, 0xFFFFFFFF, false⟩]⟩,
  ⟨0x93200, [(0x4000, 4), (0x4, 6)],
    [⟨f_FAB_CE_THR_THR, .rwl, 0x0, 0, 0xFFFFFFFF, false⟩]⟩,
  ⟨0x93800, [],
    [⟨f_FAB_CC_CTL_EN, .rw, 0x1, 0, 0xFFFFFFFF, false⟩, ⟨f_FAB_CC_CTL_MD, .rw, 0x1, 1, 4, false⟩, ⟨f_FAB_CC_CTL_RMIN, .rw, 0x8, 1, 1023, false⟩]⟩,
  ⟨0x93804, [],
    [⟨f_FAB_CC_TIME_HOLD, .rw, 0xA, 1, 65535, false⟩, ⟨f_FAB_CC_TIME_AIINT, .rw, 0x5, 1, 65535, false⟩]⟩,
  ⟨0x93808, [],
    [⟨f_FAB_CC_AI_AI, .rw, 0x10, 1, 1023, false⟩, ⟨f_FAB_CC_AI_WIN, .rw, 0x40, 1, 64, false⟩]⟩,
  ⟨0x9380C, [],
    [⟨f_FAB_CC_ECE_CNT, .ro, 0x0, 0, 0xFFFFFFFF, false⟩]⟩,
  ⟨0x93810, [],
    [⟨f_FAB_CC_LIMUS_US, .ro, 0x0, 0, 0xFFFFFFFF, false⟩]⟩,
  ⟨0x93814, [],
    [⟨f_FAB_CC_WINWAIT_CNT, .ro, 0x0, 0, 0xFFFFFFFF, false⟩]⟩,
  ⟨0x93818, [],
    [⟨f_FAB_CC_SEL_DIE, .rw, 0x0, 0, 0xFFFFFFFF, false⟩, ⟨f_FAB_CC_SEL_DPKG, .rw, 0x0, 0, 0xFFFFFFFF, false⟩]⟩,
  ⟨0x9381C, [],
    [⟨f_FAB_CC_RATE_RATE, .ro, 0x400, 0, 0xFFFFFFFF, false⟩]⟩,
  ⟨0x80000, [],
    [⟨f_KLN_CFG_CAND, .rwl, 0x0, 0, 0xFFFFFFFF, false⟩, ⟨f_KLN_CFG_PRI, .rwl, 0x80, 0, 0xFFFFFFFF, false⟩, ⟨f_KLN_CFG_LOCK, .w1s, 0x0, 0, 0xFFFFFFFF, false⟩]⟩,
  ⟨0x80004, [],
    [⟨f_KLN_PAIR_PEER, .rwl, 0x0, 0, 0xFFFFFFFF, false⟩, ⟨f_KLN_PAIR_PEERV, .rwl, 0x0, 0, 0xFFFFFFFF, false⟩, ⟨f_KLN_PAIR_WIT, .rwl, 0x0, 0, 0xFFFFFFFF, false⟩, ⟨f_KLN_PAIR_WITK, .rwl, 0x0, 0, 2, false⟩]⟩,
  ⟨0x80008, [],
    [⟨f_KLN_SHAPE_SXM1, .rwl, 0x0, 0, 0xFFFFFFFF, false⟩, ⟨f_KLN_SHAPE_SYM1, .rwl, 0x0, 0, 0xFFFFFFFF, false⟩, ⟨f_KLN_SHAPE_SZM1, .rwl, 0x0, 0, 0xFFFFFFFF, false⟩, ⟨f_KLN_SHAPE_FIX, .rwl, 0x0, 0, 0xFFFFFFFF, false⟩, ⟨f_KLN_SHAPE_OPEN, .rwl, 0x0, 0, 0xFFFFFFFF, false⟩, ⟨f_KLN_SHAPE_ORIGIN, .rwl, 0x0, 0, 0xFFFFFFFF, false⟩, ⟨f_KLN_SHAPE_ORGV, .rwl, 0x0, 0, 0xFFFFFFFF, false⟩]⟩,
  ⟨0x8000C, [],
    [⟨f_KLN_TIMING_FMTMO, .rw, 0x2, 1, 100, false⟩, ⟨f_KLN_TIMING_RCHOLD, .rw, 0xA, 1, 255, false⟩, ⟨f_KLN_TIMING_SWAP, .rw, 0xF, 1, 1440, false⟩]⟩,
  ⟨0x80010, [],
    [⟨f_KLN_ENUM_CHAIN, .rw, 0x0, 0, 0xFFFFFFFF, false⟩, ⟨f_KLN_ENUM_CHAINV, .ro, 0x0, 0, 0xFFFFFFFF, false⟩, ⟨f_KLN_ENUM_POS, .ro, 0x0, 0, 0xFFFFFFFF, false⟩, ⟨f_KLN_ENUM_POSV, .ro, 0x0, 0, 0xFFFFFFFF, false⟩, ⟨f_KLN_ENUM_HEAD, .ro, 0x0, 0, 0xFFFFFFFF, false⟩, ⟨f_KLN_ENUM_PKG, .ro, 0x0, 0, 0xFFFFFFFF, false⟩, ⟨f_KLN_ENUM_PKGV, .ro, 0x0, 0, 0xFFFFFFFF, false⟩, ⟨f_KLN_ENUM_ENUMERR, .w1c, 0x0, 0, 0xFFFFFFFF, false⟩]⟩,
  ⟨0x80014, [],
    [⟨f_KLN_CTL_RECOMP, .w1s, 0x0, 0, 0xFFFFFFFF, false⟩, ⟨f_KLN_CTL_SWAPNOW, .w1s, 0x0, 0, 0xFFFFFFFF, false⟩]⟩,
  ⟨0x80018, [],
    [⟨f_KLN_STAT_ROLE, .ro, 0x0, 0, 0xFFFFFFFF, false⟩, ⟨f_KLN_STAT_QUIET, .ro, 0x0, 0, 0xFFFFFFFF, false⟩, ⟨f_KLN_STAT_WITLOST, .ro, 0x0, 0, 0xFFFFFFFF, false⟩, ⟨f_KLN_STAT_PEERLOST, .ro, 0x0, 0, 0xFFFFFFFF, false⟩, ⟨f_KLN_STAT_CHG, .ro, 0x0, 0, 0xFFFFFFFF, false⟩, ⟨f_KLN_STAT_CHGSTEP, .ro, 0x0, 0, 0xFFFFFFFF, false⟩, ⟨f_KLN_STAT_SWAPDEF, .ro, 0x0, 0, 0xFFFFFFFF, false⟩, ⟨f_KLN_STAT_BADBANK, .w1c, 0x0, 0, 0xFFFFFFFF, false⟩, ⟨f_KLN_STAT_MISWIRE, .w1c, 0x0, 0, 0xFFFFFFFF, false⟩, ⟨f_KLN_STAT_DUPPKG, .w1c, 0x0, 0, 0xFFFFFFFF, false⟩]⟩,
  ⟨0x8001C, [],
    [⟨f_KLN_TERM_TERM, .ro, 0x0, 0, 0xFFFFFFFF, false⟩]⟩]

def regRows7 : List RegRow := [
  ⟨0x80020, [],
    [⟨f_KLN_FMPKG_ACT, .ro, 0x0, 0, 0xFFFFFFFF, false⟩, ⟨f_KLN_FMPKG_ACTV, .ro, 0x0, 0, 0xFFFFFFFF, false⟩, ⟨f_KLN_FMPKG_STBY, .ro, 0x0, 0, 0xFFFFFFFF, false⟩, ⟨f_KLN_FMPKG_STBYV, .ro, 0x0, 0, 0xFFFFFFFF, false⟩]⟩,
  ⟨0x80024, [],
    [⟨f_KLN_EPOCH_EPOCHNO, .ro, 0x0, 0, 0xFFFFFFFF, false⟩]⟩,
  ⟨0x80028, [],
    [⟨f_KLN_TOPO_NPKG, .ro, 0x0, 0, 0xFFFFFFFF, false⟩, ⟨f_KLN_TOPO_XLINK, .ro, 0x0, 0, 0xFFFFFFFF, false⟩]⟩,
  ⟨0x8002C, [],
    [⟨f_KLN_LNKUP_UP, .ro, 0x0, 0, 0xFFFFFFFF, false⟩]⟩,
  ⟨0x80030, [],
    [⟨f_KLN_RC_CNT_CNT, .ro, 0x0, 0, 0xFFFFFFFF, false⟩]⟩,
  ⟨0x80034, [],
    [⟨f_KLN_RC_TIME_RCUS, .ro, 0x0, 0, 0xFFFFFFFF, false⟩, ⟨f_KLN_RC_TIME_INSUS, .ro, 0x0, 0, 0xFFFFFFFF, false⟩]⟩,
  ⟨0x80038, [],
    [⟨f_KLN_FO_CNT_FO, .ro, 0x0, 0, 0xFFFFFFFF, false⟩, ⟨f_KLN_FO_CNT_SW, .ro, 0x0, 0, 0xFFFFFFFF, false⟩]⟩,
  ⟨0x80040, [],
    [⟨f_KLN_SPM_SEL_DIE, .rw, 0x0, 0, 0xFFFFFFFF, false⟩, ⟨f_KLN_SPM_SEL_CL, .rw, 0x0, 0, 0xFFFFFFFF, false⟩, ⟨f_KLN_SPM_SEL_SLOT, .rw, 0x0, 0, 0xFFFFFFFF, false⟩]⟩,
  ⟨0x80044, [],
    [⟨f_KLN_SPM_VAL_BOUND, .ro, 0x0, 0, 0xFFFFFFFF, false⟩, ⟨f_KLN_SPM_VAL_POS, .ro, 0x1F, 0, 0xFFFFFFFF, false⟩, ⟨f_KLN_SPM_VAL_SPARES, .ro, 0x0, 0, 0xFFFFFFFF, false⟩]⟩,
  ⟨0x80048, [],
    [⟨f_KLN_TP_SEL_EP, .rw, 0x0, 0, 0xFFFFFFFF, false⟩]⟩,
  ⟨0x8004C, [],
    [⟨f_KLN_TP_VAL_V, .ro, 0x0, 0, 0xFFFFFFFF, false⟩, ⟨f_KLN_TP_VAL_LINK, .ro, 0x0, 0, 0xFFFFFFFF, false⟩, ⟨f_KLN_TP_VAL_LIT, .ro, 0x0, 0, 0xFFFFFFFF, false⟩]⟩,
  ⟨0xA0000, [],
    [⟨f_TST_CTL_FTEN, .rw, 0x1, 0, 0xFFFFFFFF, false⟩, ⟨f_TST_CTL_FTNOW, .w1s, 0x0, 0, 0xFFFFFFFF, false⟩, ⟨f_TST_CTL_LOCK, .w1s, 0x0, 0, 0xFFFFFFFF, false⟩]⟩,
  ⟨0xA0004, [],
    [⟨f_TST_CFG_PERIOD, .rwl, 0x18, 1, 168, false⟩, ⟨f_TST_CFG_MAXDIE, .rwl, 0x4, 1, 16, false⟩, ⟨f_TST_CFG_TMO, .rwl, 0x64, 1, 65535, false⟩]⟩,
  ⟨0xA0008, [],
    [⟨f_TST_TW_CFG_WIN, .rwl, 0xE10, 1, 65535, false⟩]⟩,
  ⟨0xA000C, [],
    [⟨f_TST_THR_ENGD, .rwl, 0x3, 1, 255, false⟩, ⟨f_TST_THR_ENGC, .rwl, 0x2, 1, 255, false⟩, ⟨f_TST_THR_SRAM, .rwl, 0x10, 1, 255, false⟩, ⟨f_TST_THR_DRAM, .rwl, 0x40, 1, 255, false⟩]⟩,
  ⟨0xA0010, [],
    [⟨f_TST_STAT_RUNNING, .ro, 0x0, 0, 0xFFFFFFFF, false⟩, ⟨f_TST_STAT_PATV, .ro, 0x0, 0, 0xFFFFFFFF, false⟩, ⟨f_TST_STAT_PATERR, .w1c, 0x0, 0, 0xFFFFFFFF, false⟩, ⟨f_TST_STAT_SHDOVF, .w1c, 0x0, 0, 0xFFFFFFFF, false⟩]⟩,
  ⟨0xA0014, [],
    [⟨f_TST_PATVER_VERSION, .ro, 0x0, 0, 0xFFFFFFFF, false⟩]⟩,
  ⟨0xA0018, [],
    [⟨f_TST_RUNS_CNT, .ro, 0x0, 0, 0xFFFFFFFF, false⟩]⟩,
  ⟨0xA001C, [],
    [⟨f_TST_FAILS_CNT, .ro, 0x0, 0, 0xFFFFFFFF, false⟩]⟩,
  ⟨0xA0020, [],
    [⟨f_TST_ABORTS_CNT, .ro, 0x0, 0, 0xFFFFFFFF, false⟩]⟩]

def regRows8 : List RegRow := [
  ⟨0xA0030, [(0x4, 8)],
    [⟨f_TST_CLS_CNT_CNT, .ro, 0x0, 0, 0xFFFFFFFF, false⟩]⟩,
  ⟨0xA0050, [],
    [⟨f_TST_ENG_SEL_DIE, .rw, 0x0, 0, 0xFFFFFFFF, false⟩, ⟨f_TST_ENG_SEL_CL, .rw, 0x0, 0, 0xFFFFFFFF, false⟩, ⟨f_TST_ENG_SEL_SLOT, .rw, 0x0, 0, 0xFFFFFFFF, false⟩, ⟨f_TST_ENG_SEL_ENG, .rw, 0x0, 0, 0xFFFFFFFF, false⟩]⟩,
  ⟨0xA0054, [],
    [⟨f_TST_ENG_VAL_CHKSUS, .ro, 0x0, 0, 0xFFFFFFFF, false⟩, ⟨f_TST_ENG_VAL_DCNT, .ro, 0x0, 0, 0xFFFFFFFF, false⟩, ⟨f_TST_ENG_VAL_CCNT, .ro, 0x0, 0, 0xFFFFFFFF, false⟩]⟩,
  ⟨0xA0060, [],
    [⟨f_TST_INJ_DIE, .rw, 0x0, 0, 0xFFFFFFFF, false⟩, ⟨f_TST_INJ_CL, .rw, 0x0, 0, 0xFFFFFFFF, false⟩, ⟨f_TST_INJ_SLOT, .rw, 0x0, 0, 0xFFFFFFFF, false⟩, ⟨f_TST_INJ_ENG, .rw, 0x0, 0, 0xFFFFFFFF, false⟩, ⟨f_TST_INJ_SET, .rw, 0x0, 0, 0xFFFFFFFF, false⟩, ⟨f_TST_INJ_KIND, .rw, 0x0, 0, 2, false⟩, ⟨f_TST_INJ_PERSIST, .rw, 0x0, 0, 0xFFFFFFFF, false⟩, ⟨f_TST_INJ_GO, .w1s, 0x0, 0, 0xFFFFFFFF, false⟩]⟩,
  ⟨0xA0100, [],
    [⟨f_TST_SHD_CNT_CNT, .ro, 0x0, 0, 0xFFFFFFFF, false⟩]⟩,
  ⟨0xA0104, [],
    [⟨f_TST_SHD_IDX_IDX, .rw, 0x0, 0, 0xFFFFFFFF, false⟩]⟩,
  ⟨0xA0200, [(0x4, 32)],
    [⟨f_TST_SHD_DATA_DATA, .ro, 0x0, 0, 0xFFFFFFFF, false⟩]⟩,
  ⟨0x30000, [],
    [⟨f_FLT_CFG_DUALRAIL, .rwl, 0x1, 0, 0xFFFFFFFF, false⟩, ⟨f_FLT_CFG_INJEN, .rwl, 0x0, 0, 0xFFFFFFFF, false⟩, ⟨f_FLT_CFG_VEC, .rw, 0x0, 0, 0xFFFFFFFF, false⟩, ⟨f_FLT_CFG_LOCK, .w1s, 0x0, 0, 0xFFFFFFFF, false⟩]⟩,
  ⟨0x30004, [],
    [⟨f_FLT_STAT_FAULT, .ro, 0x0, 0, 0xFFFFFFFF, false⟩, ⟨f_FLT_STAT_HALTED, .ro, 0x0, 0, 0xFFFFFFFF, false⟩, ⟨f_FLT_STAT_INJERR, .w1c, 0x0, 0, 0xFFFFFFFF, false⟩]⟩,
  ⟨0x30008, [],
    [⟨f_FLT_LINE_STAT_SEEN, .w1c, 0x0, 0, 0xFFFFFFFF, false⟩]⟩,
  ⟨0x3000C, [],
    [⟨f_FLT_LINE_ERR_ERR, .w1c, 0x0, 0, 0xFFFFFFFF, false⟩]⟩,
  ⟨0x30010, [],
    [⟨f_FLT_LINE_LIVE_LIVE, .ro, 0x0, 0, 0xFFFFFFFF, false⟩]⟩,
  ⟨0x30020, [],
    [⟨f_FLT_SRC_SEL_SRC, .rw, 0x0, 0, 0xFFFFFFFF, false⟩]⟩,
  ⟨0x30024, [],
    [⟨f_FLT_SRC_CFG_SEV, .rwl, 0x0, 0, 0xFFFFFFFF, false⟩]⟩,
  ⟨0x30028, [],
    [⟨f_FLT_SRC_INFO_STAT, .ro, 0x0, 0, 0xFFFFFFFF, false⟩, ⟨f_FLT_SRC_INFO_LIVE, .ro, 0x0, 0, 0xFFFFFFFF, false⟩, ⟨f_FLT_SRC_INFO_CNT, .ro, 0x0, 0, 0xFFFFFFFF, false⟩, ⟨f_FLT_SRC_INFO_TOTAL, .ro, 0x0, 0, 0xFFFFFFFF, false⟩]⟩,
  ⟨0x30100, [(0x4, 24)],
    [⟨f_FLT_SRC_STAT_STAT, .w1c, 0x0, 0, 0xFFFFFFFF, false⟩]⟩,
  ⟨0x30200, [],
    [⟨f_FLT_CAP_STAT_CAPV, .w1c, 0x0, 0, 0xFFFFFFFF, false⟩, ⟨f_FLT_CAP_STAT_MULTI, .ro, 0x0, 0, 0xFFFFFFFF, false⟩, ⟨f_FLT_CAP_STAT_NODETAIL, .ro, 0x0, 0, 0xFFFFFFFF, false⟩, ⟨f_FLT_CAP_STAT_INJ, .ro, 0x0, 0, 0xFFFFFFFF, false⟩, ⟨f_FLT_CAP_STAT_SRC, .ro, 0x0, 0, 0xFFFFFFFF, false⟩, ⟨f_FLT_CAP_STAT_MORE, .ro, 0x0, 0, 0xFFFFFFFF, false⟩]⟩,
  ⟨0x30204, [],
    [⟨f_FLT_CAP_ID_MID, .ro, 0x0, 0, 0xFFFFFFFF, false⟩, ⟨f_FLT_CAP_ID_ACCT, .ro, 0x0, 0, 0xFFFFFFFF, false⟩]⟩,
  ⟨0x30208, [],
    [⟨f_FLT_CAP_ADDR_LO_ADDR, .ro, 0x0, 0, 0xFFFFFFFF, false⟩]⟩,
  ⟨0x3020C, [],
    [⟨f_FLT_CAP_ADDR_HI_ADDR, .ro, 0x0, 0, 0xFFFFFFFF, false⟩]⟩]

def regRows9 : List RegRow := [
  ⟨0x30210, [],
    [⟨f_FLT_CAP_TB_LO_TB, .ro, 0x0, 0, 0xFFFFFFFF, false⟩]⟩,
  ⟨0x30214, [],
    [⟨f_FLT_CAP_TB_HI_TB, .ro, 0x0, 0, 0xFFFFFFFF, false⟩]⟩,
  ⟨0x30218, [],
    [⟨f_FLT_CAP_SYND_LO_SYND, .ro, 0x0, 0, 0xFFFFFFFF, false⟩]⟩,
  ⟨0x3021C, [],
    [⟨f_FLT_CAP_SYND_HI_SYND, .ro, 0x0, 0, 0xFFFFFFFF, false⟩]⟩,
  ⟨0x30220, [],
    [⟨f_FLT_CAP_OWNER_SLICE, .ro, 0x0, 0, 0xFFFFFFFF, false⟩, ⟨f_FLT_CAP_OWNER_SLV, .ro, 0x0, 0, 0xFFFFFFFF, false⟩, ⟨f_FLT_CAP_OWNER_SG, .ro, 0x0, 0, 0xFFFFFFFF, false⟩, ⟨f_FLT_CAP_OWNER_SGV, .ro, 0x0, 0, 0xFFFFFFFF, false⟩]⟩,
  ⟨0x30300, [],
    [⟨f_FLT_INJ_SRC, .rw, 0x0, 0, 0xFFFFFFFF, false⟩, ⟨f_FLT_INJ_MODE, .rw, 0x0, 1, 3, false⟩, ⟨f_FLT_INJ_CL, .rw, 0x0, 0, 0xFFFFFFFF, false⟩, ⟨f_FLT_INJ_SLOT, .rw, 0x0, 0, 0xFFFFFFFF, false⟩, ⟨f_FLT_INJ_GO, .w1s, 0x0, 0, 0xFFFFFFFF, false⟩]⟩,
  ⟨0x30400, [],
    [⟨f_FLT_HALT_CFG_TDISC, .rwl, 0x14, 1, 500, false⟩]⟩,
  ⟨0x30404, [],
    [⟨f_FLT_HALT_STAT_A, .ro, 0x0, 0, 0xFFFFFFFF, false⟩, ⟨f_FLT_HALT_STAT_B, .ro, 0x0, 0, 0xFFFFFFFF, false⟩, ⟨f_FLT_HALT_STAT_DISC, .ro, 0x0, 0, 0xFFFFFFFF, false⟩, ⟨f_FLT_HALT_STAT_DCNT, .ro, 0x0, 0, 0xFFFFFFFF, false⟩]⟩,
  ⟨0x30800, [],
    [⟨f_FLT_MGP_CTL_EN, .rwl, 0x0, 0, 0xFFFFFFFF, false⟩, ⟨f_FLT_MGP_CTL_V6, .rwl, 0x0, 0, 0xFFFFFFFF, false⟩, ⟨f_FLT_MGP_CTL_NTAG, .rwl, 0x0, 0, 2, false⟩, ⟨f_FLT_MGP_CTL_TPER, .rw, 0xA, 0, 0xFFFFFFFF, false⟩]⟩,
  ⟨0x30804, [],
    [⟨f_FLT_MGP_MAC_LO_MAC, .rwl, 0x0, 0, 0xFFFFFFFF, false⟩]⟩,
  ⟨0x30808, [],
    [⟨f_FLT_MGP_MAC_HI_MAC, .rwl, 0x0, 0, 0xFFFFFFFF, false⟩]⟩,
  ⟨0x3080C, [],
    [⟨f_FLT_MGP_VLAN_OVID, .rwl, 0x0, 0, 0xFFFFFFFF, false⟩, ⟨f_FLT_MGP_VLAN_IVID, .rwl, 0x0, 0, 0xFFFFFFFF, false⟩]⟩,
  ⟨0x30810, [],
    [⟨f_FLT_MGP_IP4_ADDR, .rwl, 0x0, 0, 0xFFFFFFFF, false⟩]⟩,
  ⟨0x30814, [(0x4, 4)],
    [⟨f_FLT_MGP_IP6_ADDR, .rwl, 0x0, 0, 0xFFFFFFFF, false⟩]⟩,
  ⟨0x30824, [],
    [⟨f_FLT_MGP_DST4_ADDR, .rwl, 0x0, 0, 0xFFFFFFFF, false⟩]⟩,
  ⟨0x30828, [(0x4, 4)],
    [⟨f_FLT_MGP_DST6_ADDR, .rwl, 0x0, 0, 0xFFFFFFFF, false⟩]⟩,
  ⟨0x30840, [(0x4, 10)],
    [⟨f_FLT_MGP_DROP_CNT, .ro, 0x0, 0, 0xFFFFFFFF, false⟩]⟩,
  ⟨0x30870, [],
    [⟨f_FLT_MGP_RXOK_CNT, .ro, 0x0, 0, 0xFFFFFFFF, false⟩]⟩,
  ⟨0x30874, [],
    [⟨f_FLT_MGP_TXOK_CNT, .ro, 0x0, 0, 0xFFFFFFFF, false⟩]⟩,
  ⟨0x20000, [],
    [⟨f_RST_CFG_DFMODE, .rwl, 0x0, 0, 0xFFFFFFFF, false⟩, ⟨f_RST_CFG_EMBSPM, .rwl, 0x1, 0, 0xFFFFFFFF, false⟩, ⟨f_RST_CFG_CFGERR, .w1c, 0x0, 0, 0xFFFFFFFF, false⟩, ⟨f_RST_CFG_LOCK, .w1s, 0x0, 0, 0xFFFFFFFF, false⟩]⟩]

def regRows10 : List RegRow := [
  ⟨0x20004, [],
    [⟨f_RST_PILOT_PERIOD, .rwl, 0x3E8, 100, 65535, false⟩, ⟨f_RST_PILOT_MISS, .rwl, 0x3, 1, 15, false⟩]⟩,
  ⟨0x20008, [],
    [⟨f_RST_LAD_A_ENG, .rwl, 0x1, 1, 255, false⟩, ⟨f_RST_LAD_A_FLUSH, .rwl, 0x5, 0, 0xFFFFFFFF, false⟩, ⟨f_RST_LAD_A_DIE, .rwl, 0x14, 0, 0xFFFFFFFF, false⟩]⟩,
  ⟨0x2000C, [],
    [⟨f_RST_LAD_B_CYC, .rwl, 0xC8, 50, 65535, false⟩, ⟨f_RST_LAD_B_HOLDOFF, .rwl, 0xA, 10, 65535, false⟩]⟩,
  ⟨0x20010, [],
    [⟨f_RST_WATCH_CTXTMO, .rwl, 0x7D0, 0, 0xFFFFFFFF, false⟩, ⟨f_RST_WATCH_ITMO, .rwl, 0x0, 0, 0xFFFFFFFF, false⟩, ⟨f_RST_WATCH_HRETRY, .rwl, 0x1, 0, 0xFFFFFFFF, false⟩]⟩,
  ⟨0x20014, [],
    [⟨f_RST_RUN_YIELD, .rw, 0xA, 1, 65535, false⟩, ⟨f_RST_RUN_SETTLE, .rwl, 0xA, 5, 255, false⟩]⟩,
  ⟨0x20020, [],
    [⟨f_RST_SNUFF_SLICE, .rw, 0x0, 0, 0xFFFFFFFF, false⟩, ⟨f_RST_SNUFF_GO, .w1s, 0x0, 0, 0xFFFFFFFF, false⟩]⟩,
  ⟨0x20024, [],
    [⟨f_RST_SNUFF_STAT_ERR, .w1c, 0x0, 0, 0xFFFFFFFF, false⟩, ⟨f_RST_SNUFF_STAT_REASON, .ro, 0x0, 0, 0xFFFFFFFF, false⟩, ⟨f_RST_SNUFF_STAT_MERGED, .ro, 0x0, 0, 0xFFFFFFFF, false⟩, ⟨f_RST_SNUFF_STAT_CNT, .ro, 0x0, 0, 0xFFFFFFFF, false⟩]⟩,
  ⟨0x20028, [],
    [⟨f_RST_DIE_DIE, .rw, 0x0, 0, 20, false⟩, ⟨f_RST_DIE_ACT, .rw, 0x0, 0, 1, false⟩, ⟨f_RST_DIE_GO, .w1s, 0x0, 0, 0xFFFFFFFF, false⟩]⟩,
  ⟨0x20100, [(0x4, 21)],
    [⟨f_RST_DIE_STAT_STATE, .ro, 0x0, 0, 0xFFFFFFFF, false⟩, ⟨f_RST_DIE_STAT_RUNG, .ro, 0x0, 0, 0xFFFFFFFF, false⟩, ⟨f_RST_DIE_STAT_GEN, .ro, 0x0, 0, 0xFFFFFFFF, false⟩, ⟨f_RST_DIE_STAT_RCNT, .ro, 0x0, 0, 0xFFFFFFFF, false⟩, ⟨f_RST_DIE_STAT_MISSED, .ro, 0x0, 0, 0xFFFFFFFF, false⟩, ⟨f_RST_DIE_STAT_SICK, .ro, 0x0, 0, 0xFFFFFFFF, false⟩, ⟨f_RST_DIE_STAT_EMBINC, .w1c, 0x0, 0, 0xFFFFFFFF, false⟩]⟩,
  ⟨0x20200, [],
    [⟨f_RST_RET_SEL_DIE, .rw, 0x0, 0, 0xFFFFFFFF, false⟩, ⟨f_RST_RET_SEL_CL, .rw, 0x0, 0, 0xFFFFFFFF, false⟩, ⟨f_RST_RET_SEL_POS, .rw, 0x0, 0, 16, false⟩]⟩,
  ⟨0x20204, [],
    [⟨f_RST_RET_VAL_RETIRED, .ro, 0x0, 0, 0xFFFFFFFF, false⟩, ⟨f_RST_RET_VAL_CLR, .w1s, 0x0, 0, 0xFFFFFFFF, false⟩, ⟨f_RST_RET_VAL_CAUSE, .ro, 0x0, 0, 0xFFFFFFFF, false⟩]⟩,
  ⟨0x20300, [(0x4, 3)],
    [⟨f_RST_EMB_OFF_OFF, .rwl, 0x0, 0, 0xFFFFFFFF, false⟩]⟩,
  ⟨0x20310, [],
    [⟨f_RST_EMB_SEL_SLOT, .rw, 0x0, 0, 0xFFFFFFFF, false⟩]⟩,
  ⟨0x20314, [],
    [⟨f_RST_EMB_INFO_V, .ro, 0x0, 0, 0xFFFFFFFF, false⟩, ⟨f_RST_EMB_INFO_INC, .ro, 0x0, 0, 0xFFFFFFFF, false⟩, ⟨f_RST_EMB_INFO_DIE, .ro, 0x0, 0, 0xFFFFFFFF, false⟩, ⟨f_RST_EMB_INFO_GEN, .ro, 0x0, 0, 0xFFFFFFFF, false⟩, ⟨f_RST_EMB_INFO_TRIG, .ro, 0x0, 0, 0xFFFFFFFF, false⟩]⟩,
  ⟨0x20318, [],
    [⟨f_RST_EMB_DST_LO_ADDR, .rw, 0x0, 0, 0xFFFFFFFF, false⟩]⟩,
  ⟨0x2031C, [],
    [⟨f_RST_EMB_DST_HI_ADDR, .rw, 0x0, 0, 0xFFFFFFFF, false⟩]⟩,
  ⟨0x20320, [],
    [⟨f_RST_EMB_CTL_GO, .w1s, 0x0, 0, 0xFFFFFFFF, false⟩, ⟨f_RST_EMB_CTL_BUSY, .ro, 0x0, 0, 0xFFFFFFFF, false⟩, ⟨f_RST_EMB_CTL_ERR, .w1c, 0x0, 0, 0xFFFFFFFF, false⟩]⟩,
  ⟨0xB0000, [],
    [⟨f_JNL_PAIR_PEER, .rwl, 0x0, 0, 0xFFFFFFFF, false⟩, ⟨f_JNL_PAIR_PEERV, .rwl, 0x0, 0, 0xFFFFFFFF, false⟩, ⟨f_JNL_PAIR_AUTOSOLO, .rwl, 0x0, 0, 0xFFFFFFFF, false⟩, ⟨f_JNL_PAIR_TMO, .rwl, 0x5, 1, 255, false⟩, ⟨f_JNL_PAIR_LOCK, .w1s, 0x0, 0, 0xFFFFFFFF, false⟩]⟩,
  ⟨0xB0004, [],
    [⟨f_JNL_CTL_SOLO, .w1s, 0x0, 0, 0xFFFFFFFF, false⟩, ⟨f_JNL_CTL_REJOIN, .w1s, 0x0, 0, 0xFFFFFFFF, false⟩]⟩,
  ⟨0xB0008, [],
    [⟨f_JNL_STAT_PSTATE, .ro, 0x0, 0, 0xFFFFFFFF, false⟩, ⟨f_JNL_STAT_LEADER, .ro, 0x0, 0, 0xFFFFFFFF, false⟩, ⟨f_JNL_STAT_RUNNER, .ro, 0x0, 0, 0xFFFFFFFF, false⟩, ⟨f_JNL_STAT_NOSPARE, .ro, 0x0, 0, 0xFFFFFFFF, false⟩, ⟨f_JNL_STAT_TWINLOST, .w1c, 0x0, 0, 0xFFFFFFFF, false⟩, ⟨f_JNL_STAT_DIVERGE, .w1c, 0x0, 0, 0xFFFFFFFF, false⟩, ⟨f_JNL_STAT_SPLIT, .w1c, 0x0, 0, 0xFFFFFFFF, false⟩, ⟨f_JNL_STAT_REJERR, .w1c, 0x0, 0, 0xFFFFFFFF, false⟩, ⟨f_JNL_STAT_CLEAN, .ro, 0x0, 0, 0xFFFFFFFF, false⟩]⟩]

def regRows11 : List RegRow := [
  ⟨0xB000C, [],
    [⟨f_JNL_SPARE_USED, .ro, 0x0, 0, 0xFFFFFFFF, false⟩]⟩,
  ⟨0xB0010, [],
    [⟨f_JNL_COMMITS_CNT, .ro, 0x0, 0, 0xFFFFFFFF, false⟩]⟩,
  ⟨0xB0014, [],
    [⟨f_JNL_RECOV_RERUN, .ro, 0x0, 0, 0xFFFFFFFF, false⟩, ⟨f_JNL_RECOV_DISC, .ro, 0x0, 0, 0xFFFFFFFF, false⟩]⟩,
  ⟨0xB0018, [],
    [⟨f_JNL_DIVCNT_CNT, .ro, 0x0, 0, 0xFFFFFFFF, false⟩]⟩,
  ⟨0xB001C, [],
    [⟨f_JNL_DIV_LO_SEQ, .ro, 0x0, 0, 0xFFFFFFFF, false⟩]⟩,
  ⟨0xB0020, [],
    [⟨f_JNL_DIV_HI_SEQ, .ro, 0x0, 0, 0xFFFFFFFF, false⟩, ⟨f_JNL_DIV_HI_STREAM, .ro, 0x0, 0, 0xFFFFFFFF, false⟩]⟩,
  ⟨0xB0024, [],
    [⟨f_JNL_LAT_LOCNS, .ro, 0x0, 0, 0xFFFFFFFF, false⟩, ⟨f_JNL_LAT_TWUS, .ro, 0x0, 0, 0xFFFFFFFF, false⟩]⟩,
  ⟨0xB0028, [],
    [⟨f_JNL_TWIN_TX_CNT, .ro, 0x0, 0, 0xFFFFFFFF, false⟩]⟩,
  ⟨0xB002C, [],
    [⟨f_JNL_TWIN_RTX_CNT, .ro, 0x0, 0, 0xFFFFFFFF, false⟩]⟩,
  ⟨0x50010, [],
    [⟨f_TNT_LAN_STAT_BOOT, .ro, 0x0, 0, 0xFFFFFFFF, false⟩, ⟨f_TNT_LAN_STAT_BUNDLE, .ro, 0x0, 0, 0xFFFFFFFF, false⟩, ⟨f_TNT_LAN_STAT_PKBANK, .ro, 0x0, 0, 0xFFFFFFFF, false⟩, ⟨f_TNT_LAN_STAT_BANKERR, .ro, 0x0, 0, 0xFFFFFFFF, false⟩, ⟨f_TNT_LAN_STAT_FSTEP, .ro, 0x0, 0, 0xFFFFFFFF, false⟩, ⟨f_TNT_LAN_STAT_SVN, .ro, 0x0, 0, 0xFFFFFFFF, false⟩]⟩,
  ⟨0x50014, [],
    [⟨f_TNT_ZCNT_CNT, .ro, 0x0, 0, 0xFFFFFFFF, false⟩]⟩,
  ⟨0x50020, [],
    [⟨f_TNT_SOB_SEL_DIE, .rw, 0x0, 0, 0xFFFFFFFF, false⟩, ⟨f_TNT_SOB_SEL_BLOCK, .rw, 0x0, 0, 0xFFFFFFFF, false⟩]⟩,
  ⟨0x50024, [],
    [⟨f_TNT_SOB_VAL_V, .ro, 0x0, 0, 0xFFFFFFFF, false⟩, ⟨f_TNT_SOB_VAL_SG, .ro, 0x0, 0, 0xFFFFFFFF, false⟩]⟩,
  ⟨0x51010, [(0x20, 128)],
    [⟨f_TNT_SG_BIND_FN, .rw, 0x0, 0, 0xFFFFFFFF, false⟩, ⟨f_TNT_SG_BIND_PREP, .rw, 0x0, 0, 0xFFFFFFFF, false⟩, ⟨f_TNT_SG_BIND_SLICE, .ro, 0x0, 0, 0xFFFFFFFF, false⟩, ⟨f_TNT_SG_BIND_SLV, .ro, 0x0, 0, 0xFFFFFFFF, false⟩]⟩,
  ⟨0x51014, [(0x20, 128)],
    [⟨f_TNT_SG_KEY_SLOT, .ro, 0x0, 0, 0xFFFFFFFF, false⟩, ⟨f_TNT_SG_KEY_OLD, .ro, 0x0, 0, 0xFFFFFFFF, false⟩, ⟨f_TNT_SG_KEY_DRAIN, .ro, 0x0, 0, 0xFFFFFFFF, false⟩, ⟨f_TNT_SG_KEY_KVER, .ro, 0x0, 0, 0xFFFFFFFF, false⟩]⟩,
  ⟨0x51018, [(0x20, 128)],
    [⟨f_TNT_SG_SOB_BLOCKS, .rw, 0x0, 0, 64, false⟩, ⟨f_TNT_SG_SOB_DIES, .ro, 0x0, 0, 0xFFFFFFFF, false⟩]⟩,
  ⟨0x40000, [],
    [⟨f_MBX_STAT_BINDERR, .w1c, 0x0, 0, 0xFFFFFFFF, false⟩, ⟨f_MBX_STAT_VIOL, .w1c, 0x0, 0, 0xFFFFFFFF, false⟩, ⟨f_MBX_STAT_VIOLCNT, .ro, 0x0, 0, 0xFFFFFFFF, false⟩]⟩,
  ⟨0x40004, [],
    [⟨f_MBX_VIOL_ID_MID, .ro, 0x0, 0, 0xFFFFFFFF, false⟩, ⟨f_MBX_VIOL_ID_CH, .ro, 0x0, 0, 0xFFFFFFFF, false⟩]⟩,
  ⟨0x40100, [(0x4, 64)],
    [⟨f_MBX_BIND_AMID, .rw, 0x0, 0, 0xFFFFFFFF, false⟩, ⟨f_MBX_BIND_BMID, .rw, 0x0, 0, 0xFFFFFFFF, false⟩]⟩,
  ⟨0x40200, [],
    [⟨f_MBX_LOCK_LO_LOCK, .w1s, 0xF, 0, 0xFFFFFFFF, false⟩]⟩]

def regRows12 : List RegRow := [
  ⟨0x40204, [],
    [⟨f_MBX_LOCK_HI_LOCK, .w1s, 0x0, 0, 0xFFFFFFFF, false⟩]⟩,
  ⟨0x41000, [(0x200, 64), (0x4, 64)],
    [⟨f_MBX_PAY_DATA, .rw, 0x0, 0, 0xFFFFFFFF, false⟩]⟩,
  ⟨0x41100, [(0x200, 64)],
    [⟨f_MBX_DB_SET_SET, .w1s, 0x0, 0, 0xFFFFFFFF, false⟩]⟩,
  ⟨0x41104, [(0x200, 64)],
    [⟨f_MBX_DB_PEND_PEND, .w1c, 0x0, 0, 0xFFFFFFFF, false⟩]⟩,
  ⟨0x41108, [(0x200, 64)],
    [⟨f_MBX_DB_MASK_MASK, .rw, 0x0, 0, 0xFFFFFFFF, false⟩]⟩,
  ⟨0x4110C, [(0x200, 64)],
    [⟨f_MBX_ACK_CODE, .rw, 0x0, 0, 0xFFFFFFFF, false⟩, ⟨f_MBX_ACK_VALID, .w1c, 0x0, 0, 0xFFFFFFFF, false⟩, ⟨f_MBX_ACK_BUSY, .ro, 0x0, 0, 0xFFFFFFFF, false⟩, ⟨f_MBX_ACK_PWERR, .w1c, 0x0, 0, 0xFFFFFFFF, false⟩, ⟨f_MBX_ACK_ACKERR, .w1c, 0x0, 0, 0xFFFFFFFF, false⟩]⟩,
  ⟨0x41110, [(0x200, 64)],
    [⟨f_MBX_CH_CFG_AVEC, .rw, 0x0, 0, 0xFFFFFFFF, false⟩, ⟨f_MBX_CH_CFG_ACKIE, .rw, 0x0, 0, 0xFFFFFFFF, false⟩, ⟨f_MBX_CH_CFG_BVEC, .rw, 0x0, 0, 0xFFFFFFFF, false⟩]⟩,
  ⟨0x41114, [(0x200, 64)],
    [⟨f_MBX_CH_CNT_MSGCNT, .ro, 0x0, 0, 0xFFFFFFFF, false⟩, ⟨f_MBX_CH_CNT_ACKCNT, .ro, 0x0, 0, 0xFFFFFFFF, false⟩]⟩,
  ⟨0x10000, [],
    [⟨f_PWR_CTL_WAKE, .w1s, 0x0, 0, 0xFFFFFFFF, false⟩, ⟨f_PWR_CTL_HOLD, .rw, 0x0, 0, 0xFFFFFFFF, false⟩]⟩,
  ⟨0x10004, [],
    [⟨f_PWR_CFG_MAXST, .rwl, 0x3, 0, 4, false⟩, ⟨f_PWR_CFG_L4EN, .rwl, 0x0, 0, 0xFFFFFFFF, false⟩, ⟨f_PWR_CFG_IDLE, .rwl, 0x64, 1, 32767, false⟩, ⟨f_PWR_CFG_LOCK, .w1s, 0x0, 0, 0xFFFFFFFF, false⟩]⟩,
  ⟨0x10008, [],
    [⟨f_PWR_STAT_STATE, .ro, 0x0, 0, 0xFFFFFFFF, false⟩, ⟨f_PWR_STAT_TARGET, .ro, 0x0, 0, 0xFFFFFFFF, false⟩, ⟨f_PWR_STAT_CAPPED, .ro, 0x0, 0, 0xFFFFFFFF, false⟩, ⟨f_PWR_STAT_CAPLIM, .w1c, 0x0, 0, 0xFFFFFFFF, false⟩, ⟨f_PWR_STAT_PFAIL, .ro, 0x0, 0, 0xFFFFFFFF, false⟩, ⟨f_PWR_STAT_PFREL, .w1c, 0x0, 0, 0xFFFFFFFF, false⟩, ⟨f_PWR_STAT_THROT, .w1c, 0x0, 0, 0xFFFFFFFF, false⟩, ⟨f_PWR_STAT_WAKECNT, .ro, 0x0, 0, 0xFFFFFFFF, false⟩]⟩,
  ⟨0x1000C, [],
    [⟨f_PWR_CAP_CAPW, .rw, 0x0, 2000, 9600, true⟩]⟩,
  ⟨0x10010, [],
    [⟨f_PWR_IN_PIN, .ro, 0x0, 0, 0xFFFFFFFF, false⟩, ⟨f_PWR_IN_VIN, .ro, 0x0, 0, 0xFFFFFFFF, false⟩]⟩,
  ⟨0x10014, [],
    [⟨f_PWR_PEER_TOL_TOL, .rw, 0xFFFFFF, 0, 0xFFFFFFFF, false⟩]⟩,
  ⟨0x10018, [],
    [⟨f_PWR_MINTOL_T, .ro, 0x0, 0, 0xFFFFFFFF, false⟩]⟩,
  ⟨0x1001C, [],
    [⟨f_PWR_MINSRC_SRC, .ro, 0x1FF, 0, 0xFFFFFFFF, false⟩]⟩,
  ⟨0x10100, [(0x4, 16)],
    [⟨f_PWR_RAIL_VSET, .rw, 0x32, 10, 80, false⟩, ⟨f_PWR_RAIL_VEFF, .ro, 0x32, 0, 0xFFFFFFFF, false⟩, ⟨f_PWR_RAIL_TJ, .ro, 0x0, 0, 0xFFFFFFFF, false⟩]⟩,
  ⟨0x11000, [(0x4, 256)],
    [⟨f_PWR_FN_LTR_TOL, .ro, 0x0, 0, 0xFFFFFFFF, false⟩, ⟨f_PWR_FN_LTR_ACTIVE, .ro, 0x0, 0, 0xFFFFFFFF, false⟩]⟩,
  ⟨0x20400, [],
    [⟨f_RST_BOOT_STAT_STEP, .ro, 0x0, 0, 0xFFFFFFFF, false⟩, ⟨f_RST_BOOT_STAT_DONE, .ro, 0x0, 0, 0xFFFFFFFF, false⟩, ⟨f_RST_BOOT_STAT_FAIL, .ro, 0x0, 0, 0xFFFFFFFF, false⟩, ⟨f_RST_BOOT_STAT_FSTEP, .ro, 0x0, 0, 0xFFFFFFFF, false⟩, ⟨f_RST_BOOT_STAT_FCODE, .ro, 0x0, 0, 0xFFFFFFFF, false⟩, ⟨f_RST_BOOT_STAT_MS, .ro, 0x0, 0, 0xFFFFFFFF, false⟩]⟩,
  ⟨0x20404, [],
    [⟨f_RST_BOOT_DIE_UP, .ro, 0x0, 0, 0xFFFFFFFF, false⟩]⟩]

/-- Every register of BAR0. -/
def regRows : List RegRow :=
  regRows0 ++ regRows1 ++ regRows2 ++ regRows3 ++ regRows4 ++ regRows5 ++ regRows6 ++ regRows7 ++ regRows8 ++ regRows9 ++ regRows10 ++ regRows11 ++ regRows12

/-- The indices that an offset difference has in an array of these strides. -/
def dimsIndex : Nat → List (Nat × Nat) → Option (List Nat)
  | d, [] => if d = 0 then some [] else none
  | d, (s, c) :: ds => if d / s < c then (dimsIndex (d % s) ds).map (d / s :: ·) else none

/-- The row of an offset, with its indices. -/
def rowIn : List RegRow → Nat → Option (RegRow × List Nat)
  | [], _ => none
  | r :: rs, off =>
    if off < r.base then rowIn rs off
    else match dimsIndex (off - r.base) r.dims with
      | some ix => some (r, ix)
      | none => rowIn rs off

/-- R335: the copies of FAB_CC_* in windows 1 to 3 are those of window 0. -/
def regAlias (off : Nat) : Nat :=
  if 0x93800 ≤ off && off < 0xA0000 && 0x3800 ≤ off % 0x4000 && off % 0x4000 < 0x3820 then 0x93800 + (off % 0x4000 - 0x3800)
  else off

/-- R8: the register of an offset; none where no register is assigned, or for an offset that is no multiple of 4. -/
def regRow (off : Nat) : Option (RegRow × List Nat) :=
  if off % 4 = 0 then rowIn regRows (regAlias off) else none

/-- Reset values that a table gives per index (R307, R334, R476, R537). -/
def rstSpecial (off : Nat) (ix : List Nat) (f : FieldSpec) : Nat :=
  let v := ix.getLastD 0
  if off % 0x4000 < 0x3080 && 0x3040 ≤ off % 0x4000 && 0x90000 ≤ off && off < 0xA0000 then
    (if f.fld.lo = 16 then 8192 else if v = 12 || v = 13 then 64 else if v % 3 = 0 then 32 else 128)
  else if 0x93200 ≤ off && off < 0xA0000 && 0x3200 ≤ off % 0x4000 && off % 0x4000 < 0x3218 then (if v = 0 || v = 3 then 512 else 256)
  else if 0x20300 ≤ off && off < 0x2030C then v * 0x200
  else if off = 0x40100 then (if f.fld.lo = 0 then 0x0000 else 0x5000)
  else if off = 0x40104 then (if f.fld.lo = 0 then 0x0000 else 0x4000)
  else if off = 0x40108 then (if f.fld.lo = 0 then 0x4002 else 0x0000)
  else if off = 0x4010C then (if f.fld.lo = 0 then 0x0000 else 0x5000)
  else f.rst

/-- R13: the value of a register at module reset. -/
def regReset (off : Nat) : W32 :=
  match regRow off with
  | none => 0#32
  | some (r, ix) => BitVec.ofNat 32 (r.fields.foldl (fun acc f => acc + ((rstSpecial (regAlias off) ix f % 2 ^ (f.fld.hi + 1 - f.fld.lo)) <<< f.fld.lo)) 0)

/-- R10: does a write of `x` place a reserved encoding in a field that it would load? `locked` makes RWL fields read-only. -/
def writeReserved (r : RegRow) (locked : Bool) (x : W32) : Bool :=
  r.fields.any fun f =>
    let v := fldGet x f.fld
    (f.acc == .rw || f.acc == .wo || (f.acc == .rwl && !locked)) && !(f.okZero && v == 0) && (decide (v < f.okLo) || decide (f.okHi < v))

/-- R11: what one field holds after a write of `x` over `old`. -/
def writeField (locked : Bool) (old x : W32) (f : FieldSpec) (acc : W32) : W32 :=
  let o := fldGet old f.fld
  let v := fldGet x f.fld
  match f.acc with
  | .rw => fldSet acc f.fld v
  | .rwl => if locked then acc else fldSet acc f.fld v
  | .ro => acc
  | .wo => acc
  | .w1c => fldSet acc f.fld ((BitVec.ofNat 32 o &&& ~~~ BitVec.ofNat 32 v).toNat)
  | .w1s => fldSet acc f.fld ((BitVec.ofNat 32 o ||| BitVec.ofNat 32 v).toNat)

/-- R10, R11: the register value after a write, when no reserved encoding discards it. -/
def writeRow (r : RegRow) (locked : Bool) (old x : W32) : W32 :=
  if writeReserved r locked x then old else r.fields.foldl (fun acc f => writeField locked old x f acc) old

end Sys2Proof.Machine
end

