-- ==== Sys2Proof/Machine/SysTypes.lean ====
section
/-! DEFINITION. Machine/SysTypes.lean: the state of silent-error detection, the fault collector, the management port and the reset
logic beside their registers (spec/13 R414 to R428; spec/14 R430 to R452; spec/15 R453 to R476). -/

namespace Sys2Proof.Machine

/-- R432: an event of a fault source, with what a capture holds of it (R435). -/
structure Event where
  src : Nat
  mid : Nat
  acct : Nat
  addr : Nat
  tb : W64
  synd : Nat
  sg : Option Nat
  slice : Option Nat
  /-- the unit inside the die: core position, link, engine or bank -/
  sub : Nat
  inj : Bool
  /-- R464: when the discarded cell of a cell-loss event was injected -/
  born : Option W64
  deriving DecidableEq, Repr

/-- R449: a pattern set being staged. -/
structure PatStage where
  version : Nat
  size : Nat
  stack : Nat
  data : Memory
  placed : List Nat
  last : W64
  deriving DecidableEq, Repr

/-- R427: an armed corruption. -/
structure InjArm where
  core : Nat
  engine : Nat
  set : Nat
  kind : Nat
  persist : Bool
  /-- the corrupted WFLUSH has completed -/
  fired : Bool
  deriving DecidableEq, Repr

/-- R420, R421: a test that runs on a position: the core number that stands for it, and the pattern. -/
structure FieldTest where
  die : Nat
  cl : Nat
  pos : Nat
  core : Nat
  pattern : Nat
  began : W64
  /-- checks that have failed -/
  fails : Nat
  /-- the pattern set in use when the test began -/
  set : Nat × Memory
  deriving DecidableEq, Repr

/-- Silent-error detection (spec/13). -/
structure TstSt where
  /-- R414: counts of the current and the previous window, by source (Machine/Silent.lean numbers them) -/
  trans : Tbl (Nat × Nat)
  /-- R425: sherds, newest first (128-byte bodies, Table 4), and how many of them have been exported (R426) -/
  sherds : List (List Byte)
  fresh : Nat
  /-- sherds formed since the module reset -/
  formed : Nat
  /-- R427 -/
  arm : Option InjArm
  /-- R420: the time of the last test, by position: die × 512 + cluster × 32 + position -/
  tested : Tbl W64
  tests : List FieldTest
  /-- R423, R424: the pattern sets of slots A and B with their versions, the slot in use, and the staged set -/
  slotA : Option (Nat × Memory)
  slotB : Option (Nat × Memory)
  useB : Bool
  stage : Option PatStage
  deriving DecidableEq, Repr

/-- R447: a KMP message that waits for its ACK. -/
structure KmpMsg where
  seq : Nat
  ty : Nat
  body : List Byte
  sent : W64
  deriving DecidableEq, Repr

/-- R444: a KMP message that has been taken from a frame and not acted on: its type, body, and whether it came from the DST address. -/
structure KmpIn where
  ty : Nat
  body : List Byte
  fromDst : Bool
  deriving DecidableEq, Repr

/-- R430 to R450: the fault collector and the management port. -/
structure FltSt where
  /-- severities that differ from Table 1, by source -/
  sev : Tbl Nat
  /-- CNT and TOTAL by source -/
  info : Tbl (Nat × Nat)
  /-- sources whose level condition is present -/
  live : List Nat
  /-- R436: the captured event whose detail has not come: its detail, and when its frame came -/
  detail : Option (Event × W64)
  /-- R433: the next frame sequence expected from each die -/
  frameSeq : Tbl Nat
  /-- R447: time of the last REPORT of a source and events since then -/
  reports : Tbl (W64 × Nat)
  kmpSeq : Nat
  unacked : List KmpMsg
  /-- R448: the last TELEM -/
  telem : W64
  /-- R450: the term of the TERMREQ that is outstanding -/
  termreq : Option Nat
  inbox : List KmpIn
  /-- R440 to R443: when the channels began to disagree, whether HALT_DISC has been raised, when a halt ended -/
  discSince : Option W64
  discRaised : Bool
  released : Option W64
  /-- R439: an armed injection: source, mode, cluster, slot -/
  arm : Option (Nat × Nat × Nat × Nat)
  deriving DecidableEq, Repr

/-- R466, R467: an ember: its index entry and the records of bound cores by core number. -/
structure Ember where
  die : Nat
  gen : Nat
  trig : Nat
  inc : Bool
  began : W64
  ended : W64
  progress : List Nat
  faults : Nat
  records : Tbl (List Byte)
  deriving DecidableEq, Repr

/-- R453 to R456, R468: what is known of one die. -/
structure DieWatch where
  lastGood : W64
  /-- a pilot has come since the last good one; the cores of the last SICK pilot -/
  heard : Bool
  sick : List Nat
  missed : Nat
  /-- the last pilot, or the last period that ended without one; the cores that rung 1 acted on, none for every core of the die -/
  seen : W64
  cores : Option (List Nat)
  /-- the step of Table 4 that has been done last, 0 outside a reset; its trigger; whether it is a fence -/
  phase : Nat
  trig : Nat
  fence : Bool
  /-- the time of the last step 1, and of the present step -/
  step1 : Option W64
  since : W64
  /-- a trigger that waits for the hold-off: trigger, fence -/
  waiting : Option (Nat × Bool)
  /-- the ember of the reset in progress has been written -/
  ember : Bool
  deriving DecidableEq, Repr

/-- R431: an action of the fault collector that the unit in charge has still to take. -/
inductive RstAct where
  /-- the job (a slice, or 1,024 + a saggar without one) and the reason -/
  | snuff (job reason : Nat)
  | fenceCore (core cause : Nat)
  | fenceWheel (wheel : Nat)
  | cycle
  deriving DecidableEq, Repr

/-- R453 to R476: resets, snuffs, fences. -/
structure RstSt where
  dies : Tbl DieWatch
  /-- R27 to R29: the position of a core number where it is not the position of the same number; 99 for an unbound slot -/
  spare : Tbl Nat
  /-- R472: the retire list in MRAM: cause by die × 512 + cluster × 32 + position -/
  retired : Tbl Nat
  /-- R464: by job: the snuff whose settle has not ended, and the latest snuff -/
  settle : Tbl W64
  lastSnuff : Tbl W64
  snuffNo : Nat
  seen : Tbl Nat
  broken : List Nat
  /-- R467: embers in MRAM, newest first -/
  embers : List Ember
  /-- R461: times of kiln lockstep faults -/
  lockstep : List W64
  restarting : Bool
  /-- R460: PWRCYC_REQ_N is asserted -/
  cycle : Bool
  acts : List RstAct
  /-- R472: positions whose retirement was cleared and that no field test has passed since -/
  untested : List Nat
  deriving DecidableEq, Repr

def tstReset : TstSt :=
  { trans := [], sherds := [], fresh := 0, formed := 0, arm := none, tested := [], tests := [], slotA := none, slotB := none, useB := false, stage := none }
def fltReset : FltSt :=
  { sev := [], info := [], live := [], detail := none, frameSeq := [], reports := [], kmpSeq := 0, unacked := [], telem := 0, termreq := none, inbox := [],
    discSince := none, discRaised := false, released := none, arm := none }
def dieWatchReset : DieWatch :=
  { lastGood := 0, heard := false, sick := [], missed := 0, seen := 0, cores := none, phase := 0, trig := 0, fence := false, step1 := none, since := 0, waiting := none,
    ember := false }
def rstReset : RstSt :=
  { dies := [], spare := [], retired := [], settle := [], lastSnuff := [], snuffNo := 0, seen := [], broken := [], embers := [], lockstep := [],
    restarting := false, cycle := false, acts := [], untested := [] }

end Sys2Proof.Machine
end

