-- ==== Sys2Proof/Machine/State.lean ====
section
/-! DEFINITION. Machine/State.lean: the state of the module. -/

namespace Sys2Proof.Machine

/-- Why the block stops with a fault: never. Every event of the spec has an effect, or is turned away by the rule it follows. -/
inductive Fault where
  deriving DecidableEq, Repr

/-- Why a command is refused. -/
inductive Refusal where
  /-- raised by an arm of `exec` whose command has no meaning yet; safe -/
  | notModelled (mnemonic : String)
  deriving DecidableEq, Repr

/-- What the module sends out of itself, in order of sending. -/
inductive Sent where
  /-- a link cell on link `link` of wheel `wheel` (R281) -/
  | cell (wheel link : Nat) (c : LCell)
  /-- a management message: sending endpoint, cell type, CTX (R368), package and endpoint it goes to, and its words (R371 to R402) -/
  | mgt (ep ty ctx dpkg dep : Nat) (words : List Nat)
  /-- a MIRROR or SYNC cell, whose payload only kilns read (R380, R383, R399): package, number, term, content -/
  | mirror (dpkg num term : Nat) (m : MirrorIn)
  | sync (dpkg term : Nat) (r : RoleSt)
  /-- R327 step 7: the role tells a wheel agent to retire its DRAINING bank -/
  | retire (dpkg wheel : Nat)
  /-- R365: a frame on ENUM_OUT -/
  | enum (frame : Nat)
  /-- MSI-X message of a function (R239) -/
  | msix (fn vec : Nat)
  /-- a message of the management port: type and body (R445) -/
  | kmp (ty : Nat) (body : List Nat)
  /-- a frame of the management port that is no KMP message (R444) -/
  | frame (kind : Nat) (body : List Nat)
  /-- R426: CPER records that the device exports by itself -/
  | cper (record : List Nat)
  /-- an answer of the I3C port or of SPDM (R514, R587, R588) -/
  | reply (kind : Nat) (body : List Nat)
  deriving DecidableEq, Repr

/-- R516, R525: what the lantern holds of one saggar beside its registers. -/
structure Sag where
  cur : Option KeyTag
  drain : Option KeyTag
  kver : Nat
  clmap : List (Nat × Nat)
  saved : Option SavedSg
  /-- R207: the fault record that holds a save or restore, and that one was refused -/
  fault : Option Nat
  refused : Bool
  deriving DecidableEq, Repr

def sagReset : Sag := { cur := none, drain := none, kver := 0, clmap := [], saved := none, fault := none, refused := false }

/-- The memory system (spec/06). -/
structure MemSt where
  /-- words of DRAM by DPA div 64; an unlisted word has not been written since the init fill -/
  dram : Tbl DWord
  /-- R419: poison lists, by stack -/
  poison : Tbl (List Nat)
  /-- words that are uncorrectable without a place in a poison list -/
  lost : List Nat
  /-- R418: next patrol word of each pseudo-channel, by stack × 32 + pseudo-channel, default 0 -/
  patrol : Tbl Nat
  /-- R417: corrected words that wait for a SCRUB slot -/
  scrub : List Nat
  /-- R184 to R186: the slot table installed, none for the default table -/
  slots : Option (List SlotCode)
  /-- slots since start alignment, and the pseudo-channels that have used the present one -/
  slotCtr : Nat
  slotUsed : List Nat
  /-- accesses of threads, by order of arrival -/
  acc : Tbl Access
  nextAcc : Nat
  faults : Tbl FaultRec
  dma : Tbl DmaEng
  tw : Option TwJob
  /-- R193: translation buffers by die -/
  tbuf : Tbl (List TbEntry)
  /-- cluster memory by die × 16 + cluster -/
  cl : Tbl Memory
  /-- R184: each cluster-memory bank serves one request per step of the switch; the order of arrival is that of `acc` -/
  host : Memory
  deriving DecidableEq, Repr

/-- Optical links, wheels, panel, NIs, sync objects, groups (spec/01, spec/09 to spec/11). -/
structure FabSt where
  /-- by wheel × 12 + link -/
  links : Tbl LinkSt
  /-- directed panel, control and spoke links by number (Machine/Panel.lean) -/
  panel : Tbl PanelLink
  wheels : Tbl Wheel
  ni : Tbl Ni
  sync : Tbl SyncDie
  groups : Tbl Group
  /-- R336: rank tables by slice: entries by rank -/
  ranks : Tbl (Tbl W32)
  /-- R399: reports of this module's wicks, oldest first, and the next number -/
  reports : List WickReport
  nextReport : Nat
  /-- R473: the die to which the endpoint of a fenced die forwards a slice, by die × 1,024 + slice -/
  remap : Tbl Nat
  /-- panel arbitration of dies and CTL: by node × 16 + output: class served last, and port of each class's last winner -/
  lastClass : Tbl Nat
  lastPort : Tbl Nat
  deriving DecidableEq, Repr

/-- The timebase (spec/02 R51 to R58). -/
structure TbSt where
  tb : W64
  /-- offset still to be removed by slewing, and the fraction of a nanosecond gathered, in ppm -/
  slew : Int
  frac : Nat
  /-- R55: a first exchange has taken place -/
  synced1 : Bool
  /-- R54: t1 of the exchange in progress -/
  t1 : Option W64
  /-- R56: the last M_TIME from the parent -/
  lastTime : W64
  /-- R57: the last 1PPS edge -/
  lastPps : Option W64
  /-- R53: the parent link of the time tree: wheel × 12 + link -/
  parent : Option Nat
  /-- the time master's package -/
  mpkg : Nat
  /-- R54: the number of the exchange in progress, and when it began -/
  exch : Nat
  exchAt : W64
  /-- R48: nanoseconds of gate stall not yet counted in DET_GSTALL_US -/
  stallNs : Nat
  deriving DecidableEq, Repr

structure State where
  regs : Tbl W32
  cores : Tbl Core
  mem : MemSt
  fab : FabSt
  tb : TbSt
  tst : TstSt
  stm : StmSt
  flt : FltSt
  rst : RstSt
  kln : KilnSt
  lnt : LntSt
  pwr : PwrSt
  pin : PinSt
  boot : BootSt
  sgs : Tbl Sag
  /-- R525: key registers of the glaze engines: slot to key, tenant slots 0 to 255 and service slots from 256 on -/
  keys : Tbl Nat
  nextKey : Nat
  /-- events of CTL, and events that have reached the collector, in order (R430) -/
  evq : List Event
  /-- R432: frames on the error lines, by die, oldest first -/
  lines : Tbl (List Event)
  sent : List Sent
  /-- the commands that wait, first in first out -/
  pending : List Instr
  deriving DecidableEq, Repr

def dmaNone (_ : Nat) : DmaEng := dmaReset

/-! ### The machine after module reset -/

def memReset : MemSt :=
  { dram := [], poison := [], lost := [], patrol := [], scrub := [], slots := none, slotCtr := 0, slotUsed := [], acc := [], nextAcc := 0,
    faults := [], dma := [], tw := none, tbuf := [], cl := [], host := [] }
def fabReset : FabSt :=
  { links := [], panel := [], wheels := [], ni := [], sync := [], groups := [], ranks := [], reports := [], nextReport := 0, remap := [],
    lastClass := [], lastPort := [] }
def tbReset : TbSt :=
  { tb := 0, slew := 0, frac := 0, synced1 := false, t1 := none, lastTime := 0, lastPps := none, parent := none, mpkg := 0, exch := 0,
    exchAt := 0, stallNs := 0 }

/-- The module right after module reset: every register at its reset value, step 1 of start-up done (R593), no command waiting. The
sixteen service keys stand in their slots (R525). -/
def State.reset : State :=
  { regs := [], cores := [], mem := memReset, fab := fabReset, tb := tbReset, tst := tstReset, stm := stmReset, flt := fltReset, rst := rstReset,
    kln := kilnReset, lnt := lntReset, pwr := pwrReset, pin := pinReset, boot := bootReset, sgs := [],
    keys := (List.range 16).map (fun k => (256 + k, k)), nextKey := 16, evq := [], lines := [], sent := [], pending := [] }

end Sys2Proof.Machine
end

