-- ==== Sys2Proof/Machine/Ops.lean ====
section
/-! DEFINITION. Machine/Ops.lean: the named operations over the state: registers, cores, saggars, keys, DRAM words, events. -/

namespace Sys2Proof.Machine

/-- What a command answers: there is a next state in every case. -/
abbrev Out := Host.Outcome State Fault Refusal

/-! ### Registers -/

/-- The value of the BAR0 register at `off`. -/
def rget (s : State) (off : Nat) : W32 := tblGet regReset s.regs off
/-- Sets it. -/
def rput (s : State) (off : Nat) (v : W32) : State := { s with regs := tblSet regReset s.regs off v }
/-- A field of a register. -/
def fget (s : State) (off : Nat) (f : Fld) : Nat := fldGet (rget s off) f
def fput (s : State) (off : Nat) (f : Fld) (x : Nat) : State := rput s off (fldSet (rget s off) f x)
/-- A one-bit field. -/
def fbit (s : State) (off : Nat) (f : Fld) : Bool := fget s off f != 0
/-- A counting field, saturating. -/
def fadd (s : State) (off : Nat) (f : Fld) (n : Nat) : State :=
  fput s off f (min (2 ^ (f.hi + 1 - f.lo) - 1) (fget s off f + n))
/-- A counting field that wraps (R491 of the journal and the like say so). -/
def faddw (s : State) (off : Nat) (f : Fld) (n : Nat) : State := fput s off f ((fget s off f + n) % 2 ^ (f.hi + 1 - f.lo))
/-- A 64-bit counter held in a pair of registers, saturating (R306). -/
def cadd (s : State) (lo hi : Nat) (n : Nat) : State :=
  let v := min (2 ^ 64 - 1) ((rget s lo).toNat + (rget s hi).toNat * 2 ^ 32 + n)
  rput (rput s lo (BitVec.ofNat 32 v)) hi (BitVec.ofNat 32 (v / 2 ^ 32))
/-- A 64-bit value in a pair of registers. -/
def pairGet (s : State) (lo hi : Nat) : Nat := (rget s lo).toNat + (rget s hi).toNat * 2 ^ 32
def pairPut (s : State) (lo hi : Nat) (v : Nat) : State := rput (rput s lo (BitVec.ofNat 32 v)) hi (BitVec.ofNat 32 (v / 2 ^ 32))

/-- DET_CTL.LOCK -/
def lockSet (s : State) : Bool := fbit s r_DET_CTL f_DET_CTL_LOCK
/-- This module's package identity (R367). -/
def myPkg (s : State) : Nat := fget s r_KLN_ENUM f_KLN_ENUM_PKG

/-! ### Dies, stacks, cores -/

/-- RST_DIE_STAT.STATE of a die (0 UP, 1 RESETTING, 2 FENCED, 3 OFF, 4 CYCLE requested). -/
def dieState (s : State) (d : Nat) : Nat := fget s (r_RST_DIE_STAT d) f_RST_DIE_STAT_STATE
def dieUp (s : State) (d : Nat) : Bool := decide (1000 ≤ d) || dieState s d == 0
/-- R204: the name of a context of a saved saggar, and of the place of its logical cluster's memory image. -/
def savedCtx (sg lcore : Nat) : Nat := 131072 + sg * 4096 + lcore
def savedPlace (sg l : Nat) : Nat × Nat := (1000 + sg * 32 + l / 16, l % 16)

/-- R16, R25: is a stack in service? Its die is neither fused off nor off. -/
def stackInService (s : State) (st : Nat) : Bool :=
  decide (st < 32) && decide (st / 2 < fget s r_ID_GRADE f_ID_GRADE_CDCNT) && dieState s (st / 2) != 3 && dieState s (st / 2) != 2

/-- R27, R250, R475: a core context is named by its core, die × 256 + cluster × 16 + slot, and, where logical cores share the core,
by 4,096 × its place in the rotation. -/
def physOf (c : Nat) : Nat := c % 4096
def dieOf (c : Nat) : Nat := c / 256 % 16
def clOf (c : Nat) : Nat := c / 16 % 16
def slotOf (c : Nat) : Nat := c % 16
def coreId (d cl slot : Nat) : Nat := d * 256 + cl * 16 + slot

def getCore (s : State) (c : Nat) : Core := tblGet (fun _ => coreReset) s.cores c
def setCore (s : State) (c : Nat) (x : Core) : State := { s with cores := tblSet (fun _ => coreReset) s.cores c x }
def modCore (s : State) (c : Nat) (f : Core → Core) : State := setCore s c (f (getCore s c))
/-- The cores that hold something. -/
def coreKeys (s : State) : List Nat := s.cores.map Prod.fst

/-- R48: the core begins a whole-core stall: it is counted, once. -/
def beginStall (s : State) (c : Nat) : State :=
  let k := getCore s c
  if k.stallAt.isSome then s
  else fadd (setCore s c { k with stallAt := some s.tb.tb }) r_DET_GSTALL_CNT f_DET_GSTALL_CNT_CNT 1

/-- R48: the stall of core `c` ends; its time is counted in whole microseconds. -/
def endStall (s : State) (c : Nat) : State :=
  match (getCore s c).stallAt with
  | none => s
  | some t =>
    let ns := s.tb.stallNs + (s.tb.tb - t).toNat
    fadd { s with tb := { s.tb with stallNs := ns % 1000 } } r_DET_GSTALL_US f_DET_GSTALL_US_US (ns / 1000)

/-! ### Saggars -/

def getSag (s : State) (n : Nat) : Sag := tblGet (fun _ => sagReset) s.sgs n
def setSag (s : State) (n : Nat) (x : Sag) : State := { s with sgs := tblSet (fun _ => sagReset) s.sgs n x }
def modSag (s : State) (n : Nat) (f : Sag → Sag) : State := setSag s n (f (getSag s n))
/-- TNT_SG_STATE(n).STATE: 0 FREE, 1 ACTIVE, 2 SAVING, 3 SAVED, 4 RESTORING. -/
def sgState (s : State) (n : Nat) : Nat := fget s (r_TNT_SG_STATE n) f_TNT_SG_STATE_STATE
def setSgState (s : State) (n x : Nat) : State := fput s (r_TNT_SG_STATE n) f_TNT_SG_STATE_STATE x
/-- R176: the cluster map. -/
def clmapOf (s : State) (sg l : Nat) : Option (Nat × Nat) := (getSag s sg).clmap[l]?
/-- The logical cluster that a physical one is bound to in a saggar. -/
def logicalCl (g : Sag) (d cl : Nat) : Option Nat := g.clmap.findIdx? fun p => p.1 == d && p.2 == cl
/-- The saggar to which a physical cluster is bound. -/
def sgOfCluster (s : State) (d cl : Nat) : Option Nat := (s.sgs.find? fun p => p.2.clmap.contains (d, cl)).map Prod.fst
/-- The slice tag of a saggar (TNT_SG_BIND), and the saggar bound to a slice tag. -/
def sliceOf (s : State) (sg : Nat) : Option Nat :=
  if fbit s (r_TNT_SG_BIND sg) f_TNT_SG_BIND_SLV then some (fget s (r_TNT_SG_BIND sg) f_TNT_SG_BIND_SLICE) else none
def sgOfSlice (s : State) (slice : Nat) : Option Nat := (List.range 128).find? fun n => sliceOf s n == some slice
/-- The function of a saggar (R517). -/
def fnOf (s : State) (sg : Nat) : Nat := fget s (r_TNT_SG_BIND sg) f_TNT_SG_BIND_FN
/-- The contexts of a saggar. -/
def coresOfSg (s : State) (sg : Nat) : List Nat :=
  (s.cores.filter fun (p : Nat × Core) => p.2.sg == sg && p.2.mode != .idle && p.2.mode != .test).map Prod.fst
/-- The physical core on which logical core `l` of a saggar runs, among its resident contexts. -/
def coreOfLcore (s : State) (sg l : Nat) : Option Nat :=
  (s.cores.find? fun p => p.2.sg == sg && p.2.lcore == l && p.2.mode != .idle).map Prod.fst

/-! ### Keys (R523 to R526) -/

/-- The key in a slot; service slot k is 256 + k. -/
def slotKey (s : State) (slot : Nat) : Option Nat := tblFind s.keys slot
/-- R523: the tag that an access of saggar `sg` carries. -/
def tagOfSg (s : State) (sg : Nat) : KeyTag := (getSag s sg).cur.getD { slot := 511, id := 0 }
def serviceTag (s : State) (k : Nat) : KeyTag := { slot := 256 + k, id := (slotKey s (256 + k)).getD 0 }
/-- R524: does the slot of a tag still hold the tag's key? -/
def tagLive (s : State) (t : KeyTag) : Bool := slotKey s t.slot == some t.id

/-! ### DRAM words (R181, R522, R524, R419, R600) -/

def modMem (s : State) (f : MemSt → MemSt) : State := { s with mem := f s.mem }

/-- Bytes of a stack that hold tenant data, and all that exist (R181). -/
def serviceBase : Nat := 0xBFC000000
def stackBytes : Nat := 0xC00000000
/-- The stack and offset of a word. -/
def stackOf (word : Nat) : Nat := word * 64 / 2 ^ 36
def offOf (word : Nat) : Nat := word * 64 % 2 ^ 36
/-- R182: the pseudo-channel of a word. -/
def pcOf (word : Nat) : Nat := word % 32

def poisoned (s : State) (word : Nat) : Bool := (tblGet (fun _ => []) s.mem.poison (stackOf word)).contains word

/-- The plaintext that a word reads as under a key. -/
def dramText (s : State) (key word : Nat) : BitVec 512 :=
  match tblFind s.mem.dram word with
  | none => Config.fillWord key word
  | some w => if w.key = key then w.data else Config.crossKey w.key key word w.data

/-- A read of a word under a tag: `none` fails with status ACCESS. -/
def dramRead (s : State) (t : KeyTag) (word : Nat) : Option (BitVec 512) :=
  if tagLive s t && !poisoned s word && !s.mem.lost.contains word then some (dramText s t.id word) else none

/-- R419: a write of the whole word takes it off the poison list. -/
def clearPoison (m : MemSt) (word : Nat) : MemSt :=
  { m with poison := tblModify (fun _ => []) m.poison (stackOf word) (·.filter (· != word)), lost := m.lost.filter (· != word) }

/-- A write of a whole word; discarded when the tag's slot holds no key. -/
def dramWrite (s : State) (t : KeyTag) (word : Nat) (x : BitVec 512) : State :=
  if tagLive s t then
    modMem s fun m => clearPoison { m with dram := tblPut m.dram word { data := x, key := t.id } } word
  else s

/-- Masked bytes merged into a word from byte `off` on. -/
def mergeWord (old : BitVec 512) (off : Nat) (bs : List MByte) : BitVec 512 :=
  wordOfBytes ((wordBytes old).mapIdx fun i b => if off ≤ i then (match bs[i - off]? with
    | some x => mMerge b x
    | none => b) else b)

/-- Does a list of masked bytes cover the whole word? -/
def wholeWord (bs : List MByte) : Bool := bs.length == 64 && bs.all fun x => x.1 == 0xFF#8

/-! ### Cluster memory and host memory -/

def clMem (s : State) (d cl : Nat) : Memory := tblGet (fun _ => []) s.mem.cl (d * 16 + cl)
def setClMem (s : State) (d cl : Nat) (m : Memory) : State :=
  modMem s fun x => { x with cl := tblSet (fun _ => []) x.cl (d * 16 + cl) m }
def hostWrite (s : State) (a : Nat) (bs : List Byte) : State := modMem s fun m => { m with host := memWriteN m.host a bs }
def hostRead (s : State) (a n : Nat) : List Byte := memReadN s.mem.host a n
def hostNat (s : State) (a n : Nat) : Nat := leNat (hostRead s a n)

/-! ### Events (R430, R432) -/

/-- An event without detail. -/
def eventOf (s : State) (src : Nat) : Event :=
  { src := src, mid := 0, acct := 0, addr := 0, tb := s.tb.tb, synd := 0, sg := none, slice := none, sub := 0, inj := false, born := none }

/-- R432: an event of a die or wheel goes on its error line; one of CTL reaches the collector directly. The queue of a line
holds 64 frames; what overflows it is found in the wick's pending set (R433), so nothing is lost. -/
def raise (s : State) (e : Event) : State :=
  if 736 ≤ e.src then { s with evq := s.evq ++ [e] }
  else
    let die := if e.src < 640 then e.src / 40 else 16 + (e.src - 640) / 24
    { s with lines := tblModify (fun _ => []) s.lines die (· ++ [e]) }

def raiseSrc (s : State) (src : Nat) : State := raise s (eventOf s src)
/-- Source numbers (spec/14 Table 1). -/
def srcDie (d off : Nat) : Nat := 40 * d + off
def srcWheel (w off : Nat) : Nat := 640 + 24 * w + off
def srcCtl (off : Nat) : Nat := 736 + off

def emitSent (s : State) (x : Sent) : State := { s with sent := s.sent ++ [x] }

/-! ### Master identities (R14) -/

def midCore (c : Nat) : Nat := 0x1000 + c % 4096
def midDma (e : Nat) : Nat := 0x2000 + e
def midRemote (pkg : Nat) : Nat := 0x7000 + pkg
def midSfe : Nat := 0x8000
def midSave (d : Nat) : Nat := 0x9000 + d

/-- Applies a function for each element, in order. -/
def each {α : Type} (l : List α) (f : State → α → State) (s : State) : State := l.foldl f s

/-- The command's condition holds, or the event does not take place and nothing changes. -/
def when_ (b : Bool) (s : State) (t : State) : Out := .next (if b then t else s)

end Sys2Proof.Machine
end

