-- ==== Sys2Proof/Machine/Sherd.lean ====
section
/-! DEFINITION. Machine/Sherd.lean: messages of the management port that wait for an ACK (spec/14 R446, R447), and sherd records
(spec/13 R425, R426 Table 4). -/

namespace Sys2Proof.Machine

def modFlt (s : State) (f : FltSt → FltSt) : State := { s with flt := f s.flt }
def modTst (s : State) (f : TstSt → TstSt) : State := { s with tst := f s.tst }
def modRst (s : State) (f : RstSt → RstSt) : State := { s with rst := f s.rst }

/-- R452: the management port sends and takes nothing while EN = 0. -/
def mgpOn (s : State) : Bool := fbit s r_FLT_MGP_CTL f_FLT_MGP_CTL_EN && s.pin.sgmii

/-- R446: bytes of a number, most significant first. -/
def beBytes (n v : Nat) : List Byte := (leBytes n v).reverse

/-- R446: the package identity as KMP and sherds carry it. -/
def pkgOrNone (s : State) : Nat := if fbit s r_KLN_ENUM f_KLN_ENUM_PKGV then myPkg s else 0xFFFF

/-- R446: sends a KMP message under a sequence count; `ack` sets ACKREQ. -/
def kmpFrame (s : State) (ty seq : Nat) (ack : Bool) (body : List Byte) : State :=
  if mgpOn s then
    emitSent (fadd s r_FLT_MGP_TXOK f_FLT_MGP_TXOK_CNT 1) (.kmp ty ((beBytes 2 0x4B4D ++ [1#8] ++ beBytes 1 ty ++ beBytes 2 body.length ++ beBytes 2 (b2n ack) ++ beBytes 4 seq
      ++ beBytes 2 (pkgOrNone s) ++ beBytes 2 0 ++ body).map BitVec.toNat))
  else s
/-- The next message. -/
def kmpSend (s : State) (ty : Nat) (body : List Byte) : State :=
  kmpFrame (modFlt s fun f => { f with kmpSeq := (f.kmpSeq + 1) % 2 ^ 32 }) ty s.flt.kmpSeq false body

/-- R447: sends a REPORT or SHERD and holds it until its ACK; a 65th held message replaces the oldest and raises KMP_LOST. -/
def kmpHold (s : State) (ty : Nat) (body : List Byte) : State :=
  let m : KmpMsg := { seq := s.flt.kmpSeq, ty := ty, body := body, sent := s.tb.tb }
  let full := decide (64 ≤ s.flt.unacked.length)
  let s := modFlt s fun f => { f with kmpSeq := (f.kmpSeq + 1) % 2 ^ 32, unacked := (if full then f.unacked.drop 1 else f.unacked) ++ [m] }
  let s := kmpFrame s ty m.seq true body
  if full then raiseSrc s (srcCtl 19) else s

/-! ### Injection into checkers (R439) -/

/-- The mode of the injection that is armed at one of the sources, at the core named by cluster and slot where the source is one of a core. -/
def armedAt (s : State) (srcs : List Nat) (core : Option (Nat × Nat)) : Option Nat :=
  match s.flt.arm with
  | some (src, mode, cl, slot) => if srcs.contains src && core.all (fun p => p == (cl, slot)) then some mode else none
  | none => none
/-- GO reads 0: the check takes place. -/
def disarmInj (s : State) : State := fput (modFlt s fun f => { f with arm := none }) r_FLT_INJ f_FLT_INJ_GO 0
/-- The events that a check has added on a line carry INJ. -/
def markInj (old : State) (line : Nat) (s : State) : State :=
  let n := (tblGet (fun _ => []) old.lines line).length
  { s with lines := tblModify (fun _ => []) s.lines line fun l => l.mapIdx fun i e => if n ≤ i then { e with inj := true } else e }
/-- A check at one of the sources of a die's line, with what it finds: the injection decides it where one is armed. -/
def injected (srcs : List Nat) (core : Option (Nat × Nat)) (line : Nat) (found : Ecc) (check : Ecc → State → State) (s : State) : State :=
  match armedAt s srcs core with
  | some m => markInj s line (check (if m = 1 then .corrected else .uncorrectable) (disarmInj s))
  | none => check found s

/-- R420: a test of a spare position runs on a core number of its own, 98,304 + 4,096 × (position div 16) + its die, cluster and position. -/
def spareTest (c : Nat) : Bool := decide (98304 ≤ c) && decide (c < 131072)
/-- R27: the position that core number `c` (die × 256 + core number) is bound to; 99 when the slot is unbound. -/
def posOf (s : State) (c : Nat) : Nat := if spareTest c then slotOf c + 16 * ((c - 98304) / 4096) else tblGet (fun k => k % 16) s.rst.spare (physOf c)

/-- What a sherd holds beside identity and time (Table 4). -/
structure SherdIn where
  kind : Nat
  cls : Nat := 0
  /-- die, cluster, slot, position, engine, set -/
  place : List Nat := [0, 0, 0xFF, 0xFF, 0xFF, 0]
  step : Nat := 0
  cmask : Nat := 0
  rmask : Nat := 0
  flags : Nat := 0
  span : Nat := 0
  addr : Nat := 0
  synd : Nat := 0
  pattern : Nat := 0
  crcExp : Nat := 0
  crcObs : Nat := 0
  src : Nat := 0
  count : Nat := 0
  dur : Nat := 0
  slice : Option Nat := none
  sg : Option Nat := none

/-- The 128 bytes of a sherd. -/
def sherdBody (s : State) (x : SherdIn) : List Byte :=
  leBytes 4 0x38444853 ++ leBytes 2 1 ++ leBytes 1 x.kind ++ leBytes 1 x.cls ++ leBytes 8 (pairGet s r_ID_SER_LO r_ID_SER_HI)
  ++ leBytes 2 (pkgOrNone s) ++ (x.place.take 6).flatMap (leBytes 1) ++ leBytes 8 s.tb.tb.toNat ++ leBytes 8 x.step ++ leBytes 4 x.cmask
  ++ leBytes 2 x.rmask ++ leBytes 1 x.flags ++ leBytes 1 x.span ++ leBytes 8 x.addr ++ leBytes 8 x.synd ++ leBytes 8 x.pattern
  ++ leBytes 8 x.crcExp ++ leBytes 8 x.crcObs ++ leBytes 2 x.src ++ leBytes 2 x.count ++ leBytes 4 (min x.dur (2 ^ 32 - 1))
  ++ leBytes 2 (x.slice.getD 0xFFFF) ++ leBytes 2 (x.sg.getD 0xFFFF) ++ List.replicate 28 0#8

/-- SHERD_WRITE (R425): the store keeps 4,096 sherds, and each goes out over KMP. -/
def sherd (s : State) (x : SherdIn) : State :=
  let b := sherdBody s x
  let full := decide (4096 ≤ s.tst.sherds.length)
  let s := modTst s fun t => { t with sherds := (b :: t.sherds).take 4096, fresh := min 4096 (t.fresh + 1), formed := t.formed + 1 }
  let s := fadd s r_TST_SHD_CNT f_TST_SHD_CNT_CNT 1
  let s := if full then raiseSrc (fput s r_TST_STAT f_TST_STAT_SHDOVF 1) (srcCtl 17) else s
  kmpHold s 2 b

/-- The place of a core, for a sherd. -/
def corePlace (s : State) (c eng set : Nat) : List Nat := [dieOf c, clOf c, if spareTest c then 0xFF else slotOf c, posOf s c, eng, set]

end Sys2Proof.Machine
end

