-- ==== Sys2Proof/Machine/Memory.lean ====
section
/-! DEFINITION. Machine/Memory.lean: translation, fault records, DRAM slots and cluster-memory service
(spec/06 R181 to R200, R600, R601; spec/13 R415 to R419; spec/04 R129). -/

namespace Sys2Proof.Machine

/-! ### Page tables (R189 to R192) -/

/-- Table 3: the index of a level in a VA, and the entries of a table. -/
def pteIndex (level va : Nat) : Nat :=
  match level with
  | 0 => bits va 47 39
  | 1 => bits va 38 30
  | 2 => bits va 29 21
  | _ => bits va 20 16
/-- The page size of a leaf. -/
def pageSize (level : Nat) : Nat := if level = 1 then 2 ^ 30 else if level = 2 then 2 ^ 21 else 2 ^ 16

def pteLeaf (p : W64) : Bool := p.getLsbD 1
def pteRd (p : W64) : Bool := p.getLsbD 2
def pteWr (p : W64) : Bool := p.getLsbD 3
def pteAcc (p : W64) : Bool := p.getLsbD 4
def pteStripe (p : W64) : Nat := bits p.toNat 7 5
/-- The DPA of the next table or of the frame. -/
def pteAddr (p : W64) : Nat := bits p.toNat 40 8 * 256

/-- 64 KiB units of a leaf's frame on each of its stacks (R191, R188). -/
def frameUnits (p : W64) (level : Nat) : Nat :=
  let u := pageSize level / 65536 * (if pteAcc p then 2 else 1)
  (u + 2 ^ pteStripe p - 1) / 2 ^ pteStripe p

/-- R191: does a leaf break a condition? -/
def leafBad (p : W64) (level : Nat) : Bool :=
  let n := pteStripe p
  let st := pteAddr p / 2 ^ 36
  let o := pteAddr p % 2 ^ 36
  decide (4 < n) || st % 2 ^ n != 0 || o % 65536 != 0 || decide (serviceBase < o + frameUnits p level * 65536) || (level == 3 && n != 0)

/-- Table 5, FORMAT: an entry with V = 1 at a level. -/
def pteFormat (p : W64) (level : Nat) : Bool :=
  bits p.toNat 55 41 != 0
  || (if pteLeaf p then level == 0 || leafBad p level
      else pteRd p || pteWr p || pteAcc p || pteStripe p != 0 || level == 3
        || pteAddr p % (if level = 2 then 256 else 4096) != 0)

/-- Table 5, LOST: the table at a DPA lies on a stack not in service or in the service region. -/
def lostAt (s : State) (dpa n : Nat) : Bool := !stackInService s (dpa / 2 ^ 36) || decide (serviceBase < dpa % 2 ^ 36 + n)

/-- LOST for the frame of a leaf. -/
def frameLost (s : State) (p : W64) (level : Nat) : Bool :=
  let st := pteAddr p / 2 ^ 36
  (List.range (2 ^ pteStripe p)).any fun i =>
    !stackInService s (st + i) || decide (serviceBase < pteAddr p % 2 ^ 36 + frameUnits p level * 65536)

/-- What a walk ends with: a leaf with its level, or an outcome of Table 5. -/
inductive WalkEnd where
  | refused
  | absent (level : Nat)
  | leaf (p : W64) (level : Nat)
  deriving DecidableEq, Repr

/-- R192: the walk from the table at `dpa` of a level on, with `fuel` levels left. -/
def walkFrom (s : State) (va : Nat) : Nat → Nat → Nat → WalkEnd
  | 0, _, _ => .refused
  | fuel + 1, level, dpa =>
    let a := dpa + 8 * pteIndex level va
    if lostAt s a 8 then .refused
    else match dramRead s (serviceTag s 0) (a / 64) with
      | none => .refused
      | some w =>
        let p : W64 := w.extractLsb' (8 * (a % 64)) 64
        if !p.getLsbD 0 then .absent level
        else if pteFormat p level then .refused
        else if pteLeaf p then (if frameLost s p level then .refused else .leaf p level)
        else walkFrom s va fuel (level + 1) (pteAddr p)

/-- The walk of a saggar's tables. -/
def walk (s : State) (sg va : Nat) : WalkEnd :=
  walkFrom s va 4 0 (fget s (r_MMU_ROOT_LO sg) f_MMU_ROOT_LO_ROOT * 4096 + fget s (r_MMU_ROOT_HI sg) f_MMU_ROOT_HI_ROOT * 2 ^ 32)

/-- R191: the word of frame offset `fo`. -/
def frameWord (p : W64) (fo : Nat) : Nat :=
  let u := fo / 65536
  let n := pteStripe p
  ((pteAddr p / 2 ^ 36 + u % 2 ^ n) * 2 ^ 36 + pteAddr p % 2 ^ 36 + u / 2 ^ n * 65536 + fo % 65536) / 64

/-- What an access needs of its page. -/
structure Need where
  rd : Bool
  wr : Bool
  /-- the access code of Table 6 -/
  acct : Nat
  deriving DecidableEq, Repr

def needRead : Need := { rd := true, wr := false, acct := 0 }
def needWrite : Need := { rd := false, wr := true, acct := 1 }
def needAdd : Need := { rd := true, wr := true, acct := 2 }
def needOf (a : MemAct) : Need :=
  match a with
  | .read => needRead
  | .write _ => needWrite
  | .narrowAdd _ => needAdd
  | .wideAdd _ => needAdd

/-- R192: permissions against a leaf, and the place of the word. -/
def leafOut (s : State) (sg va : Nat) (p : W64) (level : Nat) (n : Need) : Sum (Nat × Nat) Place :=
  if n.rd && !pteRd p then .inl (2, 0)
  else if n.wr && !pteWr p then .inl (3, 0)
  else
    let fo := va % pageSize level
    .inr { word := frameWord p fo, tail := if pteAcc p then some (frameWord p (fo + pageSize level)) else none, tag := tagOfSg s sg }

/-- What the MMU answers for an access. -/
inductive Trans where
  | refused
  /-- fault code and level (Table 5, Table 6) -/
  | fault (kind level : Nat)
  | ok (p : Place)
  deriving DecidableEq, Repr

/-- R193: an entry of die `d`'s buffer that covers the VA. -/
def tbLook (s : State) (d sg va : Nat) : Option TbEntry :=
  (tblGet (fun _ => []) s.mem.tbuf d).find? fun e => e.sg == sg && e.va ≤ va && va < e.va + e.size

def tbLevel (e : TbEntry) : Nat := if e.size = 2 ^ 30 then 1 else if e.size = 2 ^ 21 then 2 else 3

/-- R193: a new entry; the buffer holds 4,096, and the oldest gives way. -/
def tbInsert (s : State) (d : Nat) (e : TbEntry) : State :=
  modMem s fun m => { m with tbuf := tblModify (fun _ => []) m.tbuf d fun l => (e :: l.filter (· != e)).take 4096 }

/-- R192: the answer from a leaf. -/
def leafAns (s : State) (sg va : Nat) (n : Need) (p : W64) (level : Nat) : State × Trans :=
  (s, match leafOut s sg va p level n with
    | .inl (k, l) => .fault k l
    | .inr pl => .ok pl)

/-- R192, R193: the answer at the end of a walk of die `d`'s MMU. -/
def walkAns (s : State) (d sg va : Nat) (n : Need) (w : WalkEnd) : State × Trans :=
  match w with
  | .refused =>
    let s := fput s r_MMU_STAT f_MMU_STAT_FMTERR 1
    (raise s { eventOf s (srcDie d 22) with mid := 0xA000 + d, acct := n.acct, addr := va, sg := some sg, slice := sliceOf s sg }, .refused)
  | .absent l => (s, .fault 1 l)
  | .leaf p level => leafAns (tbInsert s d { sg := sg, va := va / pageSize level * pageSize level, size := pageSize level, leaf := p }) sg va n p level

/-- R192, R193: translates a VA of a saggar at die `d`'s MMU. `hit` tells whether an entry of the buffer is found. -/
def translate (s : State) (d sg va : Nat) (n : Need) (hit : Bool) : State × Trans :=
  match (if hit then tbLook s d sg va else none) with
  | some e => leafAns s sg va n e.leaf (tbLevel e)
  | none =>
    let s := fadd s r_MMU_WCNT f_MMU_WCNT_CNT 1
    walkAns s d sg va n (walk s sg va)

/-! ### Fault records (R195 to R200) -/

/-- MMU_STAT.FPEND and FQFULL follow the records held (R198, R213). -/
def syncFpend (s : State) : State :=
  let n := s.mem.faults.length
  let s := fput s r_MMU_STAT f_MMU_STAT_FPEND n
  fput s r_MMU_STAT f_MMU_STAT_FQFULL (b2n (decide (1024 ≤ n)))

/-- The lowest free tag. -/
def freeTag (s : State) : Option Nat := (List.range 1024).find? fun t => (tblFind s.mem.faults t).isNone

/-- R198: creates or merges a record; the tag by which the access is held, none while 1,024 records are held. -/
def faultRecord (s : State) (d sg kind level mid src acct va : Nat) : State × Option Nat :=
  let page := va / 65536 * 65536
  match s.mem.faults.find? fun (p : Nat × FaultRec) => p.2.sg == sg && p.2.kind == kind && p.2.va == page with
  | some (t, r) => (modMem s fun m => { m with faults := tblPut m.faults t { r with merged := min 65535 (r.merged + 1) } }, some t)
  | none =>
    match freeTag s with
    | none => (s, none)
    | some t =>
      let r : FaultRec := { sg := sg, kind := kind, mid := mid, acct := acct + 16 * (if kind = 1 then level else 0), src := src,
                            va := page, tb := s.tb.tb, die := d, merged := 1 }
      let s := syncFpend (modMem s fun m => { m with faults := tblPut m.faults t r })
      let s := fadd s r_MMU_FCNT f_MMU_FCNT_CNT 1
      (if s.mem.faults.length = 1024 then raiseSrc s (srcCtl 18) else s, some t)

/-! ### Accesses of threads -/

def getAcc (s : State) (i : Nat) : Option Access := tblFind s.mem.acc i
def modAcc (s : State) (i : Nat) (f : Access → Access) : State := modMem s fun m => { m with acc := mapModify m.acc i f }
/-- A stage at which the access is over. -/
def stageEnds (x : Stage) : Bool :=
  match x with
  | .done _ => true
  | .failed _ => true
  | _ => false
/-- R463, R209: an access whose context is gone goes under this number, 65,536 above its core's; nobody waits for it. -/
def orphan (c : Nat) : Bool := decide (65536 ≤ c) && decide (c < 131072)
/-- The access comes to a stage; one whose context is gone leaves when it is over. -/
def setStage (s : State) (i : Nat) (x : Stage) : State :=
  if stageEnds x && (getAcc s i).any (fun a => orphan a.core) then modMem s fun m => { m with acc := tblErase m.acc i }
  else modAcc s i fun a => { a with stage := x }
def dropAcc (s : State) (i : Nat) : State := modMem s fun m => { m with acc := tblErase m.acc i }
/-- A new access, the youngest. -/
def newAcc (s : State) (a : Access) : State :=
  modMem s fun m => { m with acc := tblPut m.acc m.nextAcc a, nextAcc := m.nextAcc + 1 }

def isWaiting (a : Access) : Bool := a.stage == .waiting || a.stage == .faulted none

/-- R204: may accesses of the saggar proceed? -/
def sgRuns (s : State) (sg : Nat) : Bool := sgState s sg == 1 || sgState s sg == 4

/-- R199: what a resolution does to everything that a record holds: the accesses, the DMA transfers and the inbound messages.
`again` walks again, otherwise they fail. -/
def resolveAcc (again : Bool) (t : Nat) (a : Access) : Access :=
  if a.stage = .faulted (some t) then { a with stage := if again then .waiting else .failed false } else a
def resolveXfer (again : Bool) (t : Nat) (x : Xfer) : Xfer :=
  if x.st = .faulted (some t) then { x with st := if again then .running else .failed 1 } else x
def resolveDma (again : Bool) (t : Nat) (x : DmaEng) : DmaEng :=
  { x with thq := x.thq.map (resolveXfer again t), feq := x.feq.map (resolveXfer again t) }
def resolveMem (again : Bool) (t : Nat) (m : MemSt) : MemSt :=
  { m with acc := tblMap (resolveAcc again t) m.acc, faults := tblErase m.faults t, dma := tblMap (resolveDma again t) m.dma }

/-- Saved transfers (R200), and a save or restore that a record holds (R207). -/
def resolveSaved (again : Bool) (t : Nat) (x : SavedSg) : SavedSg :=
  { x with xfers := x.xfers.map fun p => (p.1, resolveXfer again t p.2) }

def resolveSag (again : Bool) (t : Nat) (g : Sag) : Sag :=
  let g := { g with saved := g.saved.map (resolveSaved again t) }
  if g.fault = some t then { g with fault := none, refused := !again } else g

/-- Held inbound messages (R197). -/
def resolveReasm (again : Bool) (t : Nat) (r : Reasm) : Reasm :=
  if r.hold = some t then { r with hold := none, refused := !again } else r
def resolveNi (again : Bool) (t : Nat) (n : Ni) : Ni := { n with reasm := n.reasm.map (resolveReasm again t) }

/-- R199, R200: resolves record `t`. -/
def resolveFault (s : State) (t : Nat) (again : Bool) : State :=
  match tblFind s.mem.faults t with
  | none => s
  | some _ =>
    let s := syncFpend (modMem s (resolveMem again t))
    let s := { s with sgs := tblMap (resolveSag again t) s.sgs }
    { s with fab := { s.fab with ni := tblMap (resolveNi again t) s.fab.ni } }

/-- R196: a core of which any access is held by a fault takes no step under LOCK. -/
def coreFaulted (s : State) (c : Nat) : Bool :=
  s.mem.acc.any (fun p => p.2.core == c && (match p.2.stage with
    | .faulted _ => true
    | _ => false))
  || s.mem.dma.any fun p => (p.2.thq ++ p.2.feq).any fun x => (match x.who, x.st with
    | .thread k _ _, .faulted _ => k == c
    | _, _ => false)

/-! ### The controllers (R182 to R188, R417 to R419, R601) -/

/-- R185: the default slot table. -/
def defaultSlot (i : Nat) : SlotCode :=
  let k := i % 64
  if k < 2 then .refresh else if k < 26 then .read else if k < 30 then .turn else if k < 47 then .write else if k < 55 then .turn else .scrub

/-- The code of the present slot. -/
def slotNow (s : State) : SlotCode :=
  let i := s.mem.slotCtr % 1024
  match s.mem.slots with
  | none => defaultSlot i
  | some l => l.getD i .idle

/-- Where an access waits at a controller. -/
def accPlace (a : Access) : Option Place :=
  match a.stage with
  | .ready p => some p
  | .half p _ _ _ _ => some p
  | _ => none

/-- The words that an access touches. -/
def placeWords (p : Place) : List Nat := p.word :: p.tail.toList

/-- R182: does an older request for one of the words of `p` still wait? -/
def behind (s : State) (id : Nat) (p : Place) : Bool :=
  s.mem.acc.any fun q => decide (q.1 < id) && (match accPlace q.2 with
    | some r => (placeWords r).any fun w => (placeWords p).contains w
    | none => false)

/-- Does a request read its word first (R187, R601)? -/
def readsFirst (a : MemAct) : Bool :=
  match a with
  | .write bs => !wholeWord bs
  | _ => true

/-- The oldest request that waits at a pseudo-channel for a read, or for a write, and may be served (R182, R184). -/
def oldestReady (s : State) (stack pc : Nat) (reads : Bool) : Option (Nat × Access × Place) :=
  s.mem.acc.findSome? fun q =>
    match q.2.stage with
    | .ready p =>
      if stackOf p.word = stack ∧ pcOf p.word = pc ∧ readsFirst q.2.act = reads ∧ !behind s q.1 p then some (q.1, q.2, p) else none
    | _ => none

/-- R419: a word found uncorrectable: it enters the poison list, if there is room, and DRAM_UNC is raised. -/
def dramUncorrectable (s : State) (word : Nat) (a : Option Access) : State :=
  let st := stackOf word
  let d := st / 2
  let e := { eventOf s (srcDie d (14 + st % 2)) with addr := word * 64, sub := pcOf word }
  let e := match a with
    | some a => { e with mid := midCore a.core, acct := (needOf a.act).acct, sg := some a.sg, slice := sliceOf s a.sg }
    | none => e
  let place := [d, 0xFF, 0xFF, 0xFF, 0xFF, 0]
  let s := sherd s { kind := 3, place := place, addr := word * 64, src := e.src, slice := e.slice, sg := e.sg }
  let l := tblGet (fun _ => []) s.mem.poison st
  if l.length < 256 then raise (modMem s fun m => { m with poison := tblSet (fun _ => []) m.poison st (l ++ [word]) }) e
  else
    let s := raise (modMem s fun m => { m with lost := addOnce m.lost word }) e
    sherd (raiseSrc s (srcDie d (16 + st % 2))) { kind := 7, place := place, addr := word * 64, src := srcDie d (16 + st % 2) }

/-- The tail word of an accumulation word, read with it (R188). -/
def tailRead (s : State) (p : Place) : BitVec 512 := (p.tail.map fun w => (dramRead s p.tag w).getD 0#512).getD 0#512

/-- R187, R601: what a read makes of a request. -/
def afterRead (s : State) (id : Nat) (a : Access) (p : Place) (ecc : Ecc) : State :=
  if ecc == .uncorrectable && !poisoned s p.word then setStage (dramUncorrectable s p.word (some a)) id (.failed true)
  else match dramRead s p.tag p.word with
    | none =>
      let s := if s.mem.lost.contains p.word && tagLive s p.tag then dramUncorrectable s p.word (some a) else s
      setStage s id (.failed false)
    | some w =>
      match a.act with
      | .read => setStage s id (.done w)
      | .write bs => setStage s id (.half { p with tail := none } s.mem.slotCtr (mergeWord w (a.addr.toNat % 64) bs) 0#512 false)
      | .narrowAdd x =>
        let (old, bad) := cxsDecode w (if cxsCont w && p.tail.isSome then some (tailRead s p) else none)
        match cxsEncode (lrAdd old x), p.tail with
        | (c, none), _ => setStage s id (.half { p with tail := none } s.mem.slotCtr c 0#512 bad)
        | (c, some d), some _ => setStage s id (.half p s.mem.slotCtr c d bad)
        | (_, some _), none => setStage s id (.half p s.mem.slotCtr (cxsEncode lrNaN).1 0#512 true)
      | .wideAdd _ => setStage s id (.failed false)

/-- The word that a whole-word write stores. -/
def storedWord (a : MemAct) : BitVec 512 :=
  match a with
  | .write bs => mergeWord 0#512 0 bs
  | _ => 0#512

/-- R418: the patrol reads the next word of the pseudo-channel. -/
def patrolWord (s : State) (stack pc : Nat) : Nat := stack * 2 ^ 30 + (tblGet (fun _ => 0) s.mem.patrol (stack * 32 + pc)) * 32 + pc
def patrolNext (k : Nat) : Nat := if (k + 1) * 2048 < stackBytes then k + 1 else 0
def patrolStep (s : State) (stack pc : Nat) (ecc : Ecc) : State :=
  let w := patrolWord s stack pc
  let s := modMem s fun m => { m with patrol := tblModify (fun _ => 0) m.patrol (stack * 32 + pc) patrolNext,
                                      scrub := m.scrub.filter fun x => !(stackOf x == stack && pcOf x == pc) }
  match ecc with
  | .clean => s
  | .corrected => s
  | .uncorrectable => if poisoned s w then s else dramUncorrectable s w none

/-- The patrol word was corrected: the word waits for a SCRUB slot (R417). -/
def scrubLater (s : State) (w : Nat) : State := modMem s fun m => { m with scrub := addOnce m.scrub w }

/-- What a slot comes to at one pseudo-channel, and the word that was read, for the count of R414. -/
def slotAct (s : State) (stack pc : Nat) (code : SlotCode) (ecc : Ecc) : State × Option Nat :=
  match code with
  | .read =>
    match oldestReady s stack pc true with
    | some (id, a, p) => (afterRead s id a p ecc, some p.word)
    | none => (s, none)
  | .write =>
    match oldestReady s stack pc false with
    | some (id, a, p) =>
      (if tagLive s p.tag then setStage (dramWrite s p.tag p.word (storedWord a.act)) id (.done 0#512) else setStage s id (.failed false), none)
    | none => (s, none)
  | .scrub => (patrolStep s stack pc ecc, some (patrolWord s stack pc))
  | _ => (s, none)

/-- R184: each pseudo-channel performs one action per slot. -/
def slotFree (s : State) (stack pc : Nat) : Bool := !s.mem.slotUsed.contains (stack * 32 + pc)
def useSlot (s : State) (stack pc : Nat) : State := modMem s fun m => { m with slotUsed := (stack * 32 + pc) :: m.slotUsed }

/-- The second half of a request whose read is done: the first that may be written now at a pseudo-channel, adds or merges. -/
def halfReady (s : State) (stack pc : Nat) (adds : Bool) : Option (Nat × Access × Place × BitVec 512 × BitVec 512 × Bool) :=
  s.mem.acc.findSome? fun q =>
    match q.2.stage with
    | .half p t d e bad =>
      let isAdd := match q.2.act with
        | .narrowAdd _ => true
        | _ => false
      if stackOf p.word = stack ∧ pcOf p.word = pc ∧ isAdd = adds ∧ t + 24 ≤ s.mem.slotCtr then some (q.1, q.2, p, d, e, bad) else none
    | _ => none

/-- R77: a malformed CXS met by a unit of die `d`. -/
def raiseMalformed (s : State) (src sg : Nat) (addr : Nat) (bad : Bool) : State :=
  if bad then raise s { eventOf s src with addr := addr, sg := some sg, slice := sliceOf s sg } else s

/-- The write of a second half: the tail cell and then the head cell (R188). -/
def writeHalf (s : State) (adds : Bool) (stack pc : Nat) : State :=
  match halfReady s stack pc adds with
  | none => s
  | some (id, a, p, d, e, bad) =>
    let s := match p.tail with
      | some t => dramWrite s p.tag t e
      | none => s
    let ok := tagLive s p.tag
    let s := dramWrite s p.tag p.word d
    let s := raiseMalformed s (srcDie (stack / 2) 21) a.sg (p.word * 64) bad
    setStage s id (if ok then .done 0#512 else .failed false)

/-- May the controller of `stack` write in this slot? -/
def writeSlotOk (s : State) (stack pc : Nat) : Bool :=
  dieUp s (stack / 2) && stackInService s stack && slotFree s stack pc && (!lockSet s || slotNow s == .write)

/-- DRAM_EXACT_ADD_WRITE (R187, R188). -/
def execDramExactAddWrite (stack pc : Nat) (s : State) : Out :=
  when_ (writeSlotOk s stack pc && (halfReady s stack pc true).isSome) s (useSlot (writeHalf s true stack pc) stack pc)

/-- RMW_WRITE (R601). -/
def execRmwWrite (stack pc : Nat) (s : State) : Out :=
  when_ (writeSlotOk s stack pc && (halfReady s stack pc false).isSome) s (useSlot (writeHalf s false stack pc) stack pc)

/-! ### Cluster memory (R129, R130) -/

/-- The bank of a cluster-memory address. -/
def clBank (off : Nat) : Nat := bits off 9 6

/-- The banks that an access uses. -/
def clBanks (a : Access) : List Nat :=
  match a.loc, a.act with
  | .cluster _ _ off, .wideAdd _ => [clBank off, (clBank off + 1) % 16]
  | .cluster _ _ off, _ => [clBank off]
  | _, _ => []

/-- The accesses that wait at a bank. -/
def clWaiting (s : State) (d cl b : Nat) : List (Nat × Access) :=
  s.mem.acc.filter fun q => (match q.2.loc with
    | .cluster d' cl' _ => d' == d && cl' == cl
    | _ => false) && q.2.stage == .waiting && (clBanks q.2).contains b

/-- R129: the older goes first, and at equal age the lower core number. -/
def clBefore (p q : Nat × Access) : Bool :=
  decide (p.2.born.toNat < q.2.born.toNat) || (p.2.born == q.2.born && decide (p.2.core % 256 < q.2.core % 256))
def clOldest (s : State) (d cl b : Nat) : Option (Nat × Access) :=
  (clWaiting s d cl b).foldl (fun best q => match best with
    | none => some q
    | some p => if clBefore q p then some q else some p) none

/-- The effect of an access on a cluster memory, and the word that it reads. -/
def clEffect (m : Memory) (off : Nat) (act : MemAct) : Memory × BitVec 512 × Bool :=
  let base := off / 64 * 64
  match act with
  | .read => (m, spadWord m base, false)
  | .write bs => (memWriteEn m off bs, 0#512, false)
  | .narrowAdd x => let (w, bad) := narrowAdd (spadWord m base) x; (spadPut m base w, 0#512, bad)
  | .wideAdd x =>
    let ((lo, hi), bad) := wideAdd (spadWord m base) (spadWord m (base + 64)) x
    (spadPut (spadPut m base lo) (base + 64) hi, 0#512, bad)

end Sys2Proof.Machine
end

