-- ==== Sys2Proof/Machine/Silent.lean ====
section
/-! DEFINITION. Machine/Silent.lean: transient counts and what a corrected or uncorrectable SRAM or DRAM read does
(spec/13 R414 to R419), and the commands of the memory banks: DRAM_SLOT, CLUSTER_MEMORY_SERVE, SRAM_WRITEBACK. -/

namespace Sys2Proof.Machine

/-! ### Transient counts (R414) -/

/-- Table 2 of spec/13: the counted sources. -/
inductive TransKind where
  | engData | engCheck | spad | cluster | dram
  deriving DecidableEq, Repr

/-- The number of a counted source: its kind and its unit. -/
def transKey (k : TransKind) (unit : Nat) : Nat :=
  (match k with
    | .engData => 0 | .engCheck => 1 | .spad => 2 | .cluster => 3 | .dram => 4) * 2 ^ 32 + unit

/-- The threshold of a source (TST_THR). -/
def transThr (s : State) (k : TransKind) : Nat :=
  match k with
  | .engData => fget s r_TST_THR f_TST_THR_ENGD
  | .engCheck => fget s r_TST_THR f_TST_THR_ENGC
  | .spad => fget s r_TST_THR f_TST_THR_SRAM
  | .cluster => fget s r_TST_THR f_TST_THR_SRAM
  | .dram => fget s r_TST_THR f_TST_THR_DRAM

/-- The lasting event of a source. A unit is core × 4 + engine, core × 16 + bank, cluster × 16 + bank, or stack × 32 + pseudo-channel. -/
def lastingSrc (k : TransKind) (unit : Nat) : Nat :=
  match k with
  | .engData => srcDie (dieOf (unit / 4)) 7
  | .engCheck => srcDie (dieOf (unit / 4)) 8
  | .spad => srcDie (dieOf (unit / 16)) 3
  | .cluster => srcDie (unit / 256) 5
  | .dram => srcDie (unit / 64) (12 + unit / 32 % 2)

/-- The position inside the die that a lasting event names: a core for core units. -/
def lastingSub (k : TransKind) (unit : Nat) : Nat :=
  match k with
  | .engData => unit / 4 % 256
  | .engCheck => unit / 4 % 256
  | .spad => unit / 16 % 256
  | .cluster => unit
  | .dram => unit

/-- The place that the sherd of a lasting source names. -/
def lastingPlace (s : State) (k : TransKind) (unit : Nat) : List Nat :=
  match k with
  | .engData => corePlace s (unit / 4) (unit % 4) 0
  | .engCheck => corePlace s (unit / 4) (unit % 4) 0
  | .spad => corePlace s (unit / 16) 0xFF 0
  | .cluster => [unit / 256, unit / 16 % 16, 0xFF, 0xFF, 0xFF, 0]
  | .dram => [unit / 64, 0xFF, 0xFF, 0xFF, 0xFF, 0]

/-- Counts one transient of a source; at its threshold the source becomes lasting and its counts are cleared. -/
def countTransient (s : State) (k : TransKind) (unit : Nat) : State :=
  let key := transKey k unit
  let (cur, prev) := tblGet (fun _ => (0, 0)) s.tst.trans key
  if transThr s k ≤ cur + 1 + prev then
    let s := { s with tst := { s.tst with trans := tblErase s.tst.trans key } }
    let s := sherd s { kind := 4, place := lastingPlace s k unit, src := lastingSrc k unit, count := cur + 1 + prev }
    raise s { eventOf s (lastingSrc k unit) with sub := lastingSub k unit }
  else { s with tst := { s.tst with trans := tblSet (fun _ => (0, 0)) s.tst.trans key (cur + 1, prev) } }

/-- TRANSIENT_WINDOW (R414): a new window begins at a timebase that is a multiple of the window. -/
def execTransientWindow (s : State) : Out :=
  let next := s.tst.trans.filterMap fun p => if p.2.1 = 0 then none else some (p.1, (0, p.2.1))
  when_ (s.tb.tb.toNat % (fget s r_TST_TW_CFG f_TST_TW_CFG_WIN * 1000000000) == 0) s { s with tst := { s.tst with trans := next } }

/-! ### DRAM_SLOT (R184, R417 to R419) -/

/-- The action of one slot at one pseudo-channel: `code` counts only with LOCK clear, when the controller chooses (R183); with
LOCK set the slot table gives it. `ecc` is what the read finds. -/
def dramCheck (stack pc : Nat) (code : SlotCode) (ecc : Ecc) (s : State) : State :=
  match slotAct s stack pc code ecc with
  | (s, some w) =>
    let s := useSlot s stack pc
    if ecc = .corrected then countTransient (scrubLater s w) .dram (stack * 32 + pc) else s
  | (s, none) => useSlot s stack pc
def execDramSlot (stack pc : Nat) (code : SlotCode) (ecc : Ecc) (s : State) : Out :=
  if decide (stack < 32) && decide (pc < 32) && dieUp s (stack / 2) && stackInService s stack && slotFree s stack pc then
    let code := if lockSet s then slotNow s else code
    let d := stack / 2
    if (slotAct s stack pc code .clean).2.isSome then
      .next (injected [srcDie d (12 + stack % 2), srcDie d (14 + stack % 2)] none d ecc (fun e s => dramCheck stack pc code e s) s)
    else .next (dramCheck stack pc code ecc s)
  else .next s

/-! ### CLUSTER_MEMORY_SERVE (R129, R130, R415, R416) -/

/-- R129: a bank serves its oldest waiting request; a wide one is served by its first bank, when it is the oldest at both. -/
def serveCluster (s : State) (d cl b : Nat) (ecc : Ecc) : State :=
  match clOldest s d cl b with
  | none => s
  | some (id, a) =>
    match a.loc with
    | .cluster _ _ off =>
      if clBank off = b ∧ (clBanks a).all fun x => (clOldest s d cl x).map Prod.fst == some id then
        let unit := (d * 16 + cl) * 16 + b
        match ecc with
        | .uncorrectable =>
          let s := setStage s id (.failed false)
          let s := sherd s { kind := 2, place := [d, cl, 0xFF, 0xFF, 0xFF, 0], addr := off, src := srcDie d 6, sg := sgOfCluster s d cl }
          raise s { eventOf s (srcDie d 6) with mid := midCore a.core, acct := (needOf a.act).acct, addr := off, sg := sgOfCluster s d cl, sub := unit }
        | _ =>
          let (m, w, bad) := clEffect (clMem s d cl) off a.act
          let s := setStage (setClMem s d cl m) id (.done w)
          let s := raiseMalformed s (srcDie d 21) a.sg off bad
          if ecc = .corrected then countTransient s .cluster unit else s
      else s
    | _ => s

def execClusterMemoryServe (d cl b : Nat) (ecc : Ecc) (s : State) : Out :=
  when_ (dieUp s d) s
    (if (clOldest s d cl b).isSome then injected [srcDie d 5, srcDie d 6] none d ecc (fun e s => serveCluster s d cl b e) s else s)

end Sys2Proof.Machine
end

