-- ==== Sys2Proof/Machine/Agent.lean ====
section
/-! DEFINITION. Machine/Agent.lean: reads and writes of memory by a unit that is not a thread: a DMA engine, an inbound
message, a collective, a save engine (spec/06 R177, R179, R192, R197, R202, R207; spec/09 R298). Each is performed whole in the
unit's own event: every page is translated before any byte moves, and a word for which an older request waits is not passed (R182). -/

namespace Sys2Proof.Machine

/-- What an agent's access comes to. -/
inductive AgentRes where
  | ok (s : State) (data : List Byte) (bad : Bool)
  /-- held by a fault record (1,024: none is free) -/
  | fault (s : State) (tag : Nat)
  /-- refused: status ACCESS -/
  | refused (s : State)
  /-- an older request for a word waits, or a die is not there to serve: the event does not take place yet -/
  | busy

/-- Who accesses: the die whose MMU translates, the saggar, the master identity and the SRC code of Table 6. -/
structure Asker where
  die : Nat
  sg : Nat
  mid : Nat
  src : Nat

/-- The pieces of `n` bytes from `a`, each inside one 64-byte word. -/
def piecesFrom : Nat → Nat → Nat → List (Nat × Nat)
  | 0, _, _ => []
  | fuel + 1, a, n =>
    if n = 0 then [] else
    let k := min n (64 - a % 64)
    (a, k) :: piecesFrom fuel (a + k) (n - k)
def pieces (a n : Nat) : List (Nat × Nat) := piecesFrom (n / 64 + 2) a n

/-- What the translation of a list of pieces ends with. -/
inductive TransAll where
  | ok (ps : List Place)
  | fault (kind level va : Nat)
  | refused

/-- Translates the pieces in ascending order, up to the first that does not translate. -/
def transAll (x : Asker) (need : Need) (hit : Bool) : State → List (Nat × Nat) → State × TransAll
  | s, [] => (s, .ok [])
  | s, (va, _) :: rest =>
    match translate s x.die x.sg va need hit with
    | (s, .refused) => (s, .refused)
    | (s, .fault k l) => (s, .fault k l va)
    | (s, .ok p) =>
      match transAll x need hit s rest with
      | (s, .ok ps) => (s, .ok (p :: ps))
      | r => r

/-- May the words be served now: their dies are up, and no thread's request waits for them (R182, R210). -/
def wordsFree (s : State) (ps : List Place) : Bool :=
  ps.all fun p => dieUp s (stackOf p.word / 2) && !(s.mem.acc.any fun q => match accPlace q.2 with
    | some r => (placeWords r).any fun w => (placeWords p).contains w
    | none => false)

/-- A fault of an agent's access. -/
def agentFault (s : State) (x : Asker) (need : Need) (k l va : Nat) : AgentRes :=
  let (s, t) := faultRecord s x.die x.sg k l x.mid x.src need.acct va
  .fault s (t.getD 1024)

/-- Reads the bytes of translated pieces; `none` where a word fails (R419, R524). -/
def readPlaces (s : State) : List (Nat × Nat) → List Place → Option (List Byte)
  | (a, n) :: rest, p :: ps =>
    match dramRead s p.tag p.word, readPlaces s rest ps with
    | some w, some bs => some (((wordBytes w).drop (a % 64)).take n ++ bs)
    | _, _ => none
  | _, _ => some []

/-- Writes masked bytes at translated pieces, ascending. A partial write reads its word first (R601). -/
def writePlaces (s : State) : List (Nat × Nat) → List Place → List MByte → Option State
  | (a, n) :: rest, p :: ps, bs =>
    let piece := bs.take n
    if wholeWord piece then
      (if tagLive s p.tag then writePlaces (dramWrite s p.tag p.word (mergeWord 0#512 0 piece)) rest ps (bs.drop n) else none)
    else
      match dramRead s p.tag p.word with
      | none => none
      | some w => writePlaces (dramWrite s p.tag p.word (mergeWord w (a % 64) piece)) rest ps (bs.drop n)
  | _, _, _ => some s

/-- R187, R188: an exact-add of an agent into the DRAM word at a place. -/
def addPlace (s : State) (p : Place) (x : LongReg) : Option (State × Bool) :=
  match dramRead s p.tag p.word with
  | none => none
  | some w =>
    let (old, bad) := cxsDecode w (if cxsCont w && p.tail.isSome then some (tailRead s p) else none)
    match cxsEncode (lrAdd old x), p.tail with
    | (c, none), _ => some (dramWrite s p.tag p.word c, bad)
    | (c, some d), some t => some (dramWrite (dramWrite s p.tag t d) p.tag p.word c, bad)
    | (_, some _), none => some (dramWrite s p.tag p.word (cxsEncode lrNaN).1, true)

/-- A read of `n` bytes of the tenant's space. -/
def vaRead (s : State) (x : Asker) (va n : Nat) (hit : Bool) : AgentRes :=
  let pcs := pieces va n
  match transAll x needRead hit s pcs with
  | (s, .refused) => .refused s
  | (s, .fault k l a) => agentFault s x needRead k l a
  | (s, .ok ps) =>
    if wordsFree s ps then (match readPlaces s pcs ps with
      | some bs => .ok s bs false
      | none => .refused s)
    else .busy

/-- A write of masked bytes into the tenant's space. -/
def vaWrite (s : State) (x : Asker) (va : Nat) (bs : List MByte) (hit : Bool) : AgentRes :=
  let pcs := pieces va bs.length
  match transAll x needWrite hit s pcs with
  | (s, .refused) => .refused s
  | (s, .fault k l a) => agentFault s x needWrite k l a
  | (s, .ok ps) =>
    if wordsFree s ps then (match writePlaces s pcs ps bs with
      | some s => .ok s [] false
      | none => .refused s)
    else .busy

/-- An exact-add into the accumulation word at a VA. -/
def vaAdd (s : State) (x : Asker) (va : Nat) (v : LongReg) (hit : Bool) : AgentRes :=
  match transAll x needAdd hit s [(va, 64)] with
  | (s, .refused) => .refused s
  | (s, .fault k l a) => agentFault s x needAdd k l a
  | (s, .ok ps) =>
    if wordsFree s ps then (match ps with
      | p :: _ => (match addPlace s p v with
        | some (s, bad) => .ok s [] bad
        | none => .refused s)
      | [] => .refused s)
    else .busy

/-- Bytes of a cluster memory, while its die is up. -/
def clusterOf (s : State) (d cl off n : Nat) : Option (List Byte) := if dieUp s d then some (memReadN (clMem s d cl) off n) else none

/-- A read of a region by an agent; `c` is the core whose scratchpad a scratchpad region names. -/
def agentRead (s : State) (x : Asker) (c : Nat) (r : Region) (n : Nat) (hit : Bool) : AgentRes :=
  match r with
  | .spad off => .ok s (memReadN (getCore s c).spad off n) false
  | .cluster d cl off => (match clusterOf s d cl off n with
    | some bs => .ok s bs false
    | none => .busy)
  | .tenant va => vaRead s x va n hit
  | .host a => .ok s (hostRead s a n) false

/-- R98: bytes that arrive for a scratchpad wait for external-class slots of their banks. -/
def pushExt (s : State) (c : Nat) (thread : Nat) (issue : W64) (off : Nat) (bs : List MByte) : State :=
  modCore s c fun k => { k with extQ := k.extQ ++ extSplit (bs.length / 64 + 2) thread issue off bs }

/-- A write of a region by an agent, for the operation (thread, issue) of core `c` when it goes into a scratchpad. -/
def agentWrite (s : State) (x : Asker) (c thread : Nat) (issue : W64) (r : Region) (bs : List MByte) (hit : Bool) : AgentRes :=
  match r with
  | .spad off => .ok (pushExt s c thread issue off bs) [] false
  | .cluster d cl off => if dieUp s d then .ok (setClMem s d cl (memWriteEn (clMem s d cl) off bs)) [] false else .busy
  | .tenant va => vaWrite s x va bs hit
  | .host a => .ok (hostWrite s a (bs.map Prod.snd)) [] false

/-- A region moved up by `n` bytes. -/
def regionAdd (r : Region) (n : Nat) : Region :=
  match r with
  | .spad off => .spad (off + n)
  | .cluster d cl off => .cluster d cl (off + n)
  | .tenant va => .tenant (va + n)
  | .host a => .host (a + n)

end Sys2Proof.Machine
end

