-- ==== Sys2Proof/Machine/Cells.lean ====
section
/-! DEFINITION. Machine/Cells.lean: cells, their CRC and checks, and messages as cells (spec/09 R288 to R297, R301, R302). -/

namespace Sys2Proof.Machine

/-! ### Classes -/

/-- R291 Table 8: 0 REQ, 1 FWD, 2 RSP, 3 COL, 4 MGT; none for a type never sent or reserved. -/
def cellClass (ty : Nat) : Option Nat :=
  if ty = 0 then none
  else if ty = 0x0B || ty = 0x0C || ty = 0x0D then some 1
  else if ty = 0x0E || ty = 0x0F || ty = 0x10 then some 3
  else if 0x18 ≤ ty && ty ≤ 0x1F then some 4
  else if ty ≤ 0x0A then some (if ty % 2 = 1 then 0 else 2)
  else none

/-- R302 Table 11: the VCs of a class. -/
def classVcs (cls : Nat) : List Nat := if cls = 4 then [12, 13] else [3 * cls, 3 * cls + 1, 3 * cls + 2]
def adaptiveVc (cls : Nat) : Nat := 3 * cls
/-- Escape 0 when `dl`, else escape 1. -/
def escapeVc (cls : Nat) (dl : Bool) : Nat := if cls = 4 then (if dl then 12 else 13) else 3 * cls + (if dl then 1 else 2)
def isEscape (vc : Nat) : Bool := vc = 12 || vc = 13 || vc % 3 != 0
/-- A data class: REQ, FWD, RSP or COL (R305). -/
def isData (c : Cell) : Bool := match cellClass c.ty with
  | some k => k != 4
  | none => false

/-- R317: the VC on panel, spoke and attach links: internal, outbound to a wheel, inbound from a wheel. -/
def internalVc (cls : Nat) : Nat := if cls = 4 then 13 else 3 * cls
def outboundVc (cls : Nat) : Nat := if cls = 4 then 12 else 3 * cls + 1
def inboundVc (cls : Nat) : Nat := if cls = 4 then 13 else 3 * cls + 2

/-! ### CRC (R289) -/

/-- One bit of CRC-16, polynomial 0x1021. -/
def crc16Bit (crc : Nat) (b : Bool) : Nat :=
  let top := bitAt crc 15 != b
  let c := crc * 2 % 65536
  if top then c ^^^ 0x1021 else c
/-- One byte, most significant bit first. -/
def crc16Byte (crc : Nat) (b : Byte) : Nat := [7, 6, 5, 4, 3, 2, 1, 0].foldl (fun c i => crc16Bit c (b.getLsbD i)) crc
def crc16 (bs : List Byte) : Nat := bs.foldl crc16Byte 0xFFFF

/-- R288 Table 6: the header as a 128-bit number. -/
def headerNat (c : Cell) : Nat :=
  c.dpkg <<< 116 + c.dep <<< 111 + c.spkg <<< 99 + c.sep <<< 94 + c.slice <<< 84 + c.vc <<< 80 + b2n c.epoch <<< 79 + b2n c.ce <<< 78
    + b2n c.ece <<< 77 + c.ty <<< 72 + c.gen <<< 64 + c.mseq <<< 48 + c.cidx <<< 40 + (c.plen % 16) <<< 36 + c.age <<< 32 + c.ctx <<< 16 + c.crc

/-- The 16 header bytes, byte 0 first: it holds the most significant bits. -/
def headerBytes (c : Cell) : List Byte := (leBytes 16 (headerNat c)).reverse

/-- R289: the CRC over bytes 0 to 13 and 16 to 79, with VC, CE and AGE taken as 0. EPOCH is stamped before it. -/
def cellCrc (c : Cell) : Nat :=
  crc16 ((headerBytes { c with vc := 0, ce := false, age := 0, crc := 0 }).take 14 ++ wordBytes c.payload)
def crcOk (c : Cell) : Bool := c.crc == cellCrc c

/-- R290, Table 12 of spec/09: a malformed header, apart from DPKG and DEP. -/
def cellMalformed (c : Cell) : Bool :=
  match cellClass c.ty with
  | none => true
  | some k =>
    !(classVcs k).contains c.vc || c.plen == 0 || decide (8 < c.plen) || decide (13 ≤ c.age) || (c.payload.toNat >>> (64 * c.plen)) != 0

/-! ### Age (R283, R292, R293) -/

/-- Table 9: the age class of AGEF, in units of 8 ns: class k from 1 to 11 covers 2^(k-1) µs up to 2^k µs. -/
def ageClass (agef : Nat) : Nat :=
  if agef * 8 < 1000 then 0
  else if 2048000 ≤ agef * 8 then 12
  else bitLen (agef * 8 / 1000)
def agefLimit : Nat := 500000
/-- AGEF of a held cell when it leaves at timebase `now`: the time held, rounded up to 8 ns, is added. -/
def agefAt (c : LCell) (now : W64) : Nat := min 0xFFFFF (c.agef + ((now - c.arr).toNat + 7) / 8)
def tooOld (c : LCell) (now : W64) : Bool := decide (agefLimit ≤ agefAt c now)

/-! ### Messages as cells (R294, R295) -/

/-- Does the type carry data cells of its LEN? -/
def carriesData (ty : Nat) : Bool := ty = 1 || ty = 0x0C || ty = 4 || ty = 5 || ty = 0x0D || ty = 7
/-- LEN: word 1 bits [31:0]. -/
def msgLen (ty : Nat) (words : List W64) : Nat := if carriesData ty then (words.getD 1 0).toNat % 2 ^ 32 else 0

/-- A word of a payload. -/
def payWord (p : BitVec 512) (n : Nat) : W64 := p.extractLsb' (64 * n) 64
def packWords (ws : List W64) : BitVec 512 := wordOfBytes (ws.flatMap fun w => leBytes 8 w.toNat)

/-- A cell of a message; VC and EPOCH are set when it leaves, and the CRC with them. -/
def baseCell (m : Msg) (cidx plen : Nat) (p : BitVec 512) : Cell :=
  { dpkg := m.dpkg, dep := m.dep, spkg := m.spkg, sep := m.sep, slice := m.slice, vc := 0, epoch := false, ce := false, ece := m.ece,
    ty := m.ty, gen := m.gen, mseq := m.mseq, cidx := cidx, plen := plen, age := 0, ctx := m.ctx, crc := 0, payload := p }

/-- The data cells from cell `k` on. -/
def dataCells (m : Msg) : Nat → Nat → List Byte → List Cell
  | 0, _, _ => []
  | fuel + 1, k, bs =>
    if bs.isEmpty then []
    else
      let piece := bs.take 64
      baseCell m k ((piece.length + 7) / 8) (wordOfBytes piece) :: dataCells m fuel (k + 1) (bs.drop 64)

/-- R294: the cells of a message. -/
def msgCells (m : Msg) : List Cell := baseCell m 0 m.words.length (packWords m.words) :: dataCells m (m.data.length / 64 + 1) 1 m.data

/-- Cells that a message with this prefix has. -/
def cellCount (prefix_ : Cell) : Nat :=
  1 + (msgLen prefix_.ty [payWord prefix_.payload 0, payWord prefix_.payload 1] + 63) / 64

/-- R298: have all cells of a message arrived? -/
def reasmWhole (r : Reasm) : Bool :=
  match tblFind r.got 0 with
  | none => false
  | some p => (List.range (cellCount p)).all fun k => (tblFind r.got k).isSome

/-- The message that its cells make. -/
def reasmMsg (r : Reasm) : Msg :=
  let p := (tblFind r.got 0).getD r.first
  let words := (List.range p.plen).map (payWord p.payload)
  let n := msgLen p.ty words
  let data := (List.range (cellCount p - 1)).flatMap fun k => match tblFind r.got (k + 1) with
    | some c => wordBytes c.payload
    | none => List.replicate 64 0#8
  { dpkg := p.dpkg, dep := p.dep, spkg := p.spkg, sep := p.sep, slice := p.slice, ty := p.ty, gen := p.gen, mseq := p.mseq, ctx := p.ctx,
    ece := r.ce, words := words, data := data.take n }

/-- Do two cells belong to one message (R294)? -/
def sameMsg (a b : Cell) : Bool :=
  a.spkg == b.spkg && a.sep == b.sep && a.ty == b.ty && a.mseq == b.mseq && a.gen == b.gen && a.slice == b.slice && a.ctx == b.ctx

/-- R163 Table 17: a status word. -/
def statusWord (status rank len : Nat) : W64 := BitVec.ofNat 64 (status + (rank % 2 ^ 24) <<< 8 + len <<< 32)
/-- Its fields. -/
def statusOf (w : W64) : Nat := bits w.toNat 7 0
def statusLen (w : W64) : Nat := bits w.toNat 63 32

/-- The type that answers a request (R301). -/
def rspType (ty : Nat) : Nat :=
  match ty with
  | 1 => 2 | 0x0C => 2 | 3 => 4 | 0x0B => 4 | 5 => 6 | 0x0D => 6 | 7 => 8 | _ => 0x0A

end Sys2Proof.Machine
end

