-- ==== Sys2Proof/Machine/Panel.lean ====
section
/-! DEFINITION. Machine/Panel.lean: link ends with their retry and credits, the panel mesh, and the arbitration of outputs
(spec/01 R16 to R25; spec/09 R284, R285, R287, R303, R304; spec/10 R317, R329). Nodes: dies 0 to 15, wheels 16 to 19, CTL 20. -/

namespace Sys2Proof.Machine

def modFab (s : State) (f : FabSt → FabSt) : State := { s with fab := f s.fab }
def getNi (s : State) (d : Nat) : Ni := tblGet (fun _ => niReset) s.fab.ni d
def setNi (s : State) (d : Nat) (n : Ni) : State := modFab s fun f => { f with ni := tblSet (fun _ => niReset) f.ni d n }
def modNi (s : State) (d : Nat) (f : Ni → Ni) : State := setNi s d (f (getNi s d))
def getWheel (s : State) (w : Nat) : Wheel := tblGet (fun _ => wheelReset) s.fab.wheels w
def modWheel (s : State) (w : Nat) (f : Wheel → Wheel) : State :=
  modFab s fun x => { x with wheels := tblModify (fun _ => wheelReset) x.wheels w f }
def getLink (s : State) (k : Nat) : LinkSt := tblGet (fun _ => linkReset) s.fab.links k
def modLink (s : State) (k : Nat) (f : LinkSt → LinkSt) : State :=
  modFab s fun x => { x with links := tblModify (fun _ => linkReset) x.links k f }
/-- The directed internal link from node `a` to node `b`. -/
def panelId (a b : Nat) : Nat := a * 32 + b
def getPanel (s : State) (a b : Nat) : PanelLink := tblGet (fun _ => panelReset) s.fab.panel (panelId a b)
def modPanel (s : State) (a b : Nat) (f : PanelLink → PanelLink) : State :=
  modFab s fun x => { x with panel := tblModify (fun _ => panelReset) x.panel (panelId a b) f }

/-! ### The mesh (R16 to R21) -/

/-- The wheel that faces a die on a side: 0 north, 1 east, 2 south, 3 west. -/
def facesWheel (d w : Nat) : Bool :=
  match w with
  | 0 => d / 4 == 0
  | 1 => d % 4 == 3
  | 2 => d / 4 == 3
  | _ => d % 4 == 0

/-- R19: the control gateway of a die. -/
def gateway (d : Nat) : Nat := (if d / 4 < 2 then 4 else 8) + (if d % 4 < 2 then 1 else 2)

/-- Table 1, Table 2 of spec/01: are two nodes joined by a panel, control or spoke link? -/
def panelAdj (a b : Nat) : Bool :=
  if a < 16 && b < 16 then
    (a / 4 == b / 4 && (a + 1 == b || b + 1 == a)) || a + 4 == b || b + 4 == a
  else if a < 16 && 16 ≤ b && b < 20 then facesWheel a (b - 16)
  else if 16 ≤ a && a < 20 && b < 16 then facesWheel b (a - 16)
  else if a < 16 && b == 20 then gateway a == a
  else if a == 20 && b < 16 then gateway b == b
  else (a == 20 && 16 ≤ b && b < 20) || (b == 20 && 16 ≤ a && a < 20)

/-- R18: the next die from `d` toward die `t`: along X first, then along Y. -/
def meshNext (d t : Nat) : Nat :=
  if d % 4 < t % 4 then d + 1 else if t % 4 < d % 4 then d - 1 else if d / 4 < t / 4 then d + 4 else if t / 4 < d / 4 then d - 4 else d

/-- R20: the next node from die `d` straight toward a wheel. -/
def towardWheel (d w : Nat) : Nat :=
  if facesWheel d w then 16 + w
  else match w with
    | 0 => d - 4
    | 1 => d + 1
    | 2 => d + 4
    | _ => d - 1

/-- R20: the edge die at which a cell from wheel `w` to die `t` enters the mesh. -/
def entryDie (w t : Nat) : Nat :=
  match w with
  | 0 => t % 4
  | 1 => t / 4 * 4 + 3
  | 2 => 12 + t % 4
  | _ => t / 4 * 4

/-- R474: a fenced wheel's index is replaced by the next in-service index upward, modulo 4. -/
def wheelInService (s : State) (w : Nat) : Bool := dieState s (16 + w) != 2 && dieState s (16 + w) != 3
def liveWheel (s : State) (w : Nat) : Nat :=
  ((List.range 4).map fun i => (w + i) % 4).find? (wheelInService s) |>.getD w

/-- R21, R309: the wheel by which endpoint `ep` of this package sends a cell to another package. -/
def planeFor (s : State) (ep dpkg dep : Nat) : Nat :=
  if ep < 16 then liveWheel s ((dpkg + ep) % 4)
  else if ep = 16 then (if 17 ≤ dep && dep ≤ 20 then dep - 17 else liveWheel s ((dpkg + 16) % 4))
  else if ep ≤ 20 then ep - 17
  else (dpkg + dep) % 4

/-- The next node of a cell at a die; the die itself when the cell is for its endpoint. -/
def dieNext (s : State) (d : Nat) (c : Cell) : Nat :=
  if c.dpkg = myPkg s then
    (if c.dep < 16 then meshNext d c.dep
     else if c.dep = 16 then (if gateway d = d then 20 else meshNext d (gateway d))
     else if c.dep ≤ 20 then towardWheel d (c.dep - 17)
     else towardWheel d (planeFor s c.sep c.dpkg c.dep))
  else towardWheel d (planeFor s c.sep c.dpkg c.dep)

/-- The next node of a cell at CTL. -/
def ctlNext (s : State) (c : Cell) : Nat :=
  if c.dpkg = myPkg s then
    (if c.dep < 16 then gateway c.dep else if c.dep = 16 then 20 else if c.dep ≤ 20 then c.dep - 1 else 16 + planeFor s 16 c.dpkg c.dep)
  else 16 + planeFor s 16 c.dpkg c.dep

/-- R317: the VC of a cell that leaves node `a` for node `b`. -/
def panelVc (s : State) (a b : Nat) (c : Cell) : Nat :=
  let k := (cellClass c.ty).getD 4
  if 16 ≤ b && b < 20 then outboundVc k
  else if 16 ≤ a && a < 20 then inboundVc k
  else if c.dpkg != myPkg s then outboundVc k
  else if c.spkg != myPkg s then inboundVc k
  else internalVc k

/-! ### Retry and credits (R284, R285, R303, R304) -/

def seqMod : Nat := 16384
/-- How far `b` lies above `a`, modulo 16,384. -/
def seqDist (a b : Nat) : Nat := (b + seqMod - a % seqMod) % seqMod

def listAdd (l : List Nat) (i n : Nat) : List Nat := l.set i (l.getD i 0 + n)
def listSub (l : List Nat) (i n : Nat) : List Nat := l.set i (l.getD i 0 - n)

/-- R303: has the sender a credit for VC `v`? A dedicated one, or a shared one when `v` holds no more than CAP shared slots. -/
def hasCredit (t : Tx) (v cap : Nat) : Bool := decide (0 < t.ded.getD v 0) || (decide (0 < t.shared) && decide (t.held.getD v 0 ≤ cap))

/-- Takes a credit for VC `v`; true in the second place when it is a shared one (POOL). -/
def takeCredit (t : Tx) (v : Nat) : Tx × Bool :=
  if 0 < t.ded.getD v 0 then ({ t with ded := listSub t.ded v 1 }, false)
  else ({ t with shared := t.shared - 1, held := listAdd t.held v 1 }, true)

/-- R284: the sender takes a cell: it gets the next sequence and goes into the replay buffer. -/
def txPush (t : Tx) (c : LCell) (now : W64) : Tx :=
  { t with seq := (t.seq + 1) % seqMod, buf := t.buf ++ [(t.seq, c)], since := if t.buf.isEmpty then now else t.since }

/-- R284: an ASEQ beyond a cell takes it out of the replay buffer. -/
def txAck (t : Tx) (aseq : Nat) (now : W64) : Tx :=
  let gone := (t.buf.takeWhile fun p => decide (0 < seqDist p.1 aseq) && decide (seqDist p.1 aseq ≤ 8192)).length
  if gone = 0 then t else { t with buf := t.buf.drop gone, cur := t.cur - gone, replays := 0, since := now }

/-- R284: what the receiver does with a cell of sequence `q`. -/
inductive RxTake where
  | taken | silent | nak
  deriving DecidableEq, Repr

def rxSeq (r : Rx) (q : Nat) : Rx × RxTake :=
  if q = r.exp then ({ r with exp := (r.exp + 1) % seqMod, nakHeld := false }, .taken)
  else
    let below := seqDist q r.exp
    if 0 < below ∧ below ≤ 8192 then (r, .silent)
    else if r.nakHeld then (r, .silent) else ({ r with nakDue := true, nakHeld := true }, .nak)

/-- A slot of the receive buffer is freed (R303, R304). -/
def rxFree (r : Rx) (v : Nat) (pool : Bool) : Rx :=
  if pool then { r with freedS := (r.freedS + 1) % 1024 } else { r with freedD := r.freedD.set v ((r.freedD.getD v 0 + 1) % 1024) }

/-- R304: a cumulative count of VC `v` returns credits. -/
def creditD (t : Tx) (v cnt : Nat) : Tx :=
  let n := (cnt + 1024 - t.seenD.getD v 0) % 1024
  { t with ded := listAdd t.ded v n, seenD := t.seenD.set v cnt }
/-- Shared slots come back without a VC: they are taken off the VCs that hold them, lowest first. -/
def takeHeld : Nat → List Nat → List Nat
  | _, [] => []
  | n, h :: hs => (h - n) :: takeHeld (n - h) hs
def creditS (t : Tx) (cnt : Nat) : Tx :=
  let n := (cnt + 1024 - t.seenS) % 1024
  { t with shared := t.shared + n, held := takeHeld n t.held, seenS := cnt }

/-! ### Arbitration (R329) -/

/-- A cell that is ready for an output: the input port, its place there, the cell and the VC on which it leaves. -/
structure Ready where
  port : Nat
  pos : Nat
  cell : LCell
  vc : Nat
  deriving DecidableEq, Repr

def readyClass (r : Ready) : Nat := (cellClass r.cell.cell.ty).getD 4

/-- Rule 4: the ready cell at the port that follows the last winner's in port order. -/
def portAfter (last p : Nat) : Nat := (p + 64 - last - 1) % 64

/-- Rules 3 and 4 among the ready cells of one class. -/
def bestOf (now : W64) (last : Nat) (l : List Ready) : Option Ready :=
  l.foldl (fun best r => match best with
    | none => some r
    | some b =>
      let ab := ageClass (agefAt b.cell now)
      let ar := ageClass (agefAt r.cell now)
      if ab < ar || (ab == ar && decide (portAfter last r.port < portAfter last b.port)) then some r else some b) none

/-- The class to be served: MGT first, then the data classes round-robin after the one served last. -/
def classNext (lastClass : Nat) (l : List Ready) : Option Nat :=
  if l.any fun r => readyClass r == 4 then some 4
  else ([1, 2, 3, 4].map fun i => (lastClass + i) % 4).find? fun k => l.any fun r => readyClass r == k

/-- R329: the cell that an output takes. -/
def arbitrate (now : W64) (lastClass : Nat) (lastPort : Nat → Nat) (l : List Ready) : Option Ready :=
  match classNext lastClass l with
  | none => none
  | some k => bestOf now (lastPort k) (l.filter fun r => readyClass r == k)

/-! ### Inputs and outputs of a die or of CTL -/

/-- The input ports of a die or of CTL: port 0 is its own source, port 1 + n the link from node n. -/
def inCells (s : State) (node port : Nat) : List LCell :=
  if port = 0 then (if node < 16 then (getNi s node).cells else []) else (getPanel s (port - 1) node).rx.buf

def ctlOrDieNext (s : State) (node : Nat) (c : Cell) : Nat := if node = 20 then ctlNext s c else dieNext s node c

/-- R22: at each port only the first cell of each VC (of each class at the own source) is a candidate. -/
def headsOf (l : List LCell) : List (Nat × LCell) :=
  (l.zipIdx).filterMap fun p => if (l.take p.2).all fun q => q.cell.vc != p.1.cell.vc || cellClass q.cell.ty != cellClass p.1.cell.ty
    then some (p.2, p.1) else none

/-- The capacity of a panel link's shared pool for one VC is the pool itself (R287 gives no CAP). -/
def panelCap : Nat := 1024

/-- The cells that are ready for output `out` of a die or of CTL; `out = node` is the endpoint itself. -/
def nodeReady (s : State) (node out : Nat) : List Ready :=
  let ports := 0 :: ((List.range 21).filter fun a => panelAdj a node).map (· + 1)
  ports.flatMap fun port => (headsOf (inCells s node port)).filterMap fun p =>
    let c := p.2.cell
    if ctlOrDieNext s node c = out then
      (if out = node then some { port := port, pos := p.1, cell := p.2, vc := c.vc }
       else
        let v := panelVc s node out c
        if hasCredit (getPanel s node out).tx v panelCap then some { port := port, pos := p.1, cell := p.2, vc := v } else none)
    else none

/-- Takes a cell out of an input port; a link's buffer slot is freed. -/
def takeIn (s : State) (node port pos : Nat) (c : LCell) : State :=
  if port = 0 then modNi s node fun n => { n with cells := n.cells.eraseIdx pos }
  else modPanel s (port - 1) node fun l => { l with rx := { rxFree l.rx c.cell.vc c.pool with buf := l.rx.buf.eraseIdx pos } }

/-- What the arbiter of an output remembers. -/
def lastOf (s : State) (node out : Nat) : Nat := tblGet (fun _ => 3) s.fab.lastClass (panelId node out)
def lastPortOf (s : State) (node out k : Nat) : Nat := tblGet (fun _ => 63) s.fab.lastPort (panelId node out * 8 + k)
def noteWin (s : State) (node out : Nat) (r : Ready) : State :=
  modFab s fun f =>
    let k := readyClass r
    let f := { f with lastPort := tblSet (fun _ => 63) f.lastPort (panelId node out * 8 + k) r.port }
    if k = 4 then f else { f with lastClass := tblSet (fun _ => 3) f.lastClass (panelId node out) k }

/-- R326, R289: a cell as it leaves its source: VC, EPOCH and CRC. -/
def stamp (c : Cell) (vc : Nat) (epoch : W32) : Cell :=
  let c := { c with vc := vc, epoch := epoch.getLsbD 0 }
  { c with crc := cellCrc c }

/-- A cell put on the directed link `a` to `b`. -/
def sendPanel (s : State) (a b : Nat) (c : LCell) (vc : Nat) : State :=
  modPanel s a b fun l =>
    let (t, pool) := takeCredit l.tx vc
    let agef := agefAt c s.tb.tb
    let out : LCell := { cell := { c.cell with vc := vc, age := ageClass agef }, pool := pool, agef := agef, arr := s.tb.tb }
    { l with tx := txPush t out s.tb.tb }

end Sys2Proof.Machine
end

