-- ==== Sys2Proof/Machine/Topo.lean ====
section
/-! DEFINITION. Machine/Topo.lean: the topology that a kiln holds, and how its MGT cells travel (spec/12 R368 to R370, R375 to R377;
spec/10 R308, R313). -/

namespace Sys2Proof.Machine

def modKln (s : State) (f : KilnSt → KilnSt) : State := { s with kln := f s.kln }
def modRole (s : State) (f : RoleSt → RoleSt) : State := modKln s fun k => { k with role := f k.role }
def wickKey (pkg ep : Nat) : Nat := pkg * 32 + ep
def linkIdx (pkg w l : Nat) : Nat := pkg * 48 + w * 12 + l

/-! ### The graph -/

/-- What routes, trees and walks are computed on: the link state, the packages marked lost, and the links out of service. -/
structure Topo where
  lsr : Tbl LsrPart
  lost : List Nat
  out : List Nat

def topoOf (s : State) : Topo := { lsr := s.kln.lsr, lost := s.kln.role.lost, out := s.kln.role.barred ++ s.kln.role.out.map Prod.fst }

/-- R376: the word of link `l` of wheel `w` of a package. -/
def lsrWord (t : Topo) (pkg w l : Nat) : Nat := ((tblFind t.lsr (pkg * 2 + w / 2)).map fun p => p.links.getD (w % 2 * 12 + l) 0).getD 0
/-- The packages of the topology: those of which both parts are held. -/
def packages (t : Topo) : List Nat :=
  (t.lsr.filter fun p => p.1 % 2 == 0 && (tblFind t.lsr (p.1 + 1)).isSome && !t.lost.contains (p.1 / 2)).map fun p => p.1 / 2
def inTopo (t : Topo) (pkg : Nat) : Bool := (tblFind t.lsr (2 * pkg)).isSome && (tblFind t.lsr (2 * pkg + 1)).isSome && !t.lost.contains pkg
/-- The neighbour that a torus link in service reaches. -/
def linkTo (t : Topo) (pkg w l : Nat) : Option Nat :=
  let x := lsrWord t pkg w l
  if bitAt x 12 && !bitAt x 13 && !bitAt x 14 && !t.out.contains (linkIdx pkg w l) && inTopo t (x % 4096) then some (x % 4096) else none
/-- R308: the links of direction `d` of one wheel. -/
def dirPair (d : Nat) : List Nat := [2 * d, 2 * d + 1]
def oneWay (t : Topo) (w pkg d : Nat) : Option Nat := (dirPair d).findSome? fun l => linkTo t pkg w l
/-- The neighbour in direction `d` in plane `w`, joined from both ends. -/
def planeNext (t : Topo) (w pkg d : Nat) : Option Nat :=
  (oneWay t w pkg d).filter fun q => (dirPair (d ^^^ 1)).any fun l => linkTo t q w l == some pkg
def anyNext (t : Topo) (pkg d : Nat) : Option Nat := (List.range 4).findSome? fun w => planeNext t w pkg d

/-- Breadth first from a set: hops of each package reached. -/
def bfsFrom (next : Nat → List Nat) : Nat → Nat → List Nat → Tbl Nat → Tbl Nat
  | 0, _, _, seen => seen
  | fuel + 1, d, front, seen =>
    let new := (front.flatMap next).foldl (fun l q => if (tblFind seen q).isSome || l.contains q then l else l ++ [q]) []
    if new.isEmpty then seen else bfsFrom next fuel (d + 1) new (new.foldl (fun t q => tblPut t q (d + 1)) seen)
/-- Hops to package `p` in plane `w`, none for every plane. -/
def hopsTo (t : Topo) (w : Option Nat) (p : Nat) : Tbl Nat :=
  let next (q : Nat) : List Nat := (List.range 6).filterMap fun d => match w with
    | some w => planeNext t w q d
    | none => anyNext t q d
  bfsFrom next (packages t).length 0 [p] [(p, 0)]

/-! ### How an MGT cell travels (R368, R370) -/

/-- Is the epoch of a wheel's CURRENT bank installed and the package reachable by it? -/
def tablesReach (s : State) (w pkg : Nat) : Bool :=
  let st (b : Nat) : Nat := fget s (r_FAB_RT_STAT w) (if b = 0 then f_FAB_RT_STAT_B0ST else f_FAB_RT_STAT_B1ST)
  if st 0 = 2 then (tblGet (fun _ => 0#16) (getWheel s w).bank0 pkg).getLsbD 0
  else if st 1 = 2 then (tblGet (fun _ => 0#16) (getWheel s w).bank1 pkg).getLsbD 0
  else false
/-- R370: wheel and link of the first hop of a shortest path: the lowest live link of the lowest direction. -/
def relayHop (s : State) (pkg : Nat) : Nat × Nat :=
  let t := topoOf s
  let h := hopsTo t none pkg
  let me := myPkg s
  match tblFind h me with
  | some n =>
    (match (List.range 6).findSome? fun d => (List.range 4).findSome? fun w => (dirPair d).findSome? fun l =>
        (linkTo t me w l).bind fun q => if tblFind h q == some (n - 1) && decide (0 < n) then some (w, l) else none with
    | some x => x
    | none => (0, 0))
  | none => (0, 0)
/-- R368: CTX of a cell to a package: MODE 0, or MODE 2 with the first hop while no bank reaches it. -/
def mgtCtx (s : State) (pkg : Nat) : Nat :=
  if pkg = myPkg s ∨ tablesReach s (planeFor s 16 pkg 16) pkg then 0
  else
    let h := relayHop s pkg
    2 * 2 ^ 14 + h.1 * 2 ^ 12 + h.2 * 2 ^ 8
def sendMgt (s : State) (ep ty dpkg dep : Nat) (words : List Nat) : State := emitSent s (.mgt ep ty (mgtCtx s dpkg) dpkg dep words)
/-- R369: a link-local cell on a link. -/
def sendLocal (s : State) (ep ty dpkg dep w l : Nat) (words : List Nat) : State :=
  emitSent s (.mgt ep ty (if ep = 16 then 2 ^ 14 + w * 2 ^ 12 + l * 2 ^ 8 else 2 ^ 14) dpkg dep words)

/-! ### Wicks of this module -/

def getWick (s : State) (ep : Nat) : Wick := tblGet (fun _ => wickReset) s.kln.wicks ep
def modWick (s : State) (ep : Nat) (f : Wick → Wick) : State := modKln s fun k => { k with wicks := tblModify (fun _ => wickReset) k.wicks ep f }

end Sys2Proof.Machine
end

