-- ==== Sys2Proof/Machine/Ni.lean ====
section
/-! DEFINITION. Machine/Ni.lean: the network interface of a compute die: requests as messages, responses, and cells that arrive
(spec/09 R294 to R301, R305; spec/10 R326, R330, R332, R333; spec/11 R336 to R338, R340, R341, R357, R358, R602). -/

namespace Sys2Proof.Machine

/-! ### Results that go back to a core -/

/-- Sets the result of a gated request of a core. -/
def gatedResult (s : State) (c : Nat) (issue : W64) (r : GResult) : State :=
  modCore s c fun k => { k with gated := k.gated.map fun g => if g.issue = issue then { g with result := some r } else g }

/-- Marks a posted operation. -/
def postedResult (s : State) (c : Nat) (issue : W64) (ok : Bool) : State :=
  modCore s c fun k => { k with posted := k.posted.map fun p => if p.issue = issue && p.status == .waiting then
    { p with status := if ok then .performed else .failed p.addr } else p }

/-- R163: a request ends with a status word, or with the value of a FATOM, WAIT or SPOLL. -/
def finishReq (s : State) (r : NiReq) (status len : Nat) (value : W64) : State :=
  if r.posted then postedResult s r.core r.issue (status == 0)
  else
    let res : GResult := match r.req with
      | .fatom k _ _ _ _ _ => if k = .xadd then .value (statusWord status 0 len) else if status = 0 then .value value else .fail (BitVec.ofNat 64 status)
      | .wait _ _ => if status = 0 then .value value else .fail (BitVec.ofNat 64 status)
      | .spoll _ => if status = 0 then .value value else .fail (BitVec.ofNat 64 status)
      | _ => .value (statusWord status 0 len)
    gatedResult s r.core r.issue res

/-- R297: one message of a request has ended; the request ends with its last one, and the status word sums them. -/
def finishPart (s : State) (d : Nat) (r : NiReq) (status len : Nat) (value : W64) : State :=
  let n := getNi s d
  match n.sums.find? fun x => x.core == r.core && x.issue == r.issue with
  | none => finishReq s r status len value
  | some x =>
    let x' : NiSum := { x with left := x.left - 1, len := x.len + len, status := if x.status = 0 then status else x.status }
    let rest := n.sums.filter fun y => y != x
    if x'.left = 0 then finishReq (setNi s d { n with sums := rest }) r x'.status x'.len value
    else setNi s d { n with sums := x' :: rest }

/-! ### Ranks (R336, R337) -/

def rankEntry (s : State) (slice r : Nat) : Option (Nat × Nat) :=
  match tblFind (tblGet (fun _ => []) s.fab.ranks slice) r with
  | some e => if e.getLsbD 31 then some (bits e.toNat 11 0, bits e.toNat 16 12) else none
  | none => none

/-- The rank operand of a core: bits [63:24] must be 0. -/
def rankOf (s : State) (slice : Nat) (r : W64) : Option (Nat × Nat) :=
  if bits r.toNat 63 24 = 0 then rankEntry s slice r.toNat else none

/-- R338: the rank of this module's endpoint `d` in a slice. -/
def ownRank (s : State) (slice d : Nat) : Nat :=
  (((tblGet (fun _ => []) s.fab.ranks slice).find? fun p =>
    p.2.getLsbD 31 && bits p.2.toNat 11 0 == myPkg s && bits p.2.toNat 16 12 == d).map Prod.fst).getD 0

/-- R340 Table 2: the fields of a sync object handle. -/
def handleIdx (h : W64) : Nat := bits h.toNat 13 0
def handleRank (h : W64) : Nat := bits h.toNat 37 14
def handleOk (h : W64) : Bool := bits h.toNat 63 38 == 0

/-! ### Requests as messages -/

/-- Bytes that a request moves. -/
def reqLen (r : OutReq) : Nat :=
  match r with
  | .frd _ _ _ n => n
  | .fwr _ _ _ n => n
  | .send _ _ n _ => n
  | _ => 0

/-- R297: the byte ranges of the messages of a request: from, length, PART. -/
def reqParts (r : OutReq) : List (Nat × Nat × Bool) :=
  let n := reqLen r
  if 16320 < n then [(0, 16320, false), (16320, n - 16320, true)] else [(0, n, false)]

/-- The local region of a request, as core `c` reads it. -/
def localBytes (s : State) (c : Nat) (r : Region) (from_ n : Nat) : List Byte :=
  match r with
  | .spad off => memReadN (getCore s c).spad (off + from_) n
  | .cluster d cl off => memReadN (clMem s d cl) (off + from_) n
  | _ => List.replicate n 0#8

/-- The kind number of Table 15 of spec/05. -/
def atomCode (k : AtomKind) : Nat :=
  match k with
  | .add64 => 0 | .swap64 => 1 | .cas64 => 2 | .min64 => 3 | .max64 => 4 | .xadd => 5

/-- R355, R357: is a request an ordered atomic? -/
def isOrdered (s : State) (r : OutReq) : Bool :=
  match r with
  | .fatom k _ _ _ _ _ => lockSet s && k != .xadd
  | _ => false

/-- R357: words 5 to 7 of an ordered atomic. -/
def orderWords (s : State) (d slice : Nat) (r : NiReq) : List W64 :=
  [BitVec.ofNat 64 (ownRank s slice d + (getCore s r.core).lcore <<< 24 + r.thread <<< 36), BitVec.ofNat 64 r.phase, r.count]

/-- R295: type, prefix words and data of one message of a request. -/
def reqBody (s : State) (d slice : Nat) (r : NiReq) (p : Nat × Nat × Bool) : Nat × List W64 × List Byte :=
  let lw (n : Nat) (part : Bool) : W64 := BitVec.ofNat 64 (n + b2n part <<< 32)
  match r.req with
  | .frd _ _ ra _ => (3, [ra + BitVec.ofNat 64 p.1, lw p.2.1 false], [])
  | .fwr la _ ra _ => (1, [ra + BitVec.ofNat 64 p.1, lw p.2.1 p.2.2], localBytes s r.core la p.1 p.2.1)
  | .send la _ _ tag => (7, [BitVec.ofNat 64 (ownRank s slice d + tag <<< 32), lw p.2.1 p.2.2], localBytes s r.core la p.1 p.2.1)
  | .fatom k x cmp la _ ra =>
    if k = .xadd then
      let bs := localBytes s r.core (la.getD (.spad 0)) 0 128
      let lo := wordOfBytes (bs.take 64)
      let hi := wordOfBytes (bs.drop 64)
      let (v, _) := wideDecode lo hi
      match cxsEncode v with
      | (c, none) => (5, [ra, BitVec.ofNat 64 (64 + 5 <<< 32)], wordBytes c)
      | (c, some e) => (5, [ra, BitVec.ofNat 64 (128 + 5 <<< 32)], wordBytes c ++ wordBytes e)
    else
      let base := [ra, BitVec.ofNat 64 (atomCode k <<< 32), x]
      if lockSet s then (5, base ++ [cmp, 0#64] ++ orderWords s d slice r, [])
      else (5, if k = .cas64 then base ++ [cmp] else base, [])
  | .signal h v => (9, [h, 0#64, v], [])
  | .sreset h => (9, [h, BitVec.ofNat 64 (1 <<< 32), 0#64], [])
  | .wait h t => (9, [h, BitVec.ofNat 64 (2 <<< 32), t], [])
  | .spoll h => (9, [h, BitVec.ofNat 64 (3 <<< 32), 0#64], [])
  | _ => (9, [], [])

/-- The rank operand of a request. -/
def reqRank (r : OutReq) : Option W64 :=
  match r with
  | .frd _ k _ _ => some k
  | .fwr _ k _ _ => some k
  | .fatom _ _ _ _ k _ => some k
  | .send _ k _ _ => some k
  | .signal h _ => some (BitVec.ofNat 64 (handleRank h))
  | .sreset h => some (BitVec.ofNat 64 (handleRank h))
  | .wait h _ => some (BitVec.ofNat 64 (handleRank h))
  | .spoll h => some (BitVec.ofNat 64 (handleRank h))
  | _ => none

/-- R299: cells of response space. -/
def rspSpace (r : OutReq) (n : Nat) : Nat :=
  match r with
  | .frd _ _ _ _ => 1 + (n + 63) / 64
  | _ => 1

/-- R296: the generation of endpoint `d`. -/
def genOf (s : State) (d : Nat) : Nat := fget s (r_RST_DIE_STAT d) f_RST_DIE_STAT_GEN

/-- R296: an MSEQ that no outstanding request holds and that is not held back. -/
def mseqFree (s : State) (n : Ni) (q : Nat) : Bool :=
  (tblFind n.out q).isNone && n.retired.all fun p => p.1 != q || decide (p.2.toNat ≤ s.tb.tb.toNat)
def pickMseq (s : State) (n : Ni) : Nat :=
  (((List.range 5000).map fun i => (n.nextMseq + i) % 65536).find? (mseqFree s n)).getD n.nextMseq

/-- R330: requests outstanding toward an endpoint. -/
def windowUse (n : Ni) (dpkg dep : Nat) : Nat := (n.out.filter fun p => p.2.dpkg == dpkg && p.2.dep == dep).length
def spaceUse (n : Ni) : Nat := n.out.foldl (fun a p => a + p.2.space) 0
/-- Outstanding remote WAITs (R345) and ordered atomics (R358). -/
def waitsOut (n : Ni) : Nat := (n.out.filter fun p => match p.2.who.req with
  | .wait _ _ => true
  | _ => false).length
def atomsOut (s : State) (n : Ni) : Nat := (n.out.filter fun p => isOrdered s p.2.who.req).length

/-- Does the NI send a request of `k` messages toward an endpoint now (R296, R299, R330, R345, R358)? -/
def niRoom (s : State) (d : Nat) (n : Ni) (r : NiReq) (dpkg dep : Nat) : Bool :=
  let k := (reqParts r.req).length
  decide (windowUse n dpkg dep + k ≤ fget s r_FAB_CC_AI f_FAB_CC_AI_WIN)
  && decide (n.out.length + k ≤ 4096)
  && decide (spaceUse n + rspSpace r.req (reqLen r.req) + k ≤ 32768)
  && (match r.req with
    | .wait _ _ => decide (waitsOut n < 16)
    | _ => true)
  && (!isOrdered s r.req || (decide (atomsOut s n < 16)
      && tblGet (fun _ => 0) n.phaseOpen ((getCore s r.core).sg * 4096 + (getCore s r.core).lcore) == r.phase))
  && dieUp s d && !n.stopped

/-- A cell into the NI's own queue, as injected now (R283: AGEF 0). -/
def niQueue (s : State) (d : Nat) (cs : List Cell) : State :=
  modNi s d fun n => { n with cells := n.cells ++ cs.map fun c => { cell := c, pool := false, agef := 0, arr := s.tb.tb } }

/-- Sends one message of a request (R294 to R296). -/
def niSendPart (s : State) (d slice dpkg dep : Nat) (r : NiReq) (p : Nat × Nat × Bool) : State :=
  let n := getNi s d
  let q := pickMseq s n
  let (ty, ws, data) := reqBody s d slice r p
  let m : Msg := { dpkg := dpkg, dep := dep, spkg := myPkg s, sep := d, slice := slice, ty := ty, gen := genOf s d, mseq := q,
                   ctx := (getCore s r.core).strm % 65536, ece := false, words := ws, data := data }
  let o : NiOut := { who := r, dpkg := dpkg, dep := dep, gen := m.gen, space := rspSpace r.req p.2.1, part := p.1 }
  niQueue (setNi s d { n with nextMseq := (q + 1) % 65536, out := tblPut n.out q o }) d (msgCells m)

/-- R358: counts an ordered atomic toward its phase and endpoint. -/
def noteAtom (l : List (Nat × Nat × Nat × Nat × Nat)) (sg ph pkg ep : Nat) : List (Nat × Nat × Nat × Nat × Nat) :=
  match l with
  | [] => [(sg, ph, pkg, ep, 1)]
  | (a, b, c, e, k) :: t => if a = sg ∧ b = ph ∧ c = pkg ∧ e = ep then (a, b, c, e, k + 1) :: t else (a, b, c, e, k) :: noteAtom t sg ph pkg ep

/-- Sends a request whose rank is good. -/
def niSend (s : State) (d slice dpkg dep : Nat) (r : NiReq) : State :=
  let ps := reqParts r.req
  let s := if 1 < ps.length then modNi s d fun n => { n with sums := { core := r.core, issue := r.issue, left := ps.length, len := 0, status := 0 } :: n.sums } else s
  let s := if isOrdered s r.req then modNi s d fun n => { n with sentAtoms := noteAtom n.sentAtoms (getCore s r.core).sg (r.phase) dpkg dep } else s
  each ps (fun s p => niSendPart s d slice dpkg dep r p) s

/-- Sends what has waited, oldest first; a request that still finds no room keeps its place. -/
def niRetry (s : State) (d : Nat) : State :=
  let w := (getNi s d).wait
  each w (fun s r =>
    let go : Option (Nat × Nat × Nat) := (sliceOf s (getCore s r.core).sg).bind fun sl => ((reqRank r.req).bind (rankOf s sl)).map fun t => (sl, t.1, t.2)
    match go with
    | some (sl, pkg, ep) =>
      if niRoom s d (getNi s d) r pkg ep then niSend s d sl pkg ep r else modNi s d fun n => { n with wait := n.wait ++ [r] }
    | none => finishReq s r 2 0 0) (modNi s d fun n => { n with wait := [] })

/-- R337: a request by rank leaves its core: to its target, or with status RANK; it waits in the NI where there is no room. -/
def niIssue (s : State) (d : Nat) (r : NiReq) : State :=
  match sliceOf s (getCore s r.core).sg with
  | none => finishReq s r 2 0 0
  | some sl =>
    match (reqRank r.req).bind (rankOf s sl) with
    | none => finishReq s r (match r.req with
        | .wait _ _ => 1
        | .spoll _ => 1
        | _ => 2) 0 0
    | some (pkg, ep) =>
      if (getNi s d).wait.isEmpty && niRoom s d (getNi s d) r pkg ep then niSend s d sl pkg ep r
      else
        let full := decide (fget s r_FAB_CC_AI f_FAB_CC_AI_WIN < windowUse (getNi s d) pkg ep + (reqParts r.req).length)
        let s := if full then fadd s r_FAB_CC_WINWAIT f_FAB_CC_WINWAIT_CNT 1 else s
        modNi s d fun n => { n with wait := n.wait ++ [r] }

/-! ### Discards (R305) -/

/-- A cell-loss event of a data-class cell, at a die or a wheel. -/
def cellLoss (s : State) (src : Nat) (x : LCell) : State :=
  let c := x.cell
  if isData c then
    raise s { eventOf s src with mid := midRemote c.spkg, addr := c.ctx, slice := some c.slice, sg := sgOfSlice s c.slice,
                                 born := some (s.tb.tb - BitVec.ofNat 64 (8 * agefAt x s.tb.tb)) }
  else s

/-! ### Cells that arrive at a die's endpoint -/

/-- R298, R320: may the NI take a cell of a REQ or FWD message? REQ may use 768 of the 1,024 contexts. -/
def reasmRoom (n : Ni) (c : Cell) : Bool :=
  n.reasm.any (fun r => sameMsg r.first c)
  || (let reqs := (n.reasm.filter fun r => cellClass r.first.ty == some 0).length
      let fwds := (n.reasm.filter fun r => cellClass r.first.ty == some 1).length
      if cellClass c.ty = some 0 then decide (reqs < 768) else decide (fwds < 256))

/-- R23, R298: does the endpoint of die `d` take the cell now? -/
def niTakes (s : State) (d : Nat) (c : Cell) : Bool :=
  match cellClass c.ty with
  | some 4 => true
  | some 0 => dieState s d != 1 && reasmRoom (getNi s d) c
  | some 1 => dieState s d != 1 && reasmRoom (getNi s d) c
  | _ => dieState s d != 1

/-- Puts a cell with the other cells of its message (R294). -/
def reasmPut (l : List Reasm) (c : Cell) (bad : Bool) : List Reasm :=
  match l with
  | [] => [{ first := c, got := [(c.cidx, c)], ce := c.ce, bad := bad, hold := none, refused := false }]
  | r :: rs =>
    if sameMsg r.first c then { r with got := tblPut r.got c.cidx c, ce := r.ce || c.ce, bad := r.bad || bad } :: rs
    else r :: reasmPut rs c bad

/-- A cell at its destination die: checked, and put with its message (R289, R290, R301, R305). A COL cell is answered by its node. -/
def niCheck (d : Nat) (x : LCell) (col : State → Cell → State) (found : Ecc) (s : State) : State :=
  let c := x.cell
  if tooOld x s.tb.tb || cellMalformed c || found != .clean then cellLoss s (srcDie d 23) x
  else match cellClass c.ty with
    | some 4 => s
    | some 3 => if (sgOfSlice s c.slice).isSome then col s c else cellLoss s (srcDie d 23) x
    | some 2 => if (sgOfSlice s c.slice).isSome then modNi s d fun n => { n with reasm := reasmPut n.reasm c false } else cellLoss s (srcDie d 23) x
    | _ => modNi s d fun n => { n with reasm := reasmPut n.reasm c false }
def niCell (s : State) (d : Nat) (x : LCell) (col : State → Cell → State) : State :=
  injected [srcDie d 23] none d (if crcOk x.cell then .clean else .uncorrectable) (niCheck d x col) s

end Sys2Proof.Machine
end

