-- ==== Sys2Proof/Machine/Sync.lean ====
section
/-! DEFINITION. Machine/Sync.lean: sync objects: the commands SIG_ADD, SIG_RESET, SIG_WAIT, SIG_POLL
(spec/11 R339 to R345, R602; spec/05 R164). -/

namespace Sys2Proof.Machine

def getSync (s : State) (d : Nat) : SyncDie := tblGet (fun _ => syncReset) s.fab.sync d
def setSync (s : State) (d : Nat) (x : SyncDie) : State := modFab s fun f => { f with sync := tblSet (fun _ => syncReset) f.sync d x }
def modSync (s : State) (d : Nat) (f : SyncDie → SyncDie) : State := setSync s d (f (getSync s d))

/-- The counter of an object. -/
def syncCnt (x : SyncDie) (i : Nat) : W64 := tblGet (fun _ => 0#64) x.cnt i
def setCnt (x : SyncDie) (i : Nat) (v : W64) : SyncDie := { x with cnt := tblSet (fun _ => 0#64) x.cnt i v }
/-- R520: the saggar to which an object is bound. -/
def syncOwner (x : SyncDie) (i : Nat) : Option Nat := tblFind x.owner (i / 256)

/-- R341: the response to a message: the prefix words of an acknowledgement. -/
def answerMsg (s : State) (d : Nat) (m : Msg) (ty : Nat) (ws : List W64) (data : List Byte) : State :=
  let orig := if cellClass m.ty = some 1 then (bits (m.words.getD 4 0).toNat 11 0, bits (m.words.getD 4 0).toNat 16 12) else (m.spkg, m.sep)
  let r : Msg := { dpkg := orig.1, dep := orig.2, spkg := myPkg s, sep := d, slice := m.slice, ty := ty, gen := m.gen, mseq := m.mseq,
                   ctx := m.ctx, ece := m.ece, words := ws, data := data }
  niQueue s d (msgCells r)

/-- What a sync operation answers: its status, and a value for WAIT and POLL. -/
def syncAnswer (s : State) (d : Nat) (o : SyncOp) (status : Nat) (value : W64) : State :=
  match o.who with
  | .thread _ r => finishReq s r status 0 value
  | .msg m => answerMsg s d m 0x0A (if o.op = 2 || o.op = 3 then [statusWord status 0 0, value] else [statusWord status 0 0]) []

/-- R343: the value that a satisfied WAIT delivers. -/
def waitValue (s : State) (counter threshold : W64) : W64 := if lockSet s then threshold else counter

/-- R342: the recorded waits that an ADD satisfies, answered in the order in which they were recorded. -/
def wakeWaits (s : State) (d i : Nat) : State :=
  let x := getSync s d
  let v := syncCnt x i
  let ready (o : SyncOp) : Bool := o.idx == i && decide (o.operand.toNat ≤ v.toNat)
  each (x.waits.filter ready) (fun s o => syncAnswer s d o 0 (waitValue s v o.operand)) (setSync s d { x with waits := x.waits.filter fun o => !ready o })

/-- The oldest operation on its way to object `i` of die `d`, if it is of kind `op`. -/
def syncHead (s : State) (d i op : Nat) : Option SyncOp :=
  match (getSync s d).queue.find? fun o => o.idx == i with
  | some o => if o.op = op then some o else none
  | none => none

/-- R340: does the operation name an object bound to its saggar? -/
def syncBound (s : State) (d : Nat) (o : SyncOp) : Bool := decide (o.idx < 16384) && syncOwner (getSync s d) o.idx == some o.sg

/-- Takes an operation out of the queue; one that names no bound object is answered ACCESS. -/
def syncTake (s : State) (d : Nat) (o : SyncOp) (f : State → State) : State :=
  let s' := modSync s d fun x => { x with queue := x.queue.erase o }
  if syncBound s d o then f s' else syncAnswer s' d o 1 0

/-- SIG_ADD (R342): adds modulo 2^64 and answers the waits that are satisfied. -/
def execSigAdd (d i : Nat) (s : State) : Out :=
  match (if dieUp s d then syncHead s d i 0 else none) with
  | none => .next s
  | some o => .next (syncTake s d o fun s => wakeWaits (syncAnswer (modSync s d fun x => setCnt x i (syncCnt x i + o.operand)) d o 0 0) d i)

/-- SIG_RESET (R342): sets the counter to 0 and leaves pending waits pending. -/
def execSigReset (d i : Nat) (s : State) : Out :=
  match (if dieUp s d then syncHead s d i 1 else none) with
  | none => .next s
  | some o => .next (syncTake s d o fun s => syncAnswer (modSync s d fun x => setCnt x i 0) d o 0 0)

/-- SIG_WAIT (R342, R343): answered at once, or recorded. -/
def execSigWait (d i : Nat) (s : State) : Out :=
  match (if dieUp s d then syncHead s d i 2 else none) with
  | none => .next s
  | some o => .next (syncTake s d o fun s =>
      let v := syncCnt (getSync s d) i
      if o.operand.toNat ≤ v.toNat then syncAnswer s d o 0 (waitValue s v o.operand)
      else modSync s d fun x => { x with waits := x.waits ++ [o] })

/-- SIG_POLL (R341). -/
def execSigPoll (d i : Nat) (s : State) : Out :=
  match (if dieUp s d then syncHead s d i 3 else none) with
  | none => .next s
  | some o => .next (syncTake s d o fun s => syncAnswer s d o 0 (syncCnt (getSync s d) i))

/-! ### From a core -/

/-- OP, handle and operand of a sync request (Table 3). -/
def syncReq (r : OutReq) : Option (Nat × W64 × W64) :=
  match r with
  | .signal h v => some (0, h, v)
  | .sreset h => some (1, h, 0)
  | .wait h t => some (2, h, t)
  | .spoll h => some (3, h, 0)
  | _ => none

/-- R602: the die that a handle names for a saggar without a slice: one that holds a cluster of the saggar. -/
def sobDie (s : State) (sg : Nat) (h : W64) : Option Nat :=
  let d := handleRank h
  if d < 16 ∧ (getSag s sg).clmap.any fun p => p.1 == d then some d else none

/-- R340, R602: sends a sync operation of a thread of die `d` on its way. -/
def syncIssue (s : State) (d : Nat) (r : NiReq) : State :=
  match syncReq r.req with
  | none => s
  | some (op, h, v) =>
    let sg := (getCore s r.core).sg
    let local_ (t : Nat) : State := modSync s t fun x => { x with queue := x.queue ++ [{ op := op, idx := handleIdx h, operand := v, who := .thread d r, sg := sg }] }
    if !handleOk h then finishReq s r 1 0 0
    else match sliceOf s sg with
      | none =>
        match sobDie s sg h with
        | some t => local_ t
        | none => finishReq s r 1 0 0
      | some sl =>
        match rankEntry s sl (handleRank h) with
        | none => finishReq s r 1 0 0
        | some (pkg, ep) => if pkg = myPkg s ∧ ep = d then local_ d else niIssue s d r

/-- R164: have all posted operations that the thread issued before `issue` been performed? -/
def postedBefore (c : Core) (thread : Nat) (issue : W64) : Bool :=
  (c.posted.takeWhile fun p => p.issue != issue).all fun p => p.thread != thread || p.status != .waiting

/-- R164: the SIGNALs of core `c` whose thread's earlier posted operations have all been performed take their way. -/
def releaseSignals (s : State) (c : Nat) : State :=
  let d := dieOf c
  let x := getSync s d
  let ready (p : NiReq × SyncOp) : Bool := p.1.core == c && postedBefore (getCore s c) p.1.thread p.1.issue
  each (x.held.filter ready) (fun s p => syncIssue s d p.1) (setSync s d { x with held := x.held.filter fun p => !ready p })

/-- A sync operation as its core issues it. -/
def syncEmit (s : State) (r : NiReq) : State :=
  let d := dieOf r.core
  match r.req with
  | .signal h v =>
    if postedBefore (getCore s r.core) r.thread r.issue then syncIssue s d r
    else modSync s d fun x => { x with held := x.held ++ [(r, { op := 0, idx := handleIdx h, operand := v, who := .thread d r, sg := (getCore s r.core).sg })] }
  | _ => syncIssue s d r

end Sys2Proof.Machine
end

