-- ==== Sys2Proof/Machine/Coll.lean ====
section
/-! DEFINITION. Machine/Coll.lean: collective groups: the commands COL_START_MERGE, COL_DATA_REDUCE, COL_GO, COL_DONE
(spec/11 R346 to R354, R356 to R359; R602). Nodes: a die's NI (0 to 15) or the adder of a wheel (16 + wheel).
Children of a wheel: directions 0 to 5, and 8 + die. -/

namespace Sys2Proof.Machine

def getGroup (s : State) (g : Nat) : Group := tblGet (fun _ => groupReset) s.fab.groups g
def modGroup (s : State) (g : Nat) (f : Group → Group) : State :=
  modFab s fun x => { x with groups := tblModify (fun _ => groupReset) x.groups g f }
def getNode (g : Group) (n : Nat) : ColNode := tblGet (fun _ => colNodeReset) g.nodes n
def modNode (s : State) (g n : Nat) (f : ColNode → ColNode) : State :=
  modGroup s g fun x => { x with nodes := tblModify (fun _ => colNodeReset) x.nodes n f }

/-- The code of a kind (Table 16 of spec/05). -/
def collCode (k : CollKind) : Nat :=
  match k with
  | .allreduce => 0 | .reduce => 1 | .reduceScatter => 2 | .broadcast => 3 | .allgather => 4 | .barrier => 5 | .alltoall => 6

/-- Does the kind add (R354 Table 6)? -/
def collAdds (k : Nat) : Bool := decide (k ≤ 2)

/-- The children of a node: the directions of CHILDREN and the dies with members. -/
def memberDies (g : Group) : List Nat := (List.range 16).filter fun d => g.members.any fun m => m.ep == d
def childKeys (g : Group) : List Nat := ((List.range 6).filter (bitAt g.children)) ++ (memberDies g).map (8 + ·)
/-- The members of a die. -/
def localMembers (g : Group) (d : Nat) : List Member := g.members.filter fun m => m.ep == d

/-- R350: a COL cell of a node. -/
def colCellOf (s : State) (gn : Nat) (node ty idx : Nat) (p : BitVec 512) (plen : Nat) : Cell :=
  let g := getGroup s gn
  let ep := if node < 16 then node else node + 1
  { dpkg := myPkg s, dep := 17 + g.plane, spkg := myPkg s, sep := ep, slice := g.slice, vc := 0, epoch := false, ce := false, ece := false,
    ty := ty, gen := genOf s node, mseq := idx % 65536, cidx := idx / 65536 % 256, plen := plen, age := 0,
    ctx := gn + (getNode g node).opno <<< 12, crc := 0, payload := p }

/-- Table 5: word 0 of COL_CTL and COL_DONE. -/
def colWord (sub kind count status below : Nat) : BitVec 512 :=
  BitVec.ofNat 512 (sub + kind <<< 4 + count <<< 8 + status <<< 32 + below <<< 40)

/-- Sends a cell upward. -/
def colUp (s : State) (gn node : Nat) (c : Cell) : State :=
  let g := getGroup s gn
  if node < 16 then niQueue s node [c]
  else
    let w := node - 16
    let peer := ((List.range 2).findSome? fun i => (getLink s (w * 12 + 2 * g.parent + i)).peer).getD (myPkg s, w, 0)
    modWheel s w fun x => { x with own := x.own ++ [(some g.parent, { cell := { c with dpkg := peer.1 }, pool := false, agef := 0, arr := s.tb.tb })] }

/-- Sends a cell to child `k` of a wheel. -/
def colDown (s : State) (node k : Nat) (c : Cell) : State :=
  let w := node - 16
  let c := if 8 ≤ k then { c with dep := k - 8 }
    else { c with dpkg := (((List.range 2).findSome? fun i => (getLink s (w * 12 + 2 * k + i)).peer).getD (myPkg s, w, 0)).1 }
  modWheel s w fun x => { x with own := x.own ++ [(some k, { cell := c, pool := false, agef := 0, arr := s.tb.tb })] }

/-- Sends a value, as one COL_DATA cell or as two (R350). -/
def colValue (send : State → Cell → State) (s : State) (gn node idx : Nat) (v : BitVec 512 × Option (BitVec 512)) : State :=
  let s := send s (colCellOf s gn node 0x0E idx v.1 8)
  match v.2 with
  | some t => send s (colCellOf s gn node 0x0E idx t 8)
  | none => s

/-! ### The operation of a node -/

/-- Kind and count of the operation at a node: of its local COLLs, or of the STARTs that have come. -/
def nodeOp (x : ColNode) : Option (Nat × Nat) :=
  match x.locals with
  | o :: _ => some (collCode o.kind, o.count)
  | [] => (x.starts.head?).map fun p => (p.2.1, p.2.2.1)

/-- Indices of the operation. -/
def opIndices (g : Group) (kind count : Nat) : Nat := if kind = 4 then g.m * count else if kind = 5 || kind = 6 then 0 else count

/-- R352: a node that has finished takes the cells of the next operation. -/
def nodeNext (x : ColNode) : ColNode := { colNodeReset with opno := (x.opno + 1) % 16, early := x.early }

/-! ### Values -/

/-- A value of a member's source: wide word or block `i`. -/
def wideAt (s : State) (c : Nat) (r : Region) (i : Nat) : BitVec 512 × BitVec 512 :=
  let bs := localBytes s c r (128 * i) 128
  (wordOfBytes (bs.take 64), wordOfBytes (bs.drop 64))
def blockAt (s : State) (c : Nat) (r : Region) (i : Nat) : BitVec 512 := wordOfBytes (localBytes s c r (64 * i) 64)

/-- R353: the sum of values, and whether one was malformed. -/
def sumValues (l : List (BitVec 512 × Option (BitVec 512))) : (BitVec 512 × Option (BitVec 512)) × Bool :=
  let r := l.foldl (fun (acc : LongReg × Bool) v => let (a, bad) := cxsDecode v.1 v.2; (lrAdd acc.1 a, acc.2 || bad)) (lrZero, false)
  (cxsEncode r.1, r.2)

/-- What a die contributes at an index: the sum of its members' values, or the block of the one member that has it. -/
def dieValue (s : State) (g : Group) (x : ColNode) (i : Nat) : Option ((BitVec 512 × Option (BitVec 512)) × Bool) :=
  match nodeOp x with
  | none => none
  | some (kind, count) =>
    if collAdds kind then
      some (sumValues (x.locals.map fun o =>
        let (lo, hi) := wideAt s o.who.core (o.src.getD (.spad 0)) i
        (lo, if cxsCont lo then some hi else if hi = 0#512 then none else some hi)))
    else if kind = 3 then
      (x.locals.find? fun o => o.member == g.root).map fun o => ((blockAt s o.who.core (o.src.getD (.spad 0)) i, none), false)
    else if kind = 4 then
      (x.locals.find? fun o => o.member == i / max 1 count).map fun o => ((blockAt s o.who.core (o.src.getD (.spad 0)) (i % max 1 count), none), false)
    else none

/-- R354: the byte offset at which member `j` takes index `i`, if it takes it. -/
def takesIndex (g : Group) (kind count j i : Nat) : Option Nat :=
  match kind with
  | 0 => some (128 * i)
  | 1 => if j = g.root then some (128 * i) else none
  | 2 => let per := count / max 1 g.m; if j * per ≤ i ∧ i < (j + 1) * per then some (128 * (i - j * per)) else none
  | 3 => some (64 * i)
  | 4 => some (64 * i)
  | _ => none

/-- Writes one value at a member (after GO). -/
def writeMember (s : State) (gn d : Nat) (o : CollOp) (off : Nat) (bs : List Byte) : State :=
  let r := regionAdd (o.dst.getD (.spad 0)) off
  let x : Asker := { die := d, sg := (getCore s o.who.core).sg, mid := midCore o.who.core, src := 4 }
  let s := match agentWrite s x o.who.core o.who.thread o.who.issue r (bs.map mOn) false with
    | .ok s _ _ => s
    | _ => s
  modNode s gn d fun y => { y with locals := y.locals.map fun q => if q.member = o.member then { q with wrote := addOnce q.wrote off } else q }

/-- The bytes of a value: a wide word for the adding kinds, a block for the others. -/
def valueBytes (kind : Nat) (v : BitVec 512 × Option (BitVec 512)) : List Byte :=
  if collAdds kind then wordBytes v.1 ++ wordBytes (v.2.getD 0#512) else wordBytes v.1

/-- Writes index `i` into the destinations of a die's members. -/
def writeIndex (s : State) (gn d kind count i : Nat) (v : BitVec 512 × Option (BitVec 512)) : State :=
  let g := getGroup s gn
  each (getNode g d).locals (fun s o => match takesIndex g kind count o.member i with
    | some off => writeMember s gn d o off (valueBytes kind v)
    | none => s) s

/-- Is a value complete: has its second cell come if its first has CONT? -/
def wholeValue (adds : Bool) (v : BitVec 512 × Option (BitVec 512)) : Bool := !adds || !cxsCont v.1 || v.2.isSome

/-! ### Cells that reach a node -/

/-- The value at an index with one more cell. -/
def addCell (old : Option (BitVec 512 × Option (BitVec 512))) (p : BitVec 512) : BitVec 512 × Option (BitVec 512) :=
  match old with
  | none => (p, none)
  | some v => (v.1, some p)

/-- A COL cell of the operation in progress at a node, from child `k` or, when `k` is 99, from above. -/
def colNow (s : State) (gn node k : Nat) (c : Cell) : State :=
  let w := c.payload.toNat
  let idx := c.mseq + c.cidx * 65536
  let g := getGroup s gn
  if c.ty = 0x0F then
    (if bits w 3 0 = 0 then modNode s gn node fun x => { x with starts := tblPut x.starts k (bits w 7 4, bits w 31 8, bits w 63 40) }
     else modNode s gn node fun x => { x with goIn := true })
  else if c.ty = 0x10 then modNode s gn node fun x => { x with doneIn := some (bits w 39 32) }
  else if k = 99 then
    let x := getNode g node
    let v := addCell (tblFind x.down idx) c.payload
    let s := modNode s gn node fun x => { x with down := tblPut x.down idx v }
    match nodeOp x with
    | some (kind, count) =>
      if !wholeValue (collAdds kind) v then s
      else if node < 16 then (if x.go then writeIndex s gn node kind count idx v else s)
      else each (childKeys g) (fun s k => colValue (fun s c => colDown s node k c) s gn node idx v) s
    | none => s
  else
    modNode s gn node fun x =>
      let row := tblGet (fun _ => []) x.data idx
      { x with data := tblPut x.data idx (tblPut row k (addCell (tblFind row k) c.payload)) }

/-- A COL cell that reaches a node: of the operation in progress, or kept until the node comes to its operation (R352). -/
def colArrive (s : State) (node k : Nat) (c : Cell) : State :=
  let gn := c.ctx % 4096
  let g := getGroup s gn
  if g.st = 1 ∧ g.slice = c.slice then
    (if c.ctx / 4096 = (getNode g node).opno then colNow s gn node k c
     else modNode s gn node fun x => { x with early := x.early ++ [(k, c)] })
  else s

/-- The node goes on to the next operation: cells that have come early for it are taken. -/
def nodeFinish (s : State) (gn node : Nat) : State :=
  let x := getNode (getGroup s gn) node
  let s := modNode s gn node fun x => { nodeNext x with early := [] }
  each x.early (fun s p => colArrive s node p.1 p.2) s

/-! ### COLL of a member (R348, R602) -/

/-- The group of a handle in which logical core `l` of die `d` is a member. -/
def groupFor (s : State) (sg d l : Nat) (h : W64) : Option (Nat × Member) :=
  if h.toNat < 4096 then
    let g := getGroup s h.toNat
    if g.st = 1 ∧ sliceOf s sg = some g.slice then
      (g.members.find? fun m => m.ep == d && m.lcore == l).map fun m => (h.toNat, m)
    else none
  else none

/-- A COLL as its core issues it. -/
def collEmit (s : State) (r : NiReq) : State :=
  match r.req with
  | .coll kind h src dst count =>
    let c := getCore s r.core
    let d := dieOf r.core
    match groupFor s c.sg d c.lcore h with
    | none => finishReq s r 6 0 0
    | some (gn, m) =>
      let o : CollOp := { member := m.index, who := r, kind := kind, src := src, dst := dst, count := count, wrote := [], acks := 0, sentWr := false }
      modNode s gn d fun x => { x with locals := x.locals ++ [o] }
  | _ => s

/-! ### COL_START_MERGE (R352, R358) -/

/-- R358: the endpoints that received ordered atomics of a phase from this die. -/
def atomTargets (n : Ni) (sg ph : Nat) : List (Nat × Nat × Nat) :=
  (n.sentAtoms.filter fun x => x.1 == sg && x.2.1 == ph).map fun x => (x.2.2.1, x.2.2.2.1, x.2.2.2.2)

/-- R358: the CLOSE messages before the START of the barrier that closes phase `ph`. -/
def sendCloses (s : State) (d gn ph : Nat) (r : NiReq) : State :=
  let sg := (getCore s r.core).sg
  let ts := atomTargets (getNi s d) sg ph
  let s := each ts (fun s t =>
    let n := getNi s d
    let q := pickMseq s n
    let who : NiReq := { r with posted := false, req := .coll .barrier (BitVec.ofNat 64 gn) none none 0 }
    let m : Msg := { dpkg := t.1, dep := t.2.1, spkg := myPkg s, sep := d, slice := (getGroup s gn).slice, ty := 9, gen := genOf s d, mseq := q,
                     ctx := (getCore s r.core).strm % 65536, ece := false, words := [BitVec.ofNat 64 ph, BitVec.ofNat 64 (4 <<< 32), BitVec.ofNat 64 t.2.2], data := [] }
    let o : NiOut := { who := who, dpkg := t.1, dep := t.2.1, gen := m.gen, space := 1, part := 0 }
    niQueue (setNi s d { n with nextMseq := (q + 1) % 65536, out := tblPut n.out q o }) d (msgCells m)) s
  modNode s gn d fun x => { x with closing := true, closesOut := ts.length }

/-- The START of a die: all its members have issued the operation. -/
def dieStart (s : State) (gn d : Nat) : State :=
  let g := getGroup s gn
  let x := getNode g d
  let ms := localMembers g d
  let whole := ms.all fun m => x.locals.any fun o => o.member == m.index
  match x.locals with
  | [] => s
  | o :: _ =>
    if x.merged || !whole then s
    else
      let fence := g.fence && lockSet s && o.kind == .barrier
      if fence && !x.closing then sendCloses s d gn (o.who.phase - 1) o.who
      else if fence && 0 < x.closesOut then s
      else
        let agree := x.locals.all fun q => q.kind == o.kind && q.count == o.count
        let kind := if agree then collCode o.kind else 15
        let s := modNode (modGroup s gn fun g => { g with opno := (x.opno + 1) % 16 }) gn d fun y => { y with merged := true }
        colUp s gn d (colCellOf s gn d 0x0F 0 (colWord 0 kind o.count 0 ms.length) 1)

/-- The STARTs of all children of a wheel, merged: kind, count and members below; kind 15 when they disagree. -/
def mergedStart (g : Group) (x : ColNode) : Option (Nat × Nat × Nat) :=
  let l := (childKeys g).map (tblFind x.starts)
  if l.all Option.isSome then
    match l with
    | some (k, n, b) :: rest =>
      some (rest.foldl (fun acc q => match q with
        | some (k', n', b') => (if k' = acc.1 ∧ n' = acc.2.1 then acc.1 else 15, acc.2.1, acc.2.2 + b')
        | none => acc) (k, n, b))
    | _ => none
  else none

/-- COL_START_MERGE at node `node` of group `gn`. -/
def execColStartMerge (node gn : Nat) (s : State) : Out :=
  let g := getGroup s gn
  if g.st != 1 then .next s
  else if node < 16 then .next (dieStart s gn node)
  else if node != 16 + g.plane then .next s
  else
    let x := getNode g node
    match mergedStart g x with
    | none => .next s
    | some (k, n, b) =>
      if x.merged then .next s
      else
        let s := modNode s gn node fun y => { y with merged := true }
        .next (if g.parent = 7 then s else colUp s gn node (colCellOf s gn node 0x0F 0 (colWord 0 k n 0 b) 1))

/-! ### COL_DATA_REDUCE (R353) -/

/-- The value of index `i` at a wheel, once every child that has it has sent it. -/
def wheelValue (g : Group) (x : ColNode) (kind i : Nat) : Option ((BitVec 512 × Option (BitVec 512)) × Bool) :=
  let row := tblGet (fun _ => []) x.data i
  if collAdds kind then
    (if (childKeys g).all fun k => match tblFind row k with
        | some v => wholeValue true v
        | none => false
     then some (sumValues (row.map Prod.snd)) else none)
  else (row.head?).map fun p => (p.2, false)

/-- R349, R354: a value of the root goes down to the children whose members take it. -/
def sendDown (s : State) (gn node kind count i : Nat) (v : BitVec 512 × Option (BitVec 512)) : State :=
  let g := getGroup s gn
  let takes (k : Nat) : Bool :=
    if 8 ≤ k then (localMembers g (k - 8)).any fun m => (takesIndex g kind count m.index i).isSome else kind != 1
  each ((childKeys g).filter takes) (fun s k => colValue (fun s c => colDown s node k c) s gn node i v) s

/-- Cells of a value (R350). -/
def valueCells (v : BitVec 512 × Option (BitVec 512)) : Nat := if v.2.isSome then 2 else 1

/-- R351: the slots at the plane's wheel that hold cells of die `d`: those of values that the wheel has not added or forwarded yet. -/
def upSlots (s : State) (g : Group) (d : Nat) : Nat :=
  let x := getNode g d
  let w := getNode g (16 + g.plane)
  ((x.sent.filter fun i => !(w.opno == x.opno && w.sent.contains i)).map fun i =>
    match dieValue s g x i with
    | some (v, _) => valueCells v
    | none => 1).sum

/-- R351: the slots at die `d` that hold cells of the root wheel: those of values that the die has not written yet. -/
def downSlots (g : Group) (kind count d : Nat) : Nat :=
  let x := getNode g d
  let w := getNode g (16 + g.plane)
  ((w.sent.filter fun i => (localMembers g d).any fun m => (takesIndex g kind count m.index i).isSome).map fun i =>
    match tblFind x.down i with
    | some v => if w.opno == x.opno && x.go && wholeValue (collAdds kind) v then 0 else valueCells v
    | none => 1).sum

/-- R351, R322: has the root wheel a credit for the cells of a value at each of the module's dies that take it? -/
def downCredit (g : Group) (kind count i : Nat) (v : BitVec 512 × Option (BitVec 512)) : Bool :=
  ((memberDies g).filter fun d => (localMembers g d).any fun m => (takesIndex g kind count m.index i).isSome).all fun d =>
    decide (downSlots g kind count d + valueCells v ≤ g.slots)

/-- COL_DATA_REDUCE: index `i` at node `node` of group `gn`, once there are credits for its cells. -/
def execColDataReduce (node gn i : Nat) (s : State) : Out :=
  let g := getGroup s gn
  let x := getNode g node
  if g.st != 1 || x.sent.contains i then .next s
  else match nodeOp x with
    | none => .next s
    | some (kind, count) =>
      if opIndices g kind count ≤ i then .next s
      else if node < 16 then
        let all := (localMembers g node).all fun m => x.locals.any fun o => o.member == m.index
        match (if all then dieValue s g x i else none) with
        | none => .next s
        | some (v, bad) =>
          if g.slots < upSlots s g node + valueCells v then .next s else
          let s := raiseMalformed s (srcDie node 21) ((sgOfSlice s g.slice).getD 0) i bad
          let s := modNode s gn node fun y => { y with sent := i :: y.sent }
          .next (colValue (fun s c => colUp s gn node c) s gn node i v)
      else if node = 16 + g.plane then
        match wheelValue g x kind i with
        | none => .next s
        | some (v, bad) =>
          if g.parent = 7 ∧ !downCredit g kind count i v then .next s else
          let s := raiseMalformed s (srcWheel g.plane 9) ((sgOfSlice s g.slice).getD 0) i bad
          let s := modNode s gn node fun y => { y with sent := i :: y.sent, data := tblErase y.data i }
          .next (if g.parent = 7 then sendDown s gn node kind count i v else colValue (fun s c => colUp s gn node c) s gn node i v)
      else .next s

/-! ### COL_GO (R352) -/

/-- The pieces of at most 16,320 bytes of an ALLTOALL block group (R297). -/
def wrPieces : Nat → Nat → Nat → List (Nat × Nat)
  | 0, _, _ => []
  | fuel + 1, off, n => if n = 0 then [] else (off, min n 16320) :: wrPieces fuel (off + min n 16320) (n - min n 16320)

/-- R354: the WR messages of an ALLTOALL member to all members, sent after GO. -/
def sendAlltoall (s : State) (gn d : Nat) (o : CollOp) : State :=
  let g := getGroup s gn
  let n := 64 * o.count
  let base := match o.dst with
    | some (.spad off) => off
    | some (.cluster dd cl off) => 0x200000000 + (((logicalCl (getSag s (getCore s o.who.core).sg) dd cl).getD 0) <<< 25) + off
    | _ => 0
  let targets := (List.range g.m).flatMap fun j => (wrPieces (n / 16320 + 2) 0 n).map fun p => (j, p.1, p.2)
  let s := each targets (fun s t =>
    let who : NiReq := { o.who with posted := false }
    match rankEntry s g.slice (((g.members.find? fun m => m.index == t.1).map Member.rank).getD t.1) with
    | none => s
    | some (pkg, ep) =>
      let ni := getNi s d
      let q := pickMseq s ni
      let m : Msg := { dpkg := pkg, dep := ep, spkg := myPkg s, sep := d, slice := g.slice, ty := 1, gen := genOf s d, mseq := q,
                       ctx := (getCore s o.who.core).strm % 65536, ece := false,
                       words := [BitVec.ofNat 64 (base + o.member * n + t.2.1), BitVec.ofNat 64 t.2.2],
                       data := localBytes s o.who.core (o.src.getD (.spad 0)) (t.1 * n + t.2.1) t.2.2 }
      let out : NiOut := { who := who, dpkg := pkg, dep := ep, gen := m.gen, space := 1, part := t.2.1 }
      niQueue (setNi s d { ni with nextMseq := (q + 1) % 65536, out := tblPut ni.out q out }) d (msgCells m)) s
  modNode s gn d fun y => { y with locals := y.locals.map fun q => if q.member = o.member then { q with acks := targets.length, sentWr := true } else q }

/-- GO at a die: destination writes begin; the atomics of the closed phase may be performed (R359). -/
def dieGo (s : State) (gn d : Nat) : State :=
  let g := getGroup s gn
  let x := getNode g d
  let s := modNode s gn d fun y => { y with go := true, goIn := false }
  match x.locals with
  | [] => s
  | o :: _ =>
    let s := if g.fence ∧ o.kind = .barrier then
      modNi s d fun n => { n with phaseGone := tblModify (fun _ => 0) n.phaseGone (getCore s o.who.core).sg (max o.who.phase) } else s
    let s := each x.down (fun s p => if wholeValue (collAdds (collCode o.kind)) p.2 then writeIndex s gn d (collCode o.kind) o.count p.1 p.2 else s) s
    if o.kind = .alltoall then each x.locals (fun s q => sendAlltoall s gn d q) s else s

/-- The root's check (R352): agreement on KIND and COUNT, and every member counted. -/
def rootAgrees (g : Group) (m : Nat × Nat × Nat) : Bool := decide (m.1 ≤ 6) && (g.fence || m.2.2 == g.m) && (m.1 != 2 || m.2.1 % max 1 g.m == 0)

/-- COL_GO at node `node` of group `gn`. -/
def execColGo (node gn : Nat) (s : State) : Out :=
  let g := getGroup s gn
  let x := getNode g node
  if g.st != 1 || x.go then .next s
  else if node < 16 then .next (if x.goIn then dieGo s gn node else s)
  else if node != 16 + g.plane then .next s
  else if g.parent = 7 then
    match (if x.merged then mergedStart g x else none) with
    | none => .next s
    | some m =>
      if rootAgrees g m then
        let s := modNode s gn node fun y => { y with go := true }
        .next (each (childKeys g) (fun s k => colDown s node k (colCellOf s gn node 0x0F 0 (colWord 1 m.1 m.2.1 0 0) 1)) s)
      else
        let s := each (childKeys g) (fun s k => colDown s node k (colCellOf s gn node 0x10 0 (colWord 2 m.1 m.2.1 6 0) 1)) s
        .next (nodeFinish s gn node)
  else if x.goIn then
    let s := modNode s gn node fun y => { y with go := true, goIn := false }
    let (k, n) := (nodeOp x).getD (0, 0)
    .next (each (childKeys g) (fun s c => colDown s node c (colCellOf s gn node 0x0F 0 (colWord 1 k n 0 0) 1)) s)
  else .next s

/-! ### COL_DONE (R354) -/

/-- Has the root sent everything of the operation? -/
def rootDone (g : Group) (x : ColNode) : Bool :=
  match nodeOp x with
  | none => false
  | some (k, n) => x.go && (List.range (opIndices g k n)).all fun i => x.sent.contains i

/-- Bytes that member `o` is to write, as offsets. -/
def memberBytes (g : Group) (o : CollOp) : Nat :=
  match o.kind with
  | .allreduce => 128 * o.count
  | .reduce => if o.member = g.root then 128 * o.count else 0
  | .reduceScatter => 128 * (o.count / max 1 g.m)
  | .broadcast => 64 * o.count
  | .allgather => 64 * o.count * g.m
  | .barrier => 0
  | .alltoall => 64 * o.count * g.m

/-- How many separate writes make those bytes. -/
def memberWrites (g : Group) (o : CollOp) : Nat :=
  match o.kind with
  | .alltoall => g.m * (wrPieces (64 * o.count / 16320 + 2) 0 (64 * o.count)).length
  | .broadcast => memberBytes g o / 64
  | .allgather => memberBytes g o / 64
  | _ => memberBytes g o / 128

/-- Are a member's destination writes complete, and its own WRs acknowledged? -/
def memberReady (g : Group) (o : CollOp) : Bool :=
  decide (memberWrites g o ≤ o.wrote.length) && (o.kind != .alltoall || (o.sentWr && o.acks == 0))

/-- COL_DONE at node `node` of group `gn`: the root sends it, a wheel passes it on, a die delivers its members' COLLs. -/
def execColDone (node gn : Nat) (s : State) : Out :=
  let g := getGroup s gn
  let x := getNode g node
  if g.st != 1 then .next s
  else if 16 ≤ node then
    let st := if node = 16 + g.plane then (if g.parent = 7 then (if rootDone g x then some 0 else none) else x.doneIn) else none
    match st with
    | none => .next s
    | some st =>
      let (k, n) := (nodeOp x).getD (0, 0)
      let s := each (childKeys g) (fun s c => colDown s node c (colCellOf s gn node 0x10 0 (colWord 2 k n st 0) 1)) s
      .next (nodeFinish s gn node)
  else match x.doneIn with
    | none => .next s
    | some st =>
      if st = 0 ∧ !(x.go && x.locals.all (memberReady g)) then .next s
      else
        let s := each x.locals (fun s o => finishReq s o.who st (if st = 0 then memberBytes g o else 0) 0) s
        let s := if g.fence then modNi s node fun n => { n with
            phaseOpen := x.locals.foldl (fun t o => tblSet (fun _ => 0) t ((getCore s o.who.core).sg * 4096 + (getCore s o.who.core).lcore) o.who.phase) n.phaseOpen } else s
        .next (niRetry (nodeFinish s gn node) node)

end Sys2Proof.Machine
end

