-- ==== Sys2Proof/Machine/Message.lean ====
section
/-! DEFINITION. Machine/Message.lean: whole messages at their target and responses at their requester: MESSAGE_REASSEMBLED,
RESPONSE_MATCH, SIG_CLOSE, ORDERED_ATOMIC_PERFORM (spec/09 R296 to R301; spec/06 R179, R180, R197, R205;
spec/05 R163, R165, Table 15; spec/11 R341, R355 to R359; spec/15 R470, R473). -/

namespace Sys2Proof.Machine

/-! ### Where a message's address leads -/

/-- R205: the cluster that serves logical cluster `l`; of a saved saggar, its memory image. -/
def clusterFor (s : State) (sg l : Nat) : Option (Nat × Nat) :=
  match (getSag s sg).saved with
  | some x => if l < x.last.length then some (savedPlace sg l) else none
  | none => clmapOf s sg l
/-- R179: the address operand at the target module. -/
def targetRegion (s : State) (sg : Nat) (a n : Nat) : Option Region :=
  if 0x200000000 ≤ a && a + n ≤ 0x400000000 then
    let o := a - 0x200000000
    if o >>> 25 = (o + n - 1) >>> 25 then (clusterFor s sg (o >>> 25)).map fun p => .cluster p.1 p.2 (o % 2 ^ 25) else none
  else if 0x1000000000000 ≤ a && a + n ≤ 0x2000000000000 then some (.tenant (a % 2 ^ 48))
  else none

/-- R100, R180, R354: the ALLTOALL member of die `d` whose destination takes bytes `a` to `a + n`: the first, in ascending core
order, that has not got these bytes. Its group, the operation and the offset in its destination. -/
def alltoallTarget (s : State) (d slice a n : Nat) : Option (Nat × CollOp × Nat) :=
  s.fab.groups.findSome? fun p =>
    if p.2.slice = slice then
      (getNode p.2 d).locals.findSome? fun o =>
        if o.kind = .alltoall then
          let base := match o.dst with
            | some (.spad off) => some off
            | some (.cluster dd cl off) => some (0x200000000 + (((logicalCl (getSag s (getCore s o.who.core).sg) dd cl).getD 0) <<< 25) + off)
            | _ => none
          match base with
          | some b => if b ≤ a ∧ a + n ≤ b + memberBytes p.2 o ∧ !o.wrote.contains (a - b) then some (p.1, o, a - b) else none
          | none => none
        else none
    else none

/-! ### Atomics -/

/-- Table 15 of spec/05: the new value of an 8-byte atomic. -/
def atomNew (kind : Nat) (old x cmp : W64) : W64 :=
  match kind with
  | 0 => old + x
  | 1 => x
  | 2 => if old = cmp then x else old
  | 3 => if x.toInt < old.toInt then x else old
  | _ => if old.toInt < x.toInt then x else old

/-- An 8-byte atomic on a region: the old value comes back as the 8 bytes read. -/
def atomRegion (s : State) (x : Asker) (r : Region) (kind : Nat) (v cmp : W64) (hit : Bool) : AgentRes :=
  match r with
  | .cluster d cl off =>
    if dieUp s d then
      let old := memReadN (clMem s d cl) off 8
      let new := atomNew kind (BitVec.ofNat 64 (leNat old)) v cmp
      .ok (setClMem s d cl (memWriteN (clMem s d cl) off (leBytes 8 new.toNat))) old false
    else .busy
  | .tenant va =>
    match transAll x needAdd hit s [(va, 8)] with
    | (s, .refused) => .refused s
    | (s, .fault k l a) => agentFault s x needAdd k l a
    | (s, .ok ps) =>
      if wordsFree s ps then
        match readPlaces s [(va, 8)] ps with
        | none => .refused s
        | some old =>
          let new := atomNew kind (BitVec.ofNat 64 (leNat old)) v cmp
          match writePlaces s [(va, 8)] ps ((leBytes 8 new.toNat).map mOn) with
          | some s => .ok s old false
          | none => .refused s
      else .busy
  | _ => .refused s

/-- An XADD: into a DRAM accumulation word, or into a wide word of cluster memory. -/
def xaddRegion (s : State) (x : Asker) (r : Region) (v : LongReg) (bad0 : Bool) (hit : Bool) : AgentRes :=
  match r with
  | .cluster d cl off =>
    if dieUp s d then
      let m := clMem s d cl
      let ((lo, hi), bad) := wideAdd (spadWord m off) (spadWord m (off + 64)) v
      .ok (setClMem s d cl (spadPut (spadPut m off lo) (off + 64) hi)) [] (bad || bad0)
    else .busy
  | .tenant va => (match vaAdd s x va v hit with
    | .ok s bs bad => .ok s bs (bad || bad0)
    | e => e)
  | _ => .refused s

/-! ### Performing a message -/

/-- What a message at its target comes to. -/
inductive MsgRes where
  /-- performed or refused, and answered -/
  | done (s : State)
  | hold (s : State) (tag : Nat)
  | later

/-- Answers a WR, MSG, RD, ATOM or SIG with a status. -/
def answer (s : State) (d : Nat) (m : Msg) (status len : Nat) : State :=
  match m.ty with
  | 3 => answerMsg s d m 4 [statusWord status 0 len, BitVec.ofNat 64 len] []
  | 0x0B => answerMsg s d m 4 [statusWord status 0 len, BitVec.ofNat 64 len] []
  | 5 => answerMsg s d m 6 [statusWord status 0 len, 0] []
  | 0x0D => answerMsg s d m 6 [statusWord status 0 len, 0] []
  | _ => answerMsg s d m (rspType m.ty) [statusWord status 0 len] []

/-- Turns an agent's result into a message's. -/
def agentDone (d : Nat) (m : Msg) (r : AgentRes) (f : State → List Byte → State) : MsgRes :=
  match r with
  | .ok s bs _ => .done (f s bs)
  | .fault s t => .hold s t
  | .refused s => .done (answer s d m 1 0)
  | .busy => .later

def msgAsker (d sg : Nat) (m : Msg) : Asker := { die := d, sg := sg, mid := midRemote m.spkg, src := 3 }

/-- R298, R179: WR and FWD_WR. -/
def performWrite (s : State) (d sg : Nat) (m : Msg) (hit : Bool) : MsgRes :=
  let a := (m.words.getD 0 0).toNat
  let n := m.data.length
  match alltoallTarget s d m.slice a n with
  | some (gn, o, off) => .done (answer (writeMember s gn d o off m.data) d m 0 n)
  | none =>
    if a < 0x200000 then .done (answer s d m (if lockSet s then 7 else 1) 0)
    else match targetRegion s sg a n with
      | none => .done (answer s d m 1 0)
      | some r => agentDone d m (agentWrite s (msgAsker d sg m) 0 0 0 r (m.data.map mOn) hit) fun s _ => answer s d m 0 n

/-- RD and FWD_RD. -/
def performRead (s : State) (d sg : Nat) (m : Msg) (hit : Bool) : MsgRes :=
  let a := (m.words.getD 0 0).toNat
  let n := (m.words.getD 1 0).toNat % 2 ^ 32
  let give (s : State) (bs : List Byte) : State := answerMsg s d m 4 [statusWord 0 0 n, BitVec.ofNat 64 n] bs
  match targetRegion s sg a n with
  | none => .done (answer s d m 1 0)
  | some r => agentDone d m (agentRead s (msgAsker d sg m) 0 r n hit) give

/-- ATOM and FWD_ATOM that is not ordered. -/
def performAtom (s : State) (d sg : Nat) (m : Msg) (hit : Bool) : MsgRes :=
  let a := (m.words.getD 0 0).toNat
  let kind := bits (m.words.getD 1 0).toNat 35 32
  let size := if kind = 5 then 64 else 8
  match targetRegion s sg a size with
  | none => .done (answer s d m 1 0)
  | some r =>
    if 5 < kind then .done (answer s d m 1 0)
    else if kind = 5 then
      let c := wordOfBytes (m.data.take 64)
      let (v, bad) := cxsDecode c (if 64 < m.data.length then some (wordOfBytes (m.data.drop 64)) else none)
      (match xaddRegion s (msgAsker d sg m) r v bad hit with
        | .ok s _ bad => .done (answerMsg (raiseMalformed s (srcDie d 21) sg a bad) d m 6 [statusWord 0 0 m.data.length, 0] [])
        | e => agentDone d m e fun s _ => s)
    else agentDone d m (atomRegion s (msgAsker d sg m) r kind (m.words.getD 2 0) (m.words.getD 3 0) hit)
      fun s old => answerMsg s d m 6 [statusWord 0 0 8, BitVec.ofNat 64 (leNat old)] []

/-! ### SEND and RECV (R165) -/

/-- R255: is a package a member of a slice? A member has an entry in the slice's rank table. -/
def memberPkg (s : State) (slice pkg : Nat) : Bool :=
  pkg == myPkg s || (tblGet (fun _ => []) s.fab.ranks slice).any fun (p : Nat × W32) => p.2.getLsbD 31 && bits p.2.toNat 11 0 == pkg

/-- Does a RECV take an arrived message? -/
def recvTakes (r : OutReq) (sg : Nat) (a : Arrived) : Bool :=
  match r with
  | .recv _ any rank _ tag => a.sg == sg && a.tag == tag && (any || rank.toNat == a.rank)
  | .probe any rank tag => a.sg == sg && a.tag == tag && (any || rank.toNat == a.rank)
  | _ => false

/-- Delivers a message to a RECV: at most its room, with TRUNC when it is longer. -/
def recvDeliver (s : State) (r : NiReq) (a : Arrived) : State :=
  match r.req with
  | .recv la _ _ room _ =>
    let n := min room a.data.length
    let x : Asker := { die := dieOf r.core, sg := a.sg, mid := midCore r.core, src := 3 }
    let s := match agentWrite s x r.core r.thread r.issue la ((a.data.take n).map mOn) false with
      | .ok s _ _ => s
      | _ => s
    let s := gatedResult s r.core r.issue (.value (statusWord (if room < a.data.length then 5 else 0) a.rank n))
    let outside := !((sliceOf s a.sg).any fun sl => memberPkg s sl a.src.1)
    if outside then
      modCore s r.core fun k => { k with gated := k.gated.map fun (g : Gated) => if g.issue = r.issue then { g with ext := some (a.src.1, a.src.2, a.data.take n) } else g }
    else s
  | _ => s

/-- A RECV or PROBE as its core issues it (R337, R602). -/
def recvEmit (s : State) (r : NiReq) : State :=
  let c := getCore s r.core
  let d := dieOf r.core
  let n := getNi s d
  match r.req with
  | .probe _ _ _ =>
    let hit := (sliceOf s c.sg).isSome && n.arrived.any (recvTakes r.req c.sg)
    gatedResult s r.core r.issue (.value (BitVec.ofNat 64 (b2n hit)))
  | .recv _ any rank _ _ =>
    match sliceOf s c.sg with
    | none => finishReq s r 2 0 0
    | some sl =>
      if !any && (rankOf s sl rank).isNone then finishReq s r 2 0 0
      else match n.arrived.find? (recvTakes r.req c.sg) with
        | some a => recvDeliver (setNi s d { n with arrived := n.arrived.erase a }) r a
        | none => setNi s d { n with recvs := n.recvs ++ [{ who := r, sg := c.sg }] }
  | _ => s

/-- A MSG at its target; the second message of a long transfer (PART) joins the first (R297). -/
def performMsg (s : State) (d sg : Nat) (m : Msg) : State :=
  let w0 := (m.words.getD 0 0).toNat
  let part := (m.words.getD 1 0).getLsbD 32
  let a : Arrived := { sg := sg, rank := w0 % 2 ^ 24, tag := bits w0 47 32, part := part, data := m.data, src := (m.spkg, m.sep) }
  let s := answer s d m 0 m.data.length
  let n := getNi s d
  match (if part then n.arrived.find? fun q => q.sg == sg && q.rank == a.rank && q.tag == a.tag && q.data.length == 16320 else none) with
  | some q => setNi s d { n with arrived := n.arrived.map fun x => if x = q then { q with data := q.data ++ m.data } else x }
  | none =>
    match n.recvs.find? fun r => recvTakes r.who.req r.sg a with
    | some r => recvDeliver (setNi s d { n with recvs := n.recvs.erase r }) r.who a
    | none => setNi s d { n with arrived := n.arrived ++ [a] }

/-! ### Ordered atomics at their target (R357, R359) -/

def heldOf (m : Msg) : HeldAtom :=
  let k := (m.words.getD 5 0).toNat
  { msg := m, phase := (m.words.getD 6 0).toNat % 2 ^ 32, rank := bits k 23 0, lcore := bits k 35 24, thread := bits k 41 36,
    s := (m.words.getD 7 0).toNat }

/-- R359: the order of performance. -/
def heldBefore (a b : HeldAtom) : Bool :=
  decide (a.rank < b.rank) || (a.rank == b.rank && (decide (a.lcore < b.lcore) || (a.lcore == b.lcore
    && (decide (a.thread < b.thread) || (a.thread == b.thread && decide (a.s < b.s))))))
def heldFirst (l : List HeldAtom) : Option HeldAtom :=
  l.foldl (fun best a => match best with
    | none => some a
    | some b => if heldBefore a b then some a else some b) none

/-- ORDERED_ATOMIC_PERFORM (R359): the first held atomic, in key order, of a phase of saggar `sg` whose closing barrier's GO has come. -/
def execOrderedAtomicPerform (d sg : Nat) (hit : Bool) (s : State) : Out :=
  let n := getNi s d
  let gone := tblGet (fun _ => 0) n.phaseGone sg
  match heldFirst (n.atoms.filter fun a => decide (a.phase < gone) && sgOfSlice s a.msg.slice == some sg) with
  | none => .next s
  | some a =>
    let s' := modNi s d fun n => { n with atoms := n.atoms.erase a }
    match performAtom s' d sg a.msg hit with
    | .done s => .next s
    | .hold s _ => .next (modNi s d fun n => { n with atoms := n.atoms ++ [a] })
    | .later => .next s

/-- SIG_CLOSE (R359): a CLOSE is answered once the target holds as many of that source's atomics of the phase as it counts. -/
def execSigClose (d : Nat) (s : State) : Out :=
  let n := getNi s d
  let ready (c : Msg × Nat × Nat) : Bool :=
    decide (c.2.2 ≤ (n.atoms.filter fun a => a.phase == c.2.1 && a.msg.spkg == c.1.spkg && a.msg.sep == c.1.sep && a.msg.slice == c.1.slice).length)
  match n.closes.find? ready with
  | none => .next s
  | some c => .next (answerMsg (setNi s d { n with closes := n.closes.erase c }) d c.1 0x0A [statusWord 0 0 0] [])

/-! ### MESSAGE_REASSEMBLED -/

/-- SIG at its target (R341): an operation on an object, or a CLOSE. -/
def performSig (s : State) (d sg : Nat) (m : Msg) : State :=
  let op := bits (m.words.getD 1 0).toNat 35 32
  let w0 := m.words.getD 0 0
  if op = 4 then modNi s d fun n => { n with closes := n.closes ++ [(m, w0.toNat % 2 ^ 32, (m.words.getD 2 0).toNat)] }
  else if 4 < op ∨ !handleOk w0 then answer s d m 1 0
  else modSync s d fun x => { x with queue := x.queue ++ [{ op := op, idx := handleIdx w0, operand := m.words.getD 2 0, who := .msg m, sg := sg }] }

/-- R300: the message that an endpoint re-sends when the home has moved to die `t`. -/
def forwardMsg (s : State) (d t : Nat) (m : Msg) : State :=
  let ty := if m.ty = 1 then 0x0C else if m.ty = 3 then 0x0B else 0x0D
  let ws := (m.words ++ List.replicate 5 0#64).take 4 ++ [BitVec.ofNat 64 (m.spkg + m.sep <<< 12)]
  niQueue s d (msgCells { m with dpkg := myPkg s, dep := t, spkg := myPkg s, sep := d, ty := ty, words := ws })

/-- R300, R357, R473: at the endpoint of a fenced die. -/
def fencedMsg (s : State) (d : Nat) (m : Msg) : State :=
  let ordered := m.ty == 5 && decide (bits (m.words.getD 1 0).toNat 35 32 < 5) && decide (8 ≤ m.words.length)
  match tblFind s.fab.remap (d * 1024 + m.slice) with
  | some t => if (m.ty = 1 || m.ty = 3 || m.ty = 5) && !ordered then forwardMsg s d t m else answer s d m 4 0
  | none => answer s d m 4 0

/-- R255: with LOCK set, a WR, ATOM, SIG, FWD_WR or FWD_ATOM from outside the slice is answered SLICE. -/
def outsider (s : State) (m : Msg) : Bool :=
  let pkg := if cellClass m.ty = some 1 then bits (m.words.getD 4 0).toNat 11 0 else m.spkg
  lockSet s && m.ty != 3 && m.ty != 7 && m.ty != 0x0B && !memberPkg s m.slice pkg

/-- R298, R301: a whole message at endpoint `d`. -/
def performWhole (s : State) (d : Nat) (m : Msg) (hit : Bool) : MsgRes :=
  if dieState s d = 2 then .done (fencedMsg s d m)
  else match sgOfSlice s m.slice with
    | none => .done (answer s d m 3 0)
    | some sg =>
      if outsider s m then .done (answer s d m 3 0) else
      let inWindow := decide (0x200000000 ≤ (m.words.getD 0 0).toNat) && decide ((m.words.getD 0 0).toNat < 0x400000000)
      if sgState s sg = 2 && inWindow && m.ty != 7 && m.ty != 9 then .later
      else if m.ty = 1 ∨ m.ty = 0x0C then performWrite s d sg m hit
      else if m.ty = 3 ∨ m.ty = 0x0B then performRead s d sg m hit
      else if m.ty = 7 then .done (performMsg s d sg m)
      else if m.ty = 9 then .done (performSig s d sg m)
      else if lockSet s && decide (bits (m.words.getD 1 0).toNat 35 32 < 5) then .done (modNi s d fun n => { n with atoms := n.atoms ++ [heldOf m] })
      else performAtom s d sg m hit

/-- MESSAGE_REASSEMBLED (R298): message `i` of the reassembly store of die `d`. `hit` is what the translation buffer finds. -/
def execMessageReassembled (d i : Nat) (hit : Bool) (s : State) : Out :=
  let n := getNi s d
  match n.reasm[i]? with
  | none => .next s
  | some r =>
    let cls := cellClass r.first.ty
    if (cls = some 0 ∨ cls = some 1) ∧ reasmWhole r ∧ dieState s d != 1 then
      let s' := setNi s d { n with reasm := n.reasm.eraseIdx i }
      let m := reasmMsg r
      if r.refused then .next (answer s' d m 1 0)
      else match r.hold with
        | some t => if t < 1024 then .next s else .next (setNi s d { n with reasm := n.reasm.set i { r with hold := none } })
        | none =>
          match performWhole s' d m hit with
          | .done s => .next s
          | .hold s1 t => .next (modNi s1 d fun n => { n with reasm := n.reasm.insertIdx i { r with hold := some t } })
          | .later => .next s
    else .next s

/-! ### RESPONSE_MATCH (R296, R332) -/

/-- R332: a response with ECE lowers the rate toward its package. -/
def rateReset : RateSt := { rate := 1024, lastDec := 0, lastInc := 0, tokens := 64000, filled := 0 }
def getRate (s : State) (d pkg : Nat) : RateSt := tblGet (fun _ => rateReset) (getNi s d).rate pkg
def setRate (s : State) (d pkg : Nat) (r : RateSt) : State := modNi s d fun n => { n with rate := tblSet (fun _ => rateReset) n.rate pkg r }

/-- The local destination of a read. -/
def frdDest (r : OutReq) : Option Region :=
  match r with
  | .frd la _ _ _ => some la
  | _ => none

/-- A response that matches request `q`. -/
def takeResponse (s : State) (d q : Nat) (o : NiOut) (m : Msg) : State :=
  let w0 := m.words.getD 0 0
  let st := statusOf w0
  let s := modNi s d fun n => { n with out := tblErase n.out q }
  let c := o.who.core
  match o.who.req with
  | .coll kind h _ _ _ =>
    let gn := h.toNat % 4096
    if kind = .alltoall then
      modNode s gn d fun x => { x with locals := x.locals.map fun l => if l.who = o.who then { l with acks := l.acks - 1 } else l }
    else modNode s gn d fun x => { x with closesOut := x.closesOut - 1 }
  | .frd la _ _ _ =>
    let n := if st = 0 then statusLen w0 else 0
    let x : Asker := { die := d, sg := (getCore s c).sg, mid := midCore c, src := 0 }
    let s := match agentWrite s x c o.who.thread o.who.issue (regionAdd la o.part) ((m.data.take n).map mOn) false with
      | .ok s _ _ => s
      | _ => s
    finishPart s d o.who st (statusLen w0) 0
  | _ => finishPart s d o.who st (statusLen w0) (m.words.getD 1 0)

/-- RESPONSE_MATCH: message `i` of the store of die `d`, a response; it is dropped as late when nothing matches. The ECE of a
response is counted here; ECE_DECREASE lowers the rate. -/
def execResponseMatch (d i : Nat) (s : State) : Out :=
  let n := getNi s d
  match n.reasm[i]? with
  | none => .next s
  | some r =>
    if cellClass r.first.ty = some 2 ∧ reasmWhole r then
      let s' := setNi s d { n with reasm := n.reasm.eraseIdx i }
      let m := reasmMsg r
      let s' := if m.ece then modNi (fadd s' r_FAB_CC_ECE f_FAB_CC_ECE_CNT 1) d fun n => { n with ece := addOnce n.ece m.spkg } else s'
      match tblFind n.out m.mseq with
      | some o =>
        if o.gen = m.gen ∧ m.gen = genOf s d then .next (niRetry (takeResponse s' d m.mseq o m) d)
        else .next (modNi s' d fun n => { n with late := n.late + 1 })
      | none => .next (modNi s' d fun n => { n with late := n.late + 1 })
    else .next s

end Sys2Proof.Machine
end

