-- ==== Sys2Proof/Machine/Wheel.lean ====
section
/-! DEFINITION. Machine/Wheel.lean: routing, arbitration and transfers of cells: WHEEL_ROUTE, OUTPUT_ARBITRATE, PANEL_TRANSFER,
CELL_AGE_DISCARD, ECE_DECREASE, RATE_INCREASE (spec/10 R308 to R333; spec/09 R284, R287, R293, R303, R305). -/

namespace Sys2Proof.Machine

/-! ### Optical links as outputs -/

def linkKey (w l : Nat) : Nat := w * 12 + l
/-- FAB_LNK_STAT.STATE of a link. -/
def linkState (s : State) (w l : Nat) : Nat := fget s (r_FAB_LNK_STAT w l) f_FAB_LNK_STAT_STATE
def linkLive (s : State) (w l : Nat) : Bool := linkState s w l == 5

/-- The input ports of a wheel: links 0 to 11, 12 + node for panel and spoke links, 33 for the agent and the adder, which send while their wick is lit
(R32, R328). -/
def wheelIn (s : State) (w port : Nat) : List LCell :=
  if port < 12 then (getLink s (linkKey w port)).rx.buf
  else if port = 33 then (if (getWick s (17 + w)).lit then (getWheel s w).own.map Prod.snd else [])
  else (getPanel s (port - 12) (16 + w)).rx.buf
def wheelPorts : List Nat := List.range 34

/-- Cells queued toward an output: those for which it has been chosen. -/
def queued (s : State) (w out : Nat) : Nat :=
  ((getWheel s w).choice.map fun p => (p.2.filter fun q => q.2.out == out).length).foldl (· + ·) 0

/-- CAP of FAB_VC_BUF(v). -/
def vcCap (s : State) (w v : Nat) : Nat := fget s (r_FAB_VC_BUF w v) f_FAB_VC_BUF_CAP

/-- R303, R284: can a link take a cell on VC `v`? -/
def linkTakes (s : State) (w l v : Nat) : Bool :=
  linkLive s w l && hasCredit (getLink s (linkKey w l)).tx v (vcCap s w v) && decide ((getLink s (linkKey w l)).tx.buf.length < 8192)

/-- The link among `ls` with the fewest cells queued toward it, the lower number on a tie. -/
def fewest (s : State) (w : Nat) (ls : List Nat) : Option Nat :=
  ls.foldl (fun best l => match best with
    | none => some l
    | some b => if queued s w l < queued s w b then some l else some b) none

/-- R308: the links of a direction. -/
def dirLinks (d : Nat) : List Nat := [2 * d, 2 * d + 1]

/-! ### WHEEL_ROUTE -/

/-- R325: state of a bank, and the entry of a package in it; a bank that is not CURRENT or DRAINING reads VALID = 0. -/
def bankState (s : State) (w b : Nat) : Nat := fget s (r_FAB_RT_STAT w) (if b = 0 then f_FAB_RT_STAT_B0ST else f_FAB_RT_STAT_B1ST)
def bankEntry (s : State) (w b pkg : Nat) : BitVec 16 :=
  tblGet (fun _ => 0#16) (if b = 0 then (getWheel s w).bank0 else (getWheel s w).bank1) pkg
def routeEntry (s : State) (w : Nat) (c : Cell) : BitVec 16 :=
  let b := b2n c.epoch
  if bankState s w b = 2 || bankState s w b = 3 then bankEntry s w b c.dpkg else 0#16

/-- What routing comes to. -/
inductive RouteRes where
  | choose (c : Choice)
  | wait (noRoute : Bool)
  | drop
  deriving DecidableEq, Repr

/-- R311 Table 2. -/
def routeLocal (s : State) (w : Nat) (c : Cell) : RouteRes :=
  let k := (cellClass c.ty).getD 4
  if c.dep < 16 then .choose { out := 12 + entryDie w c.dep, vc := inboundVc k, fallback := false }
  else if c.dep = 16 then (if k = 4 then .choose { out := 32, vc := inboundVc k, fallback := false } else .drop)
  else if c.dep ≤ 20 then (if k = 4 ∧ c.dep = 17 + w then .choose { out := 28 + w, vc := c.vc, fallback := false } else .drop)
  else match (List.range 12).find? fun l => (getLink s (linkKey w l)).attach == some c.dep && linkLive s w l with
    | some l => .choose { out := l, vc := inboundVc k, fallback := false }
    | none => .drop

/-- R315 steps 2 and 3, R316, R318: `escaped` tells that the cell keeps to escape VCs. -/
def routeAway (s : State) (w : Nat) (c : Cell) (e : BitVec 16) (escaped : Bool) : RouteRes :=
  let k := (cellClass c.ty).getD 4
  let minimal := ((List.range 6).filter fun d => e.getLsbD (2 + d)).flatMap dirLinks
  let adaptive := if k = 4 then [] else minimal.filter fun l => linkTakes s w l (adaptiveVc k)
  match (if escaped then none else fewest s w adaptive) with
  | some l => .choose { out := l, vc := adaptiveVc k, fallback := false }
  | none =>
    let esc := bits e.toNat 10 8
    match fewest s w ((if esc < 6 then dirLinks esc else []).filter (linkLive s w)) with
    | some l => .choose { out := l, vc := escapeVc k (e.getLsbD 11), fallback := false }
    | none =>
      match fewest s w adaptive with
      | some l => .choose { out := l, vc := adaptiveVc k, fallback := true }
      | none => .wait true

/-- What a wheel chooses for a cell of an input port. `target` is the adder's next node for a cell of its own. -/
def routeCell (s : State) (w port : Nat) (c : Cell) (target : Option Nat) : RouteRes :=
  let k := (cellClass c.ty).getD 4
  if cellMalformed { c with vc := if port = 33 then adaptiveVc k else c.vc, crc := 0 } && port != 33 then .drop
  else match target with
    | some t =>
      if 8 ≤ t then .choose { out := 12 + entryDie w (t - 8), vc := inboundVc k, fallback := false }
      else match fewest s w ((dirLinks t).filter (linkLive s w)) with
        | some l => .choose { out := l, vc := adaptiveVc k, fallback := false }
        | none => .wait true
    | none =>
      if k = 3 then .choose { out := 28 + w, vc := c.vc, fallback := false }
      else
        let e := routeEntry s w c
        if !e.getLsbD 0 then .drop
        else if e.getLsbD 1 then routeLocal s w c
        else routeAway s w c e (decide (port < 12) && isEscape c.vc && k != 4)

/-- The choice kept for a cell. -/
def choiceAt (x : Wheel) (port pos : Nat) : Option Choice := tblFind (tblGet (fun _ => []) x.choice port) pos
def setChoice (x : Wheel) (port pos : Nat) (c : Choice) : Wheel :=
  { x with choice := tblModify (fun _ => []) x.choice port fun t => tblPut t pos c }
/-- After the cell at a place has left, the later cells move up. -/
def dropChoice (x : Wheel) (port pos : Nat) : Wheel :=
  { x with choice := tblModify (fun _ => []) x.choice port fun t =>
      t.filterMap fun p => if p.1 = pos then none else if pos < p.1 then some (p.1 - 1, p.2) else some p }

/-- FAB_VC_OCC of a link's receive buffer. -/
def syncOcc (s : State) (w l v : Nat) : State :=
  let n := ((getLink s (linkKey w l)).rx.buf.filter fun c => c.cell.vc == v).length
  let s := fput s (r_FAB_VC_OCC w l v) f_FAB_VC_OCC_OCC n
  if fget s (r_FAB_VC_OCC w l v) f_FAB_VC_OCC_HWM < n then fput s (r_FAB_VC_OCC w l v) f_FAB_VC_OCC_HWM n else s

/-- Takes a cell out of an input port of a wheel. -/
def wheelTake (s : State) (w port pos : Nat) (c : LCell) : State :=
  let s := modWheel s w fun x => { dropChoice x port pos with waited := x.waited.filter (· != headerNat c.cell) }
  if port < 12 then
    syncOcc (modLink s (linkKey w port) fun l => { l with rx := { rxFree l.rx c.cell.vc c.pool with buf := l.rx.buf.eraseIdx pos } }) w port c.cell.vc
  else if port = 33 then modWheel s w fun x => { x with own := x.own.eraseIdx pos }
  else modPanel s (port - 12) (16 + w) fun l => { l with rx := { rxFree l.rx c.cell.vc c.pool with buf := l.rx.buf.eraseIdx pos } }

/-- R305, R314: a malformed or undeliverable cell of a wheel. -/
def wheelDropHdr (s : State) (w port : Nat) (x : LCell) : State :=
  let c := x.cell
  let s := if port < 12 then fput (fadd s (r_FAB_DROP_HDR w port) f_FAB_DROP_HDR_CNT 1) (r_FAB_LNK_ERR w port) f_FAB_LNK_ERR_HDR 1 else s
  let s := raise s { eventOf s (srcWheel w 7) with slice := some c.slice, mid := midRemote c.spkg }
  cellLoss s (srcWheel w 6) x

/-- WHEEL_ROUTE: wheel `w` chooses an output for the cell at place `pos` of an input port. -/
def execWheelRoute (w port pos : Nat) (s : State) : Out :=
  match (if w < 4 then (wheelIn s w port)[pos]? else none) with
  | none => .next s
  | some c =>
    let target := if port = 33 then ((getWheel s w).own[pos]?).bind Prod.fst else none
    match routeCell s w port c.cell target with
    | .choose ch => .next (modWheel s w fun x => setChoice x port pos ch)
    | .drop => .next (wheelDropHdr (wheelTake s w port pos c) w port c)
    | .wait _ =>
      let x := getWheel s w
      let key := headerNat c.cell
      if x.waited.contains key then .next s
      else .next (fadd (modWheel s w fun x => { x with waited := key :: x.waited }) (r_FAB_RT_WAIT w) f_FAB_RT_WAIT_CNT 1)

/-! ### OUTPUT_ARBITRATE -/

/-- The cells of a wheel that are ready for output `out`. -/
def wheelReady (s : State) (w out : Nat) : List Ready :=
  wheelPorts.flatMap fun port => ((wheelIn s w port).zipIdx).filterMap fun p =>
    match choiceAt (getWheel s w) port p.2 with
    | some ch =>
      if ch.out = out ∧ !tooOld p.1 s.tb.tb then
        (if out < 12 then (if linkTakes s w out ch.vc then some { port := port, pos := p.2, cell := p.1, vc := ch.vc } else none)
         else if out = 28 + w then some { port := port, pos := p.2, cell := p.1, vc := ch.vc }
         else if hasCredit (getPanel s (16 + w) (out - 12)).tx ch.vc panelCap ∧ (getPanel s (16 + w) (out - 12)).tx.buf.length < 256
           then some { port := port, pos := p.2, cell := p.1, vc := ch.vc } else none)
      else none
    | none => none

/-- R331: does a wheel mark the cell? -/
def ceMark (s : State) (w port : Nat) (c : Cell) : Bool :=
  match cellClass c.ty with
  | some k =>
    decide (k ≤ 1) && decide (port < 12)
    && decide (fget s (r_FAB_CE_THR w c.vc) f_FAB_CE_THR_THR < ((getLink s (linkKey w port)).rx.buf.filter fun x => x.cell.vc == c.vc).length)
  | none => false

/-- A cell that leaves on an optical link. -/
def sendOptical (s : State) (w l : Nat) (c : LCell) (vc : Nat) : State :=
  let agef := agefAt c s.tb.tb
  let (t, pool) := takeCredit (getLink s (linkKey w l)).tx vc
  let out : LCell := { cell := { c.cell with vc := vc, age := ageClass agef }, pool := pool, agef := agef, arr := s.tb.tb }
  let s := modLink s (linkKey w l) fun x => { x with tx := txPush t out s.tb.tb }
  let s := cadd s (r_FAB_VC_CELLS_LO w l vc) (r_FAB_VC_CELLS_HI w l vc) 1
  let s := cadd s (r_FAB_VC_WORDS_LO w l vc) (r_FAB_VC_WORDS_HI w l vc) c.cell.plen
  emitSent s (.cell w l out)

/-- R334: what the routing counters count of a cell that leaves. -/
def routeCounts (s : State) (w port : Nat) (c : Cell) (vc : Nat) (fallback : Bool) : State :=
  let k := (cellClass c.ty).getD 4
  let s := if k != 4 && vc == adaptiveVc k then fadd s (r_FAB_RT_ADAPT w) f_FAB_RT_ADAPT_CNT 1 else s
  let s := if k != 4 && isEscape vc && !(decide (port < 12) && isEscape c.vc) then fadd s (r_FAB_RT_ESC w) f_FAB_RT_ESC_CNT 1 else s
  if fallback then fadd s (r_FAB_RT_FALLBK w) f_FAB_RT_FALLBK_CNT 1 else s

/-- The port of a wheel from which a COL cell comes, as a child or the parent (99) of its group. -/
def colFrom (s : State) (port : Nat) (c : Cell) : Nat :=
  if port < 12 then (if (getGroup s (c.ctx % 4096)).parent = port / 2 then 99 else port / 2) else 8 + c.sep

/-- A wheel's output takes a cell. -/
def wheelSend (s : State) (w out : Nat) (r : Ready) : State :=
  let x := getWheel s w
  let fb := ((choiceAt x r.port r.pos).map Choice.fallback).getD false
  let mark := ceMark s w r.port r.cell.cell && out < 12
  let c := r.cell.cell
  let c := if r.port = 33 then stamp c r.vc x.epoch else c
  let lc : LCell := { r.cell with cell := { c with ce := c.ce || mark } }
  let s := noteWin (wheelTake s w r.port r.pos r.cell) (16 + w) out r
  if out < 12 then
    let s := if mark then fadd s (r_FAB_CE_MARKS w out) f_FAB_CE_MARKS_CNT 1 else s
    sendOptical (routeCounts s w r.port r.cell.cell r.vc fb) w out lc r.vc
  else if out = 28 + w then
    (if cellClass c.ty = some 3 then
      injected [srcWheel w 6, srcWheel w 8] none (16 + w) (if crcOk c then .clean else .uncorrectable) (fun e s =>
        if e = .clean then colArrive s (16 + w) (colFrom s r.port c) c
        else raise s { eventOf s (srcWheel w 8) with slice := some c.slice, sg := sgOfSlice s c.slice }) s
     else s)
  else sendPanel s (16 + w) (out - 12) lc r.vc

/-- R333: tokens of the bucket toward a package, now. -/
def tokensNow (s : State) (r : RateSt) : Nat := min 64000 (r.tokens + r.rate * (s.tb.tb - r.filled).toNat)
/-- R333: may the NI send the cell? REQ and FWD cells to another package are limited while RATE is below 1,024. -/
def rateAllows (s : State) (d : Nat) (c : Cell) : Bool :=
  match cellClass c.ty with
  | some k => decide (1 < k) || c.dpkg == myPkg s || (getRate s d c.dpkg).rate == 1024 || decide (1000 ≤ tokensNow s (getRate s d c.dpkg))
  | none => true
def takeToken (s : State) (d : Nat) (c : Cell) : State :=
  let r := getRate s d c.dpkg
  if c.dpkg == myPkg s || r.rate == 1024 || decide (1 < (cellClass c.ty).getD 4) then s
  else setRate s d c.dpkg { r with tokens := tokensNow s r - 1000, filled := s.tb.tb }

/-- FAB_CC_LIMUS: a cell that found no token, and the time for which it waited. -/
def limitNote (s : State) (d : Nat) : State := modNi s d fun n => if n.limited.isSome then n else { n with limited := some s.tb.tb }
def limitEnd (s : State) (d : Nat) : State :=
  match (getNi s d).limited with
  | some t => modNi (fadd s r_FAB_CC_LIMUS f_FAB_CC_LIMUS_US ((s.tb.tb - t).toNat / 1000)) d fun n => { n with limited := none }
  | none => s

/-- An output of a die or of CTL takes a cell. -/
def nodeSend (s : State) (node out : Nat) (r : Ready) : State :=
  let own := decide (r.port = 0)
  let c := if own then stamp r.cell.cell r.vc (getNi s node).epoch else r.cell.cell
  let s := if own then takeToken (limitEnd s node) node c else s
  let s := noteWin (takeIn s node r.port r.pos r.cell) node out r
  if out = node then (if node < 16 then niCell s node { r.cell with cell := c } fun s c => colArrive s node 99 c else s)
  else sendPanel s node out { r.cell with cell := c } r.vc

/-- OUTPUT_ARBITRATE: output `out` of a die (0 to 15), a wheel (16 to 19) or CTL (20) takes the next cell (R329). A wheel's outputs
are links 0 to 11 and 12 + node; those of a die or of CTL are nodes, the node itself being its endpoint. -/
def execOutputArbitrate (node out : Nat) (s : State) : Out :=
  if 16 ≤ node ∧ node < 20 then
    let w := node - 16
    match arbitrate s.tb.tb (lastOf s node out) (lastPortOf s node out) (wheelReady s w out) with
    | none => .next s
    | some r => .next (wheelSend s w out r)
  else if node ≤ 20 then
    let rs := (nodeReady s node out).filter fun r => !tooOld r.cell s.tb.tb && (r.port != 0 || dieState s node != 1)
      && (out != node || node == 20 || niTakes s node r.cell.cell) && (out == node || decide ((getPanel s node out).tx.buf.length < 256))
    let ok := rs.filter fun r => r.port != 0 || rateAllows s node r.cell.cell
    let s := if rs.length != ok.length then limitNote s node else s
    match arbitrate s.tb.tb (lastOf s node out) (lastPortOf s node out) ok with
    | none => .next s
    | some r => .next (nodeSend s node out r)
  else .next s

/-! ### PANEL_TRANSFER (R287) -/

/-- What a good transfer from `a` to `b` tells about the opposite direction: ASEQ, AK and the freed count of one VC. -/
def panelControl (s : State) (a b cvc : Nat) : State :=
  modPanel s b a fun l =>
    let t := txAck l.tx l.rx.exp s.tb.tb
    let t := if l.rx.nakDue then { t with cur := 0, replays := t.replays + 1 } else t
    let t := if cvc < 14 then creditD t cvc (l.rx.freedD.getD cvc 0) else if cvc = 14 then creditS t l.rx.freedS else t
    { l with tx := t, rx := { l.rx with nakDue := false } }

/-- The cell of a transfer at its receiver. -/
def panelArrive (s : State) (a b q : Nat) (c : LCell) : State :=
  let l := getPanel s a b
  let (rx, what) := rxSeq l.rx q
  match what with
  | .taken =>
    let c : LCell := { c with agef := min 0xFFFFF (agefAt c s.tb.tb + 1), arr := s.tb.tb }
    if agefLimit ≤ c.agef then cellLoss (modPanel s a b fun l => { l with rx := rxFree rx c.cell.vc c.pool }) (if b < 16 then srcDie b 23 else srcWheel (b - 16) 6) c
    else modPanel s a b fun l => { l with rx := { rx with buf := rx.buf ++ [c] } }
  | _ => modPanel s a b fun l => { l with rx := rx }

/-- PANEL_TRANSFER from node `a` to node `b`: `bad` when its CRC-32C fails, `cvc` the VC whose freed count it carries. -/
def execPanelTransfer (a b : Nat) (bad : Bool) (cvc : Nat) (s : State) : Out :=
  if !panelAdj a b then .next s
  else
    let t := (getPanel s a b).tx
    let s1 := modPanel s a b fun l => { l with tx := { l.tx with cur := min (l.tx.cur + 1) l.tx.buf.length } }
    if bad then .next s1
    else
      let s2 := panelControl s1 a b cvc
      let s3 := match t.buf[t.cur]? with
        | some (q, c) => panelArrive s2 a b q c
        | none => s2
      -- R429 PLINK: replays without progress; their number is a model's choice
      if 16 ≤ (getPanel s3 b a).tx.replays ∧ (getPanel s2 b a).tx.replays != t.replays ∧ b < 16 then
        .next (raiseSrc (modPanel s3 b a fun l => { l with tx := { l.tx with replays := 0 } }) (srcDie b 25))
      else .next s3

/-! ### CELL_AGE_DISCARD (R293) -/

/-- CELL_AGE_DISCARD: the cell at place `pos` of an input port of a node has reached 4 ms. -/
def execCellAgeDiscard (node port pos : Nat) (s : State) : Out :=
  if 16 ≤ node ∧ node < 20 then
    let w := node - 16
    match (wheelIn s w port)[pos]? with
    | some c =>
      if tooOld c s.tb.tb then
        let s := if port < 12 then fadd s (r_FAB_DROP_AGE w port) f_FAB_DROP_AGE_CNT 1 else s
        .next (cellLoss (wheelTake s w port pos c) (srcWheel w 6) c)
      else .next s
    | none => .next s
  else
    match (inCells s node port)[pos]? with
    | some c => if tooOld c s.tb.tb then .next (cellLoss (takeIn s node port pos c) (srcDie (node % 16) 23) c) else .next s
    | none => .next s

/-! ### Rates (R332) -/

/-- ECE_DECREASE: NI `d` acts on a response with ECE from package `pkg`. -/
def execEceDecrease (d pkg : Nat) (s : State) : Out :=
  let n := getNi s d
  if !n.ece.contains pkg then .next s
  else
    let s := setNi s d { n with ece := n.ece.filter (· != pkg) }
    let r := getRate s d pkg
    if fbit s r_FAB_CC_CTL f_FAB_CC_CTL_EN && (r.lastDec == 0 || decide (fget s r_FAB_CC_TIME f_FAB_CC_TIME_HOLD * 1000 ≤ (s.tb.tb - r.lastDec).toNat)) then
      let rate := max (fget s r_FAB_CC_CTL f_FAB_CC_CTL_RMIN) (r.rate - r.rate >>> fget s r_FAB_CC_CTL f_FAB_CC_CTL_MD)
      .next (setRate s d pkg { rate := rate, lastDec := s.tb.tb, lastInc := r.lastInc, tokens := tokensNow s r, filled := s.tb.tb })
    else .next s

/-- The later of two times. -/
def laterTb (a b : W64) : W64 := if a.toNat ≤ b.toNat then b else a

/-- RATE_INCREASE: AIINT µs have passed since the later of the last decrease and the last increase. -/
def execRateIncrease (d pkg : Nat) (s : State) : Out :=
  let r := getRate s d pkg
  let since := laterTb r.lastDec r.lastInc
  when_ (fbit s r_FAB_CC_CTL f_FAB_CC_CTL_EN && decide (r.rate < 1024) && decide (fget s r_FAB_CC_TIME f_FAB_CC_TIME_AIINT * 1000 ≤ (s.tb.tb - since).toNat)) s
    (setRate s d pkg { rate := min 1024 (r.rate + fget s r_FAB_CC_AI f_FAB_CC_AI_AI), lastDec := r.lastDec,
                       lastInc := since + BitVec.ofNat 64 (fget s r_FAB_CC_TIME f_FAB_CC_TIME_AIINT * 1000),
                       tokens := tokensNow s r, filled := s.tb.tb })

end Sys2Proof.Machine
end

