-- ==== Sys2Proof/Machine/Flood.lean ====
section
/-! DEFINITION. Machine/Flood.lean: M_HELLO of the wheel agents and the flooding of link state (spec/12 R367, R374 to R376). -/

namespace Sys2Proof.Machine

/-- R364: a stopped kiln sends nothing; R367: without a package ID it takes no part in the fabric. -/
def kilnOn (s : State) : Bool := !s.rst.restarting && fbit s r_KLN_ENUM f_KLN_ENUM_PKGV
def kilnRole (s : State) : Nat := fget s r_KLN_STAT f_KLN_STAT_ROLE
def setRole (s : State) (r : Nat) : State := fput s r_KLN_STAT f_KLN_STAT_ROLE r
def kilnTerm (s : State) : Nat := fget s r_KLN_TERM f_KLN_TERM_TERM

/-! ### M_HELLO LINK (R374) -/

def moduleSerial (s : State) : Nat := pairGet s r_ID_SER_LO r_ID_SER_HI
/-- Table 5, SUB 0: the words that this end of a link sends. -/
def helloWords (s : State) (w l : Nat) : List Nat :=
  let e := rget s r_KLN_ENUM
  let echo := match (getLink s (linkKey w l)).peer with
    | some (p, w', l') => p + 2 ^ 12 + w' * 2 ^ 13 + l' * 2 ^ 15
    | none => 0
  let cfg := rget s r_KLN_CFG
  let pr := rget s r_KLN_PAIR
  let fm := rget s r_KLN_FMPKG
  [0 + 1 * 16 + fldGet e f_KLN_ENUM_PKG * 2 ^ 8 + fldGet e f_KLN_ENUM_PKGV * 2 ^ 20 + w * 2 ^ 21 + l * 2 ^ 23, moduleSerial s, echo,
   fldGet cfg f_KLN_CFG_CAND + fldGet pr f_KLN_PAIR_PEERV * 2 + fldGet cfg f_KLN_CFG_PRI * 4 + fldGet pr f_KLN_PAIR_PEER * 2 ^ 10
     + kilnTerm s * 2 ^ 22 + fldGet fm f_KLN_FMPKG_ACT * 2 ^ 46 + fldGet fm f_KLN_FMPKG_ACTV * 2 ^ 58,
   (rget s r_KLN_EPOCH).toNat + ((tblGet (fun _ => (0, 0#64)) s.kln.helloSent (linkKey w l)).1 % 2 ^ 32) * 2 ^ 32]
/-- The wheel agent sends SUB 0 on its ACTIVE link. -/
def sendHello (s : State) (w l : Nat) : State :=
  if linkLive s w l then
    let s := sendLocal s (17 + w) 0x18 0xFFF (17 + w) w l (helloWords s w l)
    modKln s fun k => { k with helloSent := tblModify (fun _ => (0, 0#64)) k.helloSent (linkKey w l) fun p => (p.1 + 1, s.tb.tb) }
  else s

/-! ### Exclusion (R375) -/

def getHello (s : State) (w l : Nat) : Option HelloSt := if linkLive s w l then tblFind s.kln.hello (linkKey w l) else none
def allLinks : List (Nat × Nat) := (List.range 4).flatMap fun w => (List.range 12).map fun l => (w, l)
/-- The package that most links of a direction reach, the lower on a tie. -/
def dirNeighbour (s : State) (d : Nat) : Option Nat :=
  let ps := ((List.range 4).flatMap fun w => (dirPair d).filterMap fun l => getHello s w l).map HelloSt.pkg
  ps.foldl (fun best p => match best with
    | none => some p
    | some b => if ps.count b < ps.count p || (ps.count b == ps.count p && decide (p < b)) then some p else some b) none
/-- Do two serial numbers claim this package? -/
def doubleClaim (s : State) (pkg : Nat) : Bool :=
  match allLinks.filterMap fun x => (getHello s x.1 x.2).filter fun h => h.pkgv && h.pkg == pkg with
  | [] => false
  | h :: hs => hs.any fun g => g.serial != h.serial
def linkExcluded (s : State) (w l : Nat) : Bool :=
  match getHello s w l with
  | none => false
  | some h =>
    if (getLink s (linkKey w l)).attach.isSome then false
    else !h.pkgv || h.pkg == myPkg s || h.wheel != w || h.link / 2 != (l / 2) ^^^ 1 || dirNeighbour s (l / 2) != some h.pkg || doubleClaim s h.pkg

/-! ### Link state (R376) -/

/-- The word of one of this module's links. -/
def ownLink (s : State) (w l : Nat) : Nat :=
  let att := (getLink s (linkKey w l)).attach.isSome
  match getHello s w l with
  | some h => h.pkg % 4096 + b2n h.twoWay * 2 ^ 12 + b2n att * 2 ^ 13 + b2n (linkExcluded s w l) * 2 ^ 14
  | none => b2n (att && linkLive s w l) * 2 ^ 12 + b2n att * 2 ^ 13
def ownPart (s : State) (part : Nat) : LsrPart :=
  { seq := s.kln.lsrSeq, term := kilnTerm s, cand := fbit s r_KLN_CFG f_KLN_CFG_CAND,
    peer := if fbit s r_KLN_PAIR f_KLN_PAIR_PEERV then some (fget s r_KLN_PAIR f_KLN_PAIR_PEER) else none,
    pri := fget s r_KLN_CFG f_KLN_CFG_PRI, links := (List.range 24).map fun i => ownLink s (2 * part + i / 12) (i % 12), heard := s.tb.tb }
/-- Table 11, LSR. -/
def lsrWords (origin part : Nat) (p : LsrPart) : List Nat :=
  [p.seq + p.term * 2 ^ 32 + 0x30 * 2 ^ 56,
   origin + part * 2 ^ 12 + b2n p.cand * 2 ^ 13 + b2n p.peer.isSome * 2 ^ 14 + p.pri * 2 ^ 15 + p.peer.getD 0 * 2 ^ 23]
  ++ (List.range 6).map fun i => (List.range 4).foldl (fun a j => a + p.links.getD (4 * i + j) 0 * 2 ^ (16 * j)) 0
/-- Two parts with one content. -/
def samePart (a b : LsrPart) : Bool := a.cand == b.cand && a.peer == b.peer && a.pri == b.pri && a.links == b.links && a.term == b.term
/-- The neighbours of this module, each with its lowest live link. -/
def neighbours (s : State) : List (Nat × Nat × Nat) :=
  allLinks.foldl (fun acc x => match getHello s x.1 x.2 with
    | some h => if h.pkgv && !linkExcluded s x.1 x.2 && !(getLink s (linkKey x.1 x.2)).attach.isSome && !(acc.any fun p => p.1 == h.pkg) then
        acc ++ [(h.pkg, x.1, x.2)] else acc
    | none => acc) []
/-- Sends a part to every neighbour but one. -/
def floodPart (s : State) (origin part : Nat) (but : Option Nat) : State :=
  match tblFind s.kln.lsr (2 * origin + part) with
  | some p =>
    each ((neighbours s).filter fun n => some n.1 != but) (fun s n => sendLocal s 16 0x1F n.1 16 n.2.1 n.2.2 (lsrWords origin part p)) s
  | none => s

/-- KLN_TOPO and KLN_LNKUP follow the link state. -/
def syncTopo (s : State) : State :=
  let words := s.kln.lsr.flatMap fun p => p.2.links
  let s := fput s r_KLN_TOPO f_KLN_TOPO_NPKG (packages (topoOf s)).length
  let s := fput s r_KLN_TOPO f_KLN_TOPO_XLINK (min 65535 (words.filter fun x => bitAt x 14).length)
  fput s r_KLN_LNKUP f_KLN_LNKUP_UP (((words.filter fun x => bitAt x 12 && !bitAt x 13 && !bitAt x 14).length / 2) % 2 ^ 18)
/-- A change of content: topology is no longer quiet. -/
def noteChange (s : State) : State := syncTopo (fput (modKln s fun k => { k with changed := s.tb.tb }) r_KLN_STAT f_KLN_STAT_QUIET 0)
def putOwn (s : State) : State :=
  let s := modKln s fun k => { k with lsrSeq := (k.lsrSeq + 1) % 2 ^ 32 }
  let me := myPkg s
  let a := ownPart s 0
  let b := ownPart s 1
  modKln s fun k => { k with lsr := tblPut (tblPut k.lsr (2 * me) a) (2 * me + 1) b, flooded := s.tb.tb }
def sendOwn (s : State) : State := floodPart (floodPart s (myPkg s) 0 none) (myPkg s) 1 none
/-- R374, R376: the kiln sees whether its own link state has changed, and floods it. -/
def kilnLooks (s : State) : State :=
  if !kilnOn s then s
  else
    let me := myPkg s
    let s := if allLinks.any fun x => linkExcluded s x.1 x.2 then fput s r_KLN_STAT f_KLN_STAT_MISWIRE 1 else s
    let s := if allLinks.any fun x => (getHello s x.1 x.2).any fun h => h.pkgv && doubleClaim s h.pkg then fput s r_KLN_STAT f_KLN_STAT_DUPPKG 1 else s
    let same (part : Nat) : Bool := (tblFind s.kln.lsr (2 * me + part)).any fun p => samePart p (ownPart s part)
    if same 0 && same 1 then s else sendOwn (noteChange (putOwn s))
/-- A link left ACTIVE, or reached it. -/
def linkSeen (s : State) (w l : Nat) : State :=
  if linkLive s w l then kilnLooks (sendHello s w l)
  else kilnLooks (modLink (modKln s fun k => { k with hello := tblErase k.hello (linkKey w l), joins := tblErase k.joins (linkKey w l) }) (linkKey w l)
    fun x => { x with peer := none })

end Sys2Proof.Machine
end

