-- ==== Sys2Proof/Machine/Log.lean ====
section
/-! DEFINITION. Machine/Log.lean: the recorder (spec/08 R259 to R264) and the lookup of keyed records in a replay (R267). -/

namespace Sys2Proof.Machine

def modStm (s : State) (f : StmSt → StmSt) : State := { s with stm := f s.stm }
def getStrm (s : State) (n : Nat) : Strm := tblGet (fun _ => strmReset) s.stm.strms n
def setStrm (s : State) (n : Nat) (x : Strm) : State := modStm s fun t => { t with strms := tblSet (fun _ => strmReset) t.strms n x }
def modStrm (s : State) (n : Nat) (f : Strm → Strm) : State := setStrm s n (f (getStrm s n))
def getLog (s : State) (sg : Nat) : LogSt := tblGet (fun _ => logReset) s.stm.logs sg
def modLog (s : State) (sg : Nat) (f : LogSt → LogSt) : State :=
  modStm s fun t => { t with logs := tblModify (fun _ => logReset) t.logs sg f }

/-- DET_LOG_STAT.ACTIVE: the log of a saggar is open. -/
def logActive (s : State) (sg : Nat) : Bool := fbit s (r_DET_LOG_STAT sg) f_DET_LOG_STAT_ACTIVE

/-- R264: a body padded to 16 bytes. -/
def padTo16 (bs : List Byte) : List Byte := bs ++ List.replicate ((16 - bs.length % 16) % 16) 0#8

/-- R264 Table 4: a record with its header and CRC. -/
def recBytes (ty sg lsn : Nat) (body : List Byte) : List Byte :=
  let b := padTo16 body
  let hdr (crc : Nat) : List Byte := leBytes 1 ty ++ leBytes 1 sg ++ leBytes 2 (1 + b.length / 16) ++ leBytes 4 crc ++ leBytes 8 lsn
  hdr (crc32cAdd 0#32 (hdr 0 ++ b)).toNat ++ b

/-- Bytes staged for a saggar, and whether `n` more fit the buffer of 4 MiB (R262). -/
def logUsed (s : State) (sg : Nat) : Nat := (getLog s sg).buf.foldl (fun a r => a + 16 + (padTo16 r.2).length) 0
def logFits (s : State) (sg n : Nat) : Bool := decide (logUsed s sg + n ≤ 4194304)

/-- R260, R262: stages a record. -/
def logPut (s : State) (sg ty : Nat) (body : List Byte) : State := modLog s sg fun l => { l with buf := l.buf ++ [(ty, body)] }

/-- R263: no room for a record. -/
def logBlock (s : State) (sg : Nat) : State := fput s (r_DET_LOG_STAT sg) f_DET_LOG_STAT_BLOCK 1
def logBlocked (s : State) (sg : Nat) : Bool := logActive s sg && fbit s (r_DET_LOG_STAT sg) f_DET_LOG_STAT_BLOCK

/-- Does the item that runs at the head of a stream belong to the log (R259)? -/
def itemLogged (s : State) (strm : Nat) : Bool := ((getStrm s strm).accepted.head?.map (·.logged)).getD false

/-- The key of TIME, FABRIC and FAULT records (Table 4). -/
def keyBytes (strm seq lcore thread sub : Nat) (cnt : W64) : List Byte :=
  leBytes 4 strm ++ leBytes 6 seq ++ leBytes 2 lcore ++ leBytes 1 thread ++ leBytes 3 sub ++ leBytes 8 cnt.toNat

/-- The SEQ of the item that runs on a stream. -/
def runSeq (s : State) (strm : Nat) : Nat := ((getStrm s strm).run.map fun r => r.rcd.seq).getD 0

/-- The stream that a keyed record names: in a replay, that of the log. -/
def keyStrm (s : State) (strm : Nat) : Nat := if strm = 65536 then ((getStrm s strm).run.map fun r => r.rcd.stream).getD 0 else strm
/-- The key of an operation of the item that runs on a stream. -/
def keyOf (s : State) (strm lcore thread sub : Nat) (cnt : W64) : List Byte :=
  keyBytes (keyStrm s strm) (runSeq s strm) lcore thread sub cnt

/-- R260: the record that a delivery needs: a TIME record of a TBRD, a FABRIC record of a message from outside the slice. -/
def deliveryRecord (s : State) (c : Core) (g : Gated) : Option (Nat × List Byte) :=
  let key (sub : Nat) := keyOf s c.strm c.lcore g.thread sub g.count
  match g.cls, g.result with
  | .timebase, some (.value v) => some (7, key 0 ++ leBytes 8 v.toNat)
  | _, some (.value v) => g.ext.map fun x =>
      (8, key 0 ++ leBytes 2 x.1 ++ leBytes 1 x.2.1 ++ leBytes 1 0 ++ leBytes 4 x.2.2.length ++ leBytes 8 v.toNat ++ leBytes 8 0 ++ x.2.2)
  | _, _ => none

/-- R261, R263: writes the record that a delivery needs, or answers nothing when there is no room. -/
def logDelivery (s : State) (c : Core) (g : Gated) : Option State :=
  if logActive s c.sg && itemLogged s c.strm then
    match deliveryRecord s c g with
    | none => some s
    | some (ty, body) => if logFits s c.sg (body.length + 32) && !logBlocked s c.sg then some (logPut s c.sg ty body) else none
  else some s

/-- R260: the FAULT record of a REFUSE resolution of an access (SUB: SRC of Table 6 of spec/06). -/
def logFault (s : State) (sg strm lcore thread sub : Nat) (cnt : W64) (va kind : Nat) : State :=
  if logActive s sg && itemLogged s strm then
    logPut s sg 9 (keyOf s strm lcore thread sub cnt ++ leBytes 8 va ++ leBytes 8 kind)
  else s

/-! ### The log that a replay reads (R265, R267) -/

def rplState (s : State) : Nat := fget s r_DET_RPL_STAT f_DET_RPL_STAT_STATE
/-- Is the replay engine running an item of this saggar? -/
def replaying (s : State) (sg : Nat) : Bool := (rplState s == 1 || rplState s == 2) && fget s r_DET_RPL_CTL f_DET_RPL_CTL_SG == sg
def rplBase (s : State) : Nat := fget s r_DET_RPL_LOG_LO f_DET_RPL_LOG_LO_ADDR * 64 + fget s r_DET_RPL_LOG_HI f_DET_RPL_LOG_HI_ADDR * 2 ^ 32
def rplLen (s : State) : Nat := fget s r_DET_RPL_LOG_LEN f_DET_RPL_LOG_LEN_LEN * 16

/-- A record as read from the log copy. -/
structure LogRec where
  off : Nat
  ty : Nat
  len : Nat
  lsn : Nat
  bytes : List Byte
  deriving DecidableEq, Repr

/-- R264: the record at an offset of the log copy, with its bytes; none when it is malformed. -/
def readRec (s : State) (off : Nat) : Option LogRec :=
  let a := rplBase s + off
  let n := hostNat s (a + 2) 2 * 16
  if n = 0 ∨ rplLen s < off + n then none
  else
    let bs := hostRead s a n
    let crc := leNat ((bs.drop 4).take 4)
    let zeroed := bs.take 4 ++ [0#8, 0#8, 0#8, 0#8] ++ bs.drop 8
    if (crc32cAdd 0#32 zeroed).toNat = crc then
      some { off := off, ty := hostNat s a 1, len := n, lsn := leNat ((bs.drop 8).take 8), bytes := bs }
    else none

/-- The first record from `off` on that satisfies `f`, reading at most `fuel` records. -/
def findRec (s : State) (f : LogRec → Bool) : Nat → Nat → Option LogRec
  | 0, _ => none
  | fuel + 1, off =>
    if rplLen s ≤ off then none
    else match readRec s off with
      | none => none
      | some r => if f r then some r else findRec s f fuel (off + r.len)

/-- R267: the keyed record of type `ty` that matches an operation of the replayed item. `strm` and `seq` are those of the log. -/
def findKeyed (s : State) (ty : Nat) (key : List Byte) : Option LogRec :=
  findRec s (fun r => r.ty == ty && (r.bytes.drop 16).take 13 == key.take 13 && (r.bytes.drop 32).take 8 == (key.drop 16).take 8)
    (rplLen s / 16 + 1) s.stm.rpl.pos

/-- R267: what the replay engine delivers in place of an external input: the value of a TIME record, the status word and payload of a
FABRIC record. -/
def replayValue (s : State) (c : Core) (thread : Nat) (cnt : W64) (ty : Nat) : Option (W64 × List Byte) :=
  (findKeyed s ty (keyOf s c.strm c.lcore thread 0 cnt)).map fun r =>
    if ty = 7 then (BitVec.ofNat 64 (leNat ((r.bytes.drop 40).take 8)), [])
    else (BitVec.ofNat 64 (leNat ((r.bytes.drop 48).take 8)), (r.bytes.drop 64).take (leNat ((r.bytes.drop 44).take 4)))

/-- R267, Table 7: the replay stops with a failure. -/
def rplFail (s : State) (code : Nat) : State :=
  fput (fput s r_DET_RPL_STAT f_DET_RPL_STAT_STATE 4) r_DET_RPL_STAT f_DET_RPL_STAT_ECODE code

end Sys2Proof.Machine
end

