-- ==== Sys2Proof/Machine/Resolve.lean ====
section
/-! DEFINITION. Machine/Resolve.lean: translation of thread accesses and the resolution of fault records: TRANSLATE_ACCESS,
FAULT_RETRY, FAULT_REFUSE, FAULT_TIMEOUT (spec/06 R192, R195 to R200; FAULT records of spec/08 R260 and R267). -/

namespace Sys2Proof.Machine

/-- R267: does the log that is replayed name a refusal of this access? -/
def replayRefused (s : State) (a : Access) : Bool :=
  let c := getCore s a.core
  replaying s a.sg && (findKeyed s 9 (keyOf s c.strm c.lcore a.thread 0 a.count)).isSome

/-- TRANSLATE_ACCESS (R192): access `id`, and whether the translation buffer holds its page. A fault creates or merges a record
and holds the access (R195, R198). -/
def execTranslateAccess (id : Nat) (hit : Bool) (s : State) : Out :=
  match getAcc s id with
  | some a =>
    match a.loc with
    | .tenant va =>
      if isWaiting a && decide (a.core < 131072) && dieUp s (dieOf a.core) then
        let d := dieOf a.core
        match translate s d a.sg va (needOf a.act) hit with
        | (s, .ok p) => .next (setStage s id (.ready p))
        | (s, .refused) => .next (setStage s id (.failed false))
        | (s, .fault k l) =>
          if replayRefused s a then .next (setStage s id (.failed false))
          else
            let (s, t) := faultRecord s d a.sg k l (midCore a.core) 0 (needOf a.act).acct va
            let s := setStage s id (.faulted t)
            .next (if lockSet s then beginStall s a.core else s)
      else .next s
    | _ => .next s
  | none => .next s

/-- R260: one FAULT record for each thread access and front-end transfer that a refusal of record `t` fails. -/
def logRefusal (s : State) (t : Nat) (r : FaultRec) : State :=
  let s := each (s.mem.acc.filter fun (p : Nat × Access) => p.2.stage == .faulted (some t)) (fun s p =>
    let c := getCore s p.2.core
    logFault s r.sg c.strm c.lcore p.2.thread r.src p.2.count r.va r.kind) s
  each (s.mem.dma.flatMap fun (p : Nat × DmaEng) => p.2.feq.filter fun x => x.st == .faulted (some t)) (fun s x => match x.who with
    | .item strm e => logFault s r.sg strm 0xFFFF 0 r.src (BitVec.ofNat 64 e) r.va r.kind
    | _ => s) s

/-- R199: a refusal, with its FAULT records. -/
def refuseFault (s : State) (t : Nat) : State :=
  match tblFind s.mem.faults t with
  | none => s
  | some r => resolveFault (logRefusal s t r) t false

/-- FAULT_RETRY (R199). -/
def execFaultRetry (tag : Nat) (s : State) : Out := .next (resolveFault s tag true)
/-- FAULT_REFUSE (R199). -/
def execFaultRefuse (tag : Nat) (s : State) : Out := .next (refuseFault s tag)
/-- FAULT_TIMEOUT (R199): the record has stood for MMU_CTL.FTMO ms. -/
def execFaultTimeout (tag : Nat) (s : State) : Out :=
  match tblFind s.mem.faults tag with
  | none => .next s
  | some r => when_ (decide (fget s r_MMU_CTL f_MMU_CTL_FTMO * 1000000 ≤ (s.tb.tb - r.tb).toNat)) s (refuseFault s tag)

end Sys2Proof.Machine
end

