-- ==== Sys2Proof/Machine/Control.lean ====
section
/-! DEFINITION. Machine/Control.lean: control flow and thread control (spec/05 R143 Table 5, R144 Table 6). -/

namespace Sys2Proof.Machine

/-- R92: marks the issue step of a branch. -/
def markBranch (c : Core) (th : Nat) : Core := modThread c th fun t => { t with branchAt := some c.step }

/-- R143: branch when the comparison holds. -/
def branchBody (f : W64 → W64 → Bool) : Body where
  illegal _ _ _ w := badUnused { sa := true, sb := true, imm := true } w
  reads w := [.s w.sa.toNat, .s w.sb.toNat]
  effect _ c th _ := (markBranch c th, [])
  target c th w := let t := getThread c th
    if f (readS t w.sa) (readS t w.sb) then some (branchTarget t.pc w) else none

def bodyBeq : Body := branchBody fun a b => a == b
def bodyBne : Body := branchBody fun a b => a != b
def bodyBlt : Body := branchBody fun a b => a.slt b
def bodyBge : Body := branchBody fun a b => !a.slt b
def bodyBltu : Body := branchBody fun a b => a.ult b
def bodyBgeu : Body := branchBody fun a b => !a.ult b

def bodyJal : Body where
  illegal _ _ _ w := badUnused { dst := true, imm := true } w
  writes w := [.s w.dst.toNat]
  effect _ c th w := (result (markBranch c th) th 2 (.s w.dst.toNat ((getThread c th).pc + 8)), [])
  target c th w := some (branchTarget (getThread c th).pc w)

def bodyJr : Body where
  illegal _ _ _ w := badUnused { sa := true, imm := true } w
  reads w := [.s w.sa.toNat]
  checks _ c th w := alignCheck (effAddr (getThread c th) w) 8
  effect _ c th _ := (markBranch c th, [])
  target c th w := some (effAddr (getThread c th) w)

def bodyHalt : Body where
  illegal _ _ _ w := badUnused {} w
  effect _ c th _ := (modThread c th fun t => { t with st := .halt }, [])

/-- R143: the thread raises BREAK; IMM is recorded in XINFO. -/
def bodyBrk : Body where
  illegal _ _ _ w := badUnused { imm := true } w
  checks _ _ _ w := [(xBreak, w.imm.zeroExtend 64)]

def bodyStepw : Body where
  illegal _ _ _ w := badUnused { sa := true, imm := true } w
  reads w := [.s w.sa.toNat]
  wait c th w := some (readS (getThread c th) w.sa + w.imm.zeroExtend 64)

/-- R144: the thread that TCTL names is not one that it may act on. -/
def badTarget (c : Core) (th : Nat) (w : OpWord) : Bool :=
  let a := (readS (getThread c th) w.sa).toNat
  decide (c.rl ≤ a) || a == th

/-- R144: TCTL; `f` is what sD receives, `act` the change that takes effect at step i + 2. -/
def tctlBody (resume : Bool) (f : Thread → W64) (act : Core → Nat → Nat → OpWord → List CtlPend) : Body where
  illegal _ c th w := badUnused { dst := true, sa := true, sb := resume, md := true } w || badTarget c th w
  reads w := .s w.sa.toNat :: (if resume then [.s w.sb.toNat] else [])
  writes w := [.s w.dst.toNat]
  effect _ c th w :=
    let tgt := (readS (getThread c th) w.sa).toNat
    let c' := result c th 2 (.s w.dst.toNat (f (getThread c tgt)))
    ({ c' with ctl := c'.ctl ++ act c th tgt w }, [])

def bodyTctlResume : Body := tctlBody true (fun t => BitVec.ofNat 64 (stateCode t.st)) fun c th tgt w =>
  [{ due := c.step + 2, target := tgt, resume := some (readS (getThread c th) w.sb) }]
def bodyTctlStop : Body := tctlBody false (fun t => BitVec.ofNat 64 (stateCode t.st)) fun c _ tgt _ =>
  [{ due := c.step + 2, target := tgt, resume := none }]
def bodyTctlRead : Body := tctlBody false
  (fun t => BitVec.ofNat 64 (stateCode t.st + 4 * b2n t.xovf + 256 * t.xcause.toNat)) fun _ _ _ _ => []
def bodyTctlReadXpc : Body := tctlBody false (fun t => t.xpc) fun _ _ _ _ => []
def bodyTctlReadXinfo : Body := tctlBody false (fun t => t.xinfo) fun _ _ _ _ => []

end Sys2Proof.Machine
end

