-- ==== Sys2Proof/Machine/Scalar.lean ====
section
/-! DEFINITION. Machine/Scalar.lean: the scalar operations (spec/05 R141 Table 4, R142). -/

namespace Sys2Proof.Machine

/-- R141: an operation sD = f sA b. -/
def scalarBody (lat : Nat) (f : W64 → W64 → W64) : Body where
  illegal _ _ _ w := badB w
  reads w := .s w.sa.toNat :: (if w.md.getLsbD 0 then [] else [.s w.sb.toNat])
  writes w := [.s w.dst.toNat]
  effect _ c th w := let t := getThread c th; (result c th lat (.s w.dst.toNat (f (readS t w.sa) (operandB t w))), [])

def b2w (b : Bool) : W64 := if b then 1#64 else 0#64

/-- R142: division truncates toward zero; by zero it gives -1. -/
def divS (a b : W64) : W64 := if b = 0 then BitVec.allOnes 64 else a.sdiv b
def divU (a b : W64) : W64 := if b = 0 then BitVec.allOnes 64 else a.udiv b
/-- R142: the remainder takes the sign of a; by zero it is a. -/
def remS (a b : W64) : W64 := if b = 0 then a else a.srem b
def remU (a b : W64) : W64 := if b = 0 then a else a.umod b
def mulHighS (a b : W64) : W64 := BitVec.ofInt 64 (a.toInt * b.toInt / 2 ^ 64)
def mulHighU (a b : W64) : W64 := BitVec.ofNat 64 (a.toNat * b.toNat / 2 ^ 64)

def bodyNop : Body where
  illegal _ _ _ w := badUnused {} w
def bodyAdd : Body := scalarBody 2 (· + ·)
def bodySub : Body := scalarBody 2 (· - ·)
def bodyAnd : Body := scalarBody 2 (· &&& ·)
def bodyOr : Body := scalarBody 2 (· ||| ·)
def bodyXor : Body := scalarBody 2 (· ^^^ ·)
def bodyShl : Body := scalarBody 2 fun a b => a <<< (b.toNat % 64)
def bodyShr : Body := scalarBody 2 fun a b => a >>> (b.toNat % 64)
def bodySra : Body := scalarBody 2 fun a b => a.sshiftRight (b.toNat % 64)
def bodySlt : Body := scalarBody 2 fun a b => b2w (a.slt b)
def bodySltu : Body := scalarBody 2 fun a b => b2w (a.ult b)
def bodySeq : Body := scalarBody 2 fun a b => b2w (a == b)
def bodyMin : Body := scalarBody 2 fun a b => if a.slt b then a else b
def bodyMax : Body := scalarBody 2 fun a b => if a.slt b then b else a
def bodyMovi : Body where
  illegal _ _ _ w := badUnused { dst := true, imm := true } w
  writes w := [.s w.dst.toNat]
  effect _ c th w := (result c th 2 (.s w.dst.toNat (w.imm.signExtend 64)), [])
def bodyMovh : Body where
  illegal _ _ _ w := badUnused { dst := true, sa := true, imm := true } w
  reads w := [.s w.sa.toNat]
  writes w := [.s w.dst.toNat]
  effect _ c th w := (result c th 2 (.s w.dst.toNat (w.imm ++ (readS (getThread c th) w.sa).extractLsb' 0 32)), [])
def bodyMul : Body := scalarBody 6 (· * ·)
def bodyMulh : Body := scalarBody 6 mulHighS
def bodyMulhu : Body := scalarBody 6 mulHighU
def bodyDiv : Body := scalarBody 40 divS
def bodyDivu : Body := scalarBody 40 divU
def bodyRem : Body := scalarBody 40 remS
def bodyRemu : Body := scalarBody 40 remU

/-- An operation sD = f sA. -/
def unaryBody (f : W64 → W64) : Body where
  illegal _ _ _ w := badUnused { dst := true, sa := true } w
  reads w := [.s w.sa.toNat]
  writes w := [.s w.dst.toNat]
  effect _ c th w := (result c th 2 (.s w.dst.toNat (f (readS (getThread c th) w.sa))), [])
def bodyPopc : Body := unaryBody fun a => BitVec.ofNat 64 (popcount 64 a.toNat)
def bodyCtz : Body := unaryBody fun a => BitVec.ofNat 64 (ctz 64 a.toNat)

end Sys2Proof.Machine
end

