-- ==== Sys2Proof/Machine/Functions.lean ====
section
/-! DEFINITION. Machine/Functions.lean: the correctly rounded elementwise functions of VFN (spec/03 R88, Table 8).
Algebraic functions are exact to a sticky bit; the others are evaluated in fixed point with 900 fraction bits, far
past the distance at which any binary32 argument can lie from a rounding boundary (log entry 3). -/

namespace Sys2Proof.Machine

/-- Fraction bits of the fixed-point arithmetic. -/
def fxP : Nat := 900
/-- 1 in fixed point. -/
def fxOne : Int := 2 ^ 900
/-- Fixed-point product, rounded down. -/
def fxMul (a b : Int) : Int := (a * b) / fxOne
/-- Fixed-point quotient, rounded down. -/
def fxDiv (a b : Int) : Int := (a * fxOne) / b
/-- `m * 2 ^ e` in fixed point. -/
def fxOf (m e : Int) : Int :=
  let sh := e + 900
  if 0 ≤ sh then m * 2 ^ sh.toNat else m / 2 ^ (-sh).toNat

/-- A result known to be inexact: truncated to `m * 2 ^ e`, with a sticky bit below. -/
def sticky (m e : Int) : Val := .fin (2 * m + 1) (e - 1)
/-- A fixed-point result, inexact. -/
def fxVal (x : Int) : Val := sticky x (-900)
/-- A non-zero value below every rounding boundary, and one above every finite value. -/
def tinyVal : Val := .fin 1 (-4000)
def hugeVal : Val := .fin 1 4000
/-- Just below 1, with sign. -/
def almostOne (neg : Bool) : Val := .fin (if neg then -(2 ^ 60 - 1) else 2 ^ 60 - 1) (-60)

/-- Sum of `z^(2j+1)/(2j+1)`, alternating when `alt`: atanh or atan. `p` is the running power. -/
def atSeries : Nat → Bool → Int → Int → Nat → Int → Int
  | 0, _, _, _, _, acc => acc
  | fuel + 1, alt, zz, p, j, acc =>
    let t := p / (2 * j + 1 : Nat)
    atSeries fuel alt zz (fxMul p zz) (j + 1) (if alt && j % 2 == 1 then acc - t else acc + t)

/-- atanh of a fixed-point value of magnitude at most 1/3. -/
def fxAtanh (z : Int) : Int := atSeries 300 false (fxMul z z) z 0 0
/-- atan of `1/n`. -/
def fxAtanInv (n : Int) : Int := atSeries 220 true (fxOne / (n * n)) (fxOne / n) 0 0
/-- ln 2. -/
def fxLn2 : Int := 2 * fxAtanh (fxOne / 3)
/-- pi, by Machin's formula. -/
def fxPi : Int := 16 * fxAtanInv 5 - 4 * fxAtanInv 239

/-- Sum of `x^j/j!` from the running term `t`. -/
def expSeries : Nat → Int → Int → Nat → Int → Int
  | 0, _, _, _, acc => acc
  | fuel + 1, x, t, j, acc => expSeries fuel x (fxMul t x / (j + 1 : Nat)) (j + 1) (acc + t)

/-- `e ^ x = m * 2 ^ n`, `m` in fixed point between 1/2 and 2. -/
def fxExp (x : Int) : Int × Int :=
  let n := (2 * x + fxLn2) / (2 * fxLn2)
  (expSeries 220 (x - n * fxLn2) fxOne 0 0, n)

/-- `e ^ x` in fixed point, for |x| at most 128. -/
def fxExpFlat (x : Int) : Int :=
  let (m, n) := fxExp x
  if 0 ≤ n then m * 2 ^ n.toNat else m / 2 ^ (-n).toNat

/-- ln of a positive `m * 2 ^ e`. -/
def fxLn (m e : Int) : Int :=
  let b : Int := bitLen m.natAbs
  -- y = m * 2 ^ (-b) lies in [1/2, 1); doubled when below 3/4
  let y := m * 2 ^ (900 - b).toNat
  let (y, k) := if 4 * y < 3 * fxOne then (2 * y, e + b - 1) else (y, e + b)
  2 * fxAtanh (fxDiv (y - fxOne) (y + fxOne)) + k * fxLn2

/-- Sum of `(-1)^j x^(2j)/(2j+s)!` terms: sine with `s = 1`, cosine with `s = 0`. -/
def trigSeries : Nat → Int → Int → Nat → Int → Int
  | 0, _, _, _, acc => acc
  | fuel + 1, xx, t, j, acc => trigSeries fuel xx (-(fxMul t xx) / ((j + 1) * (j + 2) : Nat)) (j + 2) (acc + t)

/-- sin and cos of a fixed-point angle in [0, pi/2). -/
def fxSin (x : Int) : Int := trigSeries 120 (fxMul x x) x 1 0
def fxCos (x : Int) : Int := trigSeries 120 (fxMul x x) fxOne 0 0

/-- Terms `(-1)^j x^(2j+1)/(j!(2j+1))` of erf. -/
def erfSeries : Nat → Int → Int → Nat → Int → Int
  | 0, _, _, _, acc => acc
  | fuel + 1, xx, t, j, acc => erfSeries fuel xx (-(fxMul t xx) / (j + 1 : Nat)) (j + 1) (acc + t / (2 * j + 1 : Nat))

/-- Integer square root of `v` (rounded down), deciding one bit at a time from bit `n - 1`. -/
def isqrtAux : Nat → Nat → Nat → Nat
  | 0, _, r => r
  | n + 1, v, r => let c := r + 2 ^ n; isqrtAux n v (if c * c ≤ v then c else r)
def isqrt (bitsOfRoot v : Nat) : Nat := isqrtAux bitsOfRoot v 0

/-- `m` exact, or with a sticky bit. -/
def withSticky (exact : Bool) (m e : Int) : Val := if exact then .fin m e else sticky m e

/-- Square root of a positive `m * 2 ^ e`. -/
def sqrtFin (m : Nat) (e : Int) : Val :=
  let e' := e - 200 - (e % 2)
  let v := m <<< (e - e').toNat
  let r := isqrt 160 v
  withSticky (r * r = v) r (e' / 2)

/-- Reciprocal of `m * 2 ^ e`. -/
def recipFin (m e : Int) : Val :=
  let a : Nat := m.natAbs
  let q : Nat := 2 ^ 200 / a
  let s : Int := if m < 0 then -1 else 1
  if 2 ^ 200 % a = 0 then .fin (s * (q : Int)) (-200 - e) else .fin (s * ((2 * q + 1 : Nat) : Int)) (-201 - e)

/-- Reciprocal square root of a positive `m * 2 ^ e`. -/
def rsqrtFin (m : Nat) (e : Int) : Val :=
  let par := e % 2
  let m' := m <<< par.toNat
  let e' := e - par
  let v := 2 ^ 300 / m'
  let r := isqrt 152 v
  withSticky (2 ^ 300 % m' = 0 && r * r = v) r (-150 - e' / 2)

/-- The functions of Table 12 of spec/05. -/
inductive VFun where
  | exp | exp2 | log | log2 | tanh | sigmoid | recip | sqrt | rsqrt | sin | cos | erf
  deriving DecidableEq, Repr

/-- Codes 0xC to 0xF are reserved (R156 Table 12). -/
def vfunOf (c : Nat) : Option VFun :=
  match c with
  | 0 => some .exp | 1 => some .exp2 | 2 => some .log | 3 => some .log2 | 4 => some .tanh | 5 => some .sigmoid
  | 6 => some .recip | 7 => some .sqrt | 8 => some .rsqrt | 9 => some .sin | 10 => some .cos | 11 => some .erf
  | _ => none

/-- Sine of |x| shifted by `quad` quarter turns, with the sign of the result flipped when `neg`. -/
def trigFin (quad : Int) (neg : Bool) (m e : Int) : Val :=
  let x := fxOf m.natAbs e
  let h := fxPi / 2
  let q := x / h
  let r := x - q * h
  let v := match (q + quad) % 4 with
    | 0 => fxSin r
    | 1 => fxCos r
    | 2 => -fxSin r
    | _ => -fxCos r
  fxVal (if neg then -v else v)

/-- R88 Table 8: the function of a non-zero finite `m * 2 ^ e`. -/
def vfunFin (f : VFun) (m e : Int) : Val :=
  let neg := decide (m < 0)
  let big (k : Int) : Bool := decide (k ≤ msbOf m e)
  match f with
  | .exp =>
    if big 7 then (if neg then tinyVal else hugeVal) else let (v, n) := fxExp (fxOf m e); sticky v (n - 900)
  | .exp2 =>
    if big 8 then (if neg then tinyVal else hugeVal)
    else
      let x := fxOf m e
      let n := x / fxOne
      if n * fxOne = x then .fin 1 n
      else let (v, k) := fxExp (fxMul (x - n * fxOne) fxLn2); sticky v (n + k - 900)
  | .log => if neg then .nan else if m = 2 ^ (-e).toNat && e ≤ 0 then .zero false else fxVal (fxLn m e)
  | .log2 =>
    if neg then .nan
    else if m = 2 ^ (bitLen m.natAbs - 1) then mkFin (msbOf m e) 0
    else fxVal (fxDiv (fxLn m e) fxLn2)
  | .tanh =>
    if big 5 then almostOne neg
    else let x := fxExpFlat (2 * fxOf m e); fxVal (fxDiv (x - fxOne) (x + fxOne))
  | .sigmoid =>
    if big 7 then (if neg then tinyVal else almostOne false)
    else let x := fxExpFlat (fxOf m e); fxVal (fxDiv x (fxOne + x))
  | .recip => recipFin m e
  | .sqrt => if neg then .nan else sqrtFin m.natAbs e
  | .rsqrt => if neg then .nan else rsqrtFin m.natAbs e
  | .sin => trigFin 0 neg m e
  | .cos => trigFin 1 false m e
  | .erf =>
    if big 3 then almostOne neg
    else
      let x := fxOf m e
      let rootPi := (isqrt 910 (fxPi.natAbs * 2 ^ 900) : Nat)
      fxVal (fxDiv (2 * erfSeries 520 (fxMul x x) x 0 0) rootPi)

/-- R88 Table 8 with its special cases. -/
def vfunVal (f : VFun) (x : Val) : Val :=
  match x with
  | .nan => .nan
  | .fin m e => vfunFin f m e
  | .zero s =>
    match f with
    | .exp | .exp2 | .cos => .fin 1 0
    | .sigmoid => .fin 1 (-1)
    | .log | .log2 => .inf true
    | .recip | .rsqrt => .inf s
    | .tanh | .sqrt | .sin | .erf => .zero s
  | .inf s =>
    match f with
    | .exp | .exp2 => if s then .zero false else .inf false
    | .log | .log2 | .sqrt => if s then .nan else .inf false
    | .rsqrt => if s then .nan else .zero false
    | .tanh | .erf => .fin (if s then -1 else 1) 0
    | .sigmoid => if s then .zero false else .fin 1 0
    | .recip => .zero s
    | .sin | .cos => .nan

/-- R88: the lane result in a mode other than SR. -/
def vfunLane (f : VFun) (mode : RMode) (x : Val) : W32 := roundLane mode 0 (vfunVal f x)

end Sys2Proof.Machine
end

