-- ==== Sys2Proof/Machine/MemOps.lean ====
section
/-! DEFINITION. Machine/MemOps.lean: loads, stores and FENCE (spec/05 R145 to R147, Table 7). -/

namespace Sys2Proof.Machine

/-- R175, Table 19: the checks of an access of `n` bytes at `a`, aligned to `al`; `spadOnly` for LNLD and LNST. -/
def accessChecks (x : Ctx) (c : Core) (a : W64) (n al : Nat) (spadOnly : Bool) : List (Nat × W64) :=
  alignCheck a al ++
  (match regionOf x a n with
    | none => [(xAddress, a)]
    | some r => if isHost r || (spadOnly && !isSpad r) then [(xAddress, a)] else windowCheck x c r n a)

/-- The region of an access that has passed its checks. -/
def regionAt (x : Ctx) (a : W64) (n : Nat) : Region := (regionOf x a n).getD (.spad 0)

/-- Is there room for an access: its banks, or a gated request (load) (Table 1 of spec/04)? -/
def loadRoom (x : Ctx) (c : Core) (th : Nat) (a : W64) (n : Nat) : Bool :=
  match regionAt x a n with
  | .spad off => banksFree c (wordsOf off n)
  | _ => gatedRoom c th
def storeRoom (x : Ctx) (c : Core) (a : W64) (n : Nat) : Bool :=
  match regionAt x a n with
  | .spad off => banksFree c (wordsOf off n)
  | _ => true
def storePosts (x : Ctx) (a : W64) (n : Nat) : Bool := !isSpad (regionAt x a n)

/-- Offset of a region moved on by `d` bytes. -/
def regionPlus (r : Region) (d : Nat) : Region :=
  match r with
  | .spad o => .spad (o + d)
  | .cluster di cl o => .cluster di cl (o + d)
  | .tenant v => .tenant (v + d)
  | .host h => .host (h + d)
/-- The byte offset of a region. -/
def regionOff (r : Region) : Nat :=
  match r with
  | .spad o => o
  | .cluster _ _ o => o
  | .tenant v => v
  | .host h => h
/-- The 64-byte word in which a region starts. -/
def regionWord (r : Region) : Region :=
  match r with
  | .spad o => .spad (o / 64 * 64)
  | .cluster di cl o => .cluster di cl (o / 64 * 64)
  | .tenant v => .tenant (v / 64 * 64)
  | .host h => .host h

/-- R145: a load of `n` bytes at `a`: ungated in the scratchpad, gated elsewhere. -/
def loadEffect (x : Ctx) (c : Core) (th : Nat) (a : W64) (n : Nat) (k : LoadKind) : Core × List OutReq :=
  match regionAt x a n with
  | .spad off => (addLoad c th k (wordsOf off n), [])
  | r =>
    let words := wordsOf a.toNat n
    (addGated c th (classOf x r) (.load k),
     words.zipIdx.map fun p => .mem false (p.1 / 64) a (regionPlus (regionWord r) (64 * p.2)) .read)

/-- Masked bytes cut into words of 64 bytes, the first starting at offset `off` of its word. -/
def splitWords (fuel : Nat) (off : Nat) (bs : List MByte) : List (List MByte) :=
  match fuel with
  | 0 => []
  | k + 1 =>
    if bs.isEmpty then []
    else (List.replicate off mOff ++ bs.take (64 - off)) :: splitWords k 0 (bs.drop (64 - off))

/-- R145: a store of masked bytes at `a`: into the banks, or posted. -/
def storeEffect (x : Ctx) (c : Core) (th : Nat) (a : W64) (bs : List MByte) : Core × List OutReq :=
  let n := bs.length
  match regionAt x a n with
  | .spad off =>
    let ws := splitWords 8 (off % 64) bs
    (pushSpad c (ws.zipIdx.map fun p => spadReq c th ((off / 64 + p.2) * 64) (.write p.1)), [])
  | r =>
    let ws := splitWords 8 (a.toNat % 64) bs
    (addPosted c th (classOf x r) a false, ws.zipIdx.map fun p => .mem true p.2 a (regionPlus (regionWord r) (64 * p.2)) (.write p.1))

/-- LD and ST: the width in bytes. -/
def widthOf (w : OpWord) : Nat := 2 ^ bits w.md.toNat 1 0

def bodyLd : Body where
  illegal _ _ _ w := badUnused { dst := true, sa := true, md := true, imm := true } w || w.md.getLsbD 3
  reads w := [.s w.sa.toNat]
  writes w := [.s w.dst.toNat]
  checks x c th w := accessChecks x c (effAddr (getThread c th) w) (widthOf w) (widthOf w) false
  ready x c th w := loadRoom x c th (effAddr (getThread c th) w) (widthOf w)
  effect x c th w :=
    let a := effAddr (getThread c th) w
    loadEffect x c th a (widthOf w) (.scalar w.dst.toNat (a.toNat % 64) (widthOf w) (w.md.getLsbD 2))

def bodySt : Body where
  illegal _ _ _ w := badUnused { sa := true, sb := true, md := true, imm := true } w || bits w.md.toNat 3 2 != 0
  reads w := [.s w.sa.toNat, .s w.sb.toNat]
  checks x c th w := accessChecks x c (effAddr (getThread c th) w) (widthOf w) (widthOf w) false
  ready x c th w := storeRoom x c (effAddr (getThread c th) w) (widthOf w)
  posts x c th w := storePosts x (effAddr (getThread c th) w) (widthOf w)
  effect x c th w :=
    let t := getThread c th
    storeEffect x c th (effAddr t w) ((leBytes (widthOf w) (readS t w.sb).toNat).map mOn)

/-- R140, R146: the lane format that MOD names, bytes of 64 elements, and alignment. -/
def laneFmt (w : OpWord) : Fmt := (fmtOfCode w.md.toNat).getD .fp32
def laneBytes (w : OpWord) : Nat := 8 * fmtWidth (laneFmt w)
def laneAlign (w : OpWord) : Nat :=
  match fmtWidth (laneFmt w) with
  | 6 => 16 | 4 => 32 | _ => 64

def bodyVld : Body where
  illegal _ _ _ w := badUnused { dst := true, sa := true, md := true, imm := true } w || bad8 w.dst || (fmtOfCode w.md.toNat).isNone
  reads w := [.s w.sa.toNat]
  writes w := [.v w.dst.toNat]
  checks x c th w := accessChecks x c (effAddr (getThread c th) w) (laneBytes w) (laneAlign w) false
  ready x c th w := loadRoom x c th (effAddr (getThread c th) w) (laneBytes w)
  effect x c th w :=
    let a := effAddr (getThread c th) w
    loadEffect x c th a (laneBytes w) (.vector w.dst.toNat (a.toNat % 64) w.md.toNat)

/-- R146: the lanes of a vector packed at the width of a format, with the bits of the selected lanes enabled. -/
def packLanes (f : Fmt) (v : BitVec 2048) (on : Nat → Bool) : List MByte :=
  let w := fmtWidth f
  let data := packBits w (laneIdx.map fun l => (lane v l).toNat)
  let mask := packBits w (laneIdx.map fun l => if on l then 2 ^ w - 1 else 0)
  (leBytes (8 * w) mask).zip (leBytes (8 * w) data)

def bodyVst : Body where
  illegal _ _ _ w := badUnused { sa := true, sb := true, md := true, imm := true } w || bad8 w.sb || (fmtOfCode w.md.toNat).isNone
  reads w := [.s w.sa.toNat, .v w.sb.toNat]
  checks x c th w := accessChecks x c (effAddr (getThread c th) w) (laneBytes w) (laneAlign w) false
  ready x c th w := storeRoom x c (effAddr (getThread c th) w) (laneBytes w)
  posts x c th w := storePosts x (effAddr (getThread c th) w) (laneBytes w)
  effect x c th w :=
    let t := getThread c th
    storeEffect x c th (effAddr t w) (packLanes (laneFmt w) (readV t w.sb) fun _ => true)

def bodyVstm : Body where
  illegal _ _ _ w := badUnused { sa := true, sb := true, sc := true, md := true, imm := true } w || bad8 w.sb || (fmtOfCode w.md.toNat).isNone
  reads w := [.s w.sa.toNat, .v w.sb.toNat, .s w.sc.toNat]
  checks x c th w := accessChecks x c (effAddr (getThread c th) w) (laneBytes w) (laneAlign w) false
  ready x c th w := storeRoom x c (effAddr (getThread c th) w) (laneBytes w)
  posts x c th w := storePosts x (effAddr (getThread c th) w) (laneBytes w)
  effect x c th w :=
    let t := getThread c th
    storeEffect x c th (effAddr t w) (packLanes (laneFmt w) (readV t w.sb) fun l => (readS t w.sc).getLsbD l)

def bodyLnld : Body where
  illegal _ _ _ w := badUnused { dst := true, sa := true, imm := true } w || bad16 w.dst
  reads w := [.s w.sa.toNat]
  writes w := [.ln w.dst.toNat]
  checks x c th w := accessChecks x c (effAddr (getThread c th) w) 128 64 true
  ready x c th w := loadRoom x c th (effAddr (getThread c th) w) 128
  effect x c th w := loadEffect x c th (effAddr (getThread c th) w) 128 (.long w.dst.toNat)

/-- Table 1 of spec/04: the LAU thread port is free in this step. -/
def portFree (c : Core) : Bool := c.portLeft == 0 && !spTakesPort c
/-- R93: the thread port is occupied for `n` steps from this one on. -/
def takePort (c : Core) (n : Nat) : Core := { c with portLeft := n }

def bodyLnst : Body where
  illegal _ _ _ w := badUnused { sa := true, sb := true, imm := true } w || bad16 w.sb
  reads w := [.s w.sa.toNat, .ln w.sb.toNat]
  checks x c th w := accessChecks x c (effAddr (getThread c th) w) 128 64 true
  ready x c th w := portFree c && storeRoom x c (effAddr (getThread c th) w) 128
  effect x c th w :=
    let (lo, hi) := wideEncode (readLn c w.sb.toNat)
    storeEffect x (takePort c 1) th (effAddr (getThread c th) w) ((wordBytes lo ++ wordBytes hi).map mOn)

/-- R147: the posted operations that a FENCE of thread `th` covers. -/
def fenceCovers (c : Core) (th : Nat) : List Posted := c.posted.filter fun p => p.thread == th && !p.fenced

/-- R147: the class of the largest due latency among the covered operations. -/
def maxClass (c : Core) (ps : List Posted) : AccClass :=
  ps.foldl (fun a p => if dueOf c a < dueOf c p.cls then p.cls else a) ((ps.head?.map Posted.cls).getD .ownCluster)

def bodyFence : Body where
  illegal _ _ _ w := badUnused { dst := true } w
  writes w := [.s w.dst.toNat]
  ready _ c th _ := (fenceCovers c th).isEmpty || gatedRoom c th
  effect _ c th w :=
    let ps := fenceCovers c th
    if ps.isEmpty then (result c th 2 (.s w.dst.toNat 0), [])
    else
      let c' := addGated c th (maxClass c ps) (.fence w.dst.toNat (ps.map Posted.issue))
      ({ c' with posted := c'.posted.map fun p => if p.thread = th then { p with fenced := true } else p }, [])

end Sys2Proof.Machine
end

