-- ==== Sys2Proof/Machine/EngineOps.lean ====
section
/-! DEFINITION. Machine/EngineOps.lean: the issue of matrix engine operations (spec/05 R150 to R154, Table 9). -/

namespace Sys2Proof.Machine

/-- R151: DST names the engine and the set. -/
def dstEng (w : OpWord) : Nat := bits w.dst.toNat 1 0
def dstSet (w : OpWord) : Nat := bits w.dst.toNat 2 2
def badDst (w : OpWord) : Bool := bits w.dst.toNat 4 3 != 0

/-- R105: the engine's queue has a free place. -/
def queueRoom (c : Core) (e : Nat) : Bool := decide ((getEng c e).queue.length < 3)

/-- R105, R153: an operation takes a place in the queue; `storable` and `flushed` are what R153 asks of the set afterwards. -/
def enqueue (c : Core) (th e set : Nat) (k : EngKind) (storable flushed : Bool) : Core :=
  let x := getEng c e
  let x := putSet x set { getSet x set with storable := storable, flushed := flushed }
  setEng c e { x with queue := x.queue ++ [{ thread := th, issue := c.step, set := set, kind := k, disp := none, done := 0, log := none }] }

/-- R150: the failing descriptor's low half. -/
def descriptorCheck (a b : BitVec 128) : List (Nat × W64) :=
  if tileBad a 0 then [(xDescriptor, a.extractLsb' 0 64)]
  else if tileBad b 1 then [(xDescriptor, b.extractLsb' 0 64)]
  else if (tileOf a).k != (tileOf b).k then [(xDescriptor, b.extractLsb' 0 64)]
  else []

/-- R154: the operand and scale regions of an MMA against the open windows. -/
def mmaWindows (x : Ctx) (c : Core) (a b : TileDesc) : List (Nat × W64) :=
  let rs := [(a.base, tileExtent a), (a.scale, tileScaleExtent a), (b.base, tileExtent b), (b.scale, tileScaleExtent b)]
  match rs.find? fun r => x.lock && touchesWindow c r.1 r.2 with
  | some r => [(xOpenWindow, BitVec.ofNat 64 r.1)]
  | none => []

/-- R151, R152: the anchor of fixed anchor mode. -/
def anchorImm (w : OpWord) : Int := (w.imm.extractLsb' 0 16).toInt

def bodyMma : Body where
  illegal _ _ _ w := badUnused { dst := true, sb := true, sc := true, md := true, imm := true } w || badDst w || bad8 w.sb || bad8 w.sc
    || bits w.md.toNat 3 1 != 0
    || (if w.md.getLsbD 0 then bits w.imm.toNat 31 16 != 0 || decide (anchorImm w < -300) || decide (212 < anchorImm w) else w.imm != 0)
  reads w := [.t w.sb.toNat, .t w.sc.toNat]
  checks x c th w :=
    let t := getThread c th
    let a := readT t w.sb
    let b := readT t w.sc
    match descriptorCheck a b with
    | [] =>
      if pairOk (tileFmt (tileOf a)) (tileFmt (tileOf b)) then mmaWindows x c (tileOf a) (tileOf b)
      else [(xIllegal, opEncode 0x70 w)]
    | l => l
  ready _ c _ w := queueRoom c (dstEng w)
  effect _ c th w :=
    let t := getThread c th
    let fixed := if w.md.getLsbD 0 then some (anchorImm w) else none
    (enqueue c th (dstEng w) (dstSet w) (.mma (tileOf (readT t w.sb)) (tileOf (readT t w.sc)) fixed) false false, [])

def bodyWflush : Body where
  illegal _ _ _ w := badUnused { dst := true } w || badDst w
  ready _ c _ w := queueRoom c (dstEng w)
  effect _ c th w := (enqueue c th (dstEng w) (dstSet w) .wflush true true, [])

/-- R153: the fields of RSTORE in IMM. -/
def immFmt (w : OpWord) : Nat := bits w.imm.toNat 3 0
def immMode (w : OpWord) : Nat := bits w.imm.toNat 6 4
def immScale (w : OpWord) : Int := signed 8 (bits w.imm.toNat 15 8)
def immMx (w : OpWord) : Bool := ((fmtOfCode (immFmt w)).map fmtIsMx).getD false
def immFmtOf (w : OpWord) : Fmt := (fmtOfCode (immFmt w)).getD .fp32
def immModeOf (w : OpWord) : RMode := (rmodeOf (immMode w)).getD .rne

/-- R153: a store's destination in the scratchpad. -/
def storeRegion (x : Ctx) (c : Core) (a : W64) (n al : Nat) : List (Nat × W64) :=
  alignCheck a al ++ (if 0x200000 < a.toNat + n then [(xAddress, a)] else windowCheck x c (.spad a.toNat) n a)

/-- R85: the generator's inputs of an operation of thread `th`. -/
def genKey (c : Core) (th : Nat) : GenKey := { seed := c.seed, count := (getThread c th).count, unit := c.lcore * 64 + th }

def bodyRstore : Body where
  illegal _ c _ w := badUnused { dst := true, sa := true, sb := immMx w, md := true, imm := true } w || badDst w
    || bits w.md.toNat 3 1 != 0 || (fmtOfCode (immFmt w)).isNone || (rmodeOf (immMode w)).isNone || bitAt w.imm.toNat 7
    || bits w.imm.toNat 31 16 != 0 || !(getSet (getEng c (dstEng w)) (dstSet w)).storable
  reads w := .s w.sa.toNat :: (if immMx w then [.s w.sb.toNat] else [])
  checks x c th w :=
    let t := getThread c th
    storeRegion x c (readS t w.sa) (64 * fmtWidth (immFmtOf w)) 64
      ++ (if immMx w then storeRegion x c (readS t w.sb) 16 16 else [])
  ready _ c _ w := queueRoom c (dstEng w)
  effect _ c th w :=
    let t := getThread c th
    let keep := w.md.getLsbD 0
    let s := getSet (getEng c (dstEng w)) (dstSet w)
    let saddr := if immMx w then (readS t w.sb).toNat else 0
    (enqueue c th (dstEng w) (dstSet w)
      (.rstore (readS t w.sa).toNat saddr (immFmt w) (immModeOf w) (immScale w) keep (genKey c th)) keep (keep && s.flushed), [])

def bodyXstore : Body where
  illegal _ c _ w := badUnused { dst := true, sa := true, md := true } w || badDst w || bits w.md.toNat 3 1 != 0
    || !(getSet (getEng c (dstEng w)) (dstSet w)).storable
  reads w := [.s w.sa.toNat]
  checks x c th w := storeRegion x c (readS (getThread c th) w.sa) 65536 64
  ready _ c _ w := queueRoom c (dstEng w)
  effect _ c th w :=
    let keep := w.md.getLsbD 0
    let s := getSet (getEng c (dstEng w)) (dstSet w)
    (enqueue c th (dstEng w) (dstSet w) (.xstore (readS (getThread c th) w.sa).toNat keep) keep (keep && s.flushed), [])

/-- R151: SPGET and SPADD name engine, set and element in IMM. -/
def immEng (w : OpWord) : Nat := bits w.imm.toNat 1 0
def immSet (w : OpWord) : Nat := bits w.imm.toNat 2 2
def immElem (w : OpWord) : Nat := bits w.imm.toNat 12 4
def badSpImm (w : OpWord) : Bool := bitAt w.imm.toNat 3 || bits w.imm.toNat 31 13 != 0

def bodySpget : Body where
  illegal _ _ _ w := badUnused { dst := true, imm := true } w || bad16 w.dst || badSpImm w
  writes w := [.ln w.dst.toNat]
  ready _ c _ w := queueRoom c (immEng w)
  effect _ c th w :=
    let s := getSet (getEng c (immEng w)) (immSet w)
    (enqueue c th (immEng w) (immSet w) (.spget w.dst.toNat (immElem w)) s.flushed s.flushed, [])

def bodySpadd : Body where
  illegal _ _ _ w := badUnused { sb := true, imm := true } w || bad16 w.sb || badSpImm w
  reads w := [.ln w.sb.toNat]
  ready _ c _ w := queueRoom c (immEng w)
  effect _ c th w :=
    let s := getSet (getEng c (immEng w)) (immSet w)
    (enqueue c th (immEng w) (immSet w) (.spadd (readLn c w.sb.toNat) (immElem w)) s.flushed s.flushed, [])

def bodyMclr : Body where
  illegal _ _ _ w := badUnused { dst := true } w || badDst w
  ready _ c _ w := queueRoom c (dstEng w)
  effect _ c th w := (enqueue c th (dstEng w) (dstSet w) .mclr true false, [])

end Sys2Proof.Machine
end

