-- ==== Sys2Proof/Machine/LongOps.lean ====
section
/-! DEFINITION. Machine/LongOps.lean: the long-register operations (spec/05 R155 Table 10). -/

namespace Sys2Proof.Machine

/-- An operation that writes LNd after 4 steps, with one step of the LAU thread port. -/
def lnBody (u : Uses) (srcs : OpWord → List Nat) (bad : OpWord → Bool) (f : Core → OpWord → LongReg) : Body where
  illegal _ _ _ w := badUnused u w || bad16 w.dst || bad w
  reads w := (srcs w).map .ln
  writes w := [.ln w.dst.toNat]
  ready _ c _ _ := portFree c
  effect _ c th w := (result (takePort c 1) th 4 (.ln w.dst.toNat (f c w)), [])

def bodyLnadd : Body := lnBody { dst := true, sa := true, sb := true } (fun w => [w.sa.toNat, w.sb.toNat]) (fun w => bad16 w.sa || bad16 w.sb)
  fun c w => lrAdd (readLn c w.sa.toNat) (readLn c w.sb.toNat)
def bodyLnmov : Body := lnBody { dst := true, sa := true } (fun w => [w.sa.toNat]) (fun w => bad16 w.sa) fun c w => readLn c w.sa.toNat
def bodyLnclr : Body := lnBody { dst := true } (fun _ => []) (fun _ => false) fun _ _ => lrZero
def bodyLnneg : Body := lnBody { dst := true, sa := true } (fun w => [w.sa.toNat]) (fun w => bad16 w.sa) fun c w => lrNeg (readLn c w.sa.toNat)

/-- R155 LNLANE: the value of a lane. -/
def laneVal (int : Bool) (x : W32) : Val := if int then mkFin x.toInt 0 else f32 x

def bodyLnlane : Body where
  illegal _ _ _ w := badUnused { dst := true, sa := true, sc := w.md.getLsbD 0, md := true } w || bad16 w.dst || bad8 w.sa || bits w.md.toNat 3 2 != 0
  reads w := .v w.sa.toNat :: .ln w.dst.toNat :: (if w.md.getLsbD 0 then [.s w.sc.toNat] else [])
  writes w := [.ln w.dst.toNat]
  ready _ c _ _ := portFree c
  effect _ c th w :=
    let t := getThread c th
    let on (l : Nat) : Bool := if w.md.getLsbD 0 then (readS t w.sc).getLsbD l else true
    let sum := lrSum ((laneIdx.filter on).map fun l => lrOfVal (laneVal (w.md.getLsbD 1) (lane (readV t w.sa) l)))
    (result (takePort c 4) th 6 (.ln w.dst.toNat (lrAdd (readLn c w.dst.toNat) sum)), [])

def bodyLnrnd : Body where
  illegal _ _ _ w := badUnused { dst := true, sa := true, imm := true } w || bad16 w.sa || (fmtOfCode (immFmt w)).isNone
    || (rmodeOf (immMode w)).isNone || bitAt w.imm.toNat 7 || bits w.imm.toNat 31 16 != 0
  reads w := [.ln w.sa.toNat]
  writes w := [.s w.dst.toNat]
  ready _ c _ _ := portFree c
  effect _ c th w :=
    let m := immModeOf w
    let (x, nv) := roundOutK (immFmtOf w) m (srDraw m (genKey c th) 0) (immScale w) (lrVal (readLn c w.sa.toNat))
    (scheduleNv (result (takePort c 1) th 4 (.s w.dst.toNat (BitVec.ofNat 64 x))) (c.step + 4) th nv, [])

end Sys2Proof.Machine
end

