-- ==== Sys2Proof/Machine/Vector.lean ====
section
/-! DEFINITION. Machine/Vector.lean: the vector operations (spec/05 R156 to R158, spec/03 R87, R88). -/

namespace Sys2Proof.Machine

/-- Table 1 of spec/04: the vector engine accepts an operation. -/
def veFree (c : Core) : Bool := c.veLeft == 0
/-- R93: the vector engine is occupied for `n` steps from this one on. -/
def takeVe (c : Core) (n : Nat) : Core := { c with veLeft := n }

/-- A vector operation: lane `l` of vD from the thread. -/
def veBody (lat : Nat) (bad : OpWord → Bool) (srcs : OpWord → List RegName) (f : Core → Nat → OpWord → Nat → W32) : Body where
  illegal _ _ _ w := bad w || bad8 w.dst
  reads := srcs
  writes w := [.v w.dst.toNat]
  ready _ c _ _ := veFree c
  effect _ c th w := (result (takeVe c 1) th lat (.v w.dst.toNat (ofLanes (f c th w))), [])

/-- R156: MOD[2:0] is the rounding mode. -/
def modMode (w : OpWord) : RMode := (rmodeOf (bits w.md.toNat 2 0)).getD .rne
def badMode (w : OpWord) : Bool := (rmodeOf (bits w.md.toNat 2 0)).isNone || w.md.getLsbD 3

/-- R87: a rounded operation on two binary32 lanes. -/
def arithBody (f : RMode → Val → Val → Val) : Body :=
  veBody 8 (fun w => badUnused { dst := true, sa := true, sb := true, md := true } w || bad8 w.sa || bad8 w.sb || badMode w)
    (fun w => [.v w.sa.toNat, .v w.sb.toNat])
    fun c th w l =>
      let t := getThread c th
      roundLane (modMode w) (srDraw (modMode w) (genKey c th) l) (f (modMode w) (f32 (lane (readV t w.sa) l)) (f32 (lane (readV t w.sb) l)))

def bodyVadd : Body := arithBody addVal
def bodyVsub : Body := arithBody fun m a b => addVal m a b.neg
def bodyVmul : Body := arithBody fun _ a b => mulVal a b
def bodyVfma : Body :=
  veBody 8 (fun w => badUnused { dst := true, sa := true, sb := true, sc := true, md := true } w || bad8 w.sa || bad8 w.sb || bad8 w.sc || badMode w)
    (fun w => [.v w.sa.toNat, .v w.sb.toNat, .v w.sc.toNat])
    fun c th w l =>
      let t := getThread c th
      let m := modMode w
      roundLane m (srDraw m (genKey c th) l)
        (addVal m (mulVal (f32 (lane (readV t w.sa) l)) (f32 (lane (readV t w.sb) l))) (f32 (lane (readV t w.sc) l)))

/-- An order of binary32 values without NaN in which -0 is below +0. -/
def valKey (x : W32) : Int := if x.getLsbD 31 then -((x.toNat % 2 ^ 31 : Nat) : Int) - 1 else (x.toNat : Int)
def isNaN32 (x : W32) : Bool := f32 x == .nan
def nan32 : W32 := 0x7FC00000#32

/-- Two vector sources, MOD zero. -/
def twoLanes (lat : Nat) (f : W32 → W32 → W32) : Body :=
  veBody lat (fun w => badUnused { dst := true, sa := true, sb := true } w || bad8 w.sa || bad8 w.sb)
    (fun w => [.v w.sa.toNat, .v w.sb.toNat])
    fun c th w l => let t := getThread c th; f (lane (readV t w.sa) l) (lane (readV t w.sb) l)

def bodyVmin : Body := twoLanes 8 fun a b => if isNaN32 a || isNaN32 b then nan32 else if valKey a ≤ valKey b then a else b
def bodyVmax : Body := twoLanes 8 fun a b => if isNaN32 a || isNaN32 b then nan32 else if valKey a ≤ valKey b then b else a
def bodyViadd : Body := twoLanes 8 (· + ·)
def bodyVimul : Body := twoLanes 8 (· * ·)

/-- R157: the conversion of one lane: the encoding and NV. -/
def convertLane (src dst : Fmt) (mode : RMode) (r : Nat) (k : Int) (x : W32) : W32 × Bool :=
  let v := decodeFmt src (x.toNat % 2 ^ fmtWidth src)
  match v with
  | .zero s =>
    (match fmtKind dst with
      | .flt _ _ _ => BitVec.ofNat 32 (withSign dst s 0)
      | .int _ _ => 0, false)
  | v => let (y, nv) := roundOutK dst mode r k v; (BitVec.ofNat 32 y, nv)

def cvtDst (w : OpWord) : Nat := bits w.imm.toNat 7 4

def bodyVcvt : Body where
  illegal _ _ _ w := badUnused { dst := true, sa := true, md := true, imm := true } w || bad8 w.dst || bad8 w.sa || badMode w
    || (fmtOfCode (immFmt w)).isNone || (fmtOfCode (cvtDst w)).isNone || bits w.imm.toNat 31 16 != 0
  reads w := [.v w.sa.toNat]
  writes w := [.v w.dst.toNat]
  ready _ c _ _ := veFree c
  effect _ c th w :=
    let t := getThread c th
    let m := modMode w
    let dst := (fmtOfCode (cvtDst w)).getD .fp32
    let f (l : Nat) := convertLane (immFmtOf w) dst m (srDraw m (genKey c th) l) (immScale w) (lane (readV t w.sa) l)
    (scheduleNv (result (takeVe c 1) th 8 (.v w.dst.toNat (ofLanes fun l => (f l).1))) (c.step + 8) th (laneIdx.any fun l => (f l).2), [])

def bodyVbcast : Body :=
  veBody 4 (fun w => badUnused { dst := true, sa := true } w) (fun w => [.s w.sa.toNat])
    fun c th w _ => (readS (getThread c th) w.sa).extractLsb' 0 32

def bodyVlane : Body where
  illegal _ _ _ w := badUnused { dst := true, sa := true, imm := true } w || bad8 w.sa || decide (64 ≤ w.imm.toNat)
  reads w := [.v w.sa.toNat]
  writes w := [.s w.dst.toNat]
  ready _ c _ _ := veFree c
  effect _ c th w := (result (takeVe c 1) th 4 (.s w.dst.toNat ((lane (readV (getThread c th) w.sa) w.imm.toNat).zeroExtend 64)), [])

def bodyVidx : Body :=
  veBody 4 (fun w => badUnused { dst := true } w) (fun _ => []) fun _ _ _ l => BitVec.ofNat 32 l

/-- Table 3 of spec/04: latency and occupancy of a function. -/
def vfunTime (f : VFun) (bigArg : Bool) : Nat × Nat :=
  match f with
  | .sin | .cos => (24, if bigArg then 16 else 8)
  | .erf => (24, 8)
  | _ => (16, 4)

/-- VFN: the source value of a lane, converted exactly to binary32 (R88). -/
def vfnArg (src : Fmt) (x : W32) : Val := decodeFmt src (x.toNat % 2 ^ fmtWidth src)

/-- Table 3 of spec/04: a lane of magnitude 2^20 or more. -/
def bigLane (v : Val) : Bool :=
  match v with
  | .fin m e => decide (20 ≤ msbOf m e)
  | .inf _ => true
  | _ => false

def bodyVfn : Body where
  illegal _ _ _ w := badUnused { dst := true, sa := true, md := true, imm := true } w || bad8 w.dst || bad8 w.sa || badMode w
    || modMode w == .sr || (vfunOf (immFmt w)).isNone || decide (4 < cvtDst w) || bits w.imm.toNat 31 8 != 0
  reads w := [.v w.sa.toNat]
  writes w := [.v w.dst.toNat]
  ready _ c _ _ := veFree c
  effect _ c th w :=
    let t := getThread c th
    let f := (vfunOf (immFmt w)).getD .exp
    let src := (fmtOfCode (cvtDst w)).getD .fp32
    let arg (l : Nat) := vfnArg src (lane (readV t w.sa) l)
    let (lat, occ) := vfunTime f (laneIdx.any fun l => bigLane (arg l))
    (result (takeVe c occ) th lat (.v w.dst.toNat (ofLanes fun l => vfunLane f (modMode w) (arg l))), [])

/-- A value order on non-NaN binary32 lanes in which -0 equals +0 (R158). -/
def cmpKey (x : W32) : Int := if x.getLsbD 31 then -((x.toNat % 2 ^ 31 : Nat) : Int) else (x.toNat : Int)

/-- R158: the condition on two lanes. -/
def laneCmp (cond : Nat) (int : Bool) (a b : W32) : Bool :=
  let un := !int && (isNaN32 a || isNaN32 b)
  let ka := if int then a.toInt else cmpKey a
  let kb := if int then b.toInt else cmpKey b
  match cond with
  | 0 => !un && decide (ka = kb)
  | 1 => un || decide (ka ≠ kb)
  | 2 => !un && decide (ka < kb)
  | 3 => !un && decide (ka ≤ kb)
  | 4 => !un && decide (kb < ka)
  | 5 => !un && decide (kb ≤ ka)
  | 6 => !un
  | _ => un

/-- The lane mask of a predicate. -/
def maskOf (f : Nat → Bool) : W64 := BitVec.ofNat 64 (laneIdx.foldl (fun acc l => if f l then acc + 2 ^ l else acc) 0)

def bodyVcmp : Body where
  illegal _ _ _ w := badUnused { dst := true, sa := true, sb := true, md := true } w || bad8 w.sa || bad8 w.sb
  reads w := [.v w.sa.toNat, .v w.sb.toNat]
  writes w := [.s w.dst.toNat]
  ready _ c _ _ := veFree c
  effect _ c th w :=
    let t := getThread c th
    let m := maskOf fun l => laneCmp (bits w.md.toNat 2 0) (w.md.getLsbD 3) (lane (readV t w.sa) l) (lane (readV t w.sb) l)
    (result (takeVe c 1) th 4 (.s w.dst.toNat m), [])

def bodyVsel : Body :=
  veBody 4 (fun w => badUnused { dst := true, sa := true, sb := true, sc := true } w || bad8 w.sa || bad8 w.sb)
    (fun w => [.v w.sa.toNat, .v w.sb.toNat, .s w.sc.toNat])
    fun c th w l =>
      let t := getThread c th
      if (readS t w.sc).getLsbD l then lane (readV t w.sa) l else lane (readV t w.sb) l

end Sys2Proof.Machine
end

