-- ==== Sys2Proof/Machine/Indexed.lean ====
section
/-! DEFINITION. Machine/Indexed.lean: gather, scatter and exact scatter-add (spec/05 R159, R160; spec/04 R121 to R128). -/

namespace Sys2Proof.Machine

/-- R159, R160: the checks of the lane addresses: alignment, region and open windows. -/
def laneChecks (x : Ctx) (c : Core) (as : List (Nat × W64)) (n al : Nat) : List (Nat × W64) :=
  as.flatMap fun p => accessChecks x c p.2 n al false

/-- The lanes inside and outside the scratchpad. -/
def inSpad (a : W64) : Bool := decide (a.toNat < 0x200000)
def lanesIn (as : List (Nat × W64)) : List (Nat × W64) := as.filter fun p => inSpad p.2
def lanesOut (as : List (Nat × W64)) : List (Nat × W64) := as.filter fun p => !inSpad p.2

/-- The distinct 64-byte words of the lanes, in order of the lowest lane that uses each (R96). -/
def laneWords (as : List (Nat × W64)) : List Nat := (as.map fun p => p.2.toNat / 64 * 64).foldl addOnce []

/-- R122: the class of the largest due latency among the lanes. -/
def laneClass (x : Ctx) (c : Core) (as : List (Nat × W64)) : AccClass :=
  let cs := as.map fun p => classOf x (regionAt x p.2 4)
  cs.foldl (fun a k => if dueOf c a < dueOf c k then k else a) (cs.head?.getD .dram)

def gathAddrs (c : Core) (th : Nat) (w : OpWord) : List (Nat × W64) := laneAddrs (getThread c th) false w
def scatAddrs (c : Core) (th : Nat) (w : OpWord) : List (Nat × W64) := laneAddrs (getThread c th) true w

/-- The first lane address that falls into the word at `wd`. -/
def firstIn (as : List (Nat × W64)) (wd : Nat) : W64 :=
  ((as.find? fun p => p.2.toNat / 64 * 64 == wd).map Prod.snd).getD 0

def bodyVgath : Body where
  illegal _ _ _ w := badUnused { dst := true, sa := true, sb := true, sc := w.md.getLsbD 0, md := true, imm := true } w
    || bad8 w.dst || bad8 w.sb || bits w.md.toNat 3 1 != 0
  reads w := [.s w.sa.toNat, .v w.sb.toNat] ++ (if w.md.getLsbD 0 then [.s w.sc.toNat] else [])
  writes w := [.v w.dst.toNat]
  checks x c th w := laneChecks x c (gathAddrs c th w) 4 4
  ready _x c th w :=
    let as := gathAddrs c th w
    if (lanesOut as).isEmpty then banksFree c (laneWords as) else gatedRoom c th
  effect x c th w :=
    let t := getThread c th
    let as := gathAddrs c th w
    let k : LoadKind := .gather w.dst.toNat (laneIdx.map fun l => (as.find? fun p => p.1 == l).map Prod.snd) (readV t w.dst)
    let out := lanesOut as
    if out.isEmpty then
      if as.isEmpty then (result c th 8 (.v w.dst.toNat (readV t w.dst)), []) else (addLoad c th k (laneWords as), [])
    else
      (addGated c th (laneClass x c as) (.load k),
       (laneWords out).map fun wd => .mem false (wd / 64) (firstIn out wd) (regionWord (regionAt x (firstIn out wd) 4)) .read)

/-- R123: the masked bytes of one word from the lanes that name it, higher lanes over lower ones. -/
def scatterWord (as : List (Nat × W64)) (data : Nat → W32) (wd : Nat) : List MByte :=
  let ls := as.filter fun p => p.2.toNat / 64 * 64 == wd
  (List.range 64).map fun i =>
    match (ls.filter fun p => decide (p.2.toNat ≤ wd + i) && decide (wd + i < p.2.toNat + 4)).getLast? with
    | some p => mOn ((data p.1).extractLsb' (8 * (wd + i - p.2.toNat)) 8)
    | none => mOff

/-- R159: the masked form of VSCAT and VSCADD. -/
def badScatter (w : OpWord) : Bool := w.md.getLsbD 0 || w.md.getLsbD 3 || (w.md.getLsbD 2 && bits w.imm.toNat 31 29 != 0)
def scatterReads (w : OpWord) : List RegName :=
  [.s w.sa.toNat, .v w.sb.toNat, .v w.sc.toNat] ++ (if w.md.getLsbD 2 then [.s (bits w.imm.toNat 28 24)] else [])

/-- R160: lanes in the scratchpad go to their banks, the others are posted as one operation. -/
def scatterEffect (x : Ctx) (c : Core) (th : Nat) (as : List (Nat × W64)) (act : Nat → SpadAct) (mact : Nat → MemAct) :
    Core × List OutReq :=
  let out := lanesOut as
  let c1 := pushSpad c ((laneWords (lanesIn as)).map fun wd => spadReq c th wd (act wd))
  if out.isEmpty then (c1, [])
  else
    (addPosted c1 th (laneClass x c out) (firstIn out ((laneWords out).headD 0)) false,
     (laneWords out).zipIdx.map fun p => .mem true p.2 (firstIn out p.1) (regionWord (regionAt x (firstIn out p.1) 4)) (mact p.1))

def bodyVscat : Body where
  illegal _ _ _ w := badUnused { sa := true, sb := true, sc := true, md := true, imm := true } w || bad8 w.sb || bad8 w.sc || badScatter w
    || w.md.getLsbD 1
  reads := scatterReads
  checks x c th w := laneChecks x c (scatAddrs c th w) 4 4
  ready _ c th w := banksFree c (laneWords (lanesIn (scatAddrs c th w)))
  posts _ c th w := !(lanesOut (scatAddrs c th w)).isEmpty
  effect x c th w :=
    let as := scatAddrs c th w
    let v := readV (getThread c th) w.sc
    scatterEffect x c th as (fun wd => .write (scatterWord as (lane v) wd)) (fun wd => .write (scatterWord as (lane v) wd))

/-- R125: the exact sum of the lanes that name one narrow word. -/
def scaddSum (int : Bool) (as : List (Nat × W64)) (data : Nat → W32) (wd : Nat) : LongReg :=
  lrSum ((as.filter fun p => p.2.toNat / 64 * 64 == wd).map fun p => lrOfVal (laneVal int (data p.1)))

def bodyVscadd : Body where
  illegal _ _ _ w := badUnused { sa := true, sb := true, sc := true, md := true, imm := true } w || bad8 w.sb || bad8 w.sc || badScatter w
  reads := scatterReads
  checks x c th w := laneChecks x c (scatAddrs c th w) 64 64
  ready _ c th w := banksFree c (laneWords (lanesIn (scatAddrs c th w)))
  posts _ c th w := !(lanesOut (scatAddrs c th w)).isEmpty
  effect x c th w :=
    let as := scatAddrs c th w
    let v := readV (getThread c th) w.sc
    let sum := scaddSum (w.md.getLsbD 1) as (lane v)
    scatterEffect x c th as (fun wd => .narrowAdd (sum wd)) (fun wd => .narrowAdd (sum wd))

/-- R127, R160: the bytes of XSCADD's target: a wide word, or a 64-byte accumulation word in tenant space. -/
def xaddLen (a : W64) : Nat := if 0x1000000000000 ≤ a.toNat then 64 else 128

/-- R96, R160: an XSCADD into the scratchpad takes its place in the target's banks at its issue, before its source is read. -/
def waitingAdd (c : Core) (th : Nat) (r : Region) : List SpadReq :=
  match r with
  | .spad off => [spadReq c th off .wideWait]
  | _ => []

def bodyXscadd : Body where
  illegal _ _ _ w := badUnused { sa := true, sb := true, md := true, imm := true } w || (!w.md.getLsbD 1 && bad16 w.sb)
    || w.md.getLsbD 0 || bits w.md.toNat 3 2 != 0
  reads w := [.s w.sa.toNat, if w.md.getLsbD 1 then .s w.sb.toNat else .ln w.sb.toNat]
  checks x c th w :=
    let t := getThread c th
    let a := effAddr t w
    accessChecks x c a (xaddLen a) 64 false ++ (if w.md.getLsbD 1 then accessChecks x c (readS t w.sb) 128 64 true else [])
  ready x c th w :=
    let t := getThread c th
    let a := effAddr t w
    (if w.md.getLsbD 1 then banksFree c (wordsOf (readS t w.sb).toNat 128) else true) && storeRoom x c a (xaddLen a)
  posts x c th w := let a := effAddr (getThread c th) w; storePosts x a (xaddLen a)
  effect x c th w :=
    let t := getThread c th
    let a := effAddr t w
    let r := regionAt x a (xaddLen a)
    let c1 := if isSpad r then c else addPosted c th (classOf x r) a false
    if w.md.getLsbD 1 then (pushSpad c1 (spadReq c th (readS t w.sb).toNat (.wideRead r a) :: waitingAdd c th r), [])
    else
      let v := readLn c w.sb.toNat
      match r with
      | .spad off => (pushSpad c1 [spadReq c th off (.wideAdd v)], [])
      | .tenant _ => (c1, [.mem true 0 a r (.narrowAdd v)])
      | _ => (c1, [.mem true 0 a r (.wideAdd v)])

end Sys2Proof.Machine
end

