-- ==== Sys2Proof/Machine/SyncFabric.lean ====
section
/-! DEFINITION. Machine/SyncFabric.lean: the issue of DMA, sync, fabric and collective operations
(spec/05 R161 to R166, Tables 14 to 17; spec/11 R348, R354, R356; R602). -/

namespace Sys2Proof.Machine

/-- A region that has passed its checks; for checks that name an address elsewhere. -/
def anyRegion (x : Ctx) (a : W64) (n : Nat) : List (Nat × W64) := if (regionOf x a n).isNone then [(xAddress, a)] else []

/-- R162: a local address must lie in the scratchpad or in cluster memory. -/
def localCheck (x : Ctx) (a : W64) (n : Nat) : List (Nat × W64) :=
  match regionOf x a n with
  | some r => if isHost r || isTenant r then [(xAddress, a)] else []
  | none => [(xAddress, a)]

def bodyDma : Body where
  illegal _ _ _ w := badUnused { dst := true, sa := true, sb := true, sc := true } w
  reads w := [.s w.sa.toNat, .s w.sb.toNat, .s w.sc.toNat]
  writes w := [.s w.dst.toNat]
  checks x c th w :=
    let t := getThread c th
    let n := (readS t w.sc).toNat
    if n = 0 ∨ 2 ^ 30 < n then [(xRange, readS t w.sc)]
    else anyRegion x (readS t w.sa) n ++ anyRegion x (readS t w.sb) n ++ openCheck x c (regionAt x (readS t w.sb) n) n (readS t w.sb)
  ready x c th w :=
    let t := getThread c th
    gatedRoom c th && x.dmaFree && (!isSpad (regionAt x (readS t w.sb) (readS t w.sc).toNat) || windowRoom c)
  effect x c th w :=
    let t := getThread c th
    let n := (readS t w.sc).toNat
    let src := regionAt x (readS t w.sa) n
    let dst := regionAt x (readS t w.sb) n
    (openWindow (addGated c th .dmaDone (.scalar w.dst.toNat)) th dst n, [.dma src dst n])

def bodySignal : Body where
  illegal _ _ _ w := badUnused { sa := true, sb := !w.md.getLsbD 0, md := true, imm := w.md.getLsbD 0 } w || bits w.md.toNat 3 1 != 0
  reads w := .s w.sa.toNat :: (if w.md.getLsbD 0 then [] else [.s w.sb.toNat])
  posts _ _ _ _ := true
  effect _ c th w :=
    let t := getThread c th
    let v := if w.md.getLsbD 0 then w.imm.zeroExtend 64 else readS t w.sb
    (addPosted c th .syncWait (readS t w.sa) true, [.signal (readS t w.sa) v])

def bodyWait : Body where
  illegal _ _ _ w := badUnused { dst := true, sa := true, sb := true } w
  reads w := [.s w.sa.toNat, .s w.sb.toNat]
  writes w := [.s w.dst.toNat]
  ready _ c th _ := gatedRoom c th
  effect _ c th w :=
    let t := getThread c th
    (addGated c th .syncWait (.scalar w.dst.toNat), [.wait (readS t w.sa) (readS t w.sb)])

def bodySreset : Body where
  illegal _ _ _ w := badUnused { sa := true } w
  reads w := [.s w.sa.toNat]
  posts _ _ _ _ := true
  effect _ c th w := let a := readS (getThread c th) w.sa; (addPosted c th .syncWait a false, [.sreset a])

def bodySpoll : Body where
  illegal x _ _ w := badUnused { dst := true, sa := true } w || x.lock
  reads w := [.s w.sa.toNat]
  writes w := [.s w.dst.toNat]
  ready _ c th _ := gatedRoom c th
  effect _ c th w := (addGated c th .syncWait (.scalar w.dst.toNat), [.spoll (readS (getThread c th) w.sa)])

/-- R162: lengths are multiples of 8 from 8 to 16,384 bytes. -/
def badLen (n : Nat) : Bool := n % 8 != 0 || decide (n < 8) || decide (16384 < n)

def bodyFrd : Body where
  illegal _ _ _ w := badUnused { dst := true, sa := true, sb := true, sc := true, imm := true } w
  reads w := [.s w.sa.toNat, .s w.sb.toNat, .s w.sc.toNat]
  writes w := [.s w.dst.toNat]
  checks x c th w :=
    let t := getThread c th
    let a := readS t w.sa
    let n := w.imm.toNat
    alignCheck a 8 ++ alignCheck (readS t w.sc) 8
      ++ (if badLen n then [(xRange, w.imm.zeroExtend 64)] else localCheck x a n ++ openCheck x c (regionAt x a n) n a)
  ready x c th w :=
    gatedRoom c th && (!isSpad (regionAt x (readS (getThread c th) w.sa) w.imm.toNat) || windowRoom c)
  effect x c th w :=
    let t := getThread c th
    let r := regionAt x (readS t w.sa) w.imm.toNat
    (openWindow (addGated c th .fabric (.scalar w.dst.toNat)) th r w.imm.toNat, [.frd r (readS t w.sb) (readS t w.sc) w.imm.toNat])

def bodyFwr : Body where
  illegal _ _ _ w := badUnused { dst := true, sa := true, sb := true, sc := true, imm := true } w
  reads w := [.s w.sa.toNat, .s w.sb.toNat, .s w.sc.toNat]
  writes w := [.s w.dst.toNat]
  checks x c th w :=
    let t := getThread c th
    let a := readS t w.sa
    let n := w.imm.toNat
    alignCheck a 8 ++ alignCheck (readS t w.sc) 8
      ++ (if badLen n then [(xRange, w.imm.zeroExtend 64)] else localCheck x a n ++ windowCheck x c (regionAt x a n) n a)
  ready _ c th _ := gatedRoom c th
  effect x c th w :=
    let t := getThread c th
    (addGated c th .fabric (.scalar w.dst.toNat), [.fwr (regionAt x (readS t w.sa) w.imm.toNat) (readS t w.sb) (readS t w.sc) w.imm.toNat])

/-- R161 Table 15: an atomic on 8 bytes; CAS64 compares with sD as read at issue. -/
def fatomBody (k : AtomKind) : Body where
  illegal _ _ _ w := badUnused { dst := true, sa := true, sb := true, sc := true, md := true } w
  reads w := [.s w.sa.toNat, .s w.sb.toNat, .s w.sc.toNat] ++ (if k == .cas64 then [.s w.dst.toNat] else [])
  writes w := [.s w.dst.toNat]
  checks _ c th w := alignCheck (readS (getThread c th) w.sc) 8
  ready _ c th _ := gatedRoom c th
  effect _ c th w :=
    let t := getThread c th
    (addGated c th .fabric (.scalar w.dst.toNat), [.fatom k (readS t w.sa) (readS t w.dst) none (readS t w.sb) (readS t w.sc)])

def bodyFatomAdd64 : Body := fatomBody .add64
def bodyFatomSwap64 : Body := fatomBody .swap64
def bodyFatomCas64 : Body := fatomBody .cas64
def bodyFatomMin64 : Body := fatomBody .min64
def bodyFatomMax64 : Body := fatomBody .max64

def bodyFatomXadd : Body where
  illegal _ _ _ w := badUnused { dst := true, sa := true, sb := true, sc := true, md := true } w
  reads w := [.s w.sa.toNat, .s w.sb.toNat, .s w.sc.toNat]
  writes w := [.s w.dst.toNat]
  checks x c th w :=
    let t := getThread c th
    let a := readS t w.sa
    alignCheck a 64 ++ alignCheck (readS t w.sc) 64 ++ localCheck x a 128 ++ windowCheck x c (regionAt x a 128) 128 a
  ready _ c th _ := gatedRoom c th
  effect x c th w :=
    let t := getThread c th
    (addGated c th .fabric (.scalar w.dst.toNat),
     [.fatom .xadd 0 0 (some (regionAt x (readS t w.sa) 128)) (readS t w.sb) (readS t w.sc)])

def tagOf (w : OpWord) : Nat := bits w.imm.toNat 15 0

def bodySend : Body where
  illegal _ _ _ w := badUnused { dst := true, sa := true, sb := true, sc := true, imm := true } w || bits w.imm.toNat 31 16 != 0
  reads w := [.s w.sa.toNat, .s w.sb.toNat, .s w.sc.toNat]
  writes w := [.s w.dst.toNat]
  checks x c th w :=
    let t := getThread c th
    let a := readS t w.sa
    let n := (readS t w.sc).toNat
    alignCheck a 8 ++ (if badLen n then [(xRange, readS t w.sc)] else localCheck x a n ++ windowCheck x c (regionAt x a n) n a)
  ready _ c th _ := gatedRoom c th
  effect x c th w :=
    let t := getThread c th
    let n := (readS t w.sc).toNat
    (addGated c th .fabric (.scalar w.dst.toNat), [.send (regionAt x (readS t w.sa) n) (readS t w.sb) n (tagOf w)])

def bodyRecv : Body where
  illegal x _ _ w := badUnused { dst := true, sa := true, sb := true, sc := true, md := true, imm := true } w || bits w.imm.toNat 31 16 != 0
    || bits w.md.toNat 3 1 != 0 || (x.lock && w.md.getLsbD 0)
  reads w := [.s w.sa.toNat, .s w.sb.toNat, .s w.sc.toNat]
  writes w := [.s w.dst.toNat]
  checks x c th w :=
    let t := getThread c th
    let a := readS t w.sa
    let n := (readS t w.sc).toNat
    alignCheck a 8 ++ (if badLen n then [(xRange, readS t w.sc)] else localCheck x a n ++ openCheck x c (regionAt x a n) n a)
  ready x c th w :=
    let t := getThread c th
    gatedRoom c th && (!isSpad (regionAt x (readS t w.sa) (readS t w.sc).toNat) || windowRoom c)
  effect x c th w :=
    let t := getThread c th
    let n := (readS t w.sc).toNat
    let r := regionAt x (readS t w.sa) n
    (openWindow (addGated c th .fabric (.scalar w.dst.toNat)) th r n, [.recv r (w.md.getLsbD 0) (readS t w.sb) n (tagOf w)])

def bodyProbe : Body where
  illegal x _ _ w := badUnused { dst := true, sb := true, md := true, imm := true } w || bits w.imm.toNat 31 16 != 0
    || bits w.md.toNat 3 1 != 0 || x.lock
  reads w := [.s w.sb.toNat]
  writes w := [.s w.dst.toNat]
  ready _ c th _ := gatedRoom c th
  effect _ c th w :=
    (addGated c th .fabric (.scalar w.dst.toNat), [.probe (w.md.getLsbD 0) (readS (getThread c th) w.sb) (tagOf w)])

/-- R354 Table 6: bytes read at the source and written at the destination by one member; `none` where it has none. -/
def collSpans (k : CollKind) (n m : Nat) (root : Bool) : Option Nat × Option Nat :=
  match k with
  | .allreduce => (some (128 * n), some (128 * n))
  | .reduce => (some (128 * n), if root then some (128 * n) else none)
  | .reduceScatter => (some (128 * n), some (128 * (n / m)))
  | .broadcast => (if root then some (64 * n) else none, some (64 * n))
  | .allgather => (some (64 * n), some (64 * m * n))
  | .barrier => (none, none)
  | .alltoall => (some (64 * m * n), some (64 * m * n))

def collCount (w : OpWord) : Nat := bits w.imm.toNat 23 0

/-- The extent check of one side of a COLL (R348, R602: not made where no group gives M). -/
def collSide (x : Ctx) (a : W64) (n : Option Nat) : List (Nat × W64) :=
  match n with
  | some n => if n = 0 then [] else localCheck x a n
  | none => []

/-- The destination of a COLL in the scratchpad: the window it opens. Without a group its extent is count times unit. -/
def collWindow (x : Ctx) (k : CollKind) (g n : Nat) (grp : W64) (dst : W64) : Option (Region × Nat) :=
  let span := match x.group grp with
    | some (m, root, _) => (collSpans k n m root).2
    | none => if k = .barrier then none else some (g * n)
  match span with
  | some s => if s = 0 then none else (regionOf x dst s).bind fun r => if isSpad r then some (r, s) else none
  | none => none

/-- R161 Table 16: bytes of one count unit. -/
def collUnit (k : CollKind) : Nat :=
  match k with
  | .allreduce | .reduce | .reduceScatter => 128
  | _ => 64

/-- R356: a BARRIER on the fence group advances APHASE at its issue. -/
def bumpPhase (x : Ctx) (c : Core) (k : CollKind) (grp : W64) : Core :=
  match x.group grp with
  | some (_, _, true) => if k = .barrier then { c with aphase := c.aphase + 1 } else c
  | _ => c

/-- R161, R348, R354: a collective. -/
def collBody (k : CollKind) : Body where
  illegal _ _ _ w :=
    badUnused { dst := true, sa := true, sb := k != .barrier, sc := k != .barrier, md := true, imm := k != .barrier } w
    || bits w.imm.toNat 31 24 != 0
  reads w := if k = .barrier then [.s w.sa.toNat] else [.s w.sa.toNat, .s w.sb.toNat, .s w.sc.toNat]
  writes w := [.s w.dst.toNat]
  checks x c th w :=
    if k = .barrier then []
    else
      let t := getThread c th
      let n := collCount w
      let src := readS t w.sb
      let dst := readS t w.sc
      if n = 0 then [(xRange, w.imm.zeroExtend 64)]
      else
        alignCheck src 64 ++ alignCheck dst 64
        ++ (match x.group (readS t w.sa) with
          | some (m, root, _) => let p := collSpans k n m root; collSide x src p.1 ++ collSide x dst p.2
          | none => [])
        ++ (match collWindow x k (collUnit k) n (readS t w.sa) dst with
          | some (r, s) => openCheck x c r s dst
          | none => [])
  ready x c th w :=
    let t := getThread c th
    gatedRoom c th && ((collWindow x k (collUnit k) (collCount w) (readS t w.sa) (readS t w.sc)).isNone || windowRoom c)
  effect x c th w :=
    let t := getThread c th
    let grp := readS t w.sa
    let n := collCount w
    let spans := match x.group grp with
      | some (m, root, _) => collSpans k n m root
      | none => (none, none)
    let c1 := addGated (bumpPhase x c k grp) th .fabric (.scalar w.dst.toNat)
    let c2 := match collWindow x k (collUnit k) n grp (readS t w.sc) with
      | some (r, s) => openWindow c1 th r s
      | none => c1
    (c2, [.coll k grp (spans.1.bind fun m => regionOf x (readS t w.sb) m) (spans.2.bind fun m => regionOf x (readS t w.sc) m) n])

def bodyCollAllreduce : Body := collBody .allreduce
def bodyCollReduce : Body := collBody .reduce
def bodyCollReducescatter : Body := collBody .reduceScatter
def bodyCollBroadcast : Body := collBody .broadcast
def bodyCollAllgather : Body := collBody .allgather
def bodyCollBarrier : Body := collBody .barrier
def bodyCollAlltoall : Body := collBody .alltoall

end Sys2Proof.Machine
end

