-- ==== Sys2Proof/Machine/Draws.lean ====
section
/-! DEFINITION. Machine/Draws.lean: draws, counters, flags and tile descriptors (spec/05 R167 to R169 Table 18). -/

namespace Sys2Proof.Machine

def bodyRand : Body where
  illegal _ _ _ w := badUnused { dst := true, sa := true, md := true, imm := true } w || bits w.md.toNat 3 1 != 0
  reads w := [.s w.sa.toNat]
  writes w := [.s w.dst.toNat]
  effect _ c th w :=
    let e := (effAddr (getThread c th) w).toNat % 2 ^ 32
    let g := genKey c th
    let v : W64 := if w.md.getLsbD 0 then draw g 3 e ++ draw g 2 e else draw g 1 e ++ draw g 0 e
    (result c th 10 (.s w.dst.toNat v), [])

/-- R167: the binary32 value (y >> 8) * 2^-24. -/
def unitFloat (y : W32) : W32 := toF32Exact (mkFin (y.toNat / 256 : Nat) (-24))

def bodyVrand : Body where
  illegal _ _ _ w := badUnused { dst := true, sa := true, md := true } w || bad8 w.dst || w.md.getLsbD 3
  reads w := [.s w.sa.toNat]
  writes w := [.v w.dst.toNat]
  ready _ c _ _ := veFree c
  effect _ c th w :=
    let g := genKey c th
    let s := (readS (getThread c th) w.sa).toNat
    let f (l : Nat) : W32 :=
      let y := draw g (bits w.md.toNat 1 0) ((s + l) % 2 ^ 32)
      if w.md.getLsbD 2 then unitFloat y else y
    (result (takeVe c 1) th 10 (.v w.dst.toNat (ofLanes f)), [])

def bodySteprd : Body where
  illegal _ _ _ w := badUnused { dst := true, md := true } w || bits w.md.toNat 3 1 != 0
  writes w := [.s w.dst.toNat]
  effect _ c th w := (result c th 2 (.s w.dst.toNat (if w.md.getLsbD 0 then (getThread c th).count else c.step)), [])

def bodyTbrd : Body where
  illegal _ _ _ w := badUnused { dst := true } w
  writes w := [.s w.dst.toNat]
  ready _ c th _ := gatedRoom c th
  effect _ c th w := (addGated c th .timebase (.scalar w.dst.toNat), [.timebase])

/-- R169: NV as it stands after the sets of earlier steps; MOD[0] clears it. -/
def bodyFlags : Body where
  illegal _ _ _ w := badUnused { dst := true, md := true } w || bits w.md.toNat 3 1 != 0
  writes w := [.s w.dst.toNat]
  effect _ c th w :=
    let c1 := result c th 2 (.s w.dst.toNat (b2w (getThread c th).nv))
    (if w.md.getLsbD 0 then modThread c1 th fun t => { t with nv := false } else c1, [])

def bodyTdw : Body where
  illegal _ _ _ w := badUnused { dst := true, sa := true, md := true } w || bad8 w.dst || bits w.md.toNat 3 1 != 0
  reads w := [.s w.sa.toNat]
  writes w := [.t w.dst.toNat]
  effect _ c th w := (result c th 2 (.t w.dst.toNat (w.md.getLsbD 0) (readS (getThread c th) w.sa)), [])

def bodyTdr : Body where
  illegal _ _ _ w := badUnused { dst := true, sa := true, md := true } w || bad8 w.sa || bits w.md.toNat 3 1 != 0
  reads w := [.t w.sa.toNat]
  writes w := [.s w.dst.toNat]
  effect _ c th w :=
    let x := readT (getThread c th) w.sa
    (result c th 2 (.s w.dst.toNat (if w.md.getLsbD 0 then x.extractLsb' 64 64 else x.extractLsb' 0 64)), [])

end Sys2Proof.Machine
end

