-- ==== Sys2Proof/Machine/CoreExec.lean ====
section
/-! DEFINITION. Machine/CoreExec.lean: a step of a core as a command: the operations of spec/05, and BUBBLE
(spec/04 R89, R90; spec/05 R134 to R139, R170, R171; spec/02 R35, R44). An operation's command names the core context and the fields
of the operation word; it takes place when the rotation offers the step to a thread whose PC holds that word and the operation
is ready. Otherwise nothing changes: the step is a BUBBLE, or the core stands still. -/

namespace Sys2Proof.Machine

/-- R421: a test position runs as with LOCK set. -/
def coreLock (s : State) (k : Core) : Bool := lockSet s || k.mode == .test

/-- R33, R44, R35, R407, R416, R196, R270, R251: may the core take its next step, the deliveries of that step aside? -/
def coreMoves (s : State) (c : Nat) (k : Core) : Bool :=
  (k.mode == .live || k.mode == .test) && dieUp s (dieOf c) && !k.wedged && k.stopAt != some k.step && k.limit != some k.step
  && !stepEventsDue k && (!coreLock s k || (k.classify.isEmpty && !coreFaulted s c))

/-- May the core issue in its next step: every delivery that falls due in it has been made (R44, R45). -/
def coreReady (s : State) (c : Nat) (k : Core) : Bool := coreMoves s c k && (dueGated (coreLock s k) k).isEmpty

/-- What core context `c` sees of the module. -/
def ctxOf (s : State) (c : Nat) (k : Core) : Ctx :=
  let e := tblGet dmaNone s.mem.dma (dieOf c * 8 + clOf c / 2)
  { lock := coreLock s k, die := dieOf c, cl := clOf c, clmap := clmapOf s k.sg, dmaFree := decide (e.thq.length < 64),
    group := fun h => (groupFor s k.sg (dieOf c) k.lcore h).map fun p =>
      ((getGroup s p.1).m, (getGroup s p.1).root == p.2.index, (getGroup s p.1).fence) }

/-- The requester of an operation. -/
def reqOfEmit (c : Nat) (k : Core) (posted : Bool) (e : Emit) : NiReq :=
  { core := c, thread := e.thread, issue := e.issue, posted := posted, req := e.req, phase := k.aphase.toNat,
    count := (getThread k e.thread).count - 1 }

/-- R201: queues a DMA operation on its engine. -/
def queueDma (s : State) (c : Nat) (k : Core) (e : Emit) (src dst : Region) (len : Nat) : State :=
  let i := dieOf c * 8 + clOf c / 2
  let x : Xfer := { who := .thread c e.thread e.issue, sg := k.sg, src := src, dst := dst, len := len, done := 0, st := .running }
  modMem s fun m => { m with dma := tblModify dmaNone m.dma i fun g => { g with thq := g.thq ++ [x] } }

/-- R267: in a replay, a TBRD or RECV whose record is in the log is answered from it. -/
def replayAnswer (s : State) (c : Nat) (k : Core) (e : Emit) : Option State :=
  if replaying s k.sg then
    let cnt := (getThread k e.thread).count - 1
    match e.req with
    | .timebase => (match replayValue s k e.thread cnt 7 with
      | some (v, _) => some (gatedResult s c e.issue (.value v))
      | none => some (rplFail s 5))
    | .recv la _ _ _ _ => (replayValue s k e.thread cnt 8).map fun p =>
        let s := match la with
          | .spad off => pushExt s c e.thread e.issue off (p.2.map mOn)
          | .cluster d cl off => setClMem s d cl (memWriteEn (clMem s d cl) off (p.2.map mOn))
          | _ => s
        gatedResult s c e.issue (.value p.1)
    | _ => none
  else none

/-- Hands one request of core `c` to the unit that performs it. -/
def emitOne (c : Nat) (s : State) (e : Emit) : State :=
  let k := getCore s c
  match replayAnswer s c k e with
  | some s => s
  | none =>
    match e.req with
    | .mem posted key addr loc act =>
      newAcc s { core := c, thread := e.thread, issue := e.issue, posted := posted, key := key, addr := addr, sg := k.sg, loc := loc, act := act,
                 born := s.tb.tb, count := (getThread k e.thread).count - 1, stage := .waiting }
    | .dma src dst len => queueDma s c k e src dst len
    | .signal _ _ => syncEmit s (reqOfEmit c k true e)
    | .sreset _ => syncEmit s (reqOfEmit c k true e)
    | .wait _ _ => syncEmit s (reqOfEmit c k false e)
    | .spoll _ => syncEmit s (reqOfEmit c k false e)
    | .timebase => gatedResult s c e.issue (.value s.tb.tb)
    | .recv _ _ _ _ _ => recvEmit s (reqOfEmit c k false e)
    | .probe _ _ _ => recvEmit s (reqOfEmit c k false e)
    | .coll _ _ _ _ _ => collEmit s (reqOfEmit c k false e)
    | _ => niIssue s (dieOf c) (reqOfEmit c k false e)

/-- One step of core `c` in which operation word `w` of body `b` issues or raises its exception. -/
def opStep (b : Body) (s : State) (c : Nat) (k : Core) (w : OpWord) (word : W64) : State :=
  match stepIssue b (ctxOf s c k) k w word with
  | none => s
  | some (k', es) =>
    if k'.step = k.step then beginStall s c
    else each es (emitOne c) (setCore (endStall s c) c { k' with active := s.tb.tb })

/-- The command of an operation: code `op`, and the MOD that TCTL, FATOM and COLL fix. -/
def opCmd (b : Body) (op : Nat) (md : Option Nat) (c : Nat) (w : OpWord) (s : State) : Out :=
  let k := getCore s c
  when_ (coreReady s c k && (md.all fun m => m == w.md.toNat)) s (opStep b s c k w (opEncode op w))

/-- NOP (R141). -/
def execNop (c : Nat) (w : OpWord) (s : State) : Out := opCmd bodyNop 0x00 none c w s
/-- ADD (R141). -/
def execAdd (c : Nat) (w : OpWord) (s : State) : Out := opCmd bodyAdd 0x01 none c w s
/-- SUB (R141). -/
def execSub (c : Nat) (w : OpWord) (s : State) : Out := opCmd bodySub 0x02 none c w s
/-- AND (R141). -/
def execAnd (c : Nat) (w : OpWord) (s : State) : Out := opCmd bodyAnd 0x03 none c w s
/-- OR (R141). -/
def execOr (c : Nat) (w : OpWord) (s : State) : Out := opCmd bodyOr 0x04 none c w s
/-- XOR (R141). -/
def execXor (c : Nat) (w : OpWord) (s : State) : Out := opCmd bodyXor 0x05 none c w s
/-- SHL (R141). -/
def execShl (c : Nat) (w : OpWord) (s : State) : Out := opCmd bodyShl 0x06 none c w s
/-- SHR (R141). -/
def execShr (c : Nat) (w : OpWord) (s : State) : Out := opCmd bodyShr 0x07 none c w s
/-- SRA (R141). -/
def execSra (c : Nat) (w : OpWord) (s : State) : Out := opCmd bodySra 0x08 none c w s
/-- SLT (R141). -/
def execSlt (c : Nat) (w : OpWord) (s : State) : Out := opCmd bodySlt 0x09 none c w s
/-- SLTU (R141). -/
def execSltu (c : Nat) (w : OpWord) (s : State) : Out := opCmd bodySltu 0x0A none c w s
/-- SEQ (R141). -/
def execSeq (c : Nat) (w : OpWord) (s : State) : Out := opCmd bodySeq 0x0B none c w s
/-- MIN (R141). -/
def execMin (c : Nat) (w : OpWord) (s : State) : Out := opCmd bodyMin 0x0C none c w s
/-- MAX (R141). -/
def execMax (c : Nat) (w : OpWord) (s : State) : Out := opCmd bodyMax 0x0D none c w s
/-- MOVI (R141). -/
def execMovi (c : Nat) (w : OpWord) (s : State) : Out := opCmd bodyMovi 0x0E none c w s
/-- MOVH (R141). -/
def execMovh (c : Nat) (w : OpWord) (s : State) : Out := opCmd bodyMovh 0x0F none c w s
/-- MUL (R141). -/
def execMul (c : Nat) (w : OpWord) (s : State) : Out := opCmd bodyMul 0x10 none c w s
/-- MULH (R141). -/
def execMulh (c : Nat) (w : OpWord) (s : State) : Out := opCmd bodyMulh 0x11 none c w s
/-- MULHU (R141). -/
def execMulhu (c : Nat) (w : OpWord) (s : State) : Out := opCmd bodyMulhu 0x12 none c w s
/-- DIV (R142). -/
def execDiv (c : Nat) (w : OpWord) (s : State) : Out := opCmd bodyDiv 0x13 none c w s
/-- DIVU (R142). -/
def execDivu (c : Nat) (w : OpWord) (s : State) : Out := opCmd bodyDivu 0x14 none c w s
/-- REM (R142). -/
def execRem (c : Nat) (w : OpWord) (s : State) : Out := opCmd bodyRem 0x15 none c w s
/-- REMU (R142). -/
def execRemu (c : Nat) (w : OpWord) (s : State) : Out := opCmd bodyRemu 0x16 none c w s
/-- POPC (R141). -/
def execPopc (c : Nat) (w : OpWord) (s : State) : Out := opCmd bodyPopc 0x17 none c w s
/-- CTZ (R141). -/
def execCtz (c : Nat) (w : OpWord) (s : State) : Out := opCmd bodyCtz 0x18 none c w s
/-- BEQ (R143). -/
def execBeq (c : Nat) (w : OpWord) (s : State) : Out := opCmd bodyBeq 0x20 none c w s
/-- BNE (R143). -/
def execBne (c : Nat) (w : OpWord) (s : State) : Out := opCmd bodyBne 0x21 none c w s
/-- BLT (R143). -/
def execBlt (c : Nat) (w : OpWord) (s : State) : Out := opCmd bodyBlt 0x22 none c w s
/-- BGE (R143). -/
def execBge (c : Nat) (w : OpWord) (s : State) : Out := opCmd bodyBge 0x23 none c w s
/-- BLTU (R143). -/
def execBltu (c : Nat) (w : OpWord) (s : State) : Out := opCmd bodyBltu 0x24 none c w s
/-- BGEU (R143). -/
def execBgeu (c : Nat) (w : OpWord) (s : State) : Out := opCmd bodyBgeu 0x25 none c w s
/-- JAL (R143). -/
def execJal (c : Nat) (w : OpWord) (s : State) : Out := opCmd bodyJal 0x26 none c w s
/-- JR (R143). -/
def execJr (c : Nat) (w : OpWord) (s : State) : Out := opCmd bodyJr 0x27 none c w s
/-- HALT (R143). -/
def execHalt (c : Nat) (w : OpWord) (s : State) : Out := opCmd bodyHalt 0x28 none c w s
/-- BRK (R143). -/
def execBrk (c : Nat) (w : OpWord) (s : State) : Out := opCmd bodyBrk 0x29 none c w s
/-- STEPW (R143). -/
def execStepw (c : Nat) (w : OpWord) (s : State) : Out := opCmd bodyStepw 0x2B none c w s
/-- TCTL_RESUME (R144). -/
def execTctlResume (c : Nat) (w : OpWord) (s : State) : Out := opCmd bodyTctlResume 0x2A (some 0) c w s
/-- TCTL_STOP (R144). -/
def execTctlStop (c : Nat) (w : OpWord) (s : State) : Out := opCmd bodyTctlStop 0x2A (some 1) c w s
/-- TCTL_READ (R144). -/
def execTctlRead (c : Nat) (w : OpWord) (s : State) : Out := opCmd bodyTctlRead 0x2A (some 2) c w s
/-- TCTL_READ_XPC (R144). -/
def execTctlReadXpc (c : Nat) (w : OpWord) (s : State) : Out := opCmd bodyTctlReadXpc 0x2A (some 3) c w s
/-- TCTL_READ_XINFO (R144). -/
def execTctlReadXinfo (c : Nat) (w : OpWord) (s : State) : Out := opCmd bodyTctlReadXinfo 0x2A (some 4) c w s
/-- LD (R146). -/
def execLd (c : Nat) (w : OpWord) (s : State) : Out := opCmd bodyLd 0x30 none c w s
/-- ST (R146). -/
def execSt (c : Nat) (w : OpWord) (s : State) : Out := opCmd bodySt 0x31 none c w s
/-- VLD (R146). -/
def execVld (c : Nat) (w : OpWord) (s : State) : Out := opCmd bodyVld 0x32 none c w s
/-- VST (R146). -/
def execVst (c : Nat) (w : OpWord) (s : State) : Out := opCmd bodyVst 0x33 none c w s
/-- VSTM (R146). -/
def execVstm (c : Nat) (w : OpWord) (s : State) : Out := opCmd bodyVstm 0x34 none c w s
/-- LNLD (R146). -/
def execLnld (c : Nat) (w : OpWord) (s : State) : Out := opCmd bodyLnld 0x35 none c w s
/-- LNST (R146). -/
def execLnst (c : Nat) (w : OpWord) (s : State) : Out := opCmd bodyLnst 0x36 none c w s
/-- FENCE (R147). -/
def execFence (c : Nat) (w : OpWord) (s : State) : Out := opCmd bodyFence 0x37 none c w s
/-- MMA (R101). -/
def execMma (c : Nat) (w : OpWord) (s : State) : Out := opCmd bodyMma 0x70 none c w s
/-- WFLUSH (R111). -/
def execWflush (c : Nat) (w : OpWord) (s : State) : Out := opCmd bodyWflush 0x71 none c w s
/-- RSTORE (R153). -/
def execRstore (c : Nat) (w : OpWord) (s : State) : Out := opCmd bodyRstore 0x72 none c w s
/-- XSTORE (R113). -/
def execXstore (c : Nat) (w : OpWord) (s : State) : Out := opCmd bodyXstore 0x73 none c w s
/-- SPGET (R151). -/
def execSpget (c : Nat) (w : OpWord) (s : State) : Out := opCmd bodySpget 0x74 none c w s
/-- SPADD (R151). -/
def execSpadd (c : Nat) (w : OpWord) (s : State) : Out := opCmd bodySpadd 0x75 none c w s
/-- MCLR (R151). -/
def execMclr (c : Nat) (w : OpWord) (s : State) : Out := opCmd bodyMclr 0x76 none c w s
/-- LNADD (R155). -/
def execLnadd (c : Nat) (w : OpWord) (s : State) : Out := opCmd bodyLnadd 0x80 none c w s
/-- LNMOV (R155). -/
def execLnmov (c : Nat) (w : OpWord) (s : State) : Out := opCmd bodyLnmov 0x81 none c w s
/-- LNCLR (R155). -/
def execLnclr (c : Nat) (w : OpWord) (s : State) : Out := opCmd bodyLnclr 0x82 none c w s
/-- LNNEG (R155). -/
def execLnneg (c : Nat) (w : OpWord) (s : State) : Out := opCmd bodyLnneg 0x83 none c w s
/-- LNLANE (R155). -/
def execLnlane (c : Nat) (w : OpWord) (s : State) : Out := opCmd bodyLnlane 0x84 none c w s
/-- LNRND (R155). -/
def execLnrnd (c : Nat) (w : OpWord) (s : State) : Out := opCmd bodyLnrnd 0x85 none c w s
/-- VADD (R87). -/
def execVadd (c : Nat) (w : OpWord) (s : State) : Out := opCmd bodyVadd 0x50 none c w s
/-- VSUB (R87). -/
def execVsub (c : Nat) (w : OpWord) (s : State) : Out := opCmd bodyVsub 0x51 none c w s
/-- VMUL (R87). -/
def execVmul (c : Nat) (w : OpWord) (s : State) : Out := opCmd bodyVmul 0x52 none c w s
/-- VFMA (R87). -/
def execVfma (c : Nat) (w : OpWord) (s : State) : Out := opCmd bodyVfma 0x53 none c w s
/-- VMIN (R156). -/
def execVmin (c : Nat) (w : OpWord) (s : State) : Out := opCmd bodyVmin 0x54 none c w s
/-- VMAX (R156). -/
def execVmax (c : Nat) (w : OpWord) (s : State) : Out := opCmd bodyVmax 0x55 none c w s
/-- VCVT (R157). -/
def execVcvt (c : Nat) (w : OpWord) (s : State) : Out := opCmd bodyVcvt 0x56 none c w s
/-- VIADD (R156). -/
def execViadd (c : Nat) (w : OpWord) (s : State) : Out := opCmd bodyViadd 0x57 none c w s
/-- VIMUL (R156). -/
def execVimul (c : Nat) (w : OpWord) (s : State) : Out := opCmd bodyVimul 0x58 none c w s
/-- VBCAST (R156). -/
def execVbcast (c : Nat) (w : OpWord) (s : State) : Out := opCmd bodyVbcast 0x59 none c w s
/-- VLANE (R156). -/
def execVlane (c : Nat) (w : OpWord) (s : State) : Out := opCmd bodyVlane 0x5A none c w s
/-- VIDX (R156). -/
def execVidx (c : Nat) (w : OpWord) (s : State) : Out := opCmd bodyVidx 0x5B none c w s
/-- VFN (R88). -/
def execVfn (c : Nat) (w : OpWord) (s : State) : Out := opCmd bodyVfn 0x60 none c w s
/-- VCMP (R158). -/
def execVcmp (c : Nat) (w : OpWord) (s : State) : Out := opCmd bodyVcmp 0x61 none c w s
/-- VSEL (R156). -/
def execVsel (c : Nat) (w : OpWord) (s : State) : Out := opCmd bodyVsel 0x62 none c w s
/-- VGATH (R121). -/
def execVgath (c : Nat) (w : OpWord) (s : State) : Out := opCmd bodyVgath 0x40 none c w s
/-- VSCAT (R123). -/
def execVscat (c : Nat) (w : OpWord) (s : State) : Out := opCmd bodyVscat 0x41 none c w s
/-- VSCADD (R125). -/
def execVscadd (c : Nat) (w : OpWord) (s : State) : Out := opCmd bodyVscadd 0x42 none c w s
/-- XSCADD (R127). -/
def execXscadd (c : Nat) (w : OpWord) (s : State) : Out := opCmd bodyXscadd 0x43 none c w s
/-- DMA (R201). -/
def execDma (c : Nat) (w : OpWord) (s : State) : Out := opCmd bodyDma 0x90 none c w s
/-- SIGNAL (R164). -/
def execSignal (c : Nat) (w : OpWord) (s : State) : Out := opCmd bodySignal 0x91 none c w s
/-- WAIT (R343). -/
def execWait (c : Nat) (w : OpWord) (s : State) : Out := opCmd bodyWait 0x92 none c w s
/-- SRESET (R161). -/
def execSreset (c : Nat) (w : OpWord) (s : State) : Out := opCmd bodySreset 0x93 none c w s
/-- SPOLL (R161). -/
def execSpoll (c : Nat) (w : OpWord) (s : State) : Out := opCmd bodySpoll 0x94 none c w s
/-- FRD (R161). -/
def execFrd (c : Nat) (w : OpWord) (s : State) : Out := opCmd bodyFrd 0xA0 none c w s
/-- FWR (R161). -/
def execFwr (c : Nat) (w : OpWord) (s : State) : Out := opCmd bodyFwr 0xA1 none c w s
/-- FATOM_ADD64 (R161). -/
def execFatomAdd64 (c : Nat) (w : OpWord) (s : State) : Out := opCmd bodyFatomAdd64 0xA2 (some 0) c w s
/-- FATOM_SWAP64 (R161). -/
def execFatomSwap64 (c : Nat) (w : OpWord) (s : State) : Out := opCmd bodyFatomSwap64 0xA2 (some 1) c w s
/-- FATOM_CAS64 (R161). -/
def execFatomCas64 (c : Nat) (w : OpWord) (s : State) : Out := opCmd bodyFatomCas64 0xA2 (some 2) c w s
/-- FATOM_MIN64 (R161). -/
def execFatomMin64 (c : Nat) (w : OpWord) (s : State) : Out := opCmd bodyFatomMin64 0xA2 (some 3) c w s
/-- FATOM_MAX64 (R161). -/
def execFatomMax64 (c : Nat) (w : OpWord) (s : State) : Out := opCmd bodyFatomMax64 0xA2 (some 4) c w s
/-- FATOM_XADD (R161). -/
def execFatomXadd (c : Nat) (w : OpWord) (s : State) : Out := opCmd bodyFatomXadd 0xA2 (some 5) c w s
/-- SEND (R161). -/
def execSend (c : Nat) (w : OpWord) (s : State) : Out := opCmd bodySend 0xA3 none c w s
/-- RECV (R165). -/
def execRecv (c : Nat) (w : OpWord) (s : State) : Out := opCmd bodyRecv 0xA4 none c w s
/-- PROBE (R161). -/
def execProbe (c : Nat) (w : OpWord) (s : State) : Out := opCmd bodyProbe 0xA5 none c w s
/-- COLL_ALLREDUCE (R354). -/
def execCollAllreduce (c : Nat) (w : OpWord) (s : State) : Out := opCmd bodyCollAllreduce 0xB0 (some 0) c w s
/-- COLL_REDUCE (R354). -/
def execCollReduce (c : Nat) (w : OpWord) (s : State) : Out := opCmd bodyCollReduce 0xB0 (some 1) c w s
/-- COLL_REDUCESCATTER (R354). -/
def execCollReducescatter (c : Nat) (w : OpWord) (s : State) : Out := opCmd bodyCollReducescatter 0xB0 (some 2) c w s
/-- COLL_BROADCAST (R354). -/
def execCollBroadcast (c : Nat) (w : OpWord) (s : State) : Out := opCmd bodyCollBroadcast 0xB0 (some 3) c w s
/-- COLL_ALLGATHER (R354). -/
def execCollAllgather (c : Nat) (w : OpWord) (s : State) : Out := opCmd bodyCollAllgather 0xB0 (some 4) c w s
/-- COLL_BARRIER (R354). -/
def execCollBarrier (c : Nat) (w : OpWord) (s : State) : Out := opCmd bodyCollBarrier 0xB0 (some 5) c w s
/-- COLL_ALLTOALL (R354). -/
def execCollAlltoall (c : Nat) (w : OpWord) (s : State) : Out := opCmd bodyCollAlltoall 0xB0 (some 6) c w s
/-- RAND (R167). -/
def execRand (c : Nat) (w : OpWord) (s : State) : Out := opCmd bodyRand 0xC0 none c w s
/-- VRAND (R167). -/
def execVrand (c : Nat) (w : OpWord) (s : State) : Out := opCmd bodyVrand 0xC1 none c w s
/-- STEPRD (R167). -/
def execSteprd (c : Nat) (w : OpWord) (s : State) : Out := opCmd bodySteprd 0xC2 none c w s
/-- TBRD (R52). -/
def execTbrd (c : Nat) (w : OpWord) (s : State) : Out := opCmd bodyTbrd 0xC3 none c w s
/-- FLAGS (R169). -/
def execFlags (c : Nat) (w : OpWord) (s : State) : Out := opCmd bodyFlags 0xC4 none c w s
/-- TDW (R167). -/
def execTdw (c : Nat) (w : OpWord) (s : State) : Out := opCmd bodyTdw 0xC5 none c w s
/-- TDR (R167). -/
def execTdr (c : Nat) (w : OpWord) (s : State) : Out := opCmd bodyTdr 0xC6 none c w s

/-- Tables 4 to 6, 7, 9 to 11, 13 to 18 of spec/05: the operation of an operation code and a MOD field; none where the code, or the
MOD of TCTL, FATOM or COLL, is reserved. -/
def bodyOf (op md : Nat) : Option Body :=
  match op with
  | 0x00 => some bodyNop
  | 0x01 => some bodyAdd
  | 0x02 => some bodySub
  | 0x03 => some bodyAnd
  | 0x04 => some bodyOr
  | 0x05 => some bodyXor
  | 0x06 => some bodyShl
  | 0x07 => some bodyShr
  | 0x08 => some bodySra
  | 0x09 => some bodySlt
  | 0x0A => some bodySltu
  | 0x0B => some bodySeq
  | 0x0C => some bodyMin
  | 0x0D => some bodyMax
  | 0x0E => some bodyMovi
  | 0x0F => some bodyMovh
  | 0x10 => some bodyMul
  | 0x11 => some bodyMulh
  | 0x12 => some bodyMulhu
  | 0x13 => some bodyDiv
  | 0x14 => some bodyDivu
  | 0x15 => some bodyRem
  | 0x16 => some bodyRemu
  | 0x17 => some bodyPopc
  | 0x18 => some bodyCtz
  | 0x20 => some bodyBeq
  | 0x21 => some bodyBne
  | 0x22 => some bodyBlt
  | 0x23 => some bodyBge
  | 0x24 => some bodyBltu
  | 0x25 => some bodyBgeu
  | 0x26 => some bodyJal
  | 0x27 => some bodyJr
  | 0x28 => some bodyHalt
  | 0x29 => some bodyBrk
  | 0x2B => some bodyStepw
  | 0x2A => (match md with
    | 0 => some bodyTctlResume
    | 1 => some bodyTctlStop
    | 2 => some bodyTctlRead
    | 3 => some bodyTctlReadXpc
    | 4 => some bodyTctlReadXinfo
    | _ => none)
  | 0x30 => some bodyLd
  | 0x31 => some bodySt
  | 0x32 => some bodyVld
  | 0x33 => some bodyVst
  | 0x34 => some bodyVstm
  | 0x35 => some bodyLnld
  | 0x36 => some bodyLnst
  | 0x37 => some bodyFence
  | 0x70 => some bodyMma
  | 0x71 => some bodyWflush
  | 0x72 => some bodyRstore
  | 0x73 => some bodyXstore
  | 0x74 => some bodySpget
  | 0x75 => some bodySpadd
  | 0x76 => some bodyMclr
  | 0x80 => some bodyLnadd
  | 0x81 => some bodyLnmov
  | 0x82 => some bodyLnclr
  | 0x83 => some bodyLnneg
  | 0x84 => some bodyLnlane
  | 0x85 => some bodyLnrnd
  | 0x50 => some bodyVadd
  | 0x51 => some bodyVsub
  | 0x52 => some bodyVmul
  | 0x53 => some bodyVfma
  | 0x54 => some bodyVmin
  | 0x55 => some bodyVmax
  | 0x56 => some bodyVcvt
  | 0x57 => some bodyViadd
  | 0x58 => some bodyVimul
  | 0x59 => some bodyVbcast
  | 0x5A => some bodyVlane
  | 0x5B => some bodyVidx
  | 0x60 => some bodyVfn
  | 0x61 => some bodyVcmp
  | 0x62 => some bodyVsel
  | 0x40 => some bodyVgath
  | 0x41 => some bodyVscat
  | 0x42 => some bodyVscadd
  | 0x43 => some bodyXscadd
  | 0x90 => some bodyDma
  | 0x91 => some bodySignal
  | 0x92 => some bodyWait
  | 0x93 => some bodySreset
  | 0x94 => some bodySpoll
  | 0xA0 => some bodyFrd
  | 0xA1 => some bodyFwr
  | 0xA2 => (match md with
    | 0 => some bodyFatomAdd64
    | 1 => some bodyFatomSwap64
    | 2 => some bodyFatomCas64
    | 3 => some bodyFatomMin64
    | 4 => some bodyFatomMax64
    | 5 => some bodyFatomXadd
    | _ => none)
  | 0xA3 => some bodySend
  | 0xA4 => some bodyRecv
  | 0xA5 => some bodyProbe
  | 0xB0 => (match md with
    | 0 => some bodyCollAllreduce
    | 1 => some bodyCollReduce
    | 2 => some bodyCollReducescatter
    | 3 => some bodyCollBroadcast
    | 4 => some bodyCollAllgather
    | 5 => some bodyCollBarrier
    | 6 => some bodyCollAlltoall
    | _ => none)
  | 0xC0 => some bodyRand
  | 0xC1 => some bodyVrand
  | 0xC2 => some bodySteprd
  | 0xC3 => some bodyTbrd
  | 0xC4 => some bodyFlags
  | 0xC5 => some bodyTdw
  | 0xC6 => some bodyTdr
  | _ => none
/-- The word at the PC of the offered thread: an operation, or one whose code is reserved. -/
def illegalWord (word : W64) : Bool := (bodyOf (opDecode word).1 (opDecode word).2.md.toNat).isNone

/-- BUBBLE (R90): the offered thread is not ready, or stands in HALT or EXC. A word of a reserved code raises ILLEGAL (R135), and a
PC outside the code section ADDRESS (R136), in such a step. -/
def bubbleStep (s : State) (c : Nat) (k : Core) : State :=
  let k1 := beginStep k
  let th := offered k1
  let pc := (getThread k1 th).pc
  if !threadOffered k1 th then setCore (endStall s c) c (endIssue k1)
  else match fetchAt k1 pc with
    | none => setCore (endStall s c) c { endIssue (raiseAt k1 th xAddress pc) with active := s.tb.tb }
    | some word =>
      match bodyOf (opDecode word).1 (opDecode word).2.md.toNat with
      | none => setCore (endStall s c) c { endIssue (raiseAt k1 th xIllegal word) with active := s.tb.tb }
      | some b =>
        match issueKind b (ctxOf s c k) k1 th (opDecode word).2 word with
        | .bubble => setCore (endStall s c) c (endIssue k1)
        | _ => s

def execBubble (c : Nat) (s : State) : Out :=
  let k := getCore s c
  when_ (coreReady s c k) s (bubbleStep s c k)

end Sys2Proof.Machine
end

