-- ==== Sys2Proof/Machine/CoreEvents.lean ====
section
/-! DEFINITION. Machine/CoreEvents.lean: what comes about in a core between issues: RESULT_ARRIVAL, GATED_DELIVERY, bank grants,
engine events, LOGICAL_CORE_END (spec/02 R44, R45, R48, R49; spec/04 R94 to R118; spec/05 R139, R147, R151, R170, R174;
spec/13 R415, R416). -/

namespace Sys2Proof.Machine

/-- A context that runs, or stands in the step it has begun. -/
def coreOn (s : State) (c : Nat) : Bool :=
  ((getCore s c).mode == .live || (getCore s c).mode == .test) && dieUp s (dieOf c)

/-! ### RESULT_ARRIVAL (R44, R97, R163) -/

/-- The accesses of one operation. -/
def accsOf (s : State) (c : Nat) (issue : W64) : List (Nat × Access) := s.mem.acc.filter fun (p : Nat × Access) => p.2.core == c && p.2.issue == issue
def accEnded (a : Access) : Bool :=
  match a.stage with
  | .done _ => true
  | .failed _ => true
  | _ => false
/-- The address of the first word that failed. -/
def accFailed (l : List (Nat × Access)) : Option W64 := l.findSome? fun p => match p.2.stage with
  | .failed _ => some p.2.addr
  | _ => none
def dropAccs (s : State) (c : Nat) (issue : W64) : State :=
  modMem s fun m => { m with acc := m.acc.filter fun (p : Nat × Access) => !(p.2.core == c && p.2.issue == issue) }

/-- What the words of a load make: the values, or an exception ACCESS (R170). -/
def loadResult (l : List (Nat × Access)) : GResult :=
  match accFailed l with
  | some a => .fail a
  | none => .words (l.foldl (fun ws p => match p.2.stage with
      | .done w => tblPut ws p.2.key w
      | _ => ws) [])

/-- RESULT_ARRIVAL: the result of the gated request that core `c` issued at `issue` reaches the core, once every word and every
byte of it is there. -/
def execResultArrival (c : Nat) (issue : W64) (s : State) : Out :=
  let k := getCore s c
  match k.gated.find? fun g => g.issue == issue && !g.arrived with
  | none => .next s
  | some g =>
    let put (s : State) (r : GResult) : State :=
      modCore s c fun k => { k with gated := k.gated.map fun (x : Gated) => if x = g then { x with result := some r, arrived := true } else x }
    if k.extQ.any fun e => e.issue == issue then .next s
    else match g.kind, g.result with
      | .fence _ _, _ => .next s
      | _, some r => .next (put s r)
      | .load _, none =>
        let l := accsOf s c issue
        if l.all fun p => accEnded p.2 then .next (put (dropAccs s c issue) (loadResult l)) else .next s
      | _, none => .next s

/-! ### GATED_DELIVERY (R44, R45, R49) -/

/-- GATED_DELIVERY: the first delivery of the core's next step is made, or the whole core stalls for it. -/
def deliverStep (s : State) (c : Nat) (k : Core) : State :=
  match dueGated (coreLock s k) k with
  | [] => s
  | g :: _ =>
    if gatedHere k g then
      match logDelivery s k g with
      | some s => setCore (endStall s c) c { deliver k g with active := s.tb.tb, stallAt := none }
      | none => beginStall (logBlock s k.sg) c
    else beginStall s c

def execGatedDelivery (c : Nat) (s : State) : Out :=
  let k := getCore s c
  when_ (coreMoves s c k) s (deliverStep s c k)

/-! ### Banks (R94 to R98, R415, R416) -/

/-- Does a request read its word? A plain write does not. -/
def grantReads (r : SpadReq) : Bool :=
  match r.act with
  | .write _ => false
  | _ => true

/-- SRAM_UNCORRECTABLE (R416): the core stalls as a whole, and SPM_UNC is raised. -/
def spadUncorrectable (s : State) (c b : Nat) (r : SpadReq) : State :=
  let k := getCore s c
  let e := { eventOf s (srcDie (dieOf c) 4) with mid := midCore c, addr := r.addr, sg := some k.sg, slice := sliceOf s k.sg, sub := physOf c }
  let s := sherd s { kind := 2, place := corePlace s c 0xFF 0, step := (nowOf k).toNat, addr := r.addr, src := srcDie (dieOf c) 4,
                     slice := sliceOf s k.sg, sg := some k.sg, span := b }
  raise (setCore s c { k with wedged := true }) e

/-- SCRATCHPAD_GRANT (R96): bank `b` of core `c` grants a waiting word; `ecc` is what its read finds. -/
def grantStep (s : State) (c b : Nat) (ecc : Ecc) (r : SpadReq) : State :=
  let k := getCore s c
  let n := nowOf k
  if ecc == .uncorrectable && grantReads r then spadUncorrectable s c b r
  else
    let o := doGrant k r n
    let fix := ecc == .corrected && grantReads r
    let k' := if fix then { o.core with writebacks := addOnce o.core.writebacks b } else o.core
    let s := setCore s c k'
    let s := raiseMalformed s (srcDie (dieOf c) 21) k.sg r.addr o.malformed
    let s := if fix then countTransient s .spad (physOf c * 16 + b) else s
    each o.emits (emitOne c) s

def execScratchpadGrant (c b : Nat) (ecc : Ecc) (s : State) : Out :=
  match (if coreOn s c && !(getCore s c).wedged then grantNext (getCore s c) b (nowOf (getCore s c)) else none) with
  | none => .next s
  | some r =>
    if grantReads r then
      .next (injected [srcDie (dieOf c) 3, srcDie (dieOf c) 4] (some (clOf c, slotOf c)) (dieOf c) ecc (fun e s => grantStep s c b e r) s)
    else .next (grantStep s c b ecc r)

/-- EXTERNAL_WRITE (R98): bank `b` writes arriving bytes in its external-class slot. -/
def execExternalWrite (c b : Nat) (s : State) : Out :=
  when_ (coreOn s c) s (modCore s c fun k => extWrite k b (nowOf k))

/-- SRAM_WRITEBACK (R415): the corrected word of bank `b` is written back in the next slot of its reader's class. -/
def execSramWriteback (c b : Nat) (s : State) : Out :=
  when_ (coreOn s c && writebackDue (getCore s c) b (nowOf (getCore s c))) s
    (modCore s c fun k => { k with writebacks := k.writebacks.filter (· != b), served := b :: k.served })

/-! ### POSTED_PERFORMED (R139, R147, R164) -/

/-- Is a posted memory operation over: all its words have left the core and been performed or failed? -/
def postedOver (s : State) (c : Nat) (k : Core) (p : Posted) : Bool :=
  p.status == .waiting && p.cls != .syncWait && !(k.spadQ.any fun r => r.issue == p.issue) && (accsOf s c p.issue).all fun a => accEnded a.2

def execPostedPerformed (c : Nat) (issue : W64) (s : State) : Out :=
  let k := getCore s c
  match k.posted.find? fun p => p.issue == issue with
  | none => .next s
  | some p =>
    if postedOver s c k p then
      let st : PostStatus := match accFailed (accsOf s c issue) with
        | some a => .failed a
        | none => .performed
      let s := modCore (dropAccs s c issue) c fun k => { k with posted := k.posted.map fun (q : Posted) => if q = p then { q with status := st } else q }
      .next (releaseSignals s c)
    else .next s

/-! ### Engines (R101 to R113, R151) -/

/-- An event of engine `e` in the step that the core has begun. -/
def engineEvent (s : State) (c e : Nat) (due : Core → Engine → Bool) (f : Core → Engine → Core) : Out :=
  let k := getCore s c
  let x := getEng k e
  when_ (coreOn s c && decide (e < 4) && due k x) s (setCore s c (f k x))

/-- The head of the dispatch queue, when it dispatches in this step and is of a kind. -/
def dispatches (x : Engine) (f : EngOp → Bool) : Bool := x.mayDispatch && (dispatchHead x).any f

def execMmaDispatch (c e : Nat) (s : State) : Out :=
  engineEvent s c e (fun _ x => dispatches x isMma) fun k x => setEng k e (dispatchMma x (nowOf k))
def execFeederFetch (c e : Nat) (s : State) : Out :=
  engineEvent s c e (fun k x => !x.fetched && (feedNext x e (nowOf k)).isSome) fun k x => setEng k e (feederFetch k x e (nowOf k))
def execArrayStep (c e : Nat) (s : State) : Out :=
  engineEvent s c e (fun _ x => x.mayArray) fun k x => setEng k e (arrayStep x)
def execSpillRetire (c e : Nat) (s : State) : Out :=
  engineEvent s c e (fun _ x => x.mayRetire && !x.mayArray && !(x.spillQ.isEmpty && x.latch.isEmpty)) fun k x => setEng k e (spillRetire x)
def execWflushDispatch (c e : Nat) (s : State) : Out :=
  engineEvent s c e (fun _ x => dispatches x isFlush) fun k x => setEng k e (dispatchFlush x (nowOf k))
def isRstore (o : EngOp) : Bool :=
  match o.kind with
  | .rstore _ _ _ _ _ _ _ => true
  | _ => false
def isXstore (o : EngOp) : Bool :=
  match o.kind with
  | .xstore _ _ => true
  | _ => false
def execRstoreDispatch (c e : Nat) (s : State) : Out :=
  engineEvent s c e (fun _ x => dispatches x isRstore) fun k _ => dispatchStore k e (nowOf k)
def execXstoreDispatch (c e : Nat) (s : State) : Out :=
  engineEvent s c e (fun _ x => dispatches x isXstore) fun k _ => dispatchStore k e (nowOf k)
def execEngineOpDispatch (c e : Nat) (s : State) : Out :=
  engineEvent s c e (fun _ x => dispatches x fun o => !isMma o && !isFlush o && !isStore o) fun k _ => dispatchSp k e (nowOf k)
/-- RESULT_WORD_WRITE (R112): bank `b` writes a result word in its result-class slot. -/
def execResultWordWrite (c b : Nat) (s : State) : Out :=
  let k := getCore s c
  when_ (coreOn s c && slotClass b (nowOf k) == .result && !k.served.contains b) s (setCore s c (resultWrite k b (nowOf k)))

/-- LOGICAL_CORE_END (R174): the logical core ends at a step boundary. -/
def execLogicalCoreEnd (c : Nat) (s : State) : Out :=
  let k := getCore s c
  when_ (k.mode == .live && dieUp s (dieOf c) && !stepEventsDue k && allStopped k && nothingOutstanding k) s
    (setCore s c { k with mode := .over, ended := true })

end Sys2Proof.Machine
end

