-- ==== Sys2Proof/Machine/Crc.lean ====
section
/-! DEFINITION. Machine/Crc.lean: CRC-64/ECMA-182 (spec/07 R231), the CRC-8 of SMBus (spec/20 R588), and CRC-32 of Ethernet frames (spec/14 R444). -/

namespace Sys2Proof.Machine

def crc64Bit (c : W64) : W64 := if c.getLsbD 63 then (c <<< 1) ^^^ 0x42F0E1EBA9EA3693#64 else c <<< 1
def crc64Byte (c : W64) (b : Byte) : W64 :=
  let c := c ^^^ (b.zeroExtend 64 <<< 56)
  crc64Bit (crc64Bit (crc64Bit (crc64Bit (crc64Bit (crc64Bit (crc64Bit (crc64Bit c)))))))
/-- R231: CRC-64 of `bs` after bytes whose CRC-64 is `c`; `c = 0` for none. -/
def crc64Add (c : W64) (bs : List Byte) : W64 := bs.foldl crc64Byte c

def crc8Bit (c : Byte) : Byte := if c.getLsbD 7 then (c <<< 1) ^^^ 0x07#8 else c <<< 1
def crc8Byte (c b : Byte) : Byte :=
  let c := c ^^^ b
  crc8Bit (crc8Bit (crc8Bit (crc8Bit (crc8Bit (crc8Bit (crc8Bit (crc8Bit c)))))))
/-- R588: CRC-8 with polynomial 0x07 and initial value 0. -/
def crc8 (bs : List Byte) : Byte := bs.foldl crc8Byte 0#8

def crc32Bit (c : W32) : W32 := if c.getLsbD 0 then (c >>> 1) ^^^ 0xEDB88320#32 else c >>> 1
def crc32Byte (c : W32) (b : Byte) : W32 :=
  let c := c ^^^ b.zeroExtend 32
  crc32Bit (crc32Bit (crc32Bit (crc32Bit (crc32Bit (crc32Bit (crc32Bit (crc32Bit c)))))))
/-- The frame check sequence of an Ethernet frame. -/
def crc32 (bs : List Byte) : W32 := ~~~ (bs.foldl crc32Byte 0xFFFFFFFF#32)

end Sys2Proof.Machine
end

