-- ==== Sys2Proof/Machine/Dma.lean ====
section
/-! DEFINITION. Machine/Dma.lean: the DMA engines' units and the table writer (spec/06 R194, R200 to R203, R213; spec/07 R216, R231). -/

namespace Sys2Proof.Machine

def getDma (s : State) (i : Nat) : DmaEng := tblGet dmaNone s.mem.dma i
def modDma (s : State) (i : Nat) (f : DmaEng → DmaEng) : State := modMem s fun m => { m with dma := tblModify dmaNone m.dma i f }

/-- R201: an engine without a transfer takes the next: from the other queue than last time when both hold transfers. -/
def dmaChoose (g : DmaEng) : DmaEng :=
  if g.busy then g
  else if g.thq.isEmpty && g.feq.isEmpty then g
  else { g with busy := true, front := if g.thq.isEmpty then true else if g.feq.isEmpty then false else !g.front }
/-- The transfer in progress. -/
def dmaCur (g : DmaEng) : Option Xfer := if g.busy then (if g.front then g.feq.head? else g.thq.head?) else none
def dmaSetCur (g : DmaEng) (x : Xfer) : DmaEng :=
  if g.front then { g with feq := x :: g.feq.drop 1 } else { g with thq := x :: g.thq.drop 1 }
def dmaPop (g : DmaEng) : DmaEng :=
  if g.front then { g with feq := g.feq.drop 1, busy := false } else { g with thq := g.thq.drop 1, busy := false }

/-- R216: host traffic of function `f` may leave: its port's link is up and no reset holds it (R211). -/
def hostUp (s : State) (f : Nat) : Bool :=
  let hp1 := fbit s (r_TNT_FN_PORT f) f_TNT_FN_PORT_PORT
  (if hp1 then s.stm.ports.2 else s.stm.ports.1) && !(tblGet (fun _ => funcReset) s.stm.funcs f).stopped

/-- R202: bytes of the next unit. -/
def unitLen (x : Xfer) : Nat := min (64 - (regionOff x.dst + x.done) % 64) (x.len - x.done)

/-- The core whose scratchpad a transfer of a thread may name, and its thread and issue step. -/
def xferCore (x : Xfer) : Nat × Nat × W64 :=
  match x.who with
  | .thread c t i => (c, t, i)
  | .item _ _ => (0, 0, 0)

/-- R14, Table 6: who asks. SRC is 1 for a thread's DMA and 2 for the stream front end. -/
def xferAsker (i : Nat) (x : Xfer) : Asker :=
  match x.who with
  | .thread c _ _ => { die := i / 8, sg := x.sg, mid := midCore c, src := 1 }
  | .item _ _ => { die := i / 8, sg := x.sg, mid := midSfe, src := 2 }

/-- R231: the bytes of an output piece enter the item's CRC-64; those that LOAD copies are its image. -/
def crcItem (s : State) (x : Xfer) (bs : List Byte) : State :=
  match x.who with
  | .item strm _ => modStrm s strm fun t => { t with run := t.run.map fun r =>
      match r.pieces with
      | p :: _ => if p.out then { r with crc := crc64Add r.crc bs } else if r.phase = .image then { r with bytes := r.bytes ++ bs } else r
      | [] => r }
  | .thread _ _ _ => s

/-- A fault holds the transfer, and its core under LOCK (R195, R196); the log of a replay may name its refusal (R267). -/
def xferFault (s : State) (i : Nat) (x : Xfer) (tag : Nat) : State :=
  let s := modDma s i fun g => dmaSetCur g { x with st := .faulted (if tag < 1024 then some tag else none) }
  match x.who with
  | .thread c _ _ => if lockSet s then beginStall s c else s
  | .item _ _ => s

/-- One unit of the transfer in progress: read, then written, or the transfer stops (R202, R203). -/
def dmaUnit (s : State) (i : Nat) (x : Xfer) (hit hostErr : Bool) : State :=
  let n := unitLen x
  let a := xferAsker i x
  let (c, t, iss) := xferCore x
  let src := regionAdd x.src x.done
  let dst := regionAdd x.dst x.done
  let stop (s : State) (st : Nat) : State := modDma s i fun g => dmaSetCur g { x with st := .failed st }
  if hostErr && (isHost src || isHost dst) then stop s 8
  else match agentRead s a c src n hit with
    | .busy => s
    | .refused s => stop s 1
    | .fault s tag => xferFault s i x tag
    | .ok s bs _ =>
      match agentWrite s a c t iss dst (bs.map mOn) hit with
      | .busy => s
      | .refused s => stop s 1
      | .fault s tag => xferFault s i x tag
      | .ok s _ _ => crcItem (modDma s i fun g => dmaSetCur g { x with done := x.done + n }) x bs

/-- May the transfer in progress move on: its saggar runs (R204), its host port is up (R216), and it is not held. -/
def dmaGoes (s : State) (x : Xfer) : Bool :=
  (x.st == .running || x.st == .faulted none) && decide (x.done < x.len) && sgState s x.sg == 1
  && (!(isHost x.src || isHost x.dst) || hostUp s (fnOf s x.sg))

/-- DMA_UNIT_WRITE (R202): engine `i` (die × 8 + number) writes its next unit. `hit`: the translation buffer holds the pages;
`hostErr`: a host access of the unit failed. -/
def execDmaUnitWrite (i : Nat) (hit hostErr : Bool) (s : State) : Out :=
  let s' := modDma s i dmaChoose
  match dmaCur (getDma s' i) with
  | none => .next s
  | some x => when_ (decide (i < 128) && dieUp s (i / 8) && dmaGoes s' x) s (dmaUnit s' i x hit hostErr)

/-! ### The table writer (R194, R213) -/

def twDst (s : State) : Nat := fget s r_MMU_TW_DST_LO f_MMU_TW_DST_LO_DST * 8 + fget s r_MMU_TW_DST_HI f_MMU_TW_DST_HI_DST * 2 ^ 32
def twSrc (s : State) : Nat := fget s r_MMU_TW_SRC_LO f_MMU_TW_SRC_LO_SRC * 8 + fget s r_MMU_TW_SRC_HI f_MMU_TW_SRC_HI_SRC * 2 ^ 32
def twBusy (s : State) : Bool := fbit s r_MMU_TW_STAT f_MMU_TW_STAT_BUSY

/-- The write failed with a code. -/
def twFail (s : State) (code : Nat) : State :=
  fput (fput s r_MMU_TW_STAT f_MMU_TW_STAT_ERR 1) r_MMU_TW_STAT f_MMU_TW_STAT_ECODE code

/-- MMU_TW_GO (R194): a write of `v` to MMU_TW_CTL; GO starts the table writer, and a GO while BUSY is discarded. -/
def execMmuTwGo (v : W32) (s : State) : Out :=
  if twBusy s && v.getLsbD 31 then .next s
  else
    let s := rput s r_MMU_TW_CTL (v &&& 0x00FFFFFF#32)
    if v.getLsbD 31 then
      let cnt := fget s r_MMU_TW_CTL f_MMU_TW_CTL_CNT
      let job : TwJob := { dst := twDst s, src := twSrc s, data := BitVec.ofNat 64 (pairGet s r_MMU_TW_DATA_LO r_MMU_TW_DATA_HI), cnt := cnt,
                           sg := fget s r_MMU_TW_CTL f_MMU_TW_CTL_SG }
      let s := fput (fput (modMem s fun m => { m with tw := some job }) r_MMU_TW_STAT f_MMU_TW_STAT_BUSY 1) r_MMU_TW_STAT f_MMU_TW_STAT_ECODE 0
      .next (fput s r_MMU_TW_CTL f_MMU_TW_CTL_GO 1)
    else .next s

/-- Writes entries from `dst` up until one fails (Table 11): the state and the code of the failure. -/
def twWrite : State → Nat → List W64 → State × Nat
  | s, _, [] => (s, 0)
  | s, dst, e :: es =>
    if dst % 2 ^ 36 + 8 > serviceBase then (s, 1)
    else if !stackInService s (dst / 2 ^ 36) then (s, 3)
    else match dramRead s (serviceTag s 0) (dst / 64) with
      | none => (s, 4)
      | some w =>
        twWrite (dramWrite s (serviceTag s 0) (dst / 64) (mergeWord w (dst % 64) ((leBytes 8 e.toNat).map mOn))) (dst + 8) es

/-- R194: every translation of a saggar leaves every die's buffer. -/
def dropTrans (s : State) (sg : Nat) : State :=
  modMem s fun m => { m with tbuf := tblMap (fun l => l.filter fun e => e.sg != sg) m.tbuf }

/-- TABLE_WRITER_DONE (R194): the entries are written, the saggar's stale translations are removed, and BUSY clears. `readOk`: the
host read of a copy succeeded. -/
def execTableWriterDone (readOk : Bool) (s : State) : Out :=
  match s.mem.tw with
  | none => .next s
  | some j =>
    if j.cnt != 0 && !hostUp s 0 then .next s
    else
      let entries : List W64 := if j.cnt = 0 then [j.data] else (List.range j.cnt).map fun k => BitVec.ofNat 64 (hostNat s (j.src + 8 * k) 8)
      let (s, code) := if j.cnt != 0 && !readOk then (s, 2) else twWrite s j.dst entries
      let s := dropTrans (modMem s fun m => { m with tw := none }) j.sg
      let s := fput (fput s r_MMU_TW_STAT f_MMU_TW_STAT_BUSY 0) r_MMU_TW_CTL f_MMU_TW_CTL_GO 0
      .next (if code = 0 then s else twFail s code)

end Sys2Proof.Machine
end

