-- ==== Sys2Proof/Machine/Streams.lean ====
section
/-! DEFINITION. Machine/Streams.lean: streams and functions: where a stream belongs, the writes of MRAM, completions, interrupts and
budgets (spec/07 R215 to R242, R252; spec/16 R477 to R486, R491 to R493). -/

namespace Sys2Proof.Machine

/-! ### Functions, streams, saggars (R215, R217, R218, R517) -/

def fnBase (s : State) (f : Nat) : Nat := 64 * fget s (r_TNT_FN_STRM f) f_TNT_FN_STRM_SBASE
def fnCount (s : State) (f : Nat) : Nat := 64 * fget s (r_TNT_FN_STRM f) f_TNT_FN_STRM_SCNT
/-- R218: the function of a stream. -/
def fnOfStrm (s : State) (n : Nat) : Option Nat :=
  (List.range 256).find? fun f => decide (fnBase s f ≤ n) && decide (n < fnBase s f + fnCount s f)
/-- R517: the saggar of a function. -/
def sgOfFn (s : State) (f : Nat) : Option Nat := (List.range 128).find? fun g => sgState s g != 0 && fnOf s g == f
/-- The saggar on which items of a stream run; 65,536 is the replay engine. -/
def sgOfStrm (s : State) (n : Nat) : Option Nat :=
  if n = 65536 then some (fget s r_DET_RPL_CTL f_DET_RPL_CTL_SG) else (fnOfStrm s n).bind (sgOfFn s)

def getFn (s : State) (f : Nat) : Func := tblGet (fun _ => funcReset) s.stm.funcs f
def modFn (s : State) (f : Nat) (g : Func → Func) : State :=
  modStm s fun t => { t with funcs := tblModify (fun _ => funcReset) t.funcs f g }
def getVec (s : State) (f v : Nat) : Vec := tblGet (fun _ => vecReset) (getFn s f).vecs v
def modVec (s : State) (f v : Nat) (g : Vec → Vec) : State :=
  modFn s f fun x => { x with vecs := tblModify (fun _ => vecReset) x.vecs v g }

/-! ### Context registers (Table 2) -/

def stState (s : State) (n : Nat) : Nat := fget s (r_STM_STAT n) f_STM_STAT_STATE
def setStState (s : State) (n x : Nat) : State := fput s (r_STM_STAT n) f_STM_STAT_STATE x
def stOff : Nat := 0
def stRun : Nat := 1
def stStopped : Nat := 2
def stHalted : Nat := 3
def stRecover : Nat := 4
def stMode (s : State) (n : Nat) : Nat := fget s (r_STM_CFG n) f_STM_CFG_MODE
def stSeq (s : State) (n : Nat) : Nat := (rget s (r_STM_SEQ_LO n)).toNat + fget s (r_STM_SEQ_HI n) f_STM_SEQ_HI_SEQ * 2 ^ 32
def setStSeq (s : State) (n seq : Nat) : State :=
  rput (rput s (r_STM_SEQ_LO n) (BitVec.ofNat 32 seq)) (r_STM_SEQ_HI n) (BitVec.ofNat 32 (seq / 2 ^ 32 % 65536))
def inflight (s : State) (n : Nat) : Nat := fget s (r_STM_STAT n) f_STM_STAT_INFLIGHT
def setInflight (s : State) (n x : Nat) : State := fput s (r_STM_STAT n) f_STM_STAT_INFLIGHT x
def sqSize (s : State) (n : Nat) : Nat := 2 ^ fget s (r_STM_CFG n) f_STM_CFG_SQLOG
def cqSize (s : State) (n : Nat) : Nat := 2 ^ fget s (r_STM_CFG n) f_STM_CFG_CQLOG
def sqHead (s : State) (n : Nat) : Nat := fget s (r_STM_PTR n) f_STM_PTR_SQHEAD
def cqTail (s : State) (n : Nat) : Nat := fget s (r_STM_PTR n) f_STM_PTR_CQTAIL
def sqBase (s : State) (n : Nat) : Nat := fget s (r_STM_SQB_LO n) f_STM_SQB_LO_BASE * 4096 + fget s (r_STM_SQB_HI n) f_STM_SQB_HI_BASE * 2 ^ 32
def cqBase (s : State) (n : Nat) : Nat := fget s (r_STM_CQB_LO n) f_STM_CQB_LO_BASE * 4096 + fget s (r_STM_CQB_HI n) f_STM_CQB_HI_BASE * 2 ^ 32
/-- R225, R220: the stream halts with a reason. -/
def haltStrm (s : State) (n code : Nat) : State := setStState (fput s (r_STM_STAT n) f_STM_STAT_ECODE code) n stHalted
/-- R223: the last SEQ whose DONE was committed. -/
def setLdone (s : State) (n seq : Nat) : State :=
  rput (rput s (r_STM_LDONE_LO n) (BitVec.ofNat 32 seq)) (r_STM_LDONE_HI n) (BitVec.ofNat 32 (seq / 2 ^ 32 % 65536 + 2 ^ 31))

/-- R597: the STM block takes writes once the journal has been recovered. -/
def strmsUp (s : State) : Bool := s.stm.jnl.recovered

/-! ### The journal's MRAM (R477 to R486) -/

def modJnl (s : State) (f : Journal → Journal) : State := modStm s fun t => { t with jnl := f t.jnl }
def recSlot (n seq : Nat) : Nat := 256 * n + seq % 256
def doneSlot (n seq : Nat) : Nat := 16 * n + seq % 16
/-- The logical block of a record slot. -/
def blockOf (n seq : Nat) : Nat := recSlot n seq / 1024
/-- R487: MRAM writes may start. -/
def mramOn (s : State) : Bool :=
  match s.stm.jnl.failAt with
  | none => true
  | some t => decide ((s.tb.tb - t).toNat < 1000000)
def putRec (s : State) (r : JRec) : State := modJnl s fun j => { j with recs := tblPut j.recs (recSlot r.stream r.seq) r }
/-- The record that a slot holds for (stream, SEQ). -/
def getRec (s : State) (n seq : Nat) : Option JRec := (tblFind s.stm.jnl.recs (recSlot n seq)).filter fun r => r.seq == seq
/-- R485 D3, R479: the slot becomes free. -/
def retireRec (s : State) (n seq : Nat) : State :=
  match getRec s n seq with
  | none => s
  | some _ => modJnl s fun j => { j with recs := tblErase j.recs (recSlot n seq) }
def getDone (s : State) (n seq : Nat) : Option Cpl := (tblFind s.stm.jnl.dones (doneSlot n seq)).filter fun c => c.seq == seq
def putDone (s : State) (n : Nat) (c : Cpl) : State := modJnl s fun j => { j with dones := tblPut j.dones (doneSlot n c.seq) c }
/-- R486: the 16 entries of the DONE cache are retired. -/
def retireDones (s : State) (n : Nat) : State := modJnl s fun j => { j with dones := j.dones.filter fun (p : Nat × Cpl) => p.1 / 16 != n }
def jstrmNone (_ : Nat) : JStream := { seqbase := 0, mode := 0, used := false }
def modJStrm (s : State) (n : Nat) (f : JStream → JStream) : State := modJnl s fun j => { j with streams := tblModify jstrmNone j.streams n f }

/-- R491, R492: moves a logical block to a spare; with none left the block has failed. -/
def spareMove (s : State) (blk : Nat) : State :=
  let used := fget s r_JNL_SPARE f_JNL_SPARE_USED
  if used < 2048 then
    modJnl (fput s r_JNL_SPARE f_JNL_SPARE_USED (used + 1)) fun j => { j with map := tblPut j.map blk (30720 + used) }
  else
    raiseSrc (modJnl (fput s r_JNL_STAT f_JNL_STAT_NOSPARE 1) fun j => { j with failed := addOnce j.failed blk }) (srcCtl 6)

/-! ### The pair (R493, R494, R506) -/

def pstate (s : State) : Nat := fget s r_JNL_STAT f_JNL_STAT_PSTATE
def setPstate (s : State) (x : Nat) : State := fput s r_JNL_STAT f_JNL_STAT_PSTATE x
def soloed (s : State) : Bool := pstate s == 3
def isRunner (s : State) : Bool := fbit s r_JNL_STAT f_JNL_STAT_RUNNER
def isLeader (s : State) : Bool := fbit s r_JNL_STAT f_JNL_STAT_LEADER
/-- R506: in SOLO a twinned stream acts as LOCAL. -/
def twinned (s : State) (n : Nat) : Bool := stMode s n != 0 && !soloed s
/-- R497: this module holds the journal of a MIRROR stream and computes nothing. -/
def isHolder (s : State) (n : Nat) : Bool := stMode s n == 1 && !soloed s && !isRunner s
/-- R502: the follower of a DUAL stream. -/
def dualFollower (s : State) (n : Nat) : Bool := stMode s n == 2 && twinned s n && !isLeader s

/-- R504: sends a payload of 64 bytes to the twin; `hold` keeps it until its ACK. -/
def jrnlCell (s : State) (words : List Nat) : State :=
  fadd (sendMgt s 16 0x1E (fget s r_JNL_PAIR f_JNL_PAIR_PEER) 16 words) r_JNL_TWIN_TX f_JNL_TWIN_TX_CNT 1
def jrnlSend (s : State) (hold : Bool) (kind : Nat) (bs : List Byte) : State :=
  let words := (List.range 8).map fun k => leNat ((bs.drop (8 * k)).take 8)
  let c : JCell := { kind := kind, words := words, sent := s.tb.tb }
  if !hold then jrnlCell s words
  else if 4096 ≤ s.stm.jnl.unacked.length then modJnl s fun j => { j with todo := j.todo ++ [c] }
  else modJnl (jrnlCell s words) fun j => { j with unacked := j.unacked ++ [c] }

/-- R504: STREAM and SEQ in bytes 0 to 7, KIND in byte 8, and what follows from byte 9 on. -/
def jrnlBytes (n seq kind : Nat) (rest : List Byte) : List Byte :=
  let b := leBytes 2 n ++ leBytes 6 seq ++ leBytes 1 kind ++ rest
  b ++ List.replicate (64 - b.length) 0#8
/-- STATE of a stream. -/
def sendState (s : State) (n : Nat) : State :=
  if stMode s n = 0 || !fbit s r_JNL_PAIR f_JNL_PAIR_PEERV then s
  else jrnlSend s true 0x12 (leBytes 2 n ++ leBytes 6 0 ++ leBytes 1 0x12 ++ leBytes 7 0 ++ leBytes 6 (stSeq s n) ++ leBytes 1 (stMode s n)
    ++ leBytes 1 (stState s n) ++ List.replicate 40 0#8)

/-- R479: the bytes of a record (COMMIT 0x00, 0xC3 or 0x5A). -/
def recWords0 (r : JRec) : List Byte :=
  leBytes 2 r.stream ++ leBytes 6 r.seq ++ leBytes 1 r.mark ++ leBytes 1 r.ofl ++ leBytes 2 r.img ++ leBytes 4 r.steplim ++ leBytes 8 r.seed.toNat
  ++ leBytes 8 r.seg0.addr ++ leBytes 4 r.seg0.len ++ leBytes 1 r.seg0.attr ++ leBytes 8 r.seg1.addr ++ leBytes 4 r.seg1.len ++ leBytes 1 r.seg1.attr
  ++ leBytes 8 r.digest.toNat
/-- R481: the CRC covers bytes 0 to 7 and 9 to 57. -/
def recBytes64 (r : JRec) : List Byte :=
  let b := recWords0 r
  b ++ leBytes 4 (crc32cAdd 0#32 (b.take 8 ++ b.drop 9)).toNat ++ [0#8] ++ leBytes 1 (if r.commit = 1 then 0xC3 else if r.commit = 2 then 0x5A else 0)

/-! ### Interrupts (R239, R240) -/

/-- R240: a bound of the present window is reached; the window counts as one that deferred something. -/
def deferFn (s : State) (f : Nat) (fld : Fld) : State :=
  let s := if (getFn s f).deferred then s else fadd s (r_TNT_FN_STAT f) f_TNT_FN_STAT_DEFCNT 1
  fput (modFn s f fun x => { x with deferred := true }) (r_TNT_FN_STAT f) fld 1

/-- Sends the message of a vector, or leaves it for its mask, the next window or the port. -/
def sendMsix (s : State) (f v : Nat) : State :=
  let x := getFn s f
  let irq := fget s (r_TNT_FN_BUDGET f) f_TNT_FN_BUDGET_IRQ
  if !x.msixEn then s
  else if x.msixMask || (getVec s f v).mask then modVec s f v fun y => { y with pend := true, merged := false, defer := false }
  else if !hostUp s f then modVec s f v fun y => { y with defer := true, merged := false }
  else if irq != 0 && decide (irq ≤ x.irq) then deferFn (modVec s f v fun y => { y with defer := true, merged := false }) f f_TNT_FN_STAT_IRQDEF
  else
    let s := modFn s f fun y => { y with irq := y.irq + 1 }
    emitSent (modVec s f v fun y => { y with lastMsg := some s.tb.tb, merged := false, defer := false, pend := false }) (.msix f v)

/-- R239: a request on a vector: within 1 µs of the vector's last message it merges. -/
def requestIrq (s : State) (f v : Nat) : State :=
  match (getVec s f v).lastMsg with
  | some t => if (s.tb.tb - t).toNat < 1000 then modVec s f v fun y => { y with merged := true } else sendMsix s f v
  | none => sendMsix s f v

/-- R239: the stream requests its interrupt; the count and the time start anew. -/
def strmIrq (s : State) (n : Nat) : State :=
  match fnOfStrm s n with
  | none => s
  | some f => requestIrq (modStrm s n fun t => { t with count := 0, first := none }) f (fget s (r_STM_CFG n) f_STM_CFG_VEC)

/-- R239: a counted completion. -/
def countCpl (s : State) (n : Nat) : State :=
  let s := modStrm s n fun t => { t with count := t.count + 1, first := if t.first.isSome then t.first else some s.tb.tb }
  let cnt := fget s (r_STM_COAL n) f_STM_COAL_CNT
  if (cnt != 0 && decide (cnt ≤ (getStrm s n).count)) || fget s (r_STM_COAL n) f_STM_COAL_TMO == 0 then strmIrq s n else s

/-! ### Completions (R237, R238, R240) -/

def cplBytes (c : Cpl) (phase : Nat) : List Byte :=
  leBytes 6 c.seq ++ leBytes 1 c.ty ++ leBytes 1 c.status ++ leBytes 8 c.crc.toNat ++ leBytes 8 c.steps.toNat ++ leBytes 4 c.detail
  ++ leBytes 2 c.sqhead ++ leBytes 1 c.flags ++ leBytes 1 (128 * phase)

/-- Entries of the completion ring that host software has not consumed. -/
def cqUsed (s : State) (n : Nat) : Nat := (cqTail s n + cqSize s n - (getStrm s n).cqHead) % cqSize s n

/-- R237: writes one entry as the next 32-byte write of the ring. -/
def writeCpl (s : State) (n f : Nat) (c : Cpl) (counted : Bool) : State :=
  let ph := fget s (r_STM_STAT n) f_STM_STAT_CQPH
  let c := if c.ty = 4 then c else { c with sqhead := sqHead s n }
  let c := if dualFollower s n then { c with flags := if c.flags % 2 = 1 then c.flags else c.flags + 1 } else c
  let tl := cqTail s n
  let s := hostWrite s (cqBase s n + 32 * tl) (cplBytes c ph)
  let nx := (tl + 1) % cqSize s n
  let s := fput s (r_STM_PTR n) f_STM_PTR_CQTAIL nx
  let s := if nx = 0 then fput s (r_STM_STAT n) f_STM_STAT_CQPH (1 - ph) else s
  let s := modFn s f fun x => { x with cpl := x.cpl + 1 }
  if counted then countCpl s n else s

/-- R240, R216, R228: may the next waiting entry be written now? -/
def cplGoes (s : State) (n f : Nat) : Bool :=
  let b := fget s (r_TNT_FN_BUDGET f) f_TNT_FN_BUDGET_CPL
  hostUp s f && decide (cqUsed s n + 1 < cqSize s n) && (b == 0 || decide ((getFn s f).cpl < b))

/-- Writes waiting entries in order, as many as go. -/
def flushPostsFrom (n f : Nat) : Nat → State → State
  | 0, s => s
  | fuel + 1, s =>
    match (getStrm s n).posts with
    | [] => s
    | (c, counted) :: rest =>
      if cplGoes s n f then flushPostsFrom n f fuel (writeCpl (modStrm s n fun t => { t with posts := rest }) n f c counted)
      else if hostUp s f && decide (cqUsed s n + 1 < cqSize s n) then deferFn s f f_TNT_FN_STAT_CPLDEF
      else s
def flushPosts (s : State) (n : Nat) : State :=
  match fnOfStrm s n with
  | none => s
  | some f => flushPostsFrom n f ((getStrm s n).posts.length + 1) s
/-- Posts a completion of a stream. -/
def postCpl (s : State) (n : Nat) (c : Cpl) (counted : Bool) : State :=
  flushPosts (modStrm s n fun t => { t with posts := t.posts ++ [(c, counted)] }) n

def cplOf (seq ty status : Nat) : Cpl := { seq := seq, ty := ty, status := status, crc := 0, steps := 0, detail := 0, sqhead := 0, flags := 0 }

/-- The streams of a function that hold anything. -/
def strmsOfFn (s : State) (f : Nat) : List Nat := (s.stm.strms.map Prod.fst).filter fun n => fnOfStrm s n == some f

/-- Everything of a function that may go now, goes: completions, then one message for each vector that waits (R216, R240). -/
def releaseFn (s : State) (f : Nat) : State :=
  let s := each (strmsOfFn s f) flushPosts s
  each (((getFn s f).vecs.filter fun (p : Nat × Vec) => p.2.defer).map Prod.fst) (fun s v => sendMsix s f v) s

/-! ### R241: FLUSHED -/

/-- R241: once every slot taken has been answered, FLUSHED is posted and the stream stops. -/
def flushEnd (s : State) (n : Nat) : State :=
  let t := getStrm s n
  if t.flush == .answering && t.fetched.isEmpty && t.prepared.isEmpty then
    let s := modStrm s n fun t => { t with flush := .none }
    setStState (postCpl s n (cplOf (stSeq s n) 5 0) true) n stStopped
  else s
/-- R241 steps 2 and 3: no further slot is taken, and the internal tail is SQHEAD. -/
def flushTaken (s : State) (n : Nat) : State :=
  flushEnd (modStrm (fput s (r_STM_STAT n) f_STM_STAT_PHWAIT 0) n fun t => { t with flush := .answering, tail := sqHead s n }) n

/-! ### Host commands -/

/-- A doorbell write is discarded (R219). -/
def dbErr (s : State) (n : Nat) : State := fput s (r_STM_STAT n) f_STM_STAT_DBERR 1
/-- R219: the stream takes doorbells. -/
def dbTaken (s : State) (n : Nat) : Bool := stState s n != stOff && (getStrm s n).flush == .none

/-- DB_SQ_TAIL (R219): a naturally aligned 32-bit write of `v` to the slot of stream `n`. -/
def execDbSqTail (n : Nat) (v : W32) (s : State) : Out :=
  let tl := v.toNat % 65536
  let h := sqHead s n
  let z := sqSize s n
  if n < 65536 then
    (if dbTaken s n && decide (tl < z) && decide (((getStrm s n).tail + z - h) % z ≤ (tl + z - h) % z) then
      .next (modStrm s n fun t => { t with tail := tl })
    else .next (dbErr s n))
  else .next s

/-- DB_CQ_HEAD (R219): the range from the device's view of the head to CQTAIL takes in CQTAIL. -/
def execDbCqHead (n : Nat) (v : W32) (s : State) : Out :=
  let h := v.toNat % 65536
  let z := cqSize s n
  let old := (getStrm s n).cqHead
  if n < 65536 then
    (if dbTaken s n && decide (h < z) && decide ((h + z - old) % z ≤ cqUsed s n) then
      .next (flushPosts (modStrm s n fun t => { t with cqHead := h }) n)
    else .next (dbErr s n))
  else .next s

/-- R221: the reason for which an enable is refused, 0 for none. -/
def enRefused (s : State) (n : Nat) : Nat :=
  if fget s (r_STM_CFG n) f_STM_CFG_CQLOG < fget s (r_STM_CFG n) f_STM_CFG_SQLOG + 1 then 1
  else if 2048 ≤ fget s (r_STM_CFG n) f_STM_CFG_VEC then 2
  else if (sgOfStrm s n).isNone then 3
  else if stMode s n != 0 && pstate s == 0 then 7
  else 0

/-- R221, R234: the stream starts: pointers 0, phases 1. Items that are accepted and not done run again from here on. -/
def startStrm (s : State) (n : Nat) : State :=
  let s := rput s (r_STM_PTR n) 0
  let s := fput (fput s (r_STM_STAT n) f_STM_STAT_SQPH 1) (r_STM_STAT n) f_STM_STAT_CQPH 1
  let s := modStrm s n fun t => { t with tail := 0, cqHead := 0, fetched := [], flush := .none, count := 0, first := none }
  let s := setStState (fput s (r_STM_CTL n) f_STM_CTL_EN 1) n stRun
  let s := fput s (r_STM_STAT n) f_STM_STAT_PHWAIT 0
  sendState (modJStrm s n fun j => { j with used := true, mode := stMode s n }) n

/-- R265: while the replay engine runs, the streams of its saggar's function stay off. -/
def replayHolds (s : State) (n : Nat) : Bool := (rplState s == 1 || rplState s == 2) && sgOfStrm s n == some (fget s r_DET_RPL_CTL f_DET_RPL_CTL_SG)

/-- STM_EN_SET (R221, R234, R494). -/
def execStmEnSet (n : Nat) (s : State) : Out :=
  let st := stState s n
  if strmsUp s && n < 65536 && (st == stOff || st == stRecover) && !replayHolds s n then
    (match enRefused s n with
    | 0 => .next (startStrm s n)
    | e => .next (fput s (r_STM_STAT n) f_STM_STAT_ECODE e))
  else .next s

/-- STM_EN_CLEAR (R221): taken in STOPPED or HALTED with nothing in flight. -/
def execStmEnClear (n : Nat) (s : State) : Out :=
  when_ (strmsUp s && decide (n < 65536) && (stState s n == stStopped || stState s n == stHalted) && inflight s n == 0) s
    (sendState (modJStrm (setStState (fput s (r_STM_CTL n) f_STM_CTL_EN 0) n stOff) n fun j => { j with used := false }) n)

/-- STM_FLUSH (R241). -/
def execStmFlush (n : Nat) (s : State) : Out :=
  if strmsUp s && n < 65536 && (getStrm s n).flush == .none then
    (if stState s n = stRun then
      .next (modStrm (fput s (r_STM_STAT n) f_STM_STAT_PHWAIT 0) n fun t => { t with flush := .taking 0 })
    else if stState s n = stHalted ∨ stState s n = stStopped then .next (flushTaken s n)
    else .next s)
  else .next s

/-- STM_RESUME (R225): a STOPPED or HALTED stream runs again from the slot at SQHEAD. -/
def execStmResume (n : Nat) (s : State) : Out :=
  when_ (strmsUp s && decide (n < 65536) && (stState s n == stStopped || stState s n == stHalted) && (getStrm s n).flush == .none) s
    (flushPosts (setStState s n stRun) n)

/-- STM_SEQ_WRITE (R486, R221): a write of the sequence number that the stream accepts next. -/
def execStmSeqWrite (n : Nat) (seq : BitVec 48) (s : State) : Out :=
  when_ (strmsUp s && decide (n < 65536) && !fbit s (r_STM_CTL n) f_STM_CTL_EN) s
    (sendState (retireDones (modJStrm (setStSeq s n seq.toNat) n fun j => { j with seqbase := seq.toNat }) n) n)

/-- R217: a stream that is not OFF lies in a range of `cnt` streams from `base`. -/
def rangeBusy (s : State) (base cnt : Nat) : Bool :=
  s.regs.any fun p => decide (r_STM_STAT base ≤ p.1) && decide (p.1 < r_STM_STAT (base + cnt)) && (p.1 - r_STM_STAT base) % 64 == 0
    && bits p.2.toNat 2 0 != 0 && bits p.2.toNat 2 0 != stRecover

/-- TNT_FN_STRM_WRITE (R217). -/
def execTntFnStrmWrite (f : Nat) (v : W32) (s : State) : Out :=
  let base := 64 * fldGet v f_TNT_FN_STRM_SBASE
  let cnt := 64 * fldGet v f_TNT_FN_STRM_SCNT
  let clash := (List.range 256).any fun g => g != f && fnCount s g != 0 && decide (base < fnBase s g + fnCount s g) && decide (fnBase s g < base + cnt)
  if f < 256 then
    (if (cnt != 0 && clash) || decide (65536 < base + cnt) || rangeBusy s (fnBase s f) (fnCount s f) || rangeBusy s base cnt then
      .next (fput s (r_TNT_FN_STAT f) f_TNT_FN_STAT_ERR 1)
    else .next (fput (fput s (r_TNT_FN_STRM f) f_TNT_FN_STRM_SBASE (fldGet v f_TNT_FN_STRM_SBASE)) (r_TNT_FN_STRM f) f_TNT_FN_STRM_SCNT
      (fldGet v f_TNT_FN_STRM_SCNT)))
  else .next s

/-- TNT_FN_PORT_WRITE (R252). -/
def execTntFnPortWrite (f : Nat) (v : W32) (s : State) : Out :=
  if f < 256 then
    (if (sgOfFn s f).isSome || rangeBusy s (fnBase s f) (fnCount s f) then .next (fput s (r_TNT_FN_STAT f) f_TNT_FN_STAT_ERR 1)
    else .next (fput s (r_TNT_FN_PORT f) f_TNT_FN_PORT_PORT (fldGet v f_TNT_FN_PORT_PORT)))
  else .next s

/-! ### Interrupt timers, budgets, ports -/

/-- COALESCE_TIMEOUT (R239): TMO µs have passed since the first counted completion. -/
def execCoalesceTimeout (n : Nat) (s : State) : Out :=
  match (getStrm s n).first with
  | none => .next s
  | some t => when_ (decide (fget s (r_STM_COAL n) f_STM_COAL_TMO * 1000 ≤ (s.tb.tb - t).toNat)) s (strmIrq s n)

/-- MSIX_MERGED_SEND (R239): one message, 1 µs after the vector's last. -/
def execMsixMergedSend (f v : Nat) (s : State) : Out :=
  let x := getVec s f v
  match x.lastMsg with
  | none => .next s
  | some t => when_ (x.merged && decide (1000 ≤ (s.tb.tb - t).toNat)) s (sendMsix s f v)

/-- BUDGET_WINDOW (R240): function `f` enters the window of the present timebase. -/
def execBudgetWindow (f : Nat) (s : State) : Out :=
  let w := s.tb.tb.toNat / 100000
  when_ (decide (f < 256) && decide ((getFn s f).win < w)) s
    (let s := modFn s f fun x => { x with win := w, cpl := 0, irq := 0, deferred := false }
     releaseFn (fput (fput s (r_TNT_FN_STAT f) f_TNT_FN_STAT_CPLDEF 0) (r_TNT_FN_STAT f) f_TNT_FN_STAT_IRQDEF 0) f)

def setPort (s : State) (hp1 up : Bool) : State :=
  modStm s fun t => { t with ports := if hp1 then (t.ports.1, up) else (up, t.ports.2) }
/-- HOST_PORT_LINK_DOWN (R216). -/
def execHostPortLinkDown (hp1 : Bool) (s : State) : Out := .next (setPort s hp1 false)
/-- HOST_PORT_LINK_UP (R216): what waits for the port goes. -/
def execHostPortLinkUp (hp1 : Bool) (s : State) : Out :=
  if (if hp1 then s.pin.perst.2 else s.pin.perst.1) then .next s
  else
    let s := setPort s hp1 true
    .next (each ((List.range 256).filter fun f => fbit s (r_TNT_FN_PORT f) f_TNT_FN_PORT_PORT == hp1) releaseFn s)

end Sys2Proof.Machine
end

