-- ==== Sys2Proof/Machine/Mailbox.lean ====
section
/-! DEFINITION. Machine/Mailbox.lean: the mailbox hub: MBX_BIND, MBX_LOCK, MBX_PAY_WRITE, MBX_DB_SET, MBX_DB_PEND, MBX_DB_MASK,
MBX_ACK_CODE, MBX_ACK_VALID_CLEAR, PARTY_LOST (spec/18 R536 to R548). The registers of the block hold its state; the pending bits
are those of MBX_DB_PEND. -/

namespace Sys2Proof.Machine

def chanA (s : State) (c : Nat) : Nat := fget s (r_MBX_BIND c) f_MBX_BIND_AMID
def chanB (s : State) (c : Nat) : Nat := fget s (r_MBX_BIND c) f_MBX_BIND_BMID
/-- R537: MBX_BIND 0 is no pair. -/
def chanBound (s : State) (c : Nat) : Bool := decide (c < 64) && rget s (r_MBX_BIND c) != 0#32
def chanBusy (s : State) (c : Nat) : Bool := fbit s (r_MBX_ACK c) f_MBX_ACK_BUSY
def chanPend (s : State) (c : Nat) : W32 := rget s (r_MBX_DB_PEND c)
def chanLocked (s : State) (c : Nat) : Bool :=
  if c < 32 then (rget s r_MBX_LOCK_LO).getLsbD c else (rget s r_MBX_LOCK_HI).getLsbD (c - 32)
def isA (s : State) (c mid : Nat) : Bool := chanBound s c && chanA s c == mid
def isB (s : State) (c mid : Nat) : Bool := chanBound s c && chanB s c == mid
/-- The payload bytes of a channel. -/
def payByte (s : State) (c i : Nat) : Nat := (rget s (r_MBX_PAY c (i / 4))).toNat / 2 ^ (8 * (i % 4)) % 256
def payNat (s : State) (c i : Nat) : Nat → Nat
  | 0 => 0
  | n + 1 => payByte s c i + 256 * payNat s c (i + 1) n
/-- Are payload bytes i to j − 1 all 0? -/
def payZero (s : State) (c i j : Nat) : Bool := (List.range (j - i)).all fun k => payByte s c (i + k) == 0

/-- R544: the interrupt of a party, when it is a host function. The kiln and the lantern take it on an internal line. -/
def chanIrq (s : State) (mid vec : Nat) : State := if mid < 256 then requestIrq s mid vec else s
def irqB (s : State) (c : Nat) : State := chanIrq s (chanB s c) (fget s (r_MBX_CH_CFG c) f_MBX_CH_CFG_BVEC)
def irqA (s : State) (c : Nat) : State :=
  if fbit s (r_MBX_CH_CFG c) f_MBX_CH_CFG_ACKIE then chanIrq s (chanA s c) (fget s (r_MBX_CH_CFG c) f_MBX_CH_CFG_AVEC) else s

/-- R540: an access by a master that is no party. -/
def mbxViolation (s : State) (c mid : Nat) : State :=
  let s := fadd (fput s r_MBX_STAT f_MBX_STAT_VIOL 1) r_MBX_STAT f_MBX_STAT_VIOLCNT 1
  fput (fput s r_MBX_VIOL_ID f_MBX_VIOL_ID_MID mid) r_MBX_VIOL_ID f_MBX_VIOL_ID_CH c
/-- An access to the window of channel `c` by master `mid`. -/
def mbxAccess (c mid : Nat) (act : State → State) (s : State) : Out :=
  if 64 ≤ c then .next s else if isA s c mid || isB s c mid then .next (act s) else .next (mbxViolation s c mid)

/-! ### Binding -/

/-- R537: MIDs of a kind that the hub knows, within their ranges. -/
def mbxMid (m : Nat) : Bool := decide (m < 256) || m == 0x4000 || m == 0x4002 || m == 0x5000
/-- Does virtual function `f` hold eight other channels? -/
def nineth (s : State) (c f : Nat) : Bool :=
  decide (1 ≤ f) && decide (f < 256) && decide (8 ≤ ((List.range 64).filter fun k => k != c && chanBound s k && (chanA s k == f || chanB s k == f)).length)
/-- A bind or unbind zeroes the channel. -/
def mbxZero (s : State) (c : Nat) : State :=
  let s := each (List.range 64) (fun s k => rput s (r_MBX_PAY c k) 0) s
  each [r_MBX_DB_PEND c, r_MBX_DB_MASK c, r_MBX_ACK c, r_MBX_CH_CFG c] (fun s r => rput s r 0) s

/-- MBX_BIND (R537): the physical function writes MBX_BIND(c). -/
def execMbxBind (c : Nat) (v : W32) (s : State) : Out :=
  if 64 ≤ c then .next s
  else
    let a := bits v.toNat 15 0
    let b := bits v.toNat 31 16
    let bad := chanLocked s c || chanBusy s c || chanPend s c != 0#32
      || (v != 0#32 && (!mbxMid a || !mbxMid b || a == b || nineth s c a || nineth s c b))
    if bad then .next (fput s r_MBX_STAT f_MBX_STAT_BINDERR 1) else .next (rput (mbxZero s c) (r_MBX_BIND c) v)

/-- MBX_LOCK (R538): bits written 1 in the low or high word lock. -/
def execMbxLock (hi : Bool) (v : W32) (s : State) : Out :=
  let r := if hi then r_MBX_LOCK_HI else r_MBX_LOCK_LO
  .next (rput s r (rget s r ||| v))

/-! ### A message -/

/-- MBX_PAY_WRITE (R541). -/
def execMbxPayWrite (c k mid : Nat) (v : W32) (s : State) : Out :=
  mbxAccess c mid (fun s =>
    if 64 ≤ k then s
    else if (isA s c mid && !chanBusy s c) || (isB s c mid && chanBusy s c) then rput s (r_MBX_PAY c k) v
    else fput s (r_MBX_ACK c) f_MBX_ACK_PWERR 1) s

/-- A sets pending bits. -/
def mbxSet (s : State) (c : Nat) (v : W32) : State :=
  if v = 0#32 then s
  else
    let rise := v &&& ~~~ chanPend s c &&& ~~~ rget s (r_MBX_DB_MASK c)
    let s := if chanBusy s c then s else faddw (fput s (r_MBX_ACK c) f_MBX_ACK_BUSY 1) (r_MBX_CH_CNT c) f_MBX_CH_CNT_MSGCNT 1
    let s := rput s (r_MBX_DB_PEND c) (chanPend s c ||| v)
    if rise != 0#32 then irqB s c else s
/-! ### The fault channel (R546) -/

/-- Kiln pair 1, which passes fault records. -/
def kilnLocal : Nat := 0x4002
/-- The records that host software has not been given, in order of creation. -/
def freshFaults (s : State) : Nat → List (Nat × FaultRec) → List (Nat × FaultRec)
  | 0, _ => []
  | n + 1, l =>
    match l.foldl (fun (m : Option (Nat × FaultRec)) q => match m with
      | none => some q
      | some x => if q.2.tb.toNat < x.2.tb.toNat then some q else some x) none with
    | some q => q :: freshFaults s n (l.filter fun x => x.1 != q.1)
    | none => []
def faultBytes (t : Nat) (r : FaultRec) : List Byte :=
  leBytes 2 t ++ leBytes 1 r.sg ++ leBytes 1 r.kind ++ leBytes 2 r.mid ++ leBytes 1 r.acct ++ leBytes 1 r.src ++ leBytes 8 r.va ++ leBytes 8 r.tb.toNat
  ++ leBytes 1 r.die ++ [0#8] ++ leBytes 2 (min r.merged 65535) ++ leBytes 4 0
/-- Payload words from bytes. -/
def putPay (s : State) (c : Nat) (bs : List Byte) : State :=
  each (List.range 64) (fun s k => rput s (r_MBX_PAY c k) (BitVec.ofNat 32 (leNat ((bs.drop (4 * k)).take 4)))) s
/-- Kiln firmware fills the next message: up to seven records; none while VALID of the previous one stands. -/
def faultMessage (s : State) (c : Nat) (v : W32) : State :=
  let seen := s.kln.faultSeen.filter fun x => (tblFind s.mem.faults x.1).any fun r => r.tb == x.2
  let l := freshFaults s 7 (s.mem.faults.filter fun (p : Nat × FaultRec) => !seen.any fun x => x.1 == p.1)
  if chanBusy s c || fbit s (r_MBX_ACK c) f_MBX_ACK_VALID || l.isEmpty then s
  else
    let s := putPay s c (leBytes 32 l.length ++ l.flatMap fun p => faultBytes p.1 p.2)
    mbxSet { s with kln := { s.kln with faultSeen := seen ++ l.map fun p => (p.1, p.2.tb), faultMsg := l.map Prod.fst } } c v
/-- Kiln firmware resolves the records of the message as host software has answered. -/
def faultAnswers (s : State) (c code : Nat) : State :=
  let l := s.kln.faultMsg.zipIdx
  let s' := { s with kln := { s.kln with faultMsg := [] } }
  if code = 0 then
    each l (fun s p =>
      let a := payByte s c (8 + p.2)
      if a = 1 then resolveFault s p.1 true else if a = 2 then refuseFault s p.1 else s) s'
  else s'

/-- MBX_DB_SET (R541). -/
def execMbxDbSet (c mid : Nat) (v : W32) (s : State) : Out :=
  mbxAccess c mid (fun s => if isA s c mid then (if mid = kilnLocal then faultMessage s c v else mbxSet s c v) else s) s

/-- MBX_DB_PEND (R541): B clears pending bits. -/
def execMbxDbPend (c mid : Nat) (v : W32) (s : State) : Out :=
  mbxAccess c mid (fun s => if isB s c mid then rput s (r_MBX_DB_PEND c) (chanPend s c &&& ~~~ v) else s) s

/-- MBX_DB_MASK (R544): B writes the mask. -/
def execMbxDbMask (c mid : Nat) (v : W32) (s : State) : Out :=
  mbxAccess c mid (fun s =>
    if isB s c mid then
      let freed := rget s (r_MBX_DB_MASK c) &&& ~~~ v &&& chanPend s c
      let s := rput s (r_MBX_DB_MASK c) v
      if freed != 0#32 then irqB s c else s
    else s) s

/-- The hub stores a code, whoever gives it. -/
def mbxCode (s : State) (c code : Nat) : State :=
  let was := fbit s (r_MBX_ACK c) f_MBX_ACK_VALID
  let s := fput (fput (fput s (r_MBX_ACK c) f_MBX_ACK_CODE code) (r_MBX_ACK c) f_MBX_ACK_VALID 1) (r_MBX_ACK c) f_MBX_ACK_BUSY 0
  let s := faddw s (r_MBX_CH_CNT c) f_MBX_CH_CNT_ACKCNT 1
  if was then s else irqA s c
/-- B writes CODE. -/
def mbxAck (s : State) (c code : Nat) : State := if chanBusy s c then mbxCode s c code else fput s (r_MBX_ACK c) f_MBX_ACK_ACKERR 1
/-- MBX_ACK_CODE (R541). -/
def execMbxAckCode (c mid code : Nat) (s : State) : Out :=
  mbxAccess c mid (fun s =>
    if isB s c mid then
      let s' := mbxAck s c (code % 65536)
      if chanBusy s c && chanA s c == kilnLocal then faultAnswers s' c (code % 65536) else s'
    else s) s

/-- MBX_ACK_VALID_CLEAR (R541): A writes 1 to VALID. -/
def execMbxAckValidClear (c mid : Nat) (s : State) : Out :=
  mbxAccess c mid (fun s => if isA s c mid then fput s (r_MBX_ACK c) f_MBX_ACK_VALID 0 else s) s

/-- R545: the channels of a lost party. -/
def partyLost (s : State) (mid : Nat) : State :=
  each (List.range 64) (fun s c =>
    if isA s c mid then fput (rput s (r_MBX_DB_PEND c) 0) (r_MBX_ACK c) f_MBX_ACK_BUSY 0
    else if isB s c mid && chanBusy s c then mbxCode s c 0xFFFE
    else s) s
/-- PARTY_LOST (R545). -/
def execPartyLost (mid : Nat) (s : State) : Out := .next (partyLost s mid)

end Sys2Proof.Machine
end

