-- ==== Sys2Proof/Machine/Rce.lean ====
section
/-! DEFINITION. Machine/Rce.lean: coordinates, routing tables, trees and bank commands (spec/12 R377, R386, R387, R395, R396;
spec/10 R312 to R314). -/

namespace Sys2Proof.Machine

/-! ### Coordinates (R377) -/

/-- A dimension: its ring size when it is closed. -/
structure Dims where
  x : Option Nat
  y : Option Nat
  z : Option Nat

def Dims.ring (d : Dims) (i : Nat) : Option Nat := if i = 0 then d.x else if i = 1 then d.y else d.z
abbrev Coord := Int × Int × Int
def axis (c : Coord) (i : Nat) : Int := if i = 0 then c.1 else if i = 1 then c.2.1 else c.2.2
def setAxis (c : Coord) (i : Nat) (v : Int) : Coord := if i = 0 then (v, c.2.1, c.2.2) else if i = 1 then (c.1, v, c.2.2) else (c.1, c.2.1, v)
/-- The coordinate one hop on in direction `d`. -/
def stepCoord (dm : Dims) (c : Coord) (d : Nat) : Coord :=
  let v := axis c (d / 2) + (if d % 2 = 0 then 1 else -1)
  setAxis c (d / 2) (match dm.ring (d / 2) with
    | some n => v % (n : Int)
    | none => v)

/-- The ring that leaves the origin in the + direction of a dimension: its size when it closes. -/
def ringFrom (t : Topo) (start d : Nat) : Nat → Nat → Nat → Option Nat
  | 0, _, _ => none
  | fuel + 1, p, n => match anyNext t p d with
    | some q => if q = start then some (n + 1) else ringFrom t start d fuel q (n + 1)
    | none => none

structure WalkSt where
  coords : Tbl Coord
  barred : List Nat
  queue : List Nat

/-- One link of the walk. -/
def walkLink (t : Topo) (dm : Dims) (p : Nat) (c : Coord) (d : Nat) (a : WalkSt) (x : Nat × Nat) : WalkSt :=
  match linkTo t p x.1 x.2 with
  | none => a
  | some q =>
    let c' := stepCoord dm c d
    (match tblFind a.coords q with
    | some e => if e = c' then a else { a with barred := linkIdx p x.1 x.2 :: a.barred }
    | none =>
      if a.coords.any fun e => e.2 == c' then { a with barred := linkIdx p x.1 x.2 :: a.barred }
      else { a with coords := tblPut a.coords q c', queue := a.queue ++ [q] })
def dirLinksAll (d : Nat) : List (Nat × Nat) := (List.range 4).flatMap fun w => [(w, 2 * d), (w, 2 * d + 1)]
def walkPkg (t : Topo) (dm : Dims) (p : Nat) (a : WalkSt) : WalkSt :=
  match tblFind a.coords p with
  | none => a
  | some c => (List.range 6).foldl (fun a d => (dirLinksAll d).foldl (walkLink t dm p c d) a) a
def walkAll (t : Topo) (dm : Dims) : Nat → WalkSt → WalkSt
  | 0, a => a
  | fuel + 1, a => match a.queue with
    | [] => a
    | p :: ps => walkAll t dm fuel (walkPkg t dm p { a with queue := ps })

/-- What the role works on: links, coordinates and ring sizes. -/
structure Fabric where
  topo : Topo
  coords : Tbl Coord
  dims : Dims
  barred : List Nat

/-- R377: the fabric as the role sees it. -/
def fabricOf (s : State) : Fabric :=
  let t := { topoOf s with out := s.kln.role.out.map Prod.fst }
  let ps := packages t
  let sh := rget s r_KLN_SHAPE
  let origin := if fldGet sh f_KLN_SHAPE_ORGV = 1 then fldGet sh f_KLN_SHAPE_ORIGIN else ps.headD (myPkg s)
  let dim (i size : Nat) : Option Nat :=
    if fldGet sh f_KLN_SHAPE_FIX = 1 then (if bitAt (fldGet sh f_KLN_SHAPE_OPEN) i then none else some (size + 1)) else ringFrom t origin (2 * i) ps.length origin 0
  let dm : Dims := { x := dim 0 (fldGet sh f_KLN_SHAPE_SXM1), y := dim 1 (fldGet sh f_KLN_SHAPE_SYM1), z := dim 2 (fldGet sh f_KLN_SHAPE_SZM1) }
  let a := walkAll t dm (ps.length + 1) { coords := [(origin, (0, 0, 0))], barred := [], queue := [origin] }
  { topo := { t with out := t.out ++ a.barred }, coords := a.coords, dims := dm, barred := a.barred }

/-! ### Routing entries (R312, R313, R386) -/

/-- Along direction `d` of a dimension until the coordinate is `goal`: hops, whether the date line is crossed, and where it ends. -/
def rowWalk (f : Fabric) (w d : Nat) (goal : Int) : Nat → Nat → Option (Nat × Bool × Nat)
  | 0, _ => none
  | fuel + 1, p =>
    match tblFind f.coords p with
    | none => none
    | some c =>
      if axis c (d / 2) = goal then some (0, false, p)
      else match planeNext f.topo w p d with
        | none => none
        | some q =>
          let wraps := match f.dims.ring (d / 2) with
            | some n => if d % 2 = 0 then axis c (d / 2) == (n : Int) - 1 else axis c (d / 2) == 0
            | none => false
          (rowWalk f w d goal fuel q).map fun r => (r.1 + 1, r.2.1 || wraps, r.2.2)
/-- The direction of the escape path in dimension `i`, the date line, and where it leaves the dimension. -/
def escDim (f : Fabric) (w i p : Nat) (goal : Int) : Option (Nat × Bool × Nat) :=
  let fuel := ((f.dims.ring i).getD (f.coords.length)) + 1
  let up := rowWalk f w (2 * i) goal fuel p
  let down := rowWalk f w (2 * i + 1) goal fuel p
  match up, down with
  | some a, some b => if b.1 < a.1 then some (2 * i + 1, b.2.1, b.2.2) else some (2 * i, a.2.1, a.2.2)
  | some a, none => some (2 * i, a.2.1, a.2.2)
  | none, some b => some (2 * i + 1, b.2.1, b.2.2)
  | none, none => none
/-- The escape path from `p` to `q` in the dimensions of `dims`: the first direction with its date line, or nothing left to do. -/
def escPath (f : Fabric) (w q : Nat) : List Nat → Nat → Option (Option (Nat × Bool))
  | [], p => if p = q then some none else none
  | i :: is, p =>
    match tblFind f.coords p, tblFind f.coords q with
    | some c, some e =>
      if axis c i = axis e i then escPath f w q is p
      else match escDim f w i p (axis e i) with
        | some (d, dl, r) => (escPath f w q is r).map fun _ => some (d, dl)
        | none => none
    | _, _ => none
/-- The entry of wheel `w` of package `p` for package `q`; `h` holds the hops to `q`. -/
def routeFor (f : Fabric) (w p q : Nat) (h : Tbl Nat) : Nat :=
  if p = q then 3
  else match tblFind h p, escPath f w q [0, 1, 2] p with
    | some n, some (some (d, dl)) =>
      let mins := (List.range 6).filter fun e => (planeNext f.topo w p e).any fun r => tblFind h r == some (n - 1)
      1 + mins.foldl (fun a e => a + 2 ^ (2 + e)) 0 + d * 2 ^ 8 + b2n dl * 2 ^ 11
    | _, _ => 0
/-- The bank of one wheel: entries that are not 0, by package. -/
def bankFor (f : Fabric) (w p : Nat) : Tbl Nat :=
  (packages f.topo).filterMap fun q =>
    let e := routeFor f w p q (hopsTo f.topo (some w) q)
    if e = 0 then none else some (q, e)
def bankKey (pkg w bank : Nat) : Nat := (pkg * 4 + w) * 2 + bank

/-! ### Commands that write a bank (R387) -/

def bankCrc (b : Tbl Nat) : Nat := (crc32cAdd 0#32 ((List.range 4096).flatMap fun i => leBytes 2 (tblGet (fun _ => 0) b i))).toNat
/-- Words 1 to 7 of an M_ROUTE. -/
def routeWords (b : Tbl Nat) (first count bank : Nat) (last : Bool) : List Nat :=
  (first + count * 2 ^ 12 + bank * 2 ^ 17 + b2n last * 2 ^ 18 + (if last then bankCrc b else 0) * 2 ^ 32)
  :: (List.range 6).map fun i => (List.range 4).foldl (fun a j => if 4 * i + j < count then a + tblGet (fun _ => 0) b (first + 4 * i + j) * 2 ^ (16 * j) else a) 0
/-- Runs of consecutive indices, at most 24 long. -/
def indexRuns : List Nat → List (Nat × Nat)
  | [] => []
  | i :: is => match indexRuns is with
    | (f, n) :: rs => if f = i + 1 ∧ n < 24 then (i, n + 1) :: rs else (i, 1) :: (f, n) :: rs
    | [] => [(i, 1)]
/-- The commands that turn what a bank holds into `b`; with `all`, every entry is written. -/
def bankCmds (old b : Tbl Nat) (bank : Nat) (all : Bool) : List CmdBody :=
  let differ := (List.range 4096).filter fun i => all || tblGet (fun _ => 0) old i != tblGet (fun _ => 0) b i
  let runs := if differ.isEmpty then [(0, 1)] else indexRuns differ
  runs.zipIdx.map fun r => { ty := 0x19, op := 0, tail := routeWords b r.1.1 r.1.2 bank (r.2 + 1 == runs.length) }

/-! ### Trees (R396) -/

/-- The direction of the parent of package `p`: one hop nearer the root, the lower direction on a tie. -/
def parentDir (f : Fabric) (w : Nat) (h : Tbl Nat) (p : Nat) : Option Nat :=
  (tblFind h p).bind fun n => if n = 0 then some 7
    else (List.range 6).find? fun d => (planeNext f.topo w p d).any fun q => tblFind h q == some (n - 1)
/-- The packages on the path from `p` to the root. -/
def pathUp (f : Fabric) (w : Nat) (h : Tbl Nat) : Nat → Nat → List Nat
  | 0, _ => []
  | fuel + 1, p => match parentDir f w h p with
    | some d => if d = 7 then [p] else p :: ((planeNext f.topo w p d).map (pathUp f w h fuel)).getD []
    | none => []
/-- The tree of a group: the modules on paths to members, with their parents and children. None when a member cannot be reached. -/
def treeFor (f : Fabric) (w root : Nat) (pkgs : List Nat) : Option (List TreeNode) :=
  let h := hopsTo f.topo (some w) root
  if pkgs.all fun p => (tblFind h p).isSome then
    let on := (pkgs.flatMap fun p => pathUp f w h (h.length + 1) p).foldl (fun l p => if l.contains p then l else l ++ [p]) [root]
    some (on.map fun p =>
      { pkg := p, parent := (parentDir f w h p).getD 7,
        children := (List.range 6).foldl (fun a d => if (planeNext f.topo w p d).any fun q => on.contains q && q != p && parentDir f w h q == some (d ^^^ 1)
            && planeNext f.topo w q (d ^^^ 1) == some p then a + 2 ^ d else a) 0 })
  else none

end Sys2Proof.Machine
end

