-- ==== Sys2Proof/Machine/Links.lean ====
section
/-! DEFINITION. Machine/Links.lean: optical links: states, training, blocks, retry, restart and loss: FAB_LNK_EN_WRITE, RETRAIN,
HWMCLR, SIGNAL_DETECT, TRAINING_FRAME, LINK_TIME_LIMIT, LINK_RESTART_DELAY, BLOCK_RECEIVE, REPLAY_TIMEOUT, CONFIG_RECORD,
LINK_LOSS, HOLD_EXPIRY (spec/09 R277 to R286, R303 to R306; spec/10 R318; spec/20 R578). -/

namespace Sys2Proof.Machine

def setLinkState (s : State) (w l st : Nat) : State :=
  modLink (fput s (r_FAB_LNK_STAT w l) f_FAB_LNK_STAT_STATE st) (linkKey w l) fun x => { x with since := s.tb.tb, pause := false }

/-- Microseconds since the link entered its state. -/
def linkUs (s : State) (w l : Nat) : Nat := (s.tb.tb - (getLink s (linkKey w l)).since).toNat / 1000

/-- R399: a wheel agent's report to the active kiln. -/
def addReport (s : State) (ep kind w l err : Nat) : State :=
  modFab s fun f => { f with reports := f.reports ++ [{ ep := ep, num := f.nextReport, kind := kind, wheel := w, link := l, err := err, sent := none }],
                             nextReport := (f.nextReport + 1) % 2 ^ 32 }

/-- R318: cells that waited to enter the link are routed again. -/
def unchoose (x : Wheel) (l : Nat) : Wheel :=
  { x with choice := x.choice.map fun p => (p.1, p.2.filter fun q => q.2.out != l) }

/-- R280, R318: an ACTIVE link is lost and goes to `st`. -/
def linkDown (s : State) (w l st : Nat) : State :=
  let s := fadd s (r_FAB_LNK_STAT w l) f_FAB_LNK_STAT_DOWNCNT 1
  let s := modWheel (setLinkState s w l st) w fun x => unchoose x l
  let s := raise s { eventOf s (srcWheel w 3) with sub := l }
  let kind := if (getLink s (linkKey w l)).attach.isSome then 4 else 1
  linkSeen (addReport s (17 + w) kind w l (fget s (r_FAB_LNK_ERR w l) ⟨6, 0⟩)) w l

/-- The register write of FAB_LNK_CTL. -/
def writeLnkCtl (s : State) (w l : Nat) (v : W32) : State :=
  match regRow (r_FAB_LNK_CTL w l) with
  | none => s
  | some (row, _) =>
    if writeReserved row false v then s
    else
      let s := rput s (r_FAB_LNK_CTL w l) (fldSet (fldSet (writeRow row false (rget s (r_FAB_LNK_CTL w l)) v) f_FAB_LNK_CTL_RETRAIN 0) f_FAB_LNK_CTL_HWMCLR 0)
      let st := linkState s w l
      let s := if fldGet v f_FAB_LNK_CTL_HWMCLR = 1 then
        each (List.range 14) (fun s k => fput s (r_FAB_VC_OCC w l k) f_FAB_VC_OCC_HWM (fget s (r_FAB_VC_OCC w l k) f_FAB_VC_OCC_OCC)) s else s
      if fldGet v f_FAB_LNK_CTL_EN = 0 then
        (if st = 0 then s else if st = 5 then linkDown s w l 0 else setLinkState s w l 0)
      else if st = 0 then setLinkState s w l 1
      else if fldGet v f_FAB_LNK_CTL_RETRAIN = 1 ∧ st = 5 then linkDown s w l 1
      else s

/-- FAB_LNK_EN_WRITE: a write of FAB_LNK_CTL (R278): EN = 1 takes OFF to DETECT, EN = 0 takes the link to OFF. -/
def execFabLnkEnWrite (w l : Nat) (v : W32) (s : State) : Out := when_ (decide (w < 4) && decide (l < 12)) s (writeLnkCtl s w l v)

/-- RETRAIN: a write that sets RETRAIN and leaves the other fields (R280). -/
def execRetrain (w l : Nat) (s : State) : Out :=
  when_ (decide (w < 4) && decide (l < 12)) s (writeLnkCtl s w l (fldSet (rget s (r_FAB_LNK_CTL w l)) f_FAB_LNK_CTL_RETRAIN 1))

/-- HWMCLR: a write that sets HWMCLR and leaves the other fields (R306). -/
def execHwmclr (w l : Nat) (s : State) : Out :=
  when_ (decide (w < 4) && decide (l < 12)) s (writeLnkCtl s w l (fldSet (rget s (r_FAB_LNK_CTL w l)) f_FAB_LNK_CTL_HWMCLR 1))

/-- SIGNAL_DETECT: the signal has stood on the lanes of a mask for 100 µs; on all four it takes DETECT to TRAIN (R278). -/
def execSignalDetect (w l lanes : Nat) (s : State) : Out :=
  if 4 ≤ w ∨ 12 ≤ l then .next s
  else
    let s := fput s (r_FAB_LNK_STAT w l) f_FAB_LNK_STAT_SIGDET lanes
    if linkState s w l = 1 ∧ lanes % 16 = 15 then
      .next (modLink (setLinkState s w l 2) (linkKey w l) fun x => { x with taps := linkReset.taps, answers := linkReset.answers, ready := linkReset.ready })
    else .next s

/-- R578: do three taps keep every limit? -/
def tapsOk (t : Int × Int × Int) : Bool :=
  decide (-8 ≤ t.1) && decide (t.1 ≤ 0) && decide (20 ≤ t.2.1) && decide (t.2.1 ≤ 40) && decide (-12 ≤ t.2.2) && decide (t.2.2 ≤ 0)
  && decide (t.1.natAbs + t.2.1.natAbs + t.2.2.natAbs ≤ 40)

/-- One request on one tap: the taps and the response. -/
def tapReq (t : Int × Int × Int) (which req : Nat) : (Int × Int × Int) × Nat :=
  let d : Int := if req = 1 then 1 else if req = 2 then -1 else 0
  if d = 0 then (t, 0)
  else
    let t' := match which with
      | 0 => (t.1 + d, t.2.1, t.2.2)
      | 1 => (t.1, t.2.1 + d, t.2.2)
      | _ => (t.1, t.2.1, t.2.2 + d)
    if tapsOk t' then (t', 1) else (t, 2)

/-- R578: a control word at a transmitter. -/
def tapsFrame (t : Int × Int × Int) (ctl : W32) : (Int × Int × Int) × (Nat × Nat × Nat) :=
  if ctl.getLsbD 6 then ((-2, 34, -4), (1, 1, 1))
  else
    let (t, a) := tapReq t 0 (bits ctl.toNat 1 0)
    let (t, b) := tapReq t 1 (bits ctl.toNat 3 2)
    let (t, c) := tapReq t 2 (bits ctl.toNat 5 4)
    (t, (a, b, c))

/-- TRAINING_FRAME: control word `ctl` on a lane (its LANE field places it); `far` tells that the far end has received RXREADY
on all four lanes in 16 consecutive frames (R279). -/
def execTrainingFrame (w l : Nat) (ctl : W32) (far : Bool) (s : State) : Out :=
  if 4 ≤ w ∨ 12 ≤ l ∨ (linkState s w l != 1 ∧ linkState s w l != 2) then .next s
  else
    let lane := bits ctl.toNat 9 8
    let x := getLink s (linkKey w l)
    let (t, a) := tapsFrame (x.taps.getD lane (-2, 34, -4)) ctl
    let n := if ctl.getLsbD 7 then x.ready.getD lane 0 + 1 else 0
    let s := modLink s (linkKey w l) fun x => { x with taps := x.taps.set lane t, answers := x.answers.set lane a, ready := x.ready.set lane n }
    if linkState s w l = 2 ∧ far ∧ (getLink s (linkKey w l)).ready.all (16 ≤ ·) then
      .next (modLink (setLinkState s w l 3) (linkKey w l) fun x => { x with good := 0 })
    else .next s

/-- Table 1: the time limit of a state in µs. -/
def stateLimit (st : Nat) : Option Nat := if st = 2 then some 20000 else if st = 3 then some 2000 else if st = 4 then some 200 else none

/-- LINK_TIME_LIMIT (R278): a state has exceeded its limit. -/
def execLinkTimeLimit (w l : Nat) (s : State) : Out :=
  match (if w < 4 ∧ l < 12 ∧ !(getLink s (linkKey w l)).pause then stateLimit (linkState s w l) else none) with
  | none => .next s
  | some us =>
    if us < linkUs s w l then
      let s := fput s (r_FAB_LNK_ERR w l) f_FAB_LNK_ERR_TRAINFAIL 1
      let s := fadd s (r_FAB_LNK_STAT w l) f_FAB_LNK_STAT_DOWNCNT 1
      let s := raise s { eventOf s (srcWheel w 4) with sub := l }
      .next (modLink s (linkKey w l) fun x => { x with pause := true, since := s.tb.tb })
    else .next s

/-- LINK_RESTART_DELAY (R278): 1 ms after a failure the link enters DETECT. -/
def execLinkRestartDelay (w l : Nat) (s : State) : Out :=
  when_ (decide (w < 4) && decide (l < 12) && (getLink s (linkKey w l)).pause && decide (1000 ≤ linkUs s w l)) s (setLinkState s w l 1)

/-! ### Blocks (R281 to R285, R304) -/

/-- Slots dedicated to VC `v`, and the shared slots of a receive buffer (R303). -/
def vcMin (s : State) (w v : Nat) : Nat := fget s (r_FAB_VC_BUF w v) f_FAB_VC_BUF_MIN
def sharedSlots (s : State) (w : Nat) : Nat := 13107 - ((List.range 14).map (vcMin s w)).foldl (· + ·) 0

/-- R280: has the receive buffer a place for the cell? -/
def bufRoom (s : State) (w l : Nat) (c : LCell) : Bool :=
  let b := (getLink s (linkKey w l)).rx.buf
  if c.pool then decide ((b.filter LCell.pool).length < sharedSlots s w)
  else decide ((b.filter fun x => !x.pool && x.cell.vc == c.cell.vc).length < vcMin s w c.cell.vc)

/-- FAB_LNK_ERR and the loss of a link for a cause. -/
def loseLink (s : State) (w l : Nat) (why : LossCause) : State :=
  let f := match why with
    | .los => f_FAB_LNK_ERR_LOS
    | .unc => f_FAB_LNK_ERR_UNC
    | .rplim => f_FAB_LNK_ERR_RPLIM
    | .credit => f_FAB_LNK_ERR_CREDIT
  linkDown (fput s (r_FAB_LNK_ERR w l) f 1) w l 1

/-- One cell of a block, at its link sequence. -/
def blockCell (w l : Nat) (s : State) (q : Nat) (c : LCell) : State :=
  let k := linkKey w l
  let (rx, what) := rxSeq (getLink s k).rx q
  let s1 := modLink s k fun x => { x with rx := rx }
  match what with
  | .silent => s1
  | .nak => fadd s1 (r_FAB_RTX_NAKTX w l) f_FAB_RTX_NAKTX_CNT 1
  | .taken =>
    let agef := min 0xFFFFF (c.agef + (fget s (r_FAB_LNK_STAT w l) f_FAB_LNK_STAT_DELAY + 7) / 8)
    if agefLimit ≤ agef then
      cellLoss (fadd (modLink s1 k fun x => { x with rx := rxFree x.rx c.cell.vc c.pool }) (r_FAB_DROP_AGE w l) f_FAB_DROP_AGE_CNT 1) (srcWheel w 6) { c with agef := agef, arr := s.tb.tb }
    else if !bufRoom s w l c then loseLink s w l .credit
    else syncOcc (modLink s1 k fun x => { x with rx := { x.rx with buf := x.rx.buf ++ [{ c with agef := agef, arr := s.tb.tb }] } }) w l c.cell.vc

/-- The cells of a block at consecutive sequences; the link may be lost on the way. -/
def blockCells (w l : Nat) : State → Nat → List LCell → State
  | s, _, [] => s
  | s, q, c :: cs => if linkState s w l = 5 then blockCells w l (blockCell w l s q c) ((q + 1) % seqMod) cs else s

/-- R285: transmits every unacknowledged cell again, in sequence order. -/
def resend (s : State) (w l : Nat) : State :=
  let t := (getLink s (linkKey w l)).tx
  let s := modLink s (linkKey w l) fun x => { x with tx := { x.tx with replays := x.tx.replays + 1, since := s.tb.tb } }
  let s := fadd s (r_FAB_RTX_CELLS w l) f_FAB_RTX_CELLS_CNT t.buf.length
  each t.buf (fun s p => emitSent s (.cell w l p.2)) s

/-- The block control at the sender: acknowledgement, NAK and credits. -/
def blockControl (s : State) (w l : Nat) (b : Block) : State :=
  let s := modLink s (linkKey w l) fun x =>
    let t := txAck x.tx b.aseq s.tb.tb
    let t := (List.range 14).foldl (fun t v => creditD t v (b.dcrd.getD v 0)) t
    { x with tx := creditS t b.scrd, rx := { x.rx with nakDue := false } }
  if b.nak then resend (fadd s (r_FAB_RTX_NAKRX w l) f_FAB_RTX_NAKRX_CNT 1) w l else s

/-- BLOCK_RECEIVE (R281): a block on link `l` of wheel `w`. -/
def execBlockReceive (w l : Nat) (b : Block) (s : State) : Out :=
  let st := linkState s w l
  if 4 ≤ w ∨ 12 ≤ l ∨ st < 3 then .next s
  else
    let unc := b2n b.uncA + b2n b.uncB
    let s := cadd s (r_FAB_FEC_CW_LO w l) (r_FAB_FEC_CW_HI w l) 2
    let s := cadd s (r_FAB_FEC_SYM_LO w l) (r_FAB_FEC_SYM_HI w l) b.sym
    let s := fadd s (r_FAB_FEC_UNC w l) f_FAB_FEC_UNC_CNT unc
    let k := linkKey w l
    if st = 3 then
      let good := if unc = 0 then (getLink s k).good + 1 else 0
      let s := modLink s k fun x => { x with good := good }
      if 64 ≤ good then .next (modLink (setLinkState s w l 4) k fun x => { x with recs := 0, tSent := s.tb.tb.truncate 32 }) else .next s
    else if st = 4 then .next s
    else if unc != 0 then .next (modLink s k fun x => { x with rx := { x.rx with uncRun := x.rx.uncRun + 1 } })
    else
      let s := modLink s k fun x => { x with rx := { x.rx with uncRun := 0 } }
      if b.align then .next s else .next (blockCells w l (blockControl s w l b) b.fseq b.cells)

/-- REPLAY_TIMEOUT (R285): the oldest unacknowledged cell has waited TMO µs: of link `b` of wheel `a`, or of the panel link from
node `a` to node `b`. -/
def execReplayTimeout (panel : Bool) (a b : Nat) (s : State) : Out :=
  if panel then
    let t := (getPanel s a b).tx
    when_ (panelAdj a b && !t.buf.isEmpty && decide (20000 ≤ (s.tb.tb - t.since).toNat)) s
      (modPanel s a b fun l => { l with tx := { l.tx with cur := 0, replays := l.tx.replays + 1, since := s.tb.tb } })
  else
    let t := (getLink s (linkKey a b)).tx
    when_ (decide (a < 4) && decide (b < 12) && linkLive s a b && !t.buf.isEmpty
        && decide (fget s (r_FAB_LNK_RTMO a b) f_FAB_LNK_RTMO_TMO * 1000 ≤ (s.tb.tb - t.since).toNat)) s
      (resend (fadd s (r_FAB_RTX_TMO a b) f_FAB_RTX_TMO_CNT 1) a b)

/-! ### Restart (R286) -/

/-- A fresh restart: sequences 0, and the replay buffer is discarded; each data-class cell in it counts as lost. -/
def freshRestart (s : State) (w l : Nat) : State :=
  let k := linkKey w l
  let lost := (getLink s k).tx.buf
  let s := modLink s k fun x => { x with tx := { x.tx with seq := 0, buf := [], replays := 0 }, rx := { x.rx with exp := 0, nakDue := false, nakHeld := false } }
  let s := fadd s (r_FAB_DROP_LOSS w l) f_FAB_DROP_LOSS_CNT lost.length
  let s := if lost.isEmpty then s else fput s (r_FAB_LNK_ERR w l) f_FAB_LNK_ERR_LOSS 1
  each lost (fun s p => cellLoss s (srcWheel w 6) p.2) s

/-- Credits restart from the peer's FREE counts, and the cumulative counters at 0. -/
def restartCredits (s : State) (w l : Nat) (r : CfgRec) : State :=
  modLink s (linkKey w l) fun x => { x with
    tx := { x.tx with ded := r.free, shared := r.sfree, held := List.replicate 14 0, seenD := List.replicate 14 0, seenS := 0 }
    rx := { x.rx with freedD := List.replicate 14 0, freedS := 0, uncRun := 0 } }

/-- CONFIG_RECORD: a configuration record of the peer; the fourth, when it echoes a T_SEND of this end, makes the link ACTIVE. -/
def execConfigRecord (w l : Nat) (r : CfgRec) (s : State) : Out :=
  if 4 ≤ w ∨ 12 ≤ l ∨ linkState s w l != 4 then .next s
  else
    let k := linkKey w l
    let s := modLink s k fun x => { x with recs := x.recs + 1, lastCfg := some r }
    let x := getLink s k
    let now : W32 := s.tb.tb.truncate 32
    if x.recs < 4 ∨ (now - x.tSent).toNat < (r.tEcho - x.tSent).toNat then .next s
    else
      let fresh := x.fresh || r.fresh
      let s := if fresh then freshRestart s w l else modLink s k fun x => { x with tx := txAck x.tx r.aseq s.tb.tb }
      let s := restartCredits s w l r
      let s := fput (fput s (r_FAB_LNK_STAT w l) f_FAB_LNK_STAT_FRESH (b2n fresh)) (r_FAB_LNK_STAT w l) f_FAB_LNK_STAT_DELAY
        (((now - r.tEcho).toNat - r.tHold.toNat) / 2)
      let s := modLink (setLinkState s w l 5) k fun x => { x with fresh := false }
      let s := if fresh then s else resend s w l
      .next (linkSeen (addReport s (17 + w) 2 w l 0) w l)

/-- LINK_LOSS (R280): a cause takes an ACTIVE link to DETECT. LOS is an event of the receiver; UNC needs 8 consecutive blocks,
RPLIM the replays of FAB_LNK_CTL.RPLIM; CREDIT is found at a block. -/
def execLinkLoss (w l : Nat) (why : LossCause) (s : State) : Out :=
  let x := getLink s (linkKey w l)
  let holds := match why with
    | .los => true
    | .unc => decide (8 ≤ x.rx.uncRun)
    | .rplim => decide (fget s (r_FAB_LNK_CTL w l) f_FAB_LNK_CTL_RPLIM ≤ x.tx.replays)
    | .credit => false
  when_ (decide (w < 4) && decide (l < 12) && linkLive s w l && holds) s
    (let s := loseLink s w l why
     if why = .los then fput s (r_FAB_LNK_STAT w l) f_FAB_LNK_STAT_SIGDET 0 else s)

/-- HOLD_EXPIRY (R286): a link has been down for HOLD µs; it restarts fresh. -/
def execHoldExpiry (w l : Nat) (s : State) : Out :=
  when_ (decide (w < 4) && decide (l < 12) && !linkLive s w l && decide (fget s (r_FAB_LNK_CTL w l) f_FAB_LNK_CTL_HOLD ≤ linkUs s w l)) s
    (modLink s (linkKey w l) fun x => { x with fresh := true })

end Sys2Proof.Machine
end

