-- ==== Sys2Proof/Machine/Image.lean ====
section
/-! DEFINITION. Machine/Image.lean: program images: their check at LOAD, and the seed of an item (spec/07 R243 to R248; spec/06 R185;
spec/02 R47; spec/08 R273). -/

namespace Sys2Proof.Machine

/-- `n` bytes of an image from byte `off` on, as a number. -/
def imgN (bs : List Byte) (off n : Nat) : Nat := leNat ((bs.drop off).take n)
/-- Are `n` bytes from `off` on all 0? -/
def imgZero (bs : List Byte) (off n : Nat) : Bool := ((bs.drop off).take n).all fun b => b == 0#8

/-- Table 9: an entry of the section table. -/
structure Sect where
  ty : Nat
  rsv : Nat
  index : Nat
  off : Nat
  size : Nat
  dest : Nat
  deriving DecidableEq, Repr

def sectAt (bs : List Byte) (k : Nat) : Sect :=
  let o := 256 + 32 * k
  { ty := imgN bs o 1, rsv := imgN bs (o + 1) 3, index := imgN bs (o + 4) 4, off := imgN bs (o + 8) 8, size := imgN bs (o + 16) 8,
    dest := imgN bs (o + 24) 8 }
def sectBytes (bs : List Byte) (x : Sect) : List Byte := (bs.drop x.off).take x.size
def allCores : Nat := 0xFFFFFFFF

/-! ### Header (Table 8) -/

def hdrNsec (bs : List Byte) : Nat := imgN bs 8 2
def hdrNlcl (bs : List Byte) : Nat := imgN bs 10 2
def hdrNlc (bs : List Byte) : Nat := imgN bs 12 4
/-- R47: the due latencies; 0 keeps the default. -/
def hdrDue (bs : List Byte) : List Nat := (List.range 8).map fun k => imgN bs (32 + 4 * k) 4
def dueOk (d : List Nat) : Bool := (d.zip dueMinima).all fun p => p.1 == 0 || decide (p.2 ≤ p.1)
def dueFrom (d : List Nat) : List Nat := (d.zip dueDefaults).map fun p => if p.1 = 0 then p.2 else p.1

/-- R243: the CRC-64 of the image with its own field taken as 0. -/
def imgCrc (bs : List Byte) : W64 := crc64Add 0#64 (bs.take 248 ++ List.replicate 8 0#8 ++ bs.drop 256)

def hdrOk (bs : List Byte) : Bool :=
  decide (256 ≤ bs.length) && imgN bs 0 4 == 0x38495054 && imgN bs 4 2 == 1 && imgN bs 6 2 == 256
  && decide (3 ≤ hdrNsec bs) && decide (hdrNsec bs ≤ 8192) && decide (1 ≤ hdrNlcl bs) && decide (hdrNlcl bs ≤ 256)
  && decide (1 ≤ hdrNlc bs) && decide (hdrNlc bs ≤ 4096) && decide (hdrNlc bs ≤ 16 * hdrNlcl bs) && imgN bs 16 8 == bs.length
  && dueOk (hdrDue bs) && imgZero bs 68 180 && (imgCrc bs).toNat == imgN bs 248 8 && decide (256 + 32 * hdrNsec bs ≤ bs.length)

/-! ### Sections (Tables 9 to 11) -/

/-- R185: the codes of a slot table. -/
def slotCodes (bs : List Byte) : List Nat := bs.flatMap fun b => [b.toNat % 16, b.toNat / 16]
def slotOfCode (c : Nat) : SlotCode :=
  match c with
  | 1 => .read
  | 2 => .write
  | 3 => .turn
  | 4 => .refresh
  | 5 => .scrub
  | _ => .idle
/-- The table seen from its first REFRESH on, once round. -/
def rotateTo (p : SlotCode → Bool) (l : List SlotCode) : List SlotCode :=
  match l.findIdx? p with
  | some i => l.drop i ++ l.take i
  | none => l
/-- No run of `l` without `p` is as long as `n`; `k` counts the present run. -/
def runsBelow (p : SlotCode → Bool) (n : Nat) : Nat → List SlotCode → Bool
  | _, [] => true
  | k, c :: cs => if p c then runsBelow p n 0 cs else decide (k + 1 < n) && runsBelow p n (k + 1) cs
/-- R185: what separates reads from writes: `last` is the last READ or WRITE, `gap` the entries since then. -/
def sepOk : SlotCode → Nat → List SlotCode → Bool
  | _, _, [] => true
  | last, gap, c :: cs =>
    match c with
    | .read => !(last == .write && decide (gap < 8)) && sepOk .read 0 cs
    | .write => !(last == .read && decide (gap < 4)) && sepOk .write 0 cs
    | _ => sepOk last (gap + 1) cs
def countOf (c : SlotCode) (l : List SlotCode) : Nat := (l.filter (· == c)).length
/-- R185. A table repeats, so what it asks of neighbours holds around its end. -/
def slotsOk (bs : List Byte) : Bool :=
  let l := (slotCodes bs).map slotOfCode
  let r := rotateTo (· == .refresh) l
  let d := rotateTo (fun c => c == .read || c == .write) l
  (slotCodes bs).all (fun c => decide (c < 6)) && decide (countOf .read l + countOf .write l ≤ 672) && decide (32 ≤ countOf .refresh l)
  && runsBelow (· == .refresh) 65 0 (r ++ r.take 1) && decide (64 ≤ countOf .scrub l)
  && sepOk .idle 0 (d ++ d.take 1)

/-- R245: an entry of the CORES section is well formed. -/
def coreEntryOk (b : List Byte) (nlcl : Nat) (k : Nat) : Bool :=
  let o := 16 * k
  decide (imgN b o 1 ≤ 6) && imgZero b (o + 1) 1 && decide (imgN b (o + 2) 2 < nlcl) && imgZero b (o + 4) 4
def coreEntry (b : List Byte) (k : Nat) : LCore :=
  { rl := 2 ^ imgN b (16 * k) 1, cluster := imgN b (16 * k + 2) 2, runmask := BitVec.ofNat 64 (imgN b (16 * k + 8) 8) }
def coresOk (b : List Byte) (nlc nlcl : Nat) : Bool :=
  b.length == 16 * nlc && (List.range nlc).all (coreEntryOk b nlcl)
  && (List.range nlcl).all fun L => decide (((List.range nlc).filter fun k => imgN b (16 * k + 2) 2 == L).length ≤ 16)

/-- R247: an entry of the ARGS section. -/
def argEntry (b : List Byte) (k : Nat) : Arg :=
  { dir := imgN b (32 * k) 1, dest := BitVec.ofNat 64 (imgN b (32 * k + 8) 8), maxlen := imgN b (32 * k + 16) 8 }
def argOk (b : List Byte) (k : Nat) : Bool :=
  let x := argEntry b k
  let t := regionTag x.dest.toNat
  decide (x.dir ≤ 3) && imgZero b (32 * k + 1) 7 && imgZero b (32 * k + 24) 8
  && (x.dir == 0 || ((t == 1000 || (decide (1 ≤ t) && decide (t ≤ 256))) && x.dest.toNat % 64 == 0))
def argsOk (b : List Byte) : Bool := b.length == 512 && (List.range 16).all (argOk b)

/-- R246: the SEED section. -/
def seedOk (b : List Byte) : Bool := b.length == 16 && decide (imgN b 0 1 ≤ 2) && imgZero b 1 7

/-- R273: printable ASCII padded with zeros. -/
def nameOk : Bool → List Byte → Bool
  | _, [] => true
  | ended, b :: bs => if b = 0#8 then nameOk true bs else !ended && decide (0x20 ≤ b.toNat) && decide (b.toNat ≤ 0x7E) && nameOk false bs
def manifestEntry (b : List Byte) (k : Nat) : Manifest :=
  let o := 16 + 64 * k
  { lcore := imgN b (o + 24) 4, thread := imgN b (o + 28) 1, kind := imgN b (o + 29) 1, count := BitVec.ofNat 64 (imgN b (o + 32) 8),
    addr := BitVec.ofNat 64 (imgN b (o + 40) 8), len := imgN b (o + 48) 4 }
def manifestOk (b : List Byte) (cores : List LCore) (k : Nat) : Bool :=
  let o := 16 + 64 * k
  let m := manifestEntry b k
  let t := regionTag m.addr.toNat
  nameOk false ((b.drop o).take 24) && decide (m.lcore < cores.length) && decide (m.thread < ((cores[m.lcore]?).map (·.rl)).getD 0)
  && decide (m.kind ≤ 1) && imgZero b (o + 31) 1 && decide (1 ≤ m.len) && decide (m.len ≤ 2 ^ 24) && decide (t ≤ 1000)
  && regionTag (m.addr.toNat + (m.len - 1)) == t && imgZero b (o + 52) 12
def replayOk (b : List Byte) (cores : List LCore) : Bool :=
  let n := imgN b 0 4
  decide (1 ≤ n) && decide (n ≤ 4096) && imgZero b 4 12 && b.length == 16 + 64 * n && (List.range n).all (manifestOk b cores)

/-- R244: place and header fields of section `k`, and that no earlier section overlaps it. -/
def sectPlaced (bs : List Byte) (xs : List Sect) (k : Nat) (x : Sect) : Bool :=
  let one := x.ty == 1 || x.ty == 3
  x.rsv == 0 && x.off % 64 == 0 && decide (x.off + x.size ≤ bs.length) && decide (256 + 32 * hdrNsec bs ≤ x.off)
  && ((xs.take k).all fun y => decide (y.off + y.size ≤ x.off) || decide (x.off + x.size ≤ y.off))
  && (if one then decide (x.index < hdrNlc bs) || (x.ty == 1 && x.index == allCores) else x.index == 0)
  && (x.ty == 3 || x.dest == 0)

/-- R244, Table 10: is section `k` well formed? -/
def sectOk (bs : List Byte) (xs : List Sect) (cores : List LCore) (k : Nat) (x : Sect) : Bool :=
  let b := sectBytes bs x
  let again := (xs.take k).any fun y => y.ty == x.ty
  sectPlaced bs xs k x && (match x.ty with
    | 1 => x.size % 8 == 0 && decide (x.size ≤ 262144) && !((xs.take k).any fun y => y.ty == 1 && y.index == x.index)
    | 2 => !again && coresOk b (hdrNlc bs) (hdrNlcl bs)
    | 3 => let t := regionTag x.dest
           decide (t ≤ 1000) && (x.size == 0 || regionTag (x.dest + (x.size - 1)) == t)
    | 4 => !again && x.size == 512 && slotsOk b
    | 5 => !again && seedOk b
    | 6 => !again && replayOk b cores
    | 7 => !again && argsOk b
    | _ => false)

def codeWords : Nat → List Byte → List W64
  | 0, _ => []
  | n + 1, bs => BitVec.ofNat 64 (leNat (bs.take 8)) :: codeWords n (bs.drop 8)

/-- R243 to R247, R273: checks an image that has been copied to `home`: the index of what breaks a rule (0xFFFF: the header), or
the image. -/
def checkImage (bs : List Byte) (home : Nat) : Sum Nat Image :=
  if !hdrOk bs then .inl 0xFFFF
  else
    let xs := (List.range (hdrNsec bs)).map (sectAt bs)
    let find (t : Nat) := xs.find? fun x => x.ty == t
    let coreB := ((find 2).map (sectBytes bs)).getD []
    let cores := (List.range (hdrNlc bs)).map (coreEntry coreB)
    match (List.range (hdrNsec bs)).find? fun k => !sectOk bs xs cores k (sectAt bs k) with
    | some k => .inl k
    | none =>
      let code := xs.filter fun x => x.ty == 1
      let shared := code.find? fun x => x.index == allCores
      let words (x : Sect) := codeWords (x.size / 8) (sectBytes bs x)
      if code.isEmpty || (find 2).isNone || (find 7).isNone
          || (shared.isNone && (List.range (hdrNlc bs)).any fun c => !code.any fun x => x.index == c) then .inl 0xFFFF
      else
        let seedB := ((find 5).map (sectBytes bs)).getD (List.replicate 16 0#8)
        let argB := ((find 7).map (sectBytes bs)).getD []
        let rplB := ((find 6).map (sectBytes bs)).getD []
        .inr { home := home, nlcl := hdrNlcl bs, steplim := imgN bs 24 8, due := dueFrom (hdrDue bs), quant := imgN bs 64 4, cores := cores,
               code := (code.filter fun x => x.index != allCores).foldl (fun t x => tblPut t x.index (words x)) [],
               shared := shared.map words,
               consts := (xs.filter fun x => x.ty == 3).map fun x =>
                 { lcore := x.index, off := x.off, size := x.size, dest := BitVec.ofNat 64 x.dest, bytes := sectBytes bs x },
               slots := (find 4).map fun x => (slotCodes (sectBytes bs x)).map slotOfCode,
               policy := imgN seedB 0 1, fixed := BitVec.ofNat 64 (imgN seedB 8 8),
               args := (List.range 16).map (argEntry argB),
               manifest := (List.range (imgN rplB 0 4)).map (manifestEntry rplB) }

/-- R246: the seed of an item. -/
def seedFor (policy : Nat) (fixed seed : W64) (seq : Nat) : W64 :=
  match policy with
  | 0 => seed
  | 1 => fixed
  | _ => let (y0, y1, _, _) := gen (seed.extractLsb' 0 32) (seed.extractLsb' 32 32) (BitVec.ofNat 64 seq) 0xFFFFFFFF#32 0#32
         y1 ++ y0

def imageKey (sg h : Nat) : Nat := sg * 65536 + h
def imageOf (s : State) (sg h : Nat) : Option Image := tblFind s.stm.images (imageKey sg h)
/-- The seed that the item of a record has in a saggar. -/
def itemSeed (s : State) (sg : Nat) (r : JRec) : W64 :=
  if r.ofl % 4 = 1 then (match imageOf s sg r.img with
    | some i => seedFor i.policy i.fixed r.seed r.seq
    | none => r.seed)
  else r.seed

end Sys2Proof.Machine
end

