-- ==== Sys2Proof/Machine/Fetch.lean ====
section
/-! DEFINITION. Machine/Fetch.lean: descriptors, segment lists and their validation, DESCRIPTOR_FETCH, PHASE_RECHECK, and
ACCEPT_COMMIT with the records of the log (spec/07 R222 to R228, R232, R235, R241, R242; spec/16 R479 to R484, R492 to R501;
spec/08 R259 to R264). -/

namespace Sys2Proof.Machine

/-! ### Segment entries and lists (R223) -/

def segOf (bs : List Byte) : Seg := { addr := leNat (bs.take 8), len := leNat ((bs.drop 8).take 4), attr := leNat ((bs.drop 12).take 4) }
def segBytes (e : Seg) : List Byte := leBytes 8 e.addr ++ leBytes 4 e.len ++ leBytes 4 e.attr
def segArg (e : Seg) : Nat := e.attr % 16
def segDir (e : Seg) : Nat := bits e.attr 5 4
def segSpace (e : Seg) : Bool := bitAt e.attr 6
def segList (e : Seg) : Bool := bitAt e.attr 7

/-- Table 7, 0x10 to 0x18: what is wrong with an entry that stands at depth `d` (0: in the descriptor). -/
def segCodes (e : Seg) (d : Nat) : List Nat :=
  let l := segList e
  (if l && decide (3 ≤ d) then [0x10] else [])
  ++ (if e.attr / 256 != 0 || segDir e == 3 || (l && (segArg e != 0 || segDir e != 0)) || (!l && segSpace e && decide (2 ^ 48 ≤ e.addr)) then [0x13] else [])
  ++ (if l && (e.addr % 16 != 0 || e.len % 16 != 0) then [0x14] else [])
  ++ (if e.len == 0 || decide ((if l then 4096 else 2 ^ 30) < e.len) then [0x17] else [])
  ++ (if (l && segSpace e) || ((l || !segSpace e) && bitAt e.addr 63) then [0x18] else [])

/-- What a traversal finds: every entry, the data entries, the first failure (entry index and code), and whether every list
could be followed. -/
structure Walked where
  entries : List Seg
  data : List Seg
  fail : Option (Nat × Nat)
  whole : Bool

def leastCode (l : List Nat) : Option Nat := l.foldl (fun m c => match m with
  | none => some c
  | some k => some (min k c)) none

/-- The entries of a list in host memory. -/
def listSegs (s : State) (e : Seg) : List Seg := (List.range (e.len / 16)).map fun k => segOf (hostRead s (e.addr + 16 * k) 16)

/-- R223: depth first. `badList` is the index of a LIST entry whose list a host read fails to bring. -/
def walkSegs (s : State) (badList : Option Nat) : Nat → List (Seg × Nat) → Walked → Walked
  | 0, _, w => w
  | _ + 1, [], w => w
  | fuel + 1, (e, d) :: rest, w =>
    let i := w.entries.length
    let codes := segCodes e d ++ (if 4096 ≤ i then [0x16] else [])
    let codes := codes ++ (if segList e && codes.isEmpty && badList == some i then [0x15] else [])
    let w' := { w with entries := w.entries ++ [e], fail := if w.fail.isSome then w.fail else (leastCode codes).map fun c => (i, c) }
    if 4096 ≤ i then { w' with whole := false }
    else if segList e then
      (if codes.isEmpty then walkSegs s badList fuel ((listSegs s e).map (fun x => (x, d + 1)) ++ rest) w'
       else { w' with whole := false })
    else walkSegs s badList fuel rest { w' with data := w'.data ++ [e] }

/-- The entries reachable from the segments of a descriptor or record. -/
def reach (s : State) (badList : Option Nat) (segs : List Seg) : Walked :=
  walkSegs s badList 4100 (segs.map fun e => (e, 0)) { entries := [], data := [], fail := none, whole := true }

/-! ### Descriptors (R222, R224) -/

def descOf (bs : List Byte) : Desc :=
  { seq := imgN bs 0 6, opc := imgN bs 6 1, flags := imgN bs 7 1, img := imgN bs 8 4, steplim := imgN bs 12 4,
    seed := BitVec.ofNat 64 (imgN bs 16 8), seg0 := segOf (bs.drop 24), seg1 := segOf (bs.drop 40), total := imgN bs 56 5,
    nseg := imgN bs 61 1, rsv := imgN bs 62 1 + 256 * (imgN bs 63 1 % 128) }
def descSegs (d : Desc) : List Seg := if d.nseg = 0 then [] else if d.nseg = 1 then [d.seg0] else [d.seg0, d.seg1]
def segNone : Seg := { addr := 0, len := 0, attr := 0 }

/-- Table 7: what is wrong with the descriptor itself. `gap`: its SEQ lies ahead. -/
def descCodes (d : Desc) (w : Walked) (gap : Bool) : List Nat :=
  let run := d.opc == 1
  (if w.whole && decide (d.nseg ≤ 2) && w.data.foldl (fun a e => a + e.len) 0 != d.total then [0x11] else [])
  ++ (if gap then [0x12] else [])
  ++ (if decide (3 < d.opc) || decide (4 ≤ d.flags) || decide (65535 < d.img) || (d.opc != 0 && d.img == 0) || (d.opc == 0 && d.img != 0)
        || (!run && d.steplim != 0) || d.rsv != 0 || (decide (d.nseg < 2) && d.seg1 != segNone) || (d.nseg == 0 && d.seg0 != segNone)
      then [0x13] else [])
  ++ (if 2 < d.nseg then [0x19] else [])
  ++ (if w.whole && decide (d.nseg ≤ 2) && (run || d.opc == 2) && w.data.isEmpty then [0x1A] else [])

/-- R224: the first case in traversal order, the lowest code at one position; the descriptor itself comes first. -/
def rejection (d : Desc) (w : Walked) (gap : Bool) : Option (Nat × Nat) :=
  match leastCode (descCodes d w gap) with
  | some c => some (c, 0xFFFF)
  | none => w.fail.map fun p => (p.2, p.1)

def imageSeg (e : Seg) : Seg := { e with attr := e.attr % 256 }

/-- R480: the digest of a record. -/
def digestOf (r : JRec) (data : List Seg) : W64 :=
  crc64Add 0#64 (((recWords0 r).drop 9).take 15
    ++ data.flatMap fun e => leBytes 4 e.len ++ leBytes 4 e.attr ++ leBytes 8 (if segSpace e then e.addr else 0))

/-- R479: the record of a descriptor. -/
def recOf (n : Nat) (d : Desc) (w : Walked) : JRec :=
  let r : JRec := { stream := n, seq := d.seq, mark := 1, ofl := d.opc % 4 + 4 * (d.flags % 4), img := d.img, steplim := d.steplim, seed := d.seed,
                    seg0 := imageSeg d.seg0, seg1 := imageSeg d.seg1, digest := 0, commit := 0 }
  { r with digest := digestOf r w.data }
/-- R479: the segments of a record: those whose image is not zero. -/
def recSegs (r : JRec) : List Seg := [r.seg0, r.seg1].filter fun e => e != segNone
def recOpc (r : JRec) : Nat := r.ofl % 4
def recNoIrq (r : JRec) : Bool := bitAt r.ofl 2
def recIrqAcc (r : JRec) : Bool := bitAt r.ofl 3

/-! ### When a stream fetches (R228, R232, R494, R263, R442, R460, R487) -/

/-- R494: the twin's stream runs in the same mode at the same place. -/
def twinAgrees (s : State) (n : Nat) : Bool :=
  pstate s == 2 && (tblFind s.stm.jnl.peer n) == some (stMode s n, stRun, stSeq s n)

/-- R442, R443: a halt, and the 10 ms after it. -/
def haltHolds (s : State) : Bool :=
  fbit s r_FLT_STAT f_FLT_STAT_HALTED || (match s.flt.released with
    | some t => decide ((s.tb.tb - t).toNat < 10000000)
    | none => false)

/-- R232, R263, R442, R460, R487, R494, R497: the stream can accept nothing. -/
def noAcc (s : State) (n : Nat) : Bool :=
  (!twinned s n && fbit s r_JNL_STAT f_JNL_STAT_NOSPARE)
  || (twinned s n && (isHolder s n || !twinAgrees s n)) || s.stm.jnl.asked.any (fun x => x.1 == n)
  || ((sgOfStrm s n).any fun g => logBlocked s g) || haltHolds s || s.rst.cycle

/-- R228: items fetched and not done, and room for their completions, those of a new item, and a FLUSHED. -/
def openItems (s : State) (n : Nat) : Nat := inflight s n + (getStrm s n).fetched.length + (getStrm s n).prepared.length
def cplCredit (s : State) (n : Nat) : Bool :=
  decide (openItems s n < 256)
  && decide (cqUsed s n + (getStrm s n).posts.length + 2 * openItems s n + 3 ≤ cqSize s n - 1)

def taking (t : Strm) : Option Nat :=
  match t.flush with
  | .taking k => some k
  | _ => none

/-- May the front end read the slot at SQHEAD? -/
def fetchGoes (s : State) (n : Nat) : Bool :=
  let t := getStrm s n
  decide (n < 65536) && stState s n == stRun && !noAcc s n && cplCredit s n && s.stm.jnl.failAt.isNone && t.flush != .answering
  && (t.flush != .none || (sqHead s n != t.tail && !fbit s (r_STM_STAT n) f_STM_STAT_PHWAIT))
  && ((fnOfStrm s n).any fun f => hostUp s f && !(getFn s f).stopped)

/-- SQHEAD moves past a slot that was taken (R222); a flush counts it. -/
def advanceSq (s : State) (n : Nat) : State :=
  let h := (sqHead s n + 1) % sqSize s n
  let s := fput s (r_STM_PTR n) f_STM_PTR_SQHEAD h
  let s := if h = 0 then fput s (r_STM_STAT n) f_STM_STAT_SQPH (1 - fget s (r_STM_STAT n) f_STM_STAT_SQPH) else s
  modStrm s n fun t => { t with flush := match t.flush with
    | .taking k => .taking (k + 1)
    | x => x }
/-- A flush ends at one lap (R241). -/
def lapEnd (s : State) (n : Nat) : State :=
  match taking (getStrm s n) with
  | some k => if sqSize s n ≤ k + 1 then flushTaken s n else s
  | none => s

/-- R235: the answer to a duplicate. -/
def dupAnswer (s : State) (n seq : Nat) : Cpl :=
  match getDone s n seq with
  | some c => { c with ty := 4 }
  | none =>
    if (getRec s n seq).any (fun r => r.commit == 1) || (getStrm s n).accepted.any (fun a => a.rcd.seq == seq) then
      { cplOf seq 4 0xFE with sqhead := sqHead s n }
    else cplOf seq 4 0xFF

/-- R225, R241: a rejected descriptor. -/
def rejectDesc (s : State) (n seq code detail : Nat) : State :=
  let s := fadd (haltStrm s n code) (r_STM_REJCNT n) f_STM_REJCNT_CNT 1
  let s := postCpl s n { cplOf seq 3 code with detail := detail } true
  if (taking (getStrm s n)).isSome then flushTaken s n else s

/-- What the front end makes of a slot whose phase is valid. -/
def takeDesc (s : State) (n : Nat) (bs : List Byte) (badList : Option Nat) : State :=
  let d := descOf bs
  let t := getStrm s n
  let idle := t.fetched.isEmpty && t.prepared.isEmpty
  let want := stSeq s n + t.fetched.length + t.prepared.length
  let diff := (d.seq + 2 ^ 48 - want % 2 ^ 48) % 2 ^ 48
  if 2 ^ 47 ≤ diff then
    (if idle then
      lapEnd (advanceSq (fadd (postCpl s n (dupAnswer s n d.seq) true) (r_STM_DUPCNT n) f_STM_DUPCNT_CNT 1) n) n
     else s)
  else
    let w := if d.nseg ≤ 2 then reach s badList (descSegs d) else { entries := [], data := [], fail := none, whole := false }
    match rejection d w (diff != 0) with
    | some (code, detail) => if idle then rejectDesc s n d.seq code detail else s
    | none => lapEnd (advanceSq (modStrm s n fun t => { t with fetched := t.fetched ++ [(recOf n d w, bs)] }) n) n

/-- DESCRIPTOR_FETCH (R224): the front end reads the slot at SQHEAD. `hostErr`: that read fails; `badList`: the index of a LIST entry
whose list cannot be read. An answer that must follow an ACCEPTED (R238) waits for it. -/
def execDescriptorFetch (n : Nat) (hostErr : Bool) (badList : Option Nat) (s : State) : Out :=
  if fetchGoes s n then
    (if hostErr then .next (haltStrm s n 4)
    else
      let bs := hostRead s (sqBase s n + 64 * sqHead s n) 64
      if imgN bs 63 1 / 128 = fget s (r_STM_STAT n) f_STM_STAT_SQPH then .next (takeDesc s n bs badList)
      else if (taking (getStrm s n)).isSome then .next (flushTaken s n)
      else .next (modStrm (fput s (r_STM_STAT n) f_STM_STAT_PHWAIT 1) n fun t => { t with looked := s.tb.tb }))
  else .next s

/-- PHASE_RECHECK (R242): 1 µs after the last look, the slot is read again. -/
def execPhaseRecheck (n : Nat) (s : State) : Out :=
  let b := memRead s.mem.host (sqBase s n + 64 * sqHead s n + 63)
  when_ (decide (n < 65536) && stState s n == stRun && fbit s (r_STM_STAT n) f_STM_STAT_PHWAIT
      && decide (1000 ≤ (s.tb.tb - (getStrm s n).looked).toNat)) s
    (if b.toNat / 128 = fget s (r_STM_STAT n) f_STM_STAT_SQPH then fput s (r_STM_STAT n) f_STM_STAT_PHWAIT 0
     else modStrm s n fun t => { t with looked := s.tb.tb })

/-! ### Records of the log at a commit (R259, R260, R264) -/

/-- R28, R30: the service slots that are bound on a cluster. -/
def boundSlots (s : State) (d cl : Nat) : List Nat := (List.range 16).filter fun k => posOf s (coreId d cl k) != 99
def slotMask (s : State) (d cl : Nat) : Nat := (boundSlots s d cl).foldl (fun a k => a + 2 ^ k) 0
/-- What a MAP record holds of a saggar: die, cluster and bound-slot mask by logical cluster. -/
def mapNow (s : State) (sg : Nat) : List (Nat × Nat × Nat) := (getSag s sg).clmap.map fun p => (p.1, p.2, slotMask s p.1 p.2)
def mapBody (m : List (Nat × Nat × Nat)) : List Byte :=
  leBytes 2 m.length ++ List.replicate 14 0#8
  ++ m.flatMap fun x => leBytes 1 x.1 ++ leBytes 1 x.2.1 ++ leBytes 2 x.2.2 ++ List.replicate 12 0#8

/-- R267, R260: the data entries whose input bytes lie in host memory. -/
def hostInputs (data : List Seg) : List Seg := data.filter fun e => segDir e != 1 && !segSpace e
/-- DATA records of one entry: parts of at most 1,048,000 bytes. -/
def dataBodies (s : State) (i : Nat) (e : Seg) : List (List Byte) :=
  (List.range ((e.len + 1047999) / 1048000)).map fun k =>
    leBytes 4 i ++ leBytes 4 0 ++ leBytes 8 (1048000 * k) ++ hostRead s (e.addr + 1048000 * k) (min 1048000 (e.len - 1048000 * k))

/-- R260: the records of an item, in order, as types and bodies. -/
def itemRecords (s : State) (sg n : Nat) (r : JRec) (bs : List Byte) : List (Nat × List Byte) :=
  let w := reach s none (recSegs r)
  let ins := hostInputs w.data
  let m := mapNow s sg
  (if (getLog s sg).lastMap = m then [] else [(6, mapBody m)])
  ++ [(2, leBytes 4 n ++ leBytes 6 r.seq ++ leBytes 2 0 ++ leBytes 4 w.entries.length ++ bs ++ leBytes 8 (itemSeed s sg r).toNat ++ leBytes 8 s.tb.tb.toNat),
      (3, w.entries.flatMap segBytes)]
  ++ (if ins.isEmpty then [] else [(4, ins.flatMap fun e => leBytes 8 (crc64Add 0#64 (hostRead s e.addr e.len)).toNat)])
  ++ (if fbit s (r_DET_LOG_CFG sg) f_DET_LOG_CFG_DATA then
        w.entries.zipIdx.flatMap fun p => if segList p.1 || segSpace p.1 || segDir p.1 == 1 then [] else (dataBodies s p.2 p.1).map fun b => (5, b)
      else [])

/-- R259: does an item that commits now belong to the log of its saggar? -/
def logsNow (s : State) (sg : Nat) : Bool := logActive s sg && fbit s (r_DET_LOG_CFG sg) f_DET_LOG_CFG_EN && !(getLog s sg).closing
/-- R262, R263: room for records. A set larger than the whole buffer goes when the buffer is empty. -/
def recordsFit (s : State) (sg : Nat) (l : List (Nat × List Byte)) : Bool :=
  (getLog s sg).buf.isEmpty || logFits s sg (l.foldl (fun a p => a + 32 + p.2.length) 0)
def logItem (s : State) (sg : Nat) (l : List (Nat × List Byte)) : State :=
  let s := each l (fun s p => logPut s sg p.1 p.2) s
  modLog s sg fun x => { x with open_ := x.open_ + 1, lastMap := mapNow s sg }

/-! ### Acceptance (R227, R482, R483) -/

/-- The item is accepted: STM_SEQ and INFLIGHT advance, the log takes its records, ACCEPTED is posted and the item is dispatched (W6). -/
def acceptItem (s : State) (n : Nat) (r : JRec) (bs : List Byte) : State :=
  let sg := sgOfStrm s n
  let logged := sg.any (logsNow s)
  let s := match sg with
    | some g => if logged then logItem s g (itemRecords s g n r bs) else s
    | none => s
  let s := setInflight (setStSeq s n ((r.seq + 1) % 2 ^ 48)) n (inflight s n + 1)
  let s := fadd s (r_STM_ACCNT n) f_STM_ACCNT_CNT 1
  let s := modStrm s n fun t => { t with accepted := t.accepted ++ [{ rcd := { r with commit := 1 }, rerun := false, logged := logged, hangs := 0 }] }
  flushEnd (postCpl s n { cplOf r.seq 1 0 with steps := s.tb.tb } (recIrqAcc r)) n

/-- W5: the record is committed, unless its block has failed (R492). -/
def commitRec (s : State) (r : JRec) : State :=
  let s := fadd s r_JNL_COMMITS f_JNL_COMMITS_CNT 1
  if s.stm.jnl.failed.contains (blockOf r.stream r.seq) then s else putRec s { r with commit := 1 }
/-- JNL_LAT keeps the longest. -/
def notePeak (s : State) (off : Nat) (f : Fld) (x : Nat) : State := fput s off f (max (fget s off f) (min x 65535))

/-- Will the log take the item's records (R263)? -/
def acceptFits (s : State) (n : Nat) (r : JRec) (bs : List Byte) : Bool :=
  match sgOfStrm s n with
  | some g => !logsNow s g || recordsFit s g (itemRecords s g n r bs)
  | none => true

/-- W1 to W3 with `bad` failed readbacks: the second moves the block to a spare (R483). -/
def writeRec (s : State) (r : JRec) (bad : Nat) : State :=
  let s := if 2 ≤ bad && !s.stm.jnl.failed.contains (blockOf r.stream r.seq) then spareMove s (blockOf r.stream r.seq) else s
  if s.stm.jnl.failed.contains (blockOf r.stream r.seq) then s else putRec s r

/-! ### Twinned records (R495, R498, R500, R501) -/

/-- Table 8: ACK of a cell of stream `n` and `seq`. -/
def sendAck (s : State) (n seq kind status digest : Nat) : State :=
  jrnlSend s false 0x10 (jrnlBytes n seq 0x10 (leBytes 1 kind ++ leBytes 1 status ++ leBytes 5 0 ++ leBytes 8 digest))
/-- SQHEAD goes back by `k` slots. -/
def rewindSq (s : State) (n k : Nat) : State :=
  let h := sqHead s n
  let z := sqSize s n
  let s := fput s (r_STM_PTR n) f_STM_PTR_SQHEAD ((h + z - k % z) % z)
  if h < k then fput s (r_STM_STAT n) f_STM_STAT_SQPH (1 - fget s (r_STM_STAT n) f_STM_STAT_SQPH) else s
/-- R501: the prepared record is retired and rejected; the items fetched after it are fetched again. -/
def twinDiff (s : State) (n seq : Nat) : State :=
  let t := getStrm s n
  let keep := t.prepared.takeWhile fun p => p.1.seq != seq
  let gone := t.prepared.drop keep.length
  if gone.isEmpty then s
  else
    let s := each gone (fun s p => retireRec s n p.1.seq) s
    let s := modJnl s fun j => { j with unacked := j.unacked.filter fun c => !gone.any fun p => c.kind == 1 && c.words.headD 0 == n + p.1.seq * 65536,
                                        twinRec := j.twinRec.filter fun x => x.1 != n, acked := j.acked.filter fun x => x.1 != n }
    let s := rewindSq (modStrm s n fun t => { t with prepared := keep, fetched := [] }) n (gone.length + t.fetched.length)
    rejectDesc s n seq 0x1B 0xFFFF
def noteAnswer (s : State) (n seq : Nat) (ok : Bool) : State := modJnl s fun j => { j with answered := ((n, seq, ok) :: j.answered).take 4096 }
/-- R500 steps 2 and 3: the leader compares the record of the follower with its own. -/
def dualCompare (s : State) (n : Nat) : State :=
  if !(stMode s n == 2 && twinned s n && isLeader s) then s
  else match (getStrm s n).prepared.find? fun p => s.stm.jnl.twinRec.any fun x => x.1 == n && x.2.1 == p.1.seq with
    | none => s
    | some (r, _) =>
      let same := s.stm.jnl.twinRec.any fun x => x == (n, r.seq, r.digest)
      let s := modJnl s fun j => { j with twinRec := j.twinRec.filter fun x => !(x.1 == n && x.2.1 == r.seq) }
      let s := noteAnswer s n r.seq same
      if same then sendAck (commitRec s r) n r.seq 1 0 r.digest.toNat else twinDiff (sendAck s n r.seq 1 1 r.digest.toNat) n r.seq
/-- The twin stands where this stream stands once both hold a record. -/
def peerFollows (s : State) (n : Nat) : State :=
  modJnl s fun j => { j with peer := mapModify j.peer n fun p => (p.1, p.2.1, stSeq s n) }
/-- W5 and W6 of the oldest prepared record that the twin holds, or, on a DUAL follower, that the leader has found equal. -/
def settleOne (s : State) (n : Nat) : State :=
  match (getStrm s n).prepared with
  | [] => s
  | (r, bs, t0) :: rest =>
    if !s.stm.jnl.acked.contains (n, r.seq) then s
    else if !acceptFits s n r bs then (match sgOfStrm s n with
      | some g => logBlock s g
      | none => s)
    else
      let s := modStrm s n fun t => { t with prepared := rest }
      let s := modJnl s fun j => { j with acked := j.acked.filter fun x => x != (n, r.seq),
                                          unacked := j.unacked.filter fun c => !(c.kind == 1 && c.words.headD 0 == n + r.seq * 65536) }
      let s := notePeak s r_JNL_LAT f_JNL_LAT_TWUS ((s.tb.tb - t0).toNat / 1000)
      let lead := stMode s n == 2 && isLeader s
      let s := if lead then s else commitRec s r
      let s := if stMode s n = 2 ∧ !lead then sendAck (noteAnswer s n r.seq true) n r.seq 1 0 r.digest.toNat else s
      peerFollows (acceptItem s n r bs) n
def settle (s : State) (n : Nat) : State := (List.range (getStrm s n).prepared.length).foldl (fun s _ => settleOne s n) s
/-- R482: places between W1 and W5. -/
def preparedAll (s : State) : Nat := s.stm.strms.foldl (fun k (p : Nat × Strm) => k + p.2.prepared.length) 0

/-- ACCEPT_COMMIT (R482): the oldest fetched item of stream `n` is journalled. A LOCAL record is committed and accepted; a twinned
one is prepared, and its REC goes to the twin (W4). `bad`: readbacks that fail at W3; `lat`: nanoseconds from W1 to W5. -/
def execAcceptCommit (n bad lat : Nat) (s : State) : Out :=
  match (getStrm s n).fetched with
  | [] => .next s
  | (r, bs) :: rest =>
    if !(mramOn s && s.stm.jnl.failAt.isNone && decide (n < 65536)) then .next s
    else if twinned s n ∧ 64 ≤ preparedAll s then .next s
    else if twinned s n then
      let s := writeRec s r bad
      let s := modStrm s n fun t => { t with fetched := rest, prepared := t.prepared ++ [(r, bs, s.tb.tb)] }
      .next (dualCompare (jrnlSend s true 1 (recBytes64 r)) n)
    else if fbit s r_JNL_STAT f_JNL_STAT_NOSPARE then .next s
    else if !acceptFits s n r bs then .next (match sgOfStrm s n with
      | some g => logBlock s g
      | none => s)
    else
      let s := writeRec s r bad
      if s.stm.jnl.failed.contains (blockOf n r.seq) then .next s
      else
        let s := notePeak (modStrm s n fun t => { t with fetched := rest }) r_JNL_LAT f_JNL_LAT_LOCNS lat
        .next (acceptItem (commitRec s r) n r bs)

end Sys2Proof.Machine
end

