-- ==== Sys2Proof/Machine/Discard.lean ====
section
/-! DEFINITION. Machine/Discard.lean: what goes when a context is discarded (spec/09 R296; spec/11 R361; spec/15 R457, R463;
spec/06 R209). -/

namespace Sys2Proof.Machine

/-- What becomes of a context's access: a request that has reached a memory controller completes without it (R463, R209); with
`posted`, so does a posted one that is on its way (R251). -/
def detachAcc (c : Nat) (posted : Bool) (a : Access) : Option Access :=
  if a.core = c then
    (match a.stage with
    | .ready _ => some { a with core := 65536 + physOf c }
    | .half _ _ _ _ _ => some { a with core := 65536 + physOf c }
    | .waiting => if posted && a.posted then some { a with core := 65536 + physOf c } else none
    | .faulted _ => if posted && a.posted then some { a with core := 65536 + physOf c } else none
    | _ => none)
  else some a
def detachAccs (s : State) (c : Nat) (posted : Bool) : State :=
  modMem s fun m => { m with acc := m.acc.filterMap fun (p : Nat × Access) => (detachAcc c posted p.2).map fun a => (p.1, a) }

def xferOfCore (c : Nat) (x : Xfer) : Bool :=
  match x.who with
  | .thread k _ _ => k == c
  | _ => false
def xferOfItem (n : Nat) (x : Xfer) : Bool :=
  match x.who with
  | .item k _ => k == n
  | _ => false
/-- R457, R463: transfers leave an engine's queues; the one in progress stops after its unit. -/
def dropFrom (f : Xfer → Bool) (g : DmaEng) : DmaEng :=
  { g with thq := g.thq.filter fun x => !f x, feq := g.feq.filter fun x => !f x, busy := g.busy && !((dmaCur g).any f) }
def dropXfers (s : State) (f : Xfer → Bool) : State := modMem s fun m => { m with dma := tblMap (dropFrom f) m.dma }

/-- R296: the MSEQs of a context's requests are freed, and not given again for 8 ms; nothing of it waits in the NI. -/
def niDropCore (c : Nat) (now : W64) (n : Ni) : Ni :=
  let mine := n.out.filter fun (p : Nat × NiOut) => p.2.who.core == c
  { n with out := n.out.filter fun (p : Nat × NiOut) => p.2.who.core != c,
           retired := n.retired ++ mine.map fun (p : Nat × NiOut) => (p.1, now + 8000000),
           wait := n.wait.filter fun r => r.core != c, sums := n.sums.filter fun x => x.core != c,
           recvs := n.recvs.filter fun r => r.who.core != c }
def dropNiCore (s : State) (c : Nat) : State := modFab s fun f => { f with ni := tblMap (niDropCore c s.tb.tb) f.ni }
def syncOfCore (c : Nat) (o : SyncOp) : Bool :=
  match o.who with
  | .thread _ r => r.core == c
  | .msg _ => false
/-- Sync operations of a context that have not been performed (R361). -/
def dropSyncCore (s : State) (c : Nat) : State :=
  modFab s fun f => { f with sync := tblMap (fun x => { x with queue := x.queue.filter fun o => !syncOfCore c o, waits := x.waits.filter fun o => !syncOfCore c o,
                                                               held := x.held.filter fun p => p.1.core != c }) f.sync }
/-- R361: its COLLs are aborted. -/
def dropCollCore (s : State) (c : Nat) : State :=
  modFab s fun f => { f with groups := tblMap (fun g => { g with nodes := tblMap (fun x => { x with locals := x.locals.filter fun o => o.who.core != c }) g.nodes }) f.groups }

/-- A core without a context: what its engines are suspected of stays (R411). -/
def blankCore (k : Core) : Core := { coreReset with eng := k.eng.map fun e => { engineReset with suspect := e.suspect } }

/-- A context is discarded with everything it has outstanding. -/
def dropCtx (s : State) (c : Nat) (posted : Bool) : State :=
  let s := dropCollCore (dropSyncCore (dropNiCore (dropXfers (detachAccs (endStall s c) c posted) (xferOfCore c)) c) c) c
  modCore s c blankCore

/-- The contexts of the item that runs on a stream. -/
def itemCores (s : State) (n : Nat) : List Nat :=
  (s.cores.filter fun (p : Nat × Core) => p.2.strm == n && p.2.mode != .idle && p.2.mode != .test).map Prod.fst
def dropItemCores (s : State) (n : Nat) (posted : Bool) : State := each (itemCores s n) (fun s c => dropCtx s c posted) s

end Sys2Proof.Machine
end

