-- ==== Sys2Proof/Machine/Items.lean ====
section
/-! DEFINITION. Machine/Items.lean: items: their start, copies, end and DONE (spec/07 R229 to R238, R243 to R251; spec/05 R174;
spec/16 R484, R485, R498, R502; spec/08 R261; spec/06 R186, R201). The copies of an item go one at a time through the front-end
queue of the DMA engine that serves the saggar's logical cluster 0. -/

namespace Sys2Proof.Machine

/-! ### The end of an item -/

/-- The item at the head of a stream has come to its status (Table 7); what is left is its DONE. -/
def finishItem (s : State) (n status detail : Nat) : State :=
  modStrm s n fun t => { t with run := t.run.map fun r => { r with phase := .finished, status := status, detail := detail, pieces := [] } }
def modRun (s : State) (n : Nat) (f : RunSt → RunSt) : State := modStrm s n fun t => { t with run := t.run.map f }

/-! ### Copies -/

/-- R201: the engine that copies for a saggar. -/
def itemEngine (s : State) (sg : Nat) : Nat :=
  match clmapOf s sg 0 with
  | some p => p.1 * 8 + p.2 / 2
  | none => 0
/-- Queues the first of an item's pieces. -/
def queuePiece (s : State) (n sg : Nat) (p : Piece) : State :=
  let x : Xfer := { who := .item n p.entry, sg := sg, src := p.src, dst := p.dst, len := p.len, done := 0, st := .running }
  modMem s fun m => { m with dma := tblModify dmaNone m.dma (itemEngine s sg) fun g => { g with feq := g.feq ++ [x] } }

/-- R244: the constant sections that LOAD copies into the tenant space. -/
def tenantConsts (img : Image) (entry : Nat) : List Piece :=
  (img.consts.filter fun c => regionTag c.dest.toNat == 1000 && c.size != 0).map fun c =>
    { src := .tenant ((img.home + c.off) % 2 ^ 48), dst := .tenant (c.dest.toNat % 2 ^ 48), len := c.size, entry := entry, bad := false, out := false }

/-- R35, R475: the cores of an item start: of those that share a physical core, the lowest logical core. -/
def startCores (s : State) (n : Nat) : State :=
  each (itemCores s n) (fun s c => modCore s c fun k => { k with mode := if c < 4096 then .live else .parked, active := s.tb.tb }) s

/-- What follows when no piece is left. -/
def phaseEnd (s : State) (n sg : Nat) (r : RunSt) : State :=
  match r.phase with
  | .image =>
    (match checkImage r.bytes r.home.1 with
    | .inl k => finishItem s n 5 k
    | .inr img => modRun s n fun r => { r with phase := .copyIn, image := some img, pieces := tenantConsts img r.home.2, bytes := [] })
  | .copyIn =>
    (match r.image with
    | some img => finishItem (modStm s fun t => { t with images := tblPut t.images (imageKey sg r.rcd.img) img }) n 0 0
    | none => startCores (modRun s n fun r => { r with phase := .cores }) n)
  | .copyOut => finishItem s n r.status r.detail
  | _ => s

/-- The item goes on to its next piece, or to what follows its last; at most `fuel` phases end at once. -/
def itemNext (n sg : Nat) : Nat → State → State
  | 0, s => s
  | fuel + 1, s =>
    match (getStrm s n).run with
    | none => s
    | some r =>
      match r.pieces with
      | p :: _ => if p.bad then finishItem (dropItemCores s n true) n 7 p.entry else queuePiece s n sg p
      | [] =>
        (match r.phase with
        | .cores => s
        | .finished => s
        | _ => itemNext n sg fuel (phaseEnd s n sg r))

/-- A transfer of an item is over (R248): HOSTERR, ACCESS, or the next piece. -/
def itemXferDone (s : State) (n sg entry : Nat) (st : XferState) : State :=
  match st with
  | .failed 8 => finishItem (dropItemCores s n true) n 6 entry
  | .failed _ => finishItem (dropItemCores s n true) n 7 entry
  | _ => itemNext n sg 4 (modRun s n fun r => { r with pieces := r.pieces.drop 1 })

/-- DMA_TRANSFER_COMPLETE (R201): the transfer in progress of engine `i` has copied its last byte, or has stopped (R203): its
thread takes the status word, or its item goes on. -/
def execDmaTransferComplete (i : Nat) (s : State) : Out :=
  match dmaCur (getDma s i) with
  | none => .next s
  | some x =>
    let ended := match x.st with
      | .failed _ => true
      | .running => decide (x.len ≤ x.done)
      | _ => false
    if ended && dieUp s (i / 8) then
      let s := modDma s i dmaPop
      (match x.who with
      | .thread c _ iss => .next (gatedResult s c iss (.value (statusWord (match x.st with
          | .failed k => k
          | _ => 0) 0 x.done)))
      | .item n e => .next (itemXferDone s n x.sg e x.st))
    else .next s

/-! ### The start of an item -/

/-- R464, R473: reruns of a slice wait for its settle and for its dies; a BROKEN slice waits for its re-carve. -/
def dieHeld (s : State) (d : Nat) : Bool := dieState s d != 0 || fget s (r_RST_DIE_STAT d) f_RST_DIE_STAT_RUNG != 0
/-- R462: a job is named by its slice tag, or, where its saggar is bound to none, by 1,024 + the saggar. -/
def jobKey (s : State) (sg : Nat) : Nat := (sliceOf s sg).getD (1024 + sg)
/-- R32: nor does a die run work until its wick is lit. -/
def sgHeld (s : State) (sg : Nat) : Bool :=
  (tblFind s.rst.settle (jobKey s sg)).isSome
  || ((sliceOf s sg).any fun x => s.rst.broken.contains x
    || s.fab.groups.any fun g => g.2.slice == x && g.2.st == 2)
  || (getSag s sg).clmap.any fun p => dieHeld s p.1 || !(getWick s p.1).lit

/-- R250: where the logical cores of an image run: logical core, context. -/
def placeCores (s : State) (sg : Nat) (img : Image) : List (Nat × Nat) :=
  (List.range img.nlcl).flatMap fun L =>
    match clmapOf s sg L with
    | none => []
    | some (d, cl) =>
      let b := boundSlots s d cl
      let ls := (List.range img.cores.length).filter fun l => ((img.cores[l]?).map (·.cluster)) == some L
      ls.zipIdx.map fun p => (p.1, coreId d cl (b.getD (p.2 % max 1 b.length) 0) + 4096 * (p.2 / max 1 b.length))
/-- R249, R250: an image runs on a saggar that has its clusters, each with a bound core. -/
def fitsMap (s : State) (sg : Nat) (img : Image) : Bool :=
  decide (img.nlcl ≤ (getSag s sg).clmap.length)
  && (List.range img.nlcl).all fun L => (clmapOf s sg L).any fun p => !(boundSlots s p.1 p.2).isEmpty

/-- R245: the registers that the loader writes. -/
def loadThread (t l nlc seq : Nat) (run : Bool) : Thread :=
  let put (r : Tbl W64) (k v : Nat) : Tbl W64 := tblSet (fun _ => 0#64) r k (BitVec.ofNat 64 v)
  { threadReset with st := if run then .run else .halt, s := put (put (put (put [] 1 t) 2 l) 3 nlc) 4 seq }

/-- R244: the constants of a logical core's scratchpad. -/
def spadConsts (img : Image) (l : Nat) : Memory :=
  (img.consts.filter fun c => c.lcore == l && regionTag c.dest.toNat == 0).foldl (fun m c => memWriteN m c.dest.toNat c.bytes) []

/-- R250, R251: the step limit of an item. -/
def limitOf (img : Image) (r : JRec) : Option W64 :=
  if r.steplim != 0 then some (BitVec.ofNat 64 (r.steplim * 2 ^ 20)) else if img.steplim = 0 then none else some (BitVec.ofNat 64 img.steplim)

/-- R35, R83, R245: the context of logical core `l`. -/
def loadCtx (old : Core) (sg n l : Nat) (img : Image) (r : JRec) (seed : W64) : Core :=
  match img.cores[l]? with
  | none => old
  | some x =>
    { blankCore old with
        mode := .loading, sg := sg, lcore := l, strm := n, rl := x.rl, seed := seed, due := img.due,
        code := (match tblFind img.code l with
          | some w => w
          | none => img.shared.getD []),
        threads := (List.range x.rl).foldl (fun t k => tblSet (fun _ => threadReset) t k (loadThread k l img.cores.length r.seq (x.runmask.getLsbD k))) [],
        spad := spadConsts img l, limit := limitOf img r }

/-- R244: the constants of the cluster memories, by physical cluster. -/
def clusterConsts (s : State) (sg : Nat) (img : Image) : State :=
  each (img.consts.filter fun c => decide (1 ≤ regionTag c.dest.toNat) && decide (regionTag c.dest.toNat ≤ 256)) (fun s c =>
    match clmapOf s sg (regionTag c.dest.toNat - 1) with
    | some (d, cl) => setClMem s d cl (memWriteN (clMem s d cl) ((c.dest.toNat - 0x200000000) % 2 ^ 25) c.bytes)
    | none => s) s

/-- R186: the image's slot table is installed when no other context is on the module. -/
def installSlots (s : State) (n : Nat) (img : Image) : State :=
  if s.cores.any fun (p : Nat × Core) => p.2.mode != .idle && p.2.mode != .test && p.2.strm != n then s
  else modMem s fun m => { m with slots := img.slots }

/-- R248: the first data entry that breaks an argument rule; `used` sums what each argument's entries hold, inputs and outputs. -/
def badArg (img : Image) : List Seg → Nat → (Nat → Nat) → (Nat → Nat) → Option Nat
  | [], _, _, _ => none
  | e :: es, i, uin, uout =>
    match img.args[segArg e]? with
    | none => some i
    | some a =>
      let isIn := segDir e != 1
      let isOut := segDir e != 0
      let k := segArg e
      if a.dir == 0 || (isIn && a.dir == 2) || (isOut && a.dir == 1) || (isIn && decide (a.maxlen < uin k + e.len))
          || (isOut && decide (a.maxlen < uout k + e.len)) then some i
      else badArg img es (i + 1) (if isIn then fun j => if j = k then uin j + e.len else uin j else uin)
        (if isOut then fun j => if j = k then uout j + e.len else uout j else uout)

/-- What sees core addresses as a saggar does, without a core. -/
def sgCtx (s : State) (sg : Nat) : Ctx :=
  { lock := lockSet s, die := 0, cl := 0, clmap := clmapOf s sg, dmaFree := true, group := fun _ => none }
/-- The host or tenant side of a data entry. -/
def segRegion (e : Seg) : Region := if segSpace e then .tenant (e.addr % 2 ^ 48) else .host (e.addr % 2 ^ 63)

/-- Where the host side of the parts of a data entry lies: in service, the entry itself; in a replay, what R267 names. -/
abbrev HostSide := Nat → Seg → List (Region × Nat)
def hostDirect : HostSide := fun _ e => [(segRegion e, e.len)]

/-- R248: the pieces of the input (`out` false) or output entries, in traversal order, from the data entry of index `i` on; `at_`
gives the next byte of each argument. -/
def argPieces (x : Ctx) (img : Image) (out : Bool) (host : HostSide) : List Seg → Nat → (Nat → Nat) → List Piece
  | [], _, _ => []
  | e :: es, i, at_ =>
    if segDir e = (if out then 0 else 1) then argPieces x img out host es (i + 1) at_
    else
      let k := segArg e
      let dest := ((img.args[k]?).map (·.dest)).getD 0
      let parts := (host i e).foldl (fun (acc : List (Region × Nat × Nat) × Nat) p => (acc.1 ++ [(p.1, p.2, acc.2)], acc.2 + p.2)) ([], at_ k)
      let mk (p : Region × Nat × Nat) : Piece :=
        match regionOf x (dest + BitVec.ofNat 64 p.2.2) p.2.1 with
        | some g => { src := if out then g else p.1, dst := if out then p.1 else g, len := p.2.1, entry := i, bad := false, out := out }
        | none => { src := p.1, dst := p.1, len := p.2.1, entry := i, bad := true, out := out }
      parts.1.map mk ++ argPieces x img out host es (i + 1) (fun j => if j = k then at_ j + e.len else at_ j)

/-- An item enters execution. -/
def runReset (r : JRec) (sg : Nat) (rerun : Bool) (tb : W64) : RunSt :=
  { rcd := r, sg := sg, pieces := [], phase := .finished, status := 0, detail := 0, crc := 0, xpc := 0, steps := 0, rerun := rerun, replay := none,
    began := tb, outs := [], home := (0, 0), bytes := [], image := none }
def beginItem (s : State) (n : Nat) (r : RunSt) : State := modStrm s n fun t => { t with run := some r }

/-- R484: MARK becomes RUN before the first transfer. -/
def markRun (s : State) (n seq : Nat) : State :=
  match getRec s n seq with
  | some r => if mramOn s then putRec s { r with mark := 2 } else s
  | none => s

/-- R356, R393: the fence group's members on this module are the logical cores that the image names. -/
def bindFence (s : State) (sg : Nat) (img : Image) : State :=
  match sliceOf s sg with
  | none => s
  | some x =>
    let ms : List Member := (placeCores s sg img).map fun p =>
      let r := ownRank s x (dieOf p.2)
      { index := r * 4096 + p.1, rank := r, lcore := p.1, ep := dieOf p.2 }
    modFab s fun f => { f with groups := tblMap (fun g => if g.fence && g.slice == x && g.st == 1 then { g with members := ms } else g) f.groups }
/-- R230 Table 6, steps 1 to 4, on the contexts of saggar `sg`: NOIMAGE, ARGS, HOSTERR for a list that cannot be read, or the start. -/
def startRun (s : State) (n : Nat) (r : RunSt) (seed : W64) (w : Walked) (hin hout : HostSide) : State :=
  let s := beginItem s n r
  match imageOf s r.sg r.rcd.img with
  | none => finishItem s n 3 0
  | some img =>
    if !fitsMap s r.sg img then finishItem s n 3 0
    else if !w.whole then finishItem s n 6 w.data.length
    else match badArg img w.data 0 (fun _ => 0) (fun _ => 0) with
      | some i => finishItem s n 4 i
      | none =>
        let s := bindFence (installSlots (markRun s n r.rcd.seq) n img) r.sg img
        let s := each (placeCores s r.sg img) (fun s p => modCore s p.2 fun old =>
          loadCtx (if p.2 < 4096 then old else getCore s (physOf p.2)) r.sg n p.1 img r.rcd seed) s
        let s := clusterConsts s r.sg img
        let x := sgCtx s r.sg
        itemNext n r.sg 4 (modRun s n fun r => { r with phase := .copyIn, pieces := argPieces x img false hin w.data 0 (fun _ => 0),
                                                        outs := argPieces x img true hout w.data 0 (fun _ => 0) })

/-- R243: LOAD names its image in input entries of argument 0 and its home in one output entry of argument 1 in the tenant space. -/
def loadHome (data : List Seg) : Sum Nat (Nat × Seg) :=
  match data.findIdx? fun e => !((segDir e == 0 && segArg e == 0) || (segDir e == 1 && segArg e == 1 && segSpace e)) with
  | some i => .inl i
  | none =>
    let homes := data.zipIdx.filter fun p => segDir p.1 == 1
    let total := (data.filter fun e => segDir e == 0).foldl (fun a e => a + e.len) 0
    match homes with
    | [(e, i)] => if total ≤ e.len ∧ total ≠ 0 then .inr (i, e) else .inl i
    | (_, _) :: (_, j) :: _ => .inl j
    | [] => .inl data.length

/-- The pieces that copy the image home. -/
def homePieces (home : Nat) (host : HostSide) : List Seg → Nat → Nat → List Piece
  | [], _, _ => []
  | e :: es, i, off =>
    if segDir e = 1 then homePieces home host es (i + 1) off
    else
      let parts := (host i e).foldl (fun (acc : List Piece × Nat) p =>
        (acc.1 ++ [({ src := p.1, dst := .tenant ((home + acc.2) % 2 ^ 48), len := p.2, entry := i, bad := decide (2 ^ 48 < home + acc.2 + p.2), out := false } : Piece)],
         acc.2 + p.2)) ([], off)
      parts.1 ++ homePieces home host es (i + 1) parts.2

/-- LOAD: a handle in use is freed first; the image is copied to its home. -/
def startLoad (s : State) (n : Nat) (r : RunSt) (w : Walked) (hin : HostSide) : State :=
  let s := beginItem s n r
  if !w.whole then finishItem s n 6 w.data.length
  else match loadHome w.data with
    | .inl i => finishItem s n 4 i
    | .inr (i, e) =>
      let s := modStm (markRun s n r.rcd.seq) fun t => { t with images := tblErase t.images (imageKey r.sg r.rcd.img) }
      itemNext n r.sg 4 (modRun s n fun r => { r with phase := .image, home := (e.addr, i), pieces := homePieces e.addr hin w.data 0 0 })

/-- R229, R464, R566, R442: may the item at the head of a stream begin? RUN items of one saggar run one at a time. -/
def sgBusy (s : State) (sg : Nat) : Bool :=
  s.stm.strms.any fun (p : Nat × Strm) => p.2.run.any fun r => r.sg == sg && recOpc r.rcd == 1 && r.phase != .finished
def itemGoes (s : State) (n opc : Nat) : Option (Accepted × Nat) :=
  let t := getStrm s n
  let st := stState s n
  match t.accepted, sgOfStrm s n with
  | a :: _, some sg =>
    if n < 65536 && recOpc a.rcd == opc && t.run.isNone && (st == stRun || st == stStopped || st == stHalted) && sgState s sg == 1
        && !sgHeld s sg && !isHolder s n && fget s r_PWR_STAT f_PWR_STAT_STATE == 0 && !fbit s r_FLT_STAT f_FLT_STAT_HALTED && !s.rst.cycle
        && (opc != 1 || !sgBusy s sg) then some (a, sg)
    else none
  | _, _ => none
/-- R488: an item whose record says RUN has run before. -/
def ranBefore (s : State) (n : Nat) (a : Accepted) : Bool := a.rerun || (getRec s n a.rcd.seq).any fun r => r.mark == 2

/-- NOP_ITEM (R222). -/
def execNopItem (n : Nat) (s : State) : Out :=
  match itemGoes s n 0 with
  | some (a, sg) => .next (beginItem s n (runReset a.rcd sg (ranBefore s n a) s.tb.tb))
  | none => .next s
/-- RUN_ITEM (R230): `badList` is the index of a LIST entry that cannot be read. -/
def execRunItem (n : Nat) (badList : Option Nat) (s : State) : Out :=
  match itemGoes s n 1 with
  | some (a, sg) => .next (startRun s n (runReset a.rcd sg (ranBefore s n a) s.tb.tb) (itemSeed s sg a.rcd) (reach s badList (recSegs a.rcd)) hostDirect hostDirect)
  | none => .next s
/-- LOAD_ITEM (R243). -/
def execLoadItem (n : Nat) (badList : Option Nat) (s : State) : Out :=
  match itemGoes s n 2 with
  | some (a, sg) => .next (startLoad s n (runReset a.rcd sg (ranBefore s n a) s.tb.tb) (reach s badList (recSegs a.rcd)) hostDirect)
  | none => .next s
/-- UNLOAD frees its handle. -/
def startUnload (s : State) (n : Nat) (r : RunSt) : State :=
  modStm (beginItem s n r) fun t => { t with images := tblErase t.images (imageKey r.sg r.rcd.img) }
/-- UNLOAD_ITEM (R243). -/
def execUnloadItem (n : Nat) (s : State) : Out :=
  match itemGoes s n 3 with
  | some (a, sg) => .next (startUnload s n (runReset a.rcd sg (ranBefore s n a) s.tb.tb))
  | none => .next s

/-! ### The end of a RUN item -/

/-- R174: the exception that DONE names: logical core, thread, cause, PC. -/
def itemException (s : State) (n : Nat) : Option (Nat × Nat × Nat × W64) :=
  let es := (itemCores s n).flatMap fun c =>
    let k := getCore s c
    (List.range k.rl).filterMap fun th =>
      let t := getThread k th
      if t.st = .exc then some (k.lcore, th, t.xcause.toNat, t.xpc) else none
  es.foldl (fun m e => match m with
    | none => some e
    | some x => if e.1 < x.1 ∨ (e.1 = x.1 ∧ e.2.1 < x.2.1) then some e else some x) none

/-- The largest step counter of an item's contexts. -/
def itemSteps (s : State) (n : Nat) : Nat := (itemCores s n).foldl (fun m c => max m (getCore s c).step.toNat) 0

/-- ITEM_CORES_ENDED (R230 step 6, R174): every logical core has ended; the outputs are copied. -/
def execItemCoresEnded (n : Nat) (s : State) : Out :=
  match (getStrm s n).run with
  | none => .next s
  | some r =>
    let cs := itemCores s n
    if r.phase = .cores ∧ sgState s r.sg = 1 ∧ cs.all fun c => (getCore s c).mode == .over then
      let st := itemSteps s n
      let s' := modRun s n fun r => match itemException s n with
        | some (l, th, cause, pc) => { r with steps := BitVec.ofNat 64 st, status := 1, detail := l + 4096 * th + 2 ^ 24 * cause, xpc := pc }
        | none => { r with steps := BitVec.ofNat 64 st }
      .next (itemNext n r.sg 4 (modRun (dropItemCores s' n true) n fun r => { r with phase := .copyOut, pieces := r.outs }))
    else .next s

/-- R251: a logical core stands at the limit and has not ended there. -/
def atLimit (k : Core) : Bool := k.limit == some k.step && k.mode != .over && !(!stepEventsDue k && allStopped k && nothingOutstanding k)

/-- STEP_LIMIT_REACHED (R251). -/
def execStepLimitReached (n : Nat) (s : State) : Out :=
  match (getStrm s n).run, (itemCores s n).find? fun c => atLimit (getCore s c) && !stepEventsDue (getCore s c) with
  | some r, some c =>
    when_ (r.phase == .cores) s
      (finishItem (modRun (dropItemCores s n true) n fun r => { r with steps := (getCore s c).step }) n 2 0)
  | _, _ => .next s

/-! ### DONE (R233, R485, R261, R502) -/

/-- The DONE completion of the item that has finished. -/
def doneCpl (r : RunSt) : Cpl :=
  { seq := r.rcd.seq, ty := 2, status := r.status, crc := if r.status = 0 then r.crc else if r.status = 1 then r.xpc else 0,
    steps := r.steps, detail := r.detail, sqhead := 0, flags := if r.rerun then 2 else 0 }

/-- R259: END follows the last DONE of a log that is being closed. -/
def closeLog (s : State) (sg : Nat) : State :=
  if logActive s sg && (getLog s sg).closing && (getLog s sg).open_ == 0 then
    fput (modLog (logPut s sg 12 (leBytes 8 s.tb.tb.toNat)) sg fun l => { l with closing := false }) (r_DET_LOG_STAT sg) f_DET_LOG_STAT_ACTIVE 0
  else s

/-- R502: a divergence is counted and latched. -/
def noteDiverge (s : State) (n seq : Nat) : State :=
  let s := fput (fadd s r_JNL_DIVCNT f_JNL_DIVCNT_CNT 1) r_JNL_STAT f_JNL_STAT_DIVERGE 1
  rput (rput s r_JNL_DIV_LO (BitVec.ofNat 32 seq)) r_JNL_DIV_HI (BitVec.ofNat 32 (seq / 2 ^ 32 % 65536 + n * 65536))

def earlyKey (n seq : Nat) : Nat := n * 2 ^ 48 + seq
/-- R502: the DONE that this module commits while it holds the twin's. -/
def diverged (s : State) (n : Nat) (c : Cpl) : Bool :=
  stMode s n == 2 && twinned s n && (match tblFind s.stm.jnl.early (earlyKey n c.seq) with
    | some (st, crc) => st != c.status || crc != c.crc
    | none => false)

/-- R504, Table 8: the DONE cell. -/
def doneCell (n : Nat) (c : Cpl) : List Byte :=
  let b := cplBytes c 0
  leBytes 2 n ++ leBytes 6 c.seq ++ [0x11#8] ++ leBytes 7 0 ++ b ++ leBytes 4 (crc32cAdd 0#32 b).toNat ++ List.replicate 12 0#8

/-- D0 to D4 for the item at the head of stream `n`. -/
def commitDone (s : State) (n : Nat) (r : RunSt) (logged : Bool) : State :=
  let c := { doneCpl r with sqhead := sqHead s n }
  let bad := diverged s n c
  let c := if bad then { c with status := 8 } else c
  let c := if dualFollower s n then { c with flags := c.flags + 1 } else c
  let s := if bad then noteDiverge s n c.seq else s
  let s := if logged then
      modLog (logPut s r.sg 10 (leBytes 4 n ++ List.replicate 12 0#8 ++ cplBytes c (fget s (r_STM_STAT n) f_STM_STAT_CQPH))) r.sg fun l => { l with open_ := l.open_ - 1 }
    else s
  let s := setLdone (retireRec (putDone s n c) n c.seq) n c.seq
  let s := setInflight s n (inflight s n - 1)
  let s := modStrm s n fun t => { t with accepted := t.accepted.drop 1, run := none }
  let s := modJnl s fun j => { j with early := tblErase j.early (earlyKey n c.seq) }
  let s := if twinned s n then jrnlSend s true 0x11 (doneCell n c) else s
  let s := if logged then closeLog s r.sg else s
  postCpl s n c (!recNoIrq r.rcd)

/-- DONE_COMMIT (R485): the item's outputs are complete at the host port. The previous DONE of the stream is in the ring (R233), and
the log has room for the record (R261, R263). -/
def execDoneCommit (n : Nat) (s : State) : Out :=
  match (getStrm s n).run with
  | none => .next s
  | some r =>
    let t := getStrm s n
    let logged := (t.accepted.head?.map (·.logged)).getD false && logActive s r.sg
    if n < 65536 && r.phase == .finished && mramOn s && stState s n != stRecover && !(t.posts.any fun p => p.1.ty == 2) then
      (if logged && !((getLog s r.sg).buf.isEmpty || logFits s r.sg 64) then .next (logBlock s r.sg)
       else .next (commitDone s n r logged))
    else .next s

end Sys2Proof.Machine
end

