-- ==== Sys2Proof/Machine/Replay.lean ====
section
/-! DEFINITION. Machine/Replay.lean: the lock, the recorder's ring and the replay engine (spec/08 R253, R259 to R276). -/

namespace Sys2Proof.Machine

/-! ### The lock and the log (R253, R259, R262, R263, R276) -/

/-- DET_CTL_LOCK_WRITE (R253). -/
def execDetCtlLockWrite (v : W32) (s : State) : Out :=
  if v.getLsbD 0 = lockSet s then .next s
  else if (List.range 128).all fun n => sgState s n == 0 then .next (fput s r_DET_CTL f_DET_CTL_LOCK (b2n (v.getLsbD 0)))
  else .next (fput s r_DET_STAT f_DET_STAT_LOCKERR 1)

/-- Table 4: START. -/
def startBody (s : State) (sg : Nat) (data : Bool) : List Byte :=
  leBytes 8 (pairGet s r_ID_SER_LO r_ID_SER_HI) ++ leBytes 2 (pkgOrNone s) ++ leBytes 2 ((sliceOf s sg).getD 0xFFFF)
  ++ leBytes 1 (fget s r_ID_GRADE f_ID_GRADE_GRADE) ++ leBytes 1 ((rget s r_ID_STEP).toNat % 256) ++ leBytes 1 (b2n data) ++ [0#8]
  ++ leBytes 8 s.tb.tb.toNat

/-- The log opens: START and MAP are written, LSNs start from 0. -/
def openLog (s : State) (sg : Nat) (data : Bool) : State :=
  let s := pairPut s (r_DET_LOG_LSN_LO sg) (r_DET_LOG_LSN_HI sg) 0
  let s := fput s (r_DET_LOG_STAT sg) f_DET_LOG_STAT_ACTIVE 1
  let m := mapNow s sg
  modLog (logPut (logPut s sg 1 (startBody s sg data)) sg 6 (mapBody m)) sg fun l => { l with lastMap := m, open_ := 0, closing := false }

/-- DET_LOG_CFG_WRITE (R259, R263, R276): a write of `v`. -/
def execDetLogCfgWrite (sg : Nat) (v : W32) (s : State) : Out :=
  let en := v.getLsbD 8
  let old := rget s (r_DET_LOG_CFG sg)
  let was := fldGet old f_DET_LOG_CFG_EN != 0
  let z := fldGet v f_DET_LOG_CFG_SZLOG
  if !(decide (sg < 128)) || (en && !lockSet s) || decide (z < 16) then .next s
  else
    let free := !was && !logActive s sg
    let s := if free then fput s (r_DET_LOG_CFG sg) f_DET_LOG_CFG_SZLOG z else s
    let s := fput (fput s (r_DET_LOG_CFG sg) f_DET_LOG_CFG_EN (b2n en)) (r_DET_LOG_CFG sg) f_DET_LOG_CFG_DATA (fldGet v f_DET_LOG_CFG_DATA)
    let s := modLog s sg fun l => { l with dead := false }
    .next (if en then (if logActive s sg then modLog s sg fun l => { l with closing := false } else openLog s sg (v.getLsbD 9))
           else if was then closeLog (modLog s sg fun l => { l with closing := true }) sg else s)

def logSize (s : State) (sg : Nat) : Nat := 2 ^ fget s (r_DET_LOG_CFG sg) f_DET_LOG_CFG_SZLOG
def logHead (s : State) (sg : Nat) : Nat := 16 * fget s (r_DET_LOG_HEAD sg) f_DET_LOG_HEAD_HEAD
def logTail (s : State) (sg : Nat) : Nat := 16 * fget s (r_DET_LOG_TAIL sg) f_DET_LOG_TAIL_TAIL
def logBase (s : State) (sg : Nat) : Nat := 4096 * fget s (r_DET_LOG_LO sg) f_DET_LOG_LO_BASE + 2 ^ 32 * fget s (r_DET_LOG_HI sg) f_DET_LOG_HI_BASE

/-- DET_LOG_HEAD_WRITE (R262): the range runs from the head forward to the tail, the tail included. -/
def execDetLogHeadWrite (sg : Nat) (v : W32) (s : State) : Out :=
  let h := 16 * fldGet v f_DET_LOG_HEAD_HEAD
  let z := logSize s sg
  if sg < 128 then
    (if decide (h < z) && decide ((h + z - logHead s sg) % z ≤ (logTail s sg + z - logHead s sg) % z) then
      .next (fput s (r_DET_LOG_HEAD sg) f_DET_LOG_HEAD_HEAD (fldGet v f_DET_LOG_HEAD_HEAD))
    else .next (fput s (r_DET_LOG_STAT sg) f_DET_LOG_STAT_HEADERR 1))
  else .next s

/-- Writes one record at the tail and advances it; the record takes the next LSN. -/
def ringPut (s : State) (sg ty : Nat) (body : List Byte) : State :=
  let lsn := pairGet s (r_DET_LOG_LSN_LO sg) (r_DET_LOG_LSN_HI sg)
  let b := recBytes ty sg lsn body
  let t := logTail s sg
  let s := hostWrite s (logBase s sg + t) b
  let s := pairPut s (r_DET_LOG_LSN_LO sg) (r_DET_LOG_LSN_HI sg) (lsn + 1)
  fput s (r_DET_LOG_TAIL sg) f_DET_LOG_TAIL_TAIL ((t + b.length) % logSize s sg / 16)

/-- LOG_TAIL_ADVANCE (R262): the oldest staged record is complete at the host port. `hostErr`: the host write failed. -/
def execLogTailAdvance (sg : Nat) (hostErr : Bool) (s : State) : Out :=
  match (getLog s sg).buf with
  | [] => .next s
  | (ty, body) :: rest =>
    let z := logSize s sg
    let len := 16 + (padTo16 body).length
    let t := logTail s sg
    let pad := if z < t + len then z - t else 0
    let used := (t + z - logHead s sg) % z
    if decide (128 ≤ sg) || (getLog s sg).dead || !hostUp s (fnOf s sg) || decide (z ≤ used + pad + len) then .next s
    else if hostErr then
      .next (modLog (fput s (r_DET_LOG_STAT sg) f_DET_LOG_STAT_HOSTERR 1) sg fun l => { l with dead := true })
    else
      let s := if pad = 0 then s else ringPut s sg 15 (List.replicate (pad - 16) 0#8)
      let s := ringPut (modLog s sg fun l => { l with buf := rest }) sg ty body
      .next (fput s (r_DET_LOG_STAT sg) f_DET_LOG_STAT_BLOCK 0)

/-! ### The replay engine (R265 to R274) -/

def modRpl (s : State) (f : Replay → Replay) : State := modStm s fun t => { t with rpl := f t.rpl }
def rplSg (s : State) : Nat := fget s r_DET_RPL_CTL f_DET_RPL_CTL_SG
def setRplState (s : State) (st code : Nat) : State :=
  fput (fput s r_DET_RPL_STAT f_DET_RPL_STAT_STATE st) r_DET_RPL_STAT f_DET_RPL_STAT_ECODE code
def mapSame (s : State) : Bool := fbit s r_DET_RPL_STAT f_DET_RPL_STAT_MAPSAME
def hostAt (s : State) (lo hi : Nat) : Nat := (rget s lo).toNat / 64 * 64 + (rget s hi).toNat % 2 ^ 31 * 2 ^ 32

/-- R265: a stream of the function is in RUN or RECOVER, or holds an item that is not done. -/
def fnBusy (s : State) (f : Nat) : Bool :=
  s.regs.any fun p =>
    let n := (p.1 - 0x100000) / 64
    decide (r_STM_STAT 0 ≤ p.1) && decide (p.1 < r_STM_STAT 65536) && (p.1 - r_STM_STAT 0) % 64 == 0 && fnOfStrm s n == some f
      && (bits p.2.toNat 2 0 == stRun || bits p.2.toNat 2 0 == stRecover || bits p.2.toNat 24 16 != 0)

/-- R268: how two logical clusters stand to each other. -/
def relation (a b : Nat × Nat × Nat) : Nat := if a.1 = b.1 then (if a.2.1 = b.2.1 then 0 else 1) else 2
def sameRelations (a b : List (Nat × Nat × Nat)) : Bool :=
  a.length == b.length
  && ((a.zip b).all fun p => p.1.2.2 == p.2.2.2)
  && ((a.zip b).all fun p => (a.zip b).all fun q => relation p.1 q.1 == relation p.2 q.2)

/-- R270, R274: the stop point that DET_RPL_PT names for an item: logical core, thread, count, range; or the code of a failure. -/
def stopPoint (s : State) (img : Option Image) : Sum Nat (Option (Nat × Option Nat × W64 × W64 × Nat)) :=
  let l := fget s r_DET_RPL_PT f_DET_RPL_PT_LCORE
  let cnt := BitVec.ofNat 64 (pairGet s r_DET_RPL_CNT_LO r_DET_RPL_CNT_HI)
  let addr := BitVec.ofNat 64 (pairGet s r_DET_RPL_ADDR_LO r_DET_RPL_ADDR_HI)
  let len := fget s r_DET_RPL_LEN f_DET_RPL_LEN_LEN
  let core (x : Nat × Option Nat × W64 × W64 × Nat) : Sum Nat (Option (Nat × Option Nat × W64 × W64 × Nat)) :=
    if x.2.1.isNone && !mapSame s then .inl 7 else .inr (some x)
  match fget s r_DET_RPL_PT f_DET_RPL_PT_KIND with
  | 0 => .inr none
  | 1 => .inr (some (l, some (fget s r_DET_RPL_PT f_DET_RPL_PT_THREAD), cnt, addr, len))
  | 2 => core (l, none, cnt, addr, len)
  | _ =>
    match img.bind fun i => i.manifest[fget s r_DET_RPL_PT f_DET_RPL_PT_MIDX]? with
    | none => .inl 9
    | some m => core (m.lcore, if m.kind = 0 then some m.thread else none, m.count, m.addr, m.len)

/-- Is this the item that DET_RPL_SEQ names? -/
def isStopItem (s : State) (strm seq : Nat) : Bool :=
  fget s r_DET_RPL_PT f_DET_RPL_PT_KIND != 0 && fget s r_DET_RPL_SEQ_HI f_DET_RPL_SEQ_HI_STRM == strm
  && (rget s r_DET_RPL_SEQ_LO).toNat + fget s r_DET_RPL_SEQ_HI f_DET_RPL_SEQ_HI_SEQ * 2 ^ 32 == seq

/-- Sets the stop point in the running item's contexts. -/
def armStop (s : State) (x : Option (Nat × Option Nat × W64 × W64 × Nat)) : State :=
  let s := modRpl s fun r => { r with stop := x }
  each (itemCores s 65536) (fun s c => modCore s c fun k =>
    match x with
    | some (l, some th, n, _, _) => { k with stopTh := if k.lcore = l then some (th, n) else none, stopAt := none }
    | some (l, none, n, _, _) => { k with stopAt := if k.lcore = l then some n else none, stopTh := none }
    | none => { k with stopAt := none, stopTh := none }) s

/-- DET_RPL_GO (R265, R272): a write of `v` to DET_RPL_CTL with GO. -/
def execDetRplGo (v : W32) (s : State) : Out :=
  if v.getLsbD 9 || !v.getLsbD 8 || rplState s == 1 then .next s
  else
    let s := rput s r_DET_RPL_CTL (v &&& 0x00000CFF#32)
    let sg := rplSg s
    if rplState s = 2 then
      (match (getStrm s 65536).run with
      | some r =>
        (match (if isStopItem s r.rcd.stream r.rcd.seq then stopPoint s (imageOf s sg r.rcd.img) else .inr none) with
        | .inl e => .next (rplFail s e)
        | .inr x =>
          let s := each ((itemCores s 65536).filter fun c => (getCore s c).mode == .stopped) (fun s c => modCore s c fun k => { k with mode := .live }) s
          .next (setRplState (armStop s x) 1 0))
      | none => .next (setRplState s 1 0))
    else if !lockSet s then .next (rplFail s 1)
    else if sgState s sg != 1 || fnBusy s (fnOf s sg) then .next (rplFail s 2)
    else
      let s := modRpl s fun _ => replayReset
      let s := rput (rput s r_DET_RPL_ITEMS 0) r_DET_RPL_MISCNT 0
      .next (fput (setRplState s 1 0) r_DET_RPL_STAT f_DET_RPL_STAT_MAPSAME 0)

/-- What the ITEM record at an offset brings with the records that follow it: entries, digests, DATA records by entry, and where they
end. -/
structure ItemRecs where
  entries : List Seg
  digests : List W64
  data : List (Nat × Nat × Nat)

def recBody (r : LogRec) : List Byte := r.bytes.drop 16
def gatherRecs (s : State) : Nat → Nat → ItemRecs → ItemRecs
  | 0, _, x => x
  | fuel + 1, off, x =>
    match readRec s off with
    | none => x
    | some r =>
      let b := recBody r
      if r.ty = 3 then gatherRecs s fuel (off + r.len) { x with entries := (List.range (b.length / 16)).map fun k => segOf (b.drop (16 * k)) }
      else if r.ty = 4 then
        gatherRecs s fuel (off + r.len) { x with digests := (List.range (b.length / 8)).map fun k => BitVec.ofNat 64 (imgN b (8 * k) 8) }
      else if r.ty = 5 then
        gatherRecs s fuel (off + r.len) { x with data := x.data ++ [(imgN b 0 4, rplBase s + off + 32, r.len - 32)] }
      else if r.ty = 15 then gatherRecs s fuel (off + r.len) x
      else x

/-- The index of each data entry among all entries. -/
def dataIndex (es : List Seg) : List Nat := (es.zipIdx.filter fun p => !segList p.1).map (·.2)
def isHostIn (e : Seg) : Bool := segDir e != 1 && !segSpace e
def isHostOut (e : Seg) : Bool := segDir e != 0 && !segSpace e
/-- Bytes of the entries before index `i` that satisfy `f`. -/
def bytesBefore (data : List Seg) (f : Seg → Bool) (i : Nat) : Nat := ((data.take i).filter f).foldl (fun a e => a + e.len) 0

/-- R267 step 1: where the bytes of a host-space input entry come from. -/
def replayIn (s : State) (x : ItemRecs) (data : List Seg) : HostSide := fun i e =>
  if segSpace e then [(segRegion e, e.len)]
  else if fbit s r_DET_RPL_CTL f_DET_RPL_CTL_INSRC then
    [(.host (hostAt s r_DET_RPL_IN_LO r_DET_RPL_IN_HI + s.stm.rpl.inPos + bytesBefore data isHostIn i), e.len)]
  else
    let parts := x.data.filter fun p => some p.1 == (dataIndex x.entries)[i]?
    (parts.foldl (fun (acc : List (Region × Nat) × Nat) p => let n := min p.2.2 (e.len - acc.2); (acc.1 ++ [(Region.host p.2.1, n)], acc.2 + n)) ([], 0)).1
/-- R267 step 3. -/
def replayOut (s : State) (data : List Seg) : HostSide := fun i e =>
  if segSpace e then [(segRegion e, e.len)]
  else [(.host (hostAt s r_DET_RPL_OUT_LO r_DET_RPL_OUT_HI + s.stm.rpl.outPos + bytesBefore data isHostOut i), e.len)]

def partBytes (s : State) (l : List (Region × Nat)) : List Byte := l.flatMap fun p => match p.1 with
  | .host a => hostRead s a p.2
  | _ => []
/-- R267 step 2: every host-space input entry has its digest. -/
def digestsOk (s : State) (x : ItemRecs) (data : List Seg) : Bool :=
  let ins := data.zipIdx.filter fun p => isHostIn p.1
  (x.digests.length == ins.length || x.digests.length == ins.length + 1)
  && ((ins.zip x.digests).all fun p => crc64Add 0#64 (partBytes s (replayIn s x data p.1.2 p.1.1)) == p.2)

def align64 (n : Nat) : Nat := (n + 63) / 64 * 64

/-- Starts the item of the ITEM record `r` (R267, R270, R274). -/
def replayStart (s : State) (r : LogRec) : State :=
  let b := recBody r
  let strm := imgN b 0 4
  let d := descOf ((b.drop 16).take 64)
  let seed : W64 := BitVec.ofNat 64 (imgN b 80 8)
  let x := gatherRecs s (rplLen s / 16 + 1) (r.off + r.len) { entries := [], digests := [], data := [] }
  let data := x.entries.filter fun e => !segList e
  let w : Walked := { entries := x.entries, data := data, fail := none, whole := true }
  let rc := { recOf strm d w with commit := 1 }
  let sg := rplSg s
  let s := modRpl s fun p => { p with pos := r.off + r.len }
  let stop := if isStopItem s strm rc.seq then stopPoint s (if d.opc = 1 then imageOf s sg rc.img else none) else .inr none
  match stop with
  | .inl e => rplFail s e
  | .inr pt =>
    if !digestsOk s x data then rplFail s 4
    else
      let run := { runReset rc sg false s.tb.tb with replay := some r.off }
      let hin := replayIn s x data
      let hout := replayOut s data
      let s := modStrm s 65536 fun t => { t with accepted := [{ rcd := rc, rerun := false, logged := false, hangs := 0 }] }
      match d.opc with
      | 1 => armStop (startRun s 65536 run seed w hin hout) pt
      | 2 => startLoad s 65536 run w hin
      | 3 => startUnload s 65536 run
      | _ => beginItem s 65536 run

/-- The item that runs in the replay has finished: its DONE is compared (R267 step 5). -/
def replayEnd (s : State) (run : RunSt) : State :=
  let c := doneCpl run
  let key := leBytes 4 run.rcd.stream
  let found := findRec s (fun r => r.ty == 10 && (recBody r).take 4 == key && imgN (recBody r) 16 6 == c.seq) (rplLen s / 16 + 1) s.stm.rpl.pos
  let data := match run.replay.bind (readRec s) with
    | some r => (gatherRecs s (rplLen s / 16 + 1) (r.off + r.len) { entries := [], digests := [], data := [] }).entries.filter fun e => !segList e
    | none => []
  let n := data.length
  let s := modRpl s fun p => { p with inPos := align64 (p.inPos + bytesBefore data isHostIn n), outPos := align64 (p.outPos + bytesBefore data isHostOut n), stop := none }
  let s := modStrm s 65536 fun t => { t with run := none, accepted := [] }
  let s := fadd s r_DET_RPL_ITEMS f_DET_RPL_ITEMS_CNT 1
  match found with
  | none => rplFail s 5
  | some r =>
    let b := (recBody r).drop 16
    if imgN b 7 1 = c.status ∧ imgN b 8 8 = c.crc.toNat ∧ (mapSame s = false ∨ imgN b 16 8 = c.steps.toNat) then s
    else rplFail (fadd s r_DET_RPL_MISCNT f_DET_RPL_MISCNT_CNT 1) 6

/-- Consumes records up to the next ITEM, and starts it; at the end of the log the engine is DONE. -/
def replayAdvance : Nat → State → State
  | 0, s => s
  | fuel + 1, s =>
    let p := s.stm.rpl
    let finish (s : State) : State := setRplState s 3 (if fget s r_DET_RPL_PT f_DET_RPL_PT_KIND != 0 then 8 else 0)
    if rplLen s ≤ p.pos then finish s
    else match readRec s p.pos with
      | none => rplFail s 3
      | some r =>
        if r.lsn ≠ p.lsn then rplFail s 3
        else
          let s := modRpl (pairPut s r_DET_RPL_LSN_LO r_DET_RPL_LSN_HI r.lsn) fun q => { q with pos := r.off + r.len, lsn := r.lsn + 1 }
          if r.ty = 2 then replayStart s r
          else if r.ty = 12 then finish s
          else if r.ty = 6 then
            let b := recBody r
            let m := (List.range (imgN b 0 2)).map fun k => (imgN b (16 + 16 * k) 1, imgN b (17 + 16 * k) 1, imgN b (18 + 16 * k) 2)
            replayAdvance fuel (fput (modRpl s fun q => { q with mapRec := m }) r_DET_RPL_STAT f_DET_RPL_STAT_MAPSAME
              (b2n (sameRelations m (mapNow s (rplSg s)))))
          else replayAdvance fuel s

/-- REPLAY_ITEM (R267): the engine starts the next item of the log, runs one again that a snuff has stopped, or compares the DONE of
the item that has finished. `hostErr`: a host access of the engine failed. -/
def execReplayItem (hostErr : Bool) (s : State) : Out :=
  if rplState s = 1 ∧ sgState s (rplSg s) = 1 ∧ !sgHeld s (rplSg s) ∧ hostUp s (fnOf s (rplSg s)) then
    (if hostErr then .next (rplFail s 0x0B)
    else match (getStrm s 65536).run, (getStrm s 65536).accepted with
      | some r, _ => if r.phase = .finished then .next (replayEnd s r) else .next s
      | none, a :: _ =>
        (match findRec s (fun r => r.ty == 2 && imgN (recBody r) 0 4 == a.rcd.stream && imgN (recBody r) 4 6 == a.rcd.seq) (rplLen s / 16 + 1) 0 with
        | some r => .next (replayStart s r)
        | none => .next (rplFail s 3))
      | none, [] => .next (replayAdvance (rplLen s / 16 + 2) s))
  else .next s

/-! ### Stop points (R270 to R272) -/

/-- R270: has the item come to its stop point? -/
def stopReached (s : State) (x : Nat × Option Nat × W64 × W64 × Nat) : Bool :=
  (itemCores s 65536).any fun c =>
    let k := getCore s c
    k.lcore == x.1 && !stepEventsDue k && (match x.2.1 with
      | none => k.step == x.2.2.1
      | some th => decide (x.2.2.1.toNat ≤ (getThread k th).count.toNat) && !(k.gated.any fun g => g.thread == th)
          && !(k.posted.any fun p => p.thread == th && p.status == .waiting) && !(k.eng.any fun e => e.queue.any fun o => o.thread == th))

/-- Table 5: one thread record. -/
def dumpThread (k : Core) (th : Nat) : List Byte :=
  let t := getThread k th
  leBytes 8 t.pc.toNat ++ leBytes 1 (match t.st with
    | .run => 0
    | .halt => 1
    | .exc => 2) ++ leBytes 1 (b2n t.nv + 2 * b2n t.xovf) ++ [t.xcause] ++ leBytes 1 th ++ leBytes 4 0 ++ leBytes 8 t.count.toNat
  ++ leBytes 8 t.xpc.toNat ++ leBytes 8 t.xinfo.toNat ++ leBytes 24 0
  ++ (List.range 32).flatMap (fun i => leBytes 8 (tblGet (fun _ => 0#64) t.s i).toNat)
  ++ (List.range 8).flatMap (fun i => leBytes 16 (tblGet (fun _ => 0#128) t.t i).toNat)
  ++ (List.range 8).flatMap (fun i => leBytes 256 (tblGet (fun _ => 0#2048) t.v i).toNat)
def dumpWide (x : LongReg) : List Byte := wordBytes (wideEncode x).1 ++ wordBytes (wideEncode x).2
def dumpEngines (k : Core) : List Byte :=
  (List.range 4).flatMap fun e => [(getEng k e).set0, (getEng k e).set1].flatMap fun a => (List.range 512).flatMap fun i => dumpWide (elemVal a i)

/-- R272 Table 5: the dump, with the bytes of the range. -/
def dumpBytes (s : State) (run : RunSt) (k : Core) (x : Nat × Option Nat × W64 × W64 × Nat) (range : List Byte) : List Byte :=
  let ths := match x.2.1 with
    | some th => [th]
    | none => List.range k.rl
  leBytes 4 0x38444D54 ++ leBytes 2 1 ++ leBytes 1 (b2n x.2.1.isNone) ++ leBytes 1 (b2n (mapSame s)) ++ leBytes 6 run.rcd.seq ++ leBytes 2 0
  ++ leBytes 4 run.rcd.stream ++ leBytes 4 x.1 ++ leBytes 1 (x.2.1.getD 0) ++ leBytes 7 0 ++ leBytes 8 x.2.2.1.toNat ++ leBytes 8 k.step.toNat
  ++ leBytes 8 x.2.2.2.1.toNat ++ leBytes 4 x.2.2.2.2 ++ leBytes 4 ths.length ++ ths.flatMap (dumpThread k)
  ++ (List.range 16).flatMap (fun i => dumpWide (tblGet (fun _ => lrZero) k.ln i))
  ++ (if x.2.1.isNone && fbit s r_DET_RPL_CTL f_DET_RPL_CTL_ENG then dumpEngines k else []) ++ range

/-- STOP_POINT_REACHED (R270, R272): the item's cores stop at their step boundaries and the dump is written. `hit`: the translation
buffer holds the pages of the range; `hostErr`: a host write of the dump failed. -/
def execStopPointReached (hit hostErr : Bool) (s : State) : Out :=
  match s.stm.rpl.stop, (getStrm s 65536).run with
  | some x, some run =>
    let cs := itemCores s 65536
    match cs.find? fun c => (getCore s c).lcore == x.1 with
    | none => .next s
    | some c =>
      let k := getCore s c
      if rplState s = 1 ∧ stopReached s x ∧ (cs.all fun c => !stepEventsDue (getCore s c) || (getCore s c).mode != .live) ∧ hostUp s (fnOf s run.sg) then
        let s := each (cs.filter fun c => (getCore s c).mode == .live) (fun s c => modCore s c fun k => { k with mode := .stopped }) s
        let fin (s : State) (bs : List Byte) : State :=
          let s := hostWrite s (hostAt s r_DET_RPL_DUMP_LO r_DET_RPL_DUMP_HI) (dumpBytes s run k x bs)
          setRplState (modRpl s fun r => { r with stop := none }) 2 0
        if hostErr then .next (rplFail s 0x0B)
        else match regionOf (ctxOf s c k) x.2.2.2.1 x.2.2.2.2 with
          | none => .next (fin s [])
          | some g =>
            (match agentRead s { die := dieOf c, sg := run.sg, mid := midSfe, src := 2 } c g x.2.2.2.2 hit with
            | .ok s bs _ => .next (fin s bs)
            | .refused s => .next (fin s [])
            | _ => .next s)
      else .next s
  | _, _ => .next s

end Sys2Proof.Machine
end

