-- ==== Sys2Proof/Machine/Snuff.lean ====
section
/-! DEFINITION. Machine/Snuff.lean: snuffs (spec/15 R462 to R465, R459; spec/11 R361; spec/13 R413; spec/08 R260, R272). -/

namespace Sys2Proof.Machine

/-! ### Classifications (R413, R425) -/

/-- The sherd of a classification that ends with a class, 0 when it is abandoned. -/
def classSherd (s : State) (c cls src : Nat) (k : Core) (x : Classify) : State :=
  let a := getSet (getEng k x.engine) x.set
  sherd s { kind := 1, cls := cls, place := corePlace s c x.engine x.set, step := x.began.toNat, cmask := x.syn.cmask.toNat, rmask := x.syn.rmask.toNat,
            flags := b2n x.syn.xc + 2 * b2n a.logovf + 4 * b2n (getEng k x.engine).suspect, span := a.log.length, src := src,
            dur := (s.tb.tb - x.since).toNat, slice := if k.mode = .test then none else sliceOf s k.sg, sg := if k.mode = .test then none else some k.sg }
/-- R413: the classification in progress of a core is abandoned. -/
def abandonClass (s : State) (c : Nat) : State :=
  let k := getCore s c
  match k.classify with
  | x :: _ => classSherd s c 0 0 k x
  | [] => s

/-! ### What a snuff does on this module (R463, R361) -/

/-- The NI of a die gives up everything of a slice and its saggar (R463, R361): inbound requests, reassembly, unsent cells, held
ordered atomics and CLOSEs, arrived messages, and the atomic phases. -/
def niForget (sg : Nat) (slice : Option Nat) (n : Ni) : Ni :=
  let mine (x : Nat) : Bool := slice == some x
  { n with reasm := n.reasm.filter fun r => !mine r.first.slice,
           cells := n.cells.filter fun x => !(isData x.cell && mine x.cell.slice),
           atoms := n.atoms.filter fun a => !mine a.msg.slice, closes := n.closes.filter fun a => !mine a.1.slice,
           arrived := n.arrived.filter fun a => a.sg != sg, recvs := n.recvs.filter fun r => r.sg != sg,
           sentAtoms := n.sentAtoms.filter fun x => x.1 != sg,
           phaseOpen := n.phaseOpen.filter fun (p : Nat × Nat) => p.1 / 4096 != sg, phaseGone := tblErase n.phaseGone sg }
/-- R361: the objects bound to a saggar become 0, and no operation waits at them. -/
def syncForget (sg : Nat) (x : SyncDie) : SyncDie :=
  { x with cnt := x.cnt.filter fun (p : Nat × W64) => tblFind x.owner (p.1 / 256) != some sg,
           queue := x.queue.filter fun o => o.sg != sg, waits := x.waits.filter fun o => o.sg != sg,
           held := x.held.filter fun p => p.2.sg != sg }
/-- R361: a group of the slice gives up its operation. -/
def groupForget (slice : Nat) (g : Group) : Group :=
  if g.slice = slice ∧ g.st ≠ 0 then { g with st := 2, opno := 0, nodes := [] } else g
/-- R361: COL cells of the slice in an input port of a wheel, last place first. -/
def wheelForget (s : State) (w slice port : Nat) : State :=
  each (((wheelIn s w port).zipIdx.filter fun p => cellClass p.1.cell.ty == some 3 && p.1.cell.slice == slice).reverse)
    (fun s p => wheelTake s w port p.2 p.1) s
/-- R361: the whole module, for a slice. -/
def sliceForget (s : State) (slice : Nat) : State :=
  let s := modFab s fun f => { f with groups := tblMap (groupForget slice) f.groups }
  each (List.range 4) (fun s w => each wheelPorts (fun s p => wheelForget s w slice p) s) s

/-- R463: the fault records of a saggar resolve as REFUSE, unseen. -/
def dropFaults (s : State) (sg : Nat) : State :=
  each ((s.mem.faults.filter fun (p : Nat × FaultRec) => p.2.sg == sg).map Prod.fst) (fun s t => resolveFault s t false) s
/-- R532: the cluster memories of a saggar are scrubbed. -/
def scrubClusters (s : State) (sg : Nat) : State := each (getSag s sg).clmap (fun s p => setClMem s p.1 p.2 []) s

/-- R260: RERUN with a reason of Table 4 of spec/08. -/
def logRerun (s : State) (sg n seq reason : Nat) : State :=
  if logActive s sg && itemLogged s n then
    logPut s sg 11 (leBytes 4 n ++ leBytes 6 seq ++ leBytes 1 reason ++ List.replicate 5 0#8 ++ leBytes 8 s.tb.tb.toNat)
  else s

/-- R459: the item ends here in place of another rerun; `st` is the largest step counter of its cores. -/
def hangEnds (s : State) (n : Nat) (r : RunSt) (st : Nat) : State :=
  finishItem (modRun s n fun _ => { r with steps := BitVec.ofNat 64 st, crc := 0, pieces := [] }) n 2 0

/-- R463, R459, R267: what becomes of the item that runs on a stream. -/
def rerunItem (s : State) (n reason st : Nat) : State :=
  match (getStrm s n).run with
  | none => s
  | some r =>
    if n = 65536 then modRpl (modStrm s n fun t => { t with run := none }) fun p => { p with stop := none }
    else
      let hangs := (((getStrm s n).accepted.head?.map (·.hangs)).getD 0) + b2n (reason == 1)
      if reason == 1 && decide (fget s r_RST_WATCH f_RST_WATCH_HRETRY < hangs) then hangEnds s n r st
      else
        modStrm (logRerun s r.sg n r.rcd.seq 1) n fun t =>
          { t with run := none, accepted := t.accepted.mapIdx fun i a => if i = 0 then { a with rerun := true, hangs := hangs } else a }

/-- The streams whose running item belongs to a saggar. -/
def runningOn (s : State) (sg : Nat) : List Nat := (s.stm.strms.filter fun (p : Nat × Strm) => p.2.run.any fun r => r.sg == sg).map Prod.fst

/-- R463 for one saggar of the job. -/
def snuffSg (reason : Nat) (s : State) (sg : Nat) : State :=
  let slice := sliceOf s sg
  let runs := (runningOn s sg).map fun n => (n, itemSteps s n)
  let s := each (coresOfSg s sg) (fun s c => dropCtx (abandonClass s c) c false) s
  let s := each (List.range (((getSag s sg).saved.map fun x => x.last.length).getD 0)) (fun s l => setClMem s (savedPlace sg l).1 (savedPlace sg l).2 []) s
  let s := modSag s sg fun g => { g with saved := g.saved.map fun x => { x with lcl := [], xfers := [] } }
  let s := each runs (fun s p => dropXfers s (xferOfItem p.1)) s
  let s := modFab s fun f => { f with ni := tblMap (niForget sg slice) f.ni, sync := tblMap (syncForget sg) f.sync }
  let s := scrubClusters (dropFaults s sg) sg
  each runs (fun s p => rerunItem s p.1 reason p.2) s

/-- The saggars of a job. -/
def sgsOfJob (s : State) (job : Nat) : List Nat := (List.range 128).filter fun sg => sgState s sg != 0 && jobKey s sg == job
/-- R464: the job settles. -/
def settling (s : State) (job : Nat) : Bool :=
  match tblFind s.rst.settle job with
  | some t => decide ((s.tb.tb - t).toNat < fget s r_RST_RUN f_RST_RUN_SETTLE * 1000000)
  | none => false

/-- SNUFF_APPLY (R463, R464): the job on this module. -/
def snuffApply (s : State) (job reason : Nat) : State :=
  let s := each (sgsOfJob s job) (snuffSg reason) s
  let s := if job < 1024 then sliceForget s job else s
  modRst s fun r => { r with settle := tblPut r.settle job s.tb.tb, lastSnuff := tblPut r.lastSnuff job s.tb.tb }

/-- R462: the other packages of a slice. -/
def memberPkgs (s : State) (slice : Nat) : List Nat :=
  ((tblGet (fun _ => []) s.fab.ranks slice).foldl (fun l (p : Nat × W32) => if p.2.getLsbD 31 then addOnce l (bits p.2.toNat 11 0) else l) []).filter (· != myPkg s)

/-- R462, R397: sends M_SNUFF to every other member package. -/
def sendSnuff (s : State) (slice reason : Nat) : State :=
  let n := s.rst.snuffNo
  let s := each (memberPkgs s slice) (fun s pkg => sendMgt s 16 0x1B pkg 16 [slice + myPkg s * 2 ^ 16 + n * 2 ^ 32, reason]) s
  modRst s fun r => { r with snuffNo := (n + 1) % 2 ^ 32 }

/-- A snuff whose cause arises on this module, or a request of its host (R462, R464, R465). -/
def snuffJob (s : State) (job reason : Nat) : State :=
  if settling s job then fadd s r_RST_SNUFF_STAT f_RST_SNUFF_STAT_MERGED 1
  else
    let s := fput (fadd s r_RST_SNUFF_STAT f_RST_SNUFF_STAT_CNT 1) r_RST_SNUFF_STAT f_RST_SNUFF_STAT_REASON reason
    let s := if job < 1024 then sendSnuff s job reason else s
    snuffApply s job reason

/-! ### Pilots (R453 to R456) -/

/-- Where the watch of endpoint `ep` lies: as RST_DIE_STAT numbers the dies, a third-party endpoint at 32 + `ep`. -/
def watchIdx (ep : Nat) : Nat := if ep < 16 then ep else if ep = 16 then 20 else if ep ≤ 20 then ep - 1 else 32 + ep
/-- The watch of an endpoint begins, as after a good pilot. -/
def beginWatch (s : State) (ep : Nat) : State :=
  modRst s fun r => { r with dies := tblModify (fun _ => dieWatchReset) r.dies (watchIdx ep) fun w =>
    { w with lastGood := s.tb.tb, heard := false, sick := [], missed := 0, seen := s.tb.tb, cores := none } }

def addAct (s : State) (a : RstAct) : State := modRst s fun r => { r with acts := r.acts ++ [a] }
def dropAct (s : State) (a : RstAct) : State := modRst s fun r => { r with acts := r.acts.erase a }

/-- R390: the slice is BROKEN. -/
def addBroken (s : State) (slice : Nat) : State := modRst s fun r => { r with broken := addOnce r.broken slice }

/-! ### Commands -/

/-- M_SNUFF (R397): from package `spkg`, with slice, origin, snuff number and reason. A number seen before has no effect. -/
def execMSnuff (spkg slice origin number reason : Nat) (s : State) : Out :=
  let key := origin * 2 ^ 32 + number
  if (sgOfSlice s slice).isSome && memberPkg s slice spkg && (tblFind s.rst.seen key).isNone then
    let s := modRst s fun r => { r with seen := tblPut r.seen key reason }
    .next (if settling s slice then fadd s r_RST_SNUFF_STAT f_RST_SNUFF_STAT_MERGED 1 else snuffApply s slice reason)
  else .next s

/-- SNUFF_ORIGIN (R462): the kiln takes the oldest snuff that waits for it. A stopped kiln sends nothing (R364). -/
def execSnuffOrigin (s : State) : Out :=
  match s.rst.acts.findSome? fun a => match a with
    | .snuff j r => some (j, r)
    | _ => none with
  | some (j, r) => when_ (!s.rst.restarting) s (snuffJob (dropAct s (.snuff j r)) j r)
  | none => .next s

/-- RST_SNUFF_GO (R465): a write of RST_SNUFF with GO and the slice. -/
def execRstSnuffGo (slice : Nat) (s : State) : Out :=
  let s := fput s r_RST_SNUFF f_RST_SNUFF_SLICE slice
  if (sgOfSlice s (slice % 1024)).isSome then .next (addAct s (.snuff (slice % 1024) 0x0B))
  else .next (fput s r_RST_SNUFF_STAT f_RST_SNUFF_STAT_ERR 1)

/-- SETTLE_END (R464): the settle of a job ends: its time has passed, its groups are ARMED, and no die of it resets or is in a ladder. -/
def execSettleEnd (job : Nat) (s : State) : Out :=
  let ready := (tblFind s.rst.settle job).isSome && !settling s job && !s.rst.broken.contains job
    && !(s.fab.groups.any fun (g : Nat × Group) => g.2.slice == job && g.2.st == 2)
    && (sgsOfJob s job).all fun sg => (getSag s sg).clmap.all fun p => !dieHeld s p.1
  when_ ready s (modRst s fun r => { r with settle := tblErase r.settle job })

/-- DET_RPL_ABORT (R272): the item that is stopped is snuffed, and the engine is IDLE. -/
def execDetRplAbort (s : State) : Out :=
  if rplState s = 2 then .next (setRplState (modStrm (snuffSg 0x0B s (rplSg s)) 65536 fun t => { t with accepted := [] }) 0 0x0A)
  else .next s

end Sys2Proof.Machine
end

