-- ==== Sys2Proof/Machine/Kiln.lean ====
section
/-! DEFINITION. Machine/Kiln.lean: the active role: mirroring, commands to wicks, table changes and host requests
(spec/12 R371 to R373, R380, R385 to R397; spec/10 R327, R328). -/

namespace Sys2Proof.Machine

/-! ### Mirroring and commands (R371 to R373, R380) -/

/-- This kiln holds the active role (ACTIVE or SOLO). -/
def roleHeld (s : State) : Bool := kilnRole s == 1 || kilnRole s == 3
/-- It may issue commands. -/
def issuing (s : State) : Bool := roleHeld s && !s.kln.stopped && kilnOn s
def kilnPeer (s : State) : Nat := fget s r_KLN_PAIR f_KLN_PAIR_PEER

def getLit (s : State) (key : Nat) : Option LitWick := tblFind s.kln.role.lit key
def modLit (s : State) (key : Nat) (f : LitWick → LitWick) : State := modRole s fun r => { r with lit := mapModify r.lit key f }
def litKeys (s : State) : List Nat := (s.kln.role.lit.filter fun p => p.2.lit).map Prod.fst
/-- Word 0 of a command. -/
def fmWord (seq term op : Nat) : Nat := seq + term * 2 ^ 32 + op * 2 ^ 56

/-- Sends a command, and notes when. -/
def sendCmd (s : State) (key seq : Nat) : State :=
  match (getLit s key).bind fun x => x.out.find? fun c => c.seq == seq with
  | none => s
  | some c =>
    let s := sendMgt s 16 c.ty (key / 32) (key % 32) c.words
    modLit s key fun x => { x with heard := if x.out.any fun c => c.sent.isSome then x.heard else s.tb.tb,
                                   out := x.out.map fun c => if c.seq = seq then { c with sent := some s.tb.tb } else c }
/-- R399: RACK. -/
def sendRack (s : State) (key num : Nat) : State := sendMgt s 16 0x1F (key / 32) (key % 32) [num + 0x21 * 2 ^ 56]
/-- What the acknowledgement of a MIRROR releases. -/
def releaseMirror (s : State) (m : MirrorOut) : State :=
  let s := match m.cmd with
    | some (k, q) => sendCmd s k q
    | none => s
  match m.rack with
  | some (k, n) => sendRack s k n
  | none => s
/-- R372: at most 1,024 MIRRORs are unacknowledged. -/
def mirrorPump (s : State) : State :=
  let go := (s.kln.mirrors.take 1024).filter fun m => !m.sent
  let s := each go (fun s m => emitSent s (.mirror (kilnPeer s) m.num (kilnTerm s) (.state s.kln.role m.cmd m.done))) s
  modKln s fun k => { k with mirrors := k.mirrors.mapIdx fun i m => if i < 1024 then { m with sent := true } else m }
/-- R380: what the active kiln does is mirrored first; a SOLO kiln mirrors nothing. -/
def mirrorPush (s : State) (cmd rack : Option (Nat × Nat)) (done : Option (Nat × List Nat)) : State :=
  if kilnRole s = 1 then
    let n := (s.kln.mirrorNo + 1) % 2 ^ 32
    mirrorPump (modKln s fun k => { k with mirrorNo := n, mirrors := k.mirrors ++ [{ num := n, sent := false, cmd := cmd, rack := rack, done := done }] })
  else releaseMirror s { num := 0, sent := true, cmd := cmd, rack := rack, done := done }

/-- R372: at most eight commands to a wick are unanswered; each takes its FMSEQ here. -/
def pumpWick (key : Nat) : Nat → State → State
  | 0, s => s
  | n + 1, s =>
    match getLit s key with
    | none => s
    | some x =>
      (match x.todo with
      | [] => s
      | b :: bs =>
        if x.lit && decide (x.out.length < 8) then
          let c : RoleCmd := { seq := x.next, ty := b.ty, words := fmWord x.next (kilnTerm s) b.op :: b.tail, sent := none }
          let s := modLit s key fun x => { x with next := (x.next + 1) % 2 ^ 32, out := x.out ++ [c], todo := bs }
          pumpWick key n (mirrorPush s (some (key, c.seq)) none none)
        else s)
def pump (s : State) : State := if issuing s then each (litKeys s) (fun s k => pumpWick k 8 s) s else s
/-- Queues a command for a wick. -/
def queueCmd (s : State) (key : Nat) (b : CmdBody) : State := modLit s key fun x => { x with todo := x.todo ++ [b] }
def queueFront (s : State) (key : Nat) (b : CmdBody) : State := modLit s key fun x => { x with todo := b :: x.todo }

/-- R398: LIGHT. -/
def sendLight (s : State) (key : Nat) : State :=
  let fm := rget s r_KLN_FMPKG
  match getLit s key with
  | none => s
  | some x =>
    sendMgt s 16 0x18 (key / 32) (key % 32)
      [1 + 1 * 16 + key / 32 * 2 ^ 8 + key % 32 * 2 ^ 20, x.next + kilnTerm s * 2 ^ 32,
       fldGet fm f_KLN_FMPKG_ACT + fldGet fm f_KLN_FMPKG_STBY * 2 ^ 12 + fldGet fm f_KLN_FMPKG_STBYV * 2 ^ 24
         + fget s r_RST_PILOT f_RST_PILOT_PERIOD * 2 ^ 32, s.kln.role.epoch]
/-- Lights every wick of a package that is not lit. -/
def lightPkg (s : State) (pkg : Nat) : State :=
  each ((List.range 21).map (wickKey pkg)) (fun s k =>
    if (getLit s k).isSome then s else sendLight (modRole s fun r => { r with lit := tblPut r.lit k litReset }) k) s

def trigger (s : State) : State := modRole s fun r => { r with trig := some (r.trig.getD s.tb.tb) }

/-! ### Table changes (R327, R387 to R389) -/

/-- KLN_STAT.CHG and CHGSTEP. -/
def syncChg (s : State) : State :=
  match s.kln.role.change with
  | some c => fput (fput s r_KLN_STAT f_KLN_STAT_CHG 1) r_KLN_STAT f_KLN_STAT_CHGSTEP c.step
  | none => fput (fput s r_KLN_STAT f_KLN_STAT_CHG 0) r_KLN_STAT f_KLN_STAT_CHGSTEP 0
def modChange (s : State) (f : ChangeSt → ChangeSt) : State := modRole s fun r => { r with change := r.change.map f }
def isWheelAgent (key : Nat) : Bool := decide (17 ≤ key % 32) && decide (key % 32 ≤ 20)

/-- Goes on with the change as far as its waits allow: to step 3 when every bank is READY, to step 6 when M_EPOCH is answered. -/
def changeStep (s : State) : State :=
  match s.kln.role.change with
  | none => s
  | some c =>
    if c.step ≤ 2 then
      (if c.wait.isEmpty then
        let us := (s.tb.tb - c.began).toNat / 1000
        let s := fput s r_KLN_RC_TIME f_KLN_RC_TIME_INSUS (min 65535 us)
        let keys := (litKeys s).filter fun k => !c.skip.contains k
        let s := each keys (fun s k => queueCmd s k { ty := 0x1A, op := 0, tail := [c.epoch] }) s
        modChange s fun c => { c with step := 4, wait := keys, drain := if s.kln.role.installed then keys.filter isWheelAgent else [], lastAck := s.tb.tb }
      else s)
    else if c.wait.isEmpty && c.step == 4 then
      (if s.kln.role.installed then modChange s fun c => { c with step := 6 }
       else modRole s fun r => { r with change := none, installed := true, epoch := c.epoch })
    else s
/-- R387: a bank that was answered BADBANK is sent once more; a second time its wheel keeps its epoch. -/
def badBank (s : State) (key : Nat) : State :=
  match s.kln.role.change with
  | none => s
  | some c =>
    if c.again.contains key then
      modChange (fput s r_KLN_STAT f_KLN_STAT_BADBANK 1) fun c => { c with wait := c.wait.filter (· != key), skip := key :: c.skip }
    else
      let bank := c.epoch % 2
      let b := tblGet (fun _ => []) s.kln.role.banks (bankKey (key / 32) (key % 32 - 17) bank)
      let s := each (bankCmds b b bank true) (fun s x => queueCmd s key x) s
      modChange s fun c => { c with again := key :: c.again }

/-! ### Slices and groups (R392 to R397) -/

/-- A member as the list of a request gives it. -/
def memOf (e : Nat) : SliceMem :=
  { pkg := bits e 11 0, tp := bitAt e 12, ep := bits e 17 13, fn := bits e 25 18, cls := bits e 34 26, sag := 0, mask := 0 }
def memBad (e : Nat) : Bool :=
  let m := memOf e
  bits e 63 35 != 0 || (if m.tp then m.cls != 0 || decide (m.ep < 21) else m.ep != 0 || m.cls == 0 || decide (256 < m.cls))
/-- The 32-bit member of MLIST. -/
def memWord (m : SliceMem) : Nat := m.pkg + b2n m.tp * 2 ^ 12 + (if m.tp then m.ep else m.mask) * 2 ^ 16
/-- R394: the ranks of a member list: rank table entries in order. -/
def rankEntries (ms : List Nat) : List W32 :=
  ms.flatMap fun m =>
    if bitAt m 12 then [BitVec.ofNat 32 (bits m 11 0 + bits m 20 16 * 2 ^ 12 + 2 ^ 31)]
    else ((List.range 16).filter fun d => bitAt m (16 + d)).map fun d => BitVec.ofNat 32 (bits m 11 0 + d * 2 ^ 12 + 2 ^ 31)
def sliceRanks (ms : List SliceMem) : List W32 := rankEntries (ms.map memWord)
/-- The endpoint of a rank: package and endpoint. -/
def rankPlace (ranks : List W32) (r : Nat) : Option (Nat × Nat) := (ranks[r]?).map fun e => (bits e.toNat 11 0, bits e.toNat 16 12)

def modReq (s : State) (f : ReqSt → ReqSt) : State := modRole s fun r => { r with req := r.req.map f }
/-- Queues one command of the request, and waits for its answer where the wick is lit. -/
def reqCmd (s : State) (key : Nat) (b : CmdBody) : State :=
  if (getLit s key).any (·.lit) then modReq (queueCmd s key b) fun q => { q with wait := key :: q.wait } else s
def ctlKey (pkg : Nat) : Nat := wickKey pkg 16

/-- MLIST commands of a slice (Table 11). -/
def mlistCmds (tag : Nat) (ms : List SliceMem) : List CmdBody :=
  (List.range ((ms.length + 11) / 12)).map fun i =>
    let part := (ms.drop (12 * i)).take 12
    { ty := 0x1F, op := 6,
      tail := (tag + 12 * i * 2 ^ 10 + part.length * 2 ^ 22 + b2n (decide (ms.length ≤ 12 * i + 12)) * 2 ^ 26 + b2n (i == 0) * 2 ^ 27)
        :: (List.range 6).map fun j => ((part[2 * j]?).map memWord).getD 0 + ((part[2 * j + 1]?).map memWord).getD 0 * 2 ^ 32 }
/-- The members of a group that lie on endpoint `ep` of a package, or, with none, on any of its dies: index, rank, logical core. -/
def groupLocals (ranks : List W32) (g : GroupRec) (pkg : Nat) (ep : Option Nat) : List (Nat × Nat × Nat) :=
  g.members.zipIdx.filterMap fun p => match rankPlace ranks p.1.1 with
    | some (k, e) => if k = pkg ∧ ep.all (· == e) then some (p.2, p.1.1, p.1.2) else none
    | none => none
/-- GRPW commands of one group entry (Table 11). -/
def grpwCmds (num state : Nat) (g : GroupRec) (t : TreeNode) (loc : List (Nat × Nat × Nat)) : List CmdBody :=
  (List.range (max 1 ((loc.length + 4) / 5))).map fun i =>
    { ty := 0x1F, op := 7,
      tail := [num + state * 2 ^ 12 + b2n g.fence * 2 ^ 14 + g.plane * 2 ^ 15 + g.slice * 2 ^ 17 + t.parent * 2 ^ 27 + t.children * 2 ^ 30 + g.slots * 2 ^ 36
          + b2n (decide (5 * i + 5 < loc.length)) * 2 ^ 63, g.members.length + g.root * 2 ^ 17]
        ++ (List.range 5).map fun j => match loc[5 * i + j]? with
          | some m => m.1 + m.2.1 * 2 ^ 17 + m.2.2 * 2 ^ 41 + 2 ^ 63
          | none => 0 }
/-- The dies of a package that hold ranks of the slice. -/
def diesOf (ranks : List W32) (pkg : Nat) : List Nat :=
  (List.range 32).filter fun e => ranks.any fun r => bits r.toNat 11 0 == pkg && bits r.toNat 16 12 == e
/-- Writes, or with STATE 0 frees, a group on every module of its tree: at the wheel agent of its plane and at the wicks of member dies. -/
def writeGroup (s : State) (ranks : List W32) (num state : Nat) (g : GroupRec) : State :=
  each g.tree (fun s t =>
    let s := each (grpwCmds num state g t (groupLocals ranks g t.pkg none)) (fun s b => reqCmd s (wickKey t.pkg (17 + g.plane)) b) s
    let dies := (diesOf ranks t.pkg).filter fun e => g.fence || !(groupLocals ranks g t.pkg (some e)).isEmpty
    each dies (fun s e => each (grpwCmds num state g t (groupLocals ranks g t.pkg (some e))) (fun s b => reqCmd s (wickKey t.pkg e) b) s) s) s
/-- R396, R351: slots that a group takes at the wheel of a package. -/
def bitCount (n k : Nat) : Nat := ((List.range k).filter (bitAt n)).length
def slotsAt (s : State) (g : GroupRec) (pkg : Nat) : Nat :=
  match g.tree.find? fun t => t.pkg == pkg with
  | none => 0
  | some t =>
    let ranks := ((tblFind s.kln.role.slices g.slice).map fun x => sliceRanks x.members).getD []
    g.slots * (bitCount t.children 6 + ((diesOf ranks pkg).filter fun e => g.fence || !(groupLocals ranks g pkg (some e)).isEmpty).length)
def groupFits (s : State) (g : GroupRec) : Bool :=
  g.tree.all fun t => decide (((s.kln.role.groups.filter fun p => p.2.plane == g.plane).map fun p => slotsAt s p.2 t.pkg).foldl (· + ·) (slotsAt s g t.pkg) ≤ 65536)
/-- R346: a number that is free on every module of the tree. -/
def groupNumber (s : State) (tree : List TreeNode) : Option Nat :=
  (List.range 4095).map (· + 1) |>.find? fun n => !s.kln.role.groups.any fun p => p.1 % 4096 == n && p.2.tree.any fun t => tree.any fun u => u.pkg == t.pkg
def groupKey (slice num : Nat) : Nat := slice * 4096 + num
/-- R392: PLANE 0xFF takes the plane with the fewest group entries, the lowest on a tie. -/
def planeOf (s : State) (p : Nat) : Nat :=
  if p < 4 then p
  else
    let cnt (w : Nat) : Nat := ((s.kln.role.groups.filter fun g => g.2.plane == w).map fun g => g.2.tree.length).foldl (· + ·) 0
    [1, 2, 3].foldl (fun b w => if cnt w < cnt b then w else b) 0
def groupSlots (n : Nat) : Nat := if n = 0 then 32 else n

/-- The end of a request: the kiln of entry writes the result and the return code. -/
def endReq (s : State) (code : Nat) (result : List Byte) : State :=
  match s.kln.role.req with
  | none => s
  | some q =>
    let s := modRole s fun r => { r with req := none }
    (match q.ch with
    | some c => mirrorPush (mbxAck (if code = 0 then hostWrite s q.req.result result else s) c code) none none none
    | none => mirrorPush s none none (some (code, result.map BitVec.toNat)))

/-- Step 3 of Table 10: SGREQ to every member module. -/
def reqCarve (s : State) : State :=
  match s.kln.role.req with
  | none => s
  | some q =>
    let s := modReq s fun q => { q with step := 3, wait := [] }
    each (q.members.filter fun m => !m.tp) (fun s m => reqCmd s (ctlKey m.pkg) { ty := 0x1F, op := 8, tail := [q.tag + m.fn * 2 ^ 10 + m.cls * 2 ^ 18] }) s
/-- SGREL to modules that have carved a saggar. -/
def reqRelease (s : State) (step : Nat) (ms : List SliceMem) : State :=
  match s.kln.role.req with
  | none => s
  | some q =>
    let s := modReq s fun q => { q with step := step, wait := [] }
    each (ms.filter fun m => !m.tp) (fun s m => reqCmd s (ctlKey m.pkg) { ty := 0x1F, op := 9, tail := [q.tag] }) s

/-- Steps 5 to 7: the member lists, once every saggar is carved. -/
def reqLists (s : State) (q : ReqSt) : State :=
  let ranks := sliceRanks q.members
  let old := (tblFind s.kln.role.slices q.tag)
  let bad := decide (65536 < ranks.length) || (q.req.op == 5 && old.any fun o => (sliceRanks o.members).length != ranks.length)
  if bad then reqRelease (modReq s fun q => { q with fail := some 8 }) 4 q.members
  else
    let f := fabricOf s
    let plane := planeOf s q.req.plane
    let root := (rankPlace ranks 0).map Prod.fst
    match root.bind fun r => treeFor f plane r (q.members.map (·.pkg)) with
    | none => reqRelease (modReq s fun q => { q with fail := some 5 }) 4 q.members
    | some tree =>
      let keep := old.map (·.fence)
      match (if q.req.op == 5 then keep else groupNumber s tree) with
      | none => reqRelease (modReq s fun q => { q with fail := some 9 }) 4 q.members
      | some num =>
        let g : GroupRec := { slice := q.tag, fence := true, plane := plane, root := 0, slots := groupSlots q.req.slots, members := [], tree := tree }
        let s := modRole s fun r => { r with slices := tblPut r.slices q.tag { members := q.members, fence := num, compact := bitAt q.req.flags 0 }, groups := tblErase r.groups (groupKey q.tag num) }
        if groupFits s g then
          let s := modReq (modRole s fun r => { r with groups := tblPut r.groups (groupKey q.tag num) g }) fun q => { q with step := 5, gnum := num, wait := [] }
          let pkgs := ((q.members.map (·.pkg)) ++ tree.map (·.pkg)).foldl (fun l p => if l.contains p then l else l ++ [p]) []
          each pkgs (fun s p => each (mlistCmds q.tag q.members) (fun s b => reqCmd s (ctlKey p) b) s) s
        else reqRelease (modReq (modRole s fun r => { r with slices := tblErase r.slices q.tag }) fun q => { q with fail := some 9 }) 4 q.members

/-- R362: the groups of a slice are written again when it is re-carved. -/
def reqGroups (s : State) (q : ReqSt) : State :=
  let ranks := sliceRanks q.members
  let gs := s.kln.role.groups.filter fun p => p.1 / 4096 == q.tag
  each gs (fun s p => writeGroup s ranks (p.1 % 4096) 1 p.2) (modReq s fun q => { q with step := 7, wait := [] })

/-- The request's next step, once nothing is awaited. -/
def reqStep (s : State) : State :=
  match s.kln.role.req with
  | none => s
  | some q =>
    if !q.wait.isEmpty then s
    else if q.step = 0 then reqCarve s
    else if q.step = 3 then
      (if q.fail.isSome then reqRelease s 4 (q.members.filter fun m => m.mask != 0) else reqLists s q)
    else if q.step = 4 then endReq s (q.fail.getD 6) []
    else if q.step = 5 then reqGroups s q
    else if q.step = 7 then
      let ranks := sliceRanks q.members
      endReq (modRst s fun r => { r with broken := r.broken.filter (· != q.tag) }) 0
        (leBytes 2 q.tag ++ leBytes 2 q.gnum ++ leBytes 4 ranks.length ++ ranks.flatMap fun e => leBytes 4 e.toNat)
    else if q.step = 10 then
      (match q.fail with
      | some c => endReq s c []
      | none =>
        let ranks := ((tblFind s.kln.role.slices q.tag).map fun x => sliceRanks x.members).getD []
        let gs := s.kln.role.groups.filter fun p => p.1 / 4096 == q.tag
        let s := each gs (fun s p => writeGroup s ranks (p.1 % 4096) 0 p.2) (modReq s fun q => { q with step := 12, wait := [] })
        modRole s fun r => { r with slices := tblErase r.slices q.tag, groups := r.groups.filter fun p => p.1 / 4096 != q.tag })
    else if q.step = 11 then endReq s 0 (leBytes 2 q.gnum)
    else endReq s 0 []
/-- A step may have nothing to wait for; there are at most six. -/
def reqSteps : Nat → State → State
  | 0, s => s
  | n + 1, s => match s.kln.role.req with
    | some q => if q.wait.isEmpty then reqSteps n (reqStep s) else s
    | none => s

/-- The role goes on with what it has in hand. -/
def roleGoesOn (s : State) : State := if issuing s then pump (syncChg (reqSteps 8 (changeStep (changeStep s)))) else s

/-- R328, R373: the role takes a wick down: it waits for no answer of it. -/
def takeDown (s : State) (key : Nat) : State :=
  let s := modRole s fun r => { r with lit := tblErase r.lit key, tps := tblErase r.tps key }
  let s := modChange s fun c => { c with wait := c.wait.filter (· != key), drain := c.drain.filter (· != key) }
  modReq s fun q => { q with wait := q.wait.filter (· != key) }

/-! ### Checks of a request (Table 9) -/

def reqOf (s : State) (c : Nat) : KilnReq :=
  { op := payByte s c 0, flags := payByte s c 1, tag := payNat s c 2 2, count := payNat s c 4 4, list := payNat s c 8 8, result := payNat s c 16 8,
    group := payNat s c 24 2, plane := payByte s c 26, slots := payNat s c 28 2, box := (List.range 6).map fun i => payByte s c (32 + i),
    clear := payByte s c 27 == 0 && payZero s c 30 32 && payZero s c 38 256 }
/-- The entries of LIST. -/
def reqEntries (s : State) (r : KilnReq) : List Nat := (List.range r.count).map fun i => hostNat s (r.list + 8 * i) 8
def reqFieldBad (r : KilnReq) : Bool :=
  !r.clear || decide (4 ≤ r.flags) || decide (1024 ≤ r.tag) || r.list % 8 != 0 || r.result % 8 != 0
  || (decide (4 ≤ r.plane) && r.plane != 0xFF) || (r.slots != 0 && (decide (r.slots < 8) || decide (256 < r.slots)))

/-- R395: the packages of the box, none when some place of it is empty or an extent breaks the rule. -/
def boxPkgs (f : Fabric) (box : List Nat) : Option (List Nat) :=
  let ext (i : Nat) : Nat := box.getD (3 + i) 0
  let okExt := [0, 1, 2].all fun i => decide (1 ≤ ext i) && (match f.dims.ring i with
    | some n => decide (2 * ext i ≤ n) || ext i == n
    | none => true)
  let wrap (i : Nat) (v : Nat) : Int := match f.dims.ring i with
    | some n => (((box.getD i 0 + v) % n : Nat) : Int)
    | none => ((box.getD i 0 + v : Nat) : Int)
  let places := (List.range (ext 0)).flatMap fun a => (List.range (ext 1)).flatMap fun b => (List.range (ext 2)).map fun c => (wrap 0 a, wrap 1 b, wrap 2 c)
  let ps := places.filterMap fun c => (f.coords.find? fun p => p.2 == c).map Prod.fst
  if okExt && ps.length == places.length then some ps else none

/-- Can every two packages reach each other in every plane? -/
def allReach (f : Fabric) (ps : List Nat) : Bool :=
  (List.range 4).all fun w => ps.all fun q =>
    let h := hopsTo f.topo (some w) q
    ps.all fun p => routeFor f w p q h != 0

/-- SLICE_CREATE and SLICE_RECARVE: the first code of Table 9 that applies, 0 for none. -/
def checkSlice (s : State) (r : KilnReq) (tag : Option Nat) (es : List Nat) : Nat :=
  let f := fabricOf s
  let ms := es.map memOf
  let ps := ms.map (·.pkg)
  let lit (m : SliceMem) : Bool := (getLit s (wickKey m.pkg (if m.tp then m.ep else 16))).any (·.lit)
  let old := tag.bind (tblFind s.kln.role.slices)
  if reqFieldBad r || es.isEmpty || es.any memBad then 1
  else if r.op = 1 && old.isSome then 2
  else if tag.isNone || (r.op = 5 && old.isNone) then 3
  else if ms.any fun m => !inTopo f.topo m.pkg || !lit m then 4
  else if !allReach f ps then 5
  else if bitAt r.flags 0 && !((boxPkgs f r.box).any fun b => b.all ps.contains && ps.all b.contains) then 7
  else if r.op = 5 && old.any (fun o => o.members.length != es.length) then 8
  else 0

/-- GROUP_CREATE: the code, or the group with its number. -/
def checkGroup (s : State) (r : KilnReq) (es : List Nat) : Sum Nat (Nat × GroupRec) :=
  match tblFind s.kln.role.slices r.tag with
  | none => .inl (if reqFieldBad r then 1 else 3)
  | some x =>
    let ranks := sliceRanks x.members
    let ms := es.map fun e => (bits e 23 0, bits e 35 24)
    let cls (pkg : Nat) : Nat := ((x.members.find? fun m => m.pkg == pkg && !m.tp).map (·.cls)).getD 0
    let isMem (m : Nat × Nat) : Bool := match rankPlace ranks m.1 with
      | some (p, e) => if e < 21 then decide (m.2 < 16 * cls p) else (tblFind s.kln.role.tps (wickKey p e)).any fun t => decide (8 ≤ t.col)
      | none => false
    let colOk (m : Nat × Nat) : Bool := match rankPlace ranks m.1 with
      | some (p, e) => decide (e < 21) || (tblFind s.kln.role.tps (wickKey p e)).any fun t => decide (groupSlots r.slots ≤ t.col)
      | none => true
    let f := fabricOf s
    let plane := planeOf s r.plane
    if reqFieldBad r || es.isEmpty || decide (65536 < es.length) || es.any (fun e => bits e 63 36 != 0) || decide (es.length ≤ r.group) then .inl 1
    else match ((ms[r.group]?).bind fun m => rankPlace ranks m.1).bind fun p => treeFor f plane p.1 (ms.filterMap fun m => (rankPlace ranks m.1).map Prod.fst) with
      | none => .inl (if ms.all isMem then 5 else 0x0D)
      | some tree =>
        let g : GroupRec := { slice := r.tag, fence := false, plane := plane, root := r.group, slots := groupSlots r.slots, members := ms, tree := tree }
        match groupNumber s tree with
        | none => .inl 9
        | some n => if !groupFits s g || !ms.all colOk then .inl 9 else if ms.all isMem then .inr (n, g) else .inl 0x0D

/-- A request begins at the active kiln; `ch` is the channel when it entered here. -/
def reqStart (s : State) (ch : Option Nat) (r : KilnReq) (entries : Option (List Nat)) : State :=
  let any := bitAt r.flags 1
  let tag := if r.op = 1 && any then (List.range 1024).find? fun t => (tblFind s.kln.role.slices t).isNone else some r.tag
  let q : ReqSt := { ch := ch, req := r, step := 4, tag := tag.getD 0, gnum := 0, members := [], group := [], wait := [], fail := none }
  let put (q : ReqSt) : State := mirrorPush (modRole s fun x => { x with req := some q }) none none none
  let fail (c : Nat) : State := put { q with fail := some c }
  if r.op = 1 ∨ r.op = 5 then
    (match entries with
    | none => fail 0x0A
    | some es =>
      let c := checkSlice s r tag es
      if c != 0 then fail c
      else
        let s := put { q with step := 0, members := es.map memOf }
        if r.op = 5 then reqRelease s 0 (((tblFind s.kln.role.slices q.tag).map (·.members)).getD []) else s)
  else if r.op = 2 then
    (match tblFind s.kln.role.slices r.tag with
    | none => fail (if reqFieldBad r then 1 else 3)
    | some x => if reqFieldBad r then fail 1 else reqRelease (put { q with members := x.members }) 10 x.members)
  else if r.op = 3 then
    (match entries with
    | none => fail 0x0A
    | some es => match checkGroup s r es with
      | .inl c => fail c
      | .inr (n, g) =>
        let s := put { q with gnum := n, step := 11 }
        let ranks := ((tblFind s.kln.role.slices r.tag).map fun x => sliceRanks x.members).getD []
        writeGroup (modRole s fun x => { x with groups := tblPut x.groups (groupKey r.tag n) g }) ranks n 1 g)
  else if r.op = 4 then
    (match tblFind s.kln.role.groups (groupKey r.tag r.group) with
    | none => fail (if reqFieldBad r then 1 else 3)
    | some g =>
      if reqFieldBad r then fail 1
      else if g.fence then fail 3
      else
        let s := put { q with step := 12 }
        let ranks := ((tblFind s.kln.role.slices r.tag).map fun x => sliceRanks x.members).getD []
        modRole (writeGroup s ranks r.group 0 g) fun x => { x with groups := tblErase x.groups (groupKey r.tag r.group) })
  else fail 1

/-- R392: a request with operation `op` stands in channel `c`, and this kiln takes it. `hostErr`: a read of LIST fails. -/
def takeRequest (s : State) (op c : Nat) (hostErr : Bool) : State :=
  let r := reqOf s c
  if !(chanBound s c && chanB s c == 0x4000 && chanBusy s c) || r.op != op || !kilnOn s then s
  else
    let es := if op = 2 ∨ op = 4 then some [] else if hostErr then none else some (reqEntries s r)
    if roleHeld s then (if s.kln.role.req.isNone && issuing s then roleGoesOn (reqStart s (some c) r es) else s)
    else if kilnRole s = 2 then
      (if s.kln.passed.isSome then s
       else emitSent (modKln s fun k => { k with passed := some c }) (.mirror (kilnPeer s) 0 (kilnTerm s) (.request r es)))
    else mbxAck s c 0x000B

def execSliceCreate (c : Nat) (hostErr : Bool) (s : State) : Out := .next (takeRequest s 1 c hostErr)
def execSliceDestroy (c : Nat) (s : State) : Out := .next (takeRequest s 2 c false)
def execGroupCreate (c : Nat) (hostErr : Bool) (s : State) : Out := .next (takeRequest s 3 c hostErr)
def execGroupDestroy (c : Nat) (s : State) : Out := .next (takeRequest s 4 c false)
def execSliceRecarve (c : Nat) (hostErr : Bool) (s : State) : Out := .next (takeRequest s 5 c hostErr)

end Sys2Proof.Machine
end

