-- ==== Sys2Proof/Machine/KilnRole.lean ====
section
/-! DEFINITION. Machine/KilnRole.lean: what a kiln takes and does: package IDs, discovery, election and witness, the pair, and the
answers and reports of wicks (spec/12 R365 to R392, R402; spec/10 R327, R328). -/

namespace Sys2Proof.Machine

def nsSince (s : State) (t : W64) : Nat := (s.tb.tb - t).toNat

/-! ### Package IDs (R365 to R367) -/

/-- R367: the package ID is set, and the kiln takes part in the fabric. -/
def takePkg (s : State) (chain pos : Nat) : State :=
  kilnLooks (fput (fput s r_KLN_ENUM f_KLN_ENUM_PKG (chain * 64 + pos)) r_KLN_ENUM f_KLN_ENUM_PKGV 1)
def takePos (s : State) (chain pos : Nat) : State :=
  modKln (fput (fput s r_KLN_ENUM f_KLN_ENUM_POS pos) r_KLN_ENUM f_KLN_ENUM_POSV 1) fun k => { k with enumOut := if pos < 63 then some (chain, pos + 1) else none }
/-- Table 2: PRE and CHECK. -/
def frameOk (f : Nat) : Bool := bits f 23 16 == 0xA5 && bits f 3 0 == bitCount (bits f 15 4) 12 % 16 && decide (f < 2 ^ 24)
/-- ENUM_FRAME_RECEIVE (R365, R366): a frame on ENUM_IN. Two identical ones give the position. -/
def execEnumFrameReceive (f : Nat) (s : State) : Out :=
  let e := rget s r_KLN_ENUM
  if fldGet e f_KLN_ENUM_HEAD = 1 ∨ fldGet e f_KLN_ENUM_POSV = 1 then .next s
  else if !frameOk f then .next (modKln s fun k => { k with enumLast := none })
  else if s.kln.enumLast = some f then
    let c := bits f 15 10
    let p := bits f 9 4
    let s := takePos s c p
    if fldGet e f_KLN_ENUM_CHAINV = 1 ∧ fldGet e f_KLN_ENUM_CHAIN ≠ c then .next (fput s r_KLN_ENUM f_KLN_ENUM_ENUMERR 1)
    else .next (takePkg (fput s r_KLN_ENUM f_KLN_ENUM_CHAIN c) c p)
  else .next (modKln s fun k => { k with enumLast := some f })
/-- ENUM_FRAME_SEND (R365): the module's own frame: the first once it holds a position, then one every 32 µs. -/
def execEnumFrameSend (s : State) : Out :=
  match s.kln.enumOut with
  | some (c, p) =>
    let body := c * 2 ^ 10 + p * 2 ^ 4
    when_ (match s.kln.enumSent with
      | some t => decide (32000 ≤ nsSince s t)
      | none => true) s
      (modKln (emitSent s (.enum (0xA5 * 2 ^ 16 + body + bitCount (body / 16) 12 % 16))) fun k => { k with enumSent := some s.tb.tb })
  | none => .next s
/-- KLN_ENUM_CHAIN_WRITE (R366, R367): a write of KLN_ENUM.CHAIN. -/
def execKlnEnumChainWrite (c : BitVec 6) (s : State) : Out :=
  let e := rget s r_KLN_ENUM
  if fldGet e f_KLN_ENUM_PKGV = 1 then .next s
  else
    let s := fput (fput s r_KLN_ENUM f_KLN_ENUM_CHAIN c.toNat) r_KLN_ENUM f_KLN_ENUM_CHAINV 1
    if fldGet e f_KLN_ENUM_HEAD = 1 then .next (takePkg (takePos s c.toNat 0) c.toNat 0)
    else if fldGet e f_KLN_ENUM_POSV = 1 ∧ (s.kln.enumOut.any fun p => p.1 != c.toNat) then .next (fput s r_KLN_ENUM f_KLN_ENUM_ENUMERR 1)
    else .next s
/-- HEAD_STRAP (R584, R366): ENUM_IN has stood high for 2 ms, before any frame gave a position. -/
def execHeadStrap (s : State) : Out :=
  let e := rget s r_KLN_ENUM
  if fldGet e f_KLN_ENUM_POSV = 1 then .next s
  else
    let s := fput s r_KLN_ENUM f_KLN_ENUM_HEAD 1
    if fldGet e f_KLN_ENUM_CHAINV = 1 then
      .next (takePkg (takePos s (fldGet e f_KLN_ENUM_CHAIN) 0) (fldGet e f_KLN_ENUM_CHAIN) 0) else .next s

/-! ### Hellos and link state (R374 to R376) -/

/-- The kiln sees an active package, and elects no more (R378). -/
def seeAct (s : State) (act term : Nat) (stby : Option Nat) : State :=
  if kilnRole s = 0 ∨ kilnRole s = 4 then
    let s := fput (fput s r_KLN_FMPKG f_KLN_FMPKG_ACT act) r_KLN_FMPKG f_KLN_FMPKG_ACTV 1
    let s := match stby with
      | some p => fput (fput s r_KLN_FMPKG f_KLN_FMPKG_STBY p) r_KLN_FMPKG f_KLN_FMPKG_STBYV 1
      | none => s
    setRole (fput s r_KLN_TERM f_KLN_TERM_TERM term) 4
  else s
/-- M_HELLO_LINK (R374, R375): a LINK hello of SUB 0 reaches the agent of link `l` of wheel `w`, which forwards it to its kiln. -/
def execMHelloLink (w l : Nat) (ws : List Nat) (s : State) : Out :=
  let g (i : Nat) : Nat := ws.getD i 0
  if !(decide (w < 4) && decide (l < 12) && linkLive s w l) || bits (g 0) 7 0 != 0x10 then .next s
  else
    let me := myPkg s
    let h : HelloSt :=
      { pkg := bits (g 0) 19 8, pkgv := bitAt (g 0) 20, wheel := bits (g 0) 22 21, link := bits (g 0) 26 23, serial := g 1,
        twoWay := bitAt (g 2) 12 && bits (g 2) 11 0 == me && bits (g 2) 14 13 == w && bits (g 2) 18 15 == l,
        cand := bitAt (g 3) 0, term := bits (g 3) 45 22, act := if bitAt (g 3) 58 then some (bits (g 3) 57 46) else none }
    let peer := some (h.pkg, h.wheel, h.link)
    let same := (getLink s (linkKey w l)).peer == peer
    let s := modLink s (linkKey w l) fun x => { x with peer := peer }
    let s := modKln s fun k => { k with hello := tblPut k.hello (linkKey w l) h }
    let s := if same then s else sendHello s w l
    if !kilnOn s then .next s
    else .next (kilnLooks (match h.act with
      | some a => if h.pkgv && !linkExcluded s w l then seeAct s a h.term none else s
      | none => s))
/-- HELLO_TIMER (R374). -/
def execHelloTimer (w l : Nat) (s : State) : Out :=
  when_ (decide (w < 4) && decide (l < 12) && decide (1000000 ≤ nsSince s (tblGet (fun _ => (0, 0#64)) s.kln.helloSent (linkKey w l)).2)) s (sendHello s w l)

/-- Sequence numbers of parts compare modulo 2^32. -/
def newer32 (a b : Nat) : Bool := let d := (a + 2 ^ 32 - b % 2 ^ 32) % 2 ^ 32; decide (0 < d) && decide (d < 2 ^ 31)
/-- LSR (R376): a part from the neighbour `spkg`. -/
def execLsr (spkg origin part : Nat) (p : LsrPart) (s : State) : Out :=
  let key := 2 * origin + part
  let old := tblFind s.kln.lsr key
  if !kilnOn s || decide (2 ≤ part) || origin == myPkg s || old.any (fun o => !newer32 p.seq o.seq) then .next s
  else
    let p := { p with heard := s.tb.tb }
    let s := modKln s fun k => { k with lsr := tblPut k.lsr key p }
    let back := s.kln.role.lost.contains origin
    let s := modRole s fun r => { r with lost := r.lost.filter (· != origin) }
    let s := floodPart s origin part (some spkg)
    if back || !(old.any fun o => samePart o p) then .next (let s := noteChange s; if roleHeld s then trigger s else s) else .next s
/-- LSR_REFRESH (R376): every 100 ms. -/
def execLsrRefresh (s : State) : Out :=
  when_ (kilnOn s && decide (100000000 ≤ nsSince s s.kln.flooded)) s (sendOwn (putOwn s))
/-- QUIET (R376). -/
def execQuiet (s : State) : Out :=
  when_ (kilnOn s && decide (2000000 ≤ nsSince s s.kln.changed)) s (fput s r_KLN_STAT f_KLN_STAT_QUIET 1)

/-! ### Election and terms (R378 to R382) -/

/-- R379, R450: TERMREQ to the witness that KLN_PAIR names; one to a tray controller goes out by KMP_TERMREQ. -/
def sendTermreq (s : State) : State :=
  let pr := rget s r_KLN_PAIR
  let t := s.kln.held
  if fldGet pr f_KLN_PAIR_WITK = 1 then
    sendMgt s 16 0x1F (fldGet pr f_KLN_PAIR_WIT) 16 [0x34 * 2 ^ 56, t + myPkg s * 2 ^ 24 + kilnPeer s * 2 ^ 36]
  else if fldGet pr f_KLN_PAIR_WITK = 2 then
    modFlt s fun f => { f with termreq := none }
  else s
def ask (s : State) (a : Ask) : State := sendTermreq (modKln s fun k => { k with ask := some (a, s.tb.tb, s.tb.tb) })

/-- The candidates in the topology: package, PRI and PEER. -/
def candidates (s : State) : List (Nat × Nat × Option Nat) :=
  (packages (topoOf s)).filterMap fun p => match tblFind s.kln.lsr (2 * p) with
    | some x => if x.cand then some (p, x.pri, x.peer) else none
    | none => none
/-- Of several, the one with the highest PRI, the lowest package on a tie. -/
def highest (l : List (Nat × Nat × Option Nat)) : Option Nat :=
  (l.foldl (fun b c => match b with
    | none => some c
    | some x => if x.2.1 < c.2.1 ∨ (x.2.1 = c.2.1 ∧ c.1 < x.1) then some c else some x) none).map (·.1)
/-- TERMREQ (R379): this kiln is the witness. -/
def execTermreq (t requester : Nat) (s : State) : Out :=
  if !kilnOn s then .next s
  else
    let st := s.kln.witTerm
    if t = st ∨ (t = 0 ∧ !s.kln.witGranted) then
      let n := (st + 1) % 2 ^ 24
      .next (sendMgt (modKln s fun k => { k with witTerm := n, witGranted := true }) 16 0x1F requester 16 [0x35 * 2 ^ 56, n])
    else .next (sendMgt s 16 0x1F requester 16 [0x36 * 2 ^ 56, st])

def setFm (s : State) (act : Nat) (stby : Option Nat) : State :=
  let s := fput (fput s r_KLN_FMPKG f_KLN_FMPKG_ACT act) r_KLN_FMPKG f_KLN_FMPKG_ACTV 1
  fput (fput s r_KLN_FMPKG f_KLN_FMPKG_STBY (stby.getD 0)) r_KLN_FMPKG f_KLN_FMPKG_STBYV (b2n stby.isSome)
def setTerm (s : State) (t : Nat) : State := modKln (fput s r_KLN_TERM f_KLN_TERM_TERM t) fun k => { k with held := t, ask := none, stopped := false, beatIn := s.tb.tb }
/-- R381, R384: TERM goes to every lit wick as its next command. -/
def sendTerms (s : State) (stby : Option Nat) : State :=
  each (litKeys s) (fun s k => queueFront s k { ty := 0x1F, op := 3, tail := [myPkg s + stby.getD 0 * 2 ^ 12 + b2n stby.isSome * 2 ^ 24] }) s
/-- A request that entered here through MIRROR goes on here. -/
def ownReq (s : State) : State :=
  modKln (modReq s fun q => { q with ch := s.kln.passed }) fun k => { k with passed := none, mirrors := [] }
/-- The role begins on a fabric without one: every wick is lit, and tables are computed. -/
def beginRole (s : State) (role t : Nat) (stby : Option Nat) : State :=
  let s := setFm (setRole (setTerm s t) role) (myPkg s) stby
  let has := (List.range 4).any fun w => tablesReach s w (myPkg s)
  let s := modRole s fun r => { roleReset with installed := has, epoch := (rget s r_KLN_EPOCH).toNat, lost := r.lost, slices := r.slices, groups := r.groups }
  let s := mirrorPush (modKln s fun k => { k with swapAt := s.tb.tb, mirrors := [] }) none none none
  trigger (each (packages (topoOf s)) lightPkg s)
/-- ELECTION (R378, R596): every kiln computes it; the winner asks its witness. A kiln without a witness takes a term of its own while its
topology holds its own package alone, and otherwise asks for none. -/
def execElection (s : State) : Out :=
  let seen := fbit s r_KLN_FMPKG f_KLN_FMPKG_ACTV || s.kln.hello.any fun h => h.2.act.isSome
  if !kilnOn s || kilnRole s != 0 || !fbit s r_KLN_STAT f_KLN_STAT_QUIET || seen || s.kln.ask.isSome then .next s
  else
    let me := myPkg s
    let cs := candidates s
    let pairs := cs.filter fun c => match c.2.2 with
      | some q => decide (c.1 < q) && cs.any fun e => e.1 == q && e.2.2 == some c.1
      | none => false
    if fget s r_KLN_PAIR f_KLN_PAIR_WITK = 0 then
      (if packages (topoOf s) = [me] then
        when_ (cs.any fun c => c.1 == me) s
          (let n := (s.kln.witTerm + 1) % 2 ^ 24
           beginRole (modKln s fun k => { k with witTerm := n, witGranted := true }) 3 n none)
      else .next (fput s r_KLN_STAT f_KLN_STAT_WITLOST 1))
    else if !pairs.isEmpty then when_ (highest pairs == some me) s (ask s .pair)
    else when_ (highest cs == some me) s (ask s .solo)

/-- A grant, from whichever witness. -/
def grantTerm (s : State) (t : Nat) : State :=
  let s := fput s r_KLN_STAT f_KLN_STAT_WITLOST 0
  match s.kln.ask with
  | none => s
  | some (.pair, _, _) => beginRole s 1 t (some (kilnPeer s))
  | some (.solo, _, _) => beginRole s 3 t none
  | some (.failover, _, _) =>
    let s := setFm (setRole s 3) (myPkg s) none
    let s := ownReq s
    let s := each (litKeys s) (fun s k => each (((getLit s k).map fun x => x.out.map (·.seq)).getD []) (fun s q => sendCmd s k q) s) s
    roleGoesOn (sendTerms (setTerm (fadd s r_KLN_FO_CNT f_KLN_FO_CNT_FO 1) t) none)
  | some (.swap, _, _) =>
    let s := ownReq (setFm (setRole s 1) (myPkg s) (some (kilnPeer s)))
    let s := sendTerms (setTerm (fadd s r_KLN_FO_CNT f_KLN_FO_CNT_SW 1) t) (some (kilnPeer s))
    roleGoesOn (mirrorPush (modKln s fun k => { k with swapAt := s.tb.tb }) none none none)
/-- R384: the standby gives the swap up. -/
def abortSwap (s : State) : State :=
  sendMgt (modKln s fun k => { k with ask := none }) 16 0x1F (kilnPeer s) 16 [kilnTerm s * 2 ^ 32 + 0x39 * 2 ^ 56]
def denyTerm (s : State) : State :=
  let s := fput s r_KLN_STAT f_KLN_STAT_WITLOST 0
  match s.kln.ask with
  | none => s
  | some (.swap, _, _) => abortSwap s
  | some _ => setRole (modKln s fun k => { k with ask := none, stopped := false, mirrors := [] }) 4
/-- Is `spkg` the module that is the witness? -/
def fromWitness (s : State) (spkg : Nat) : Bool :=
  kilnOn s && fget s r_KLN_PAIR f_KLN_PAIR_WITK == 1 && fget s r_KLN_PAIR f_KLN_PAIR_WIT == spkg
/-- GRANT (R381). -/
def execGrant (spkg term : Nat) (s : State) : Out := when_ (fromWitness s spkg) s (grantTerm s term)
/-- DENY (R381). -/
def execDeny (spkg : Nat) (s : State) : Out := when_ (fromWitness s spkg) s (denyTerm s)
/-- WITNESS_RETRY (R382): no witness has answered for 1 ms. -/
def execWitnessRetry (s : State) : Out :=
  match s.kln.ask with
  | some (a, t0, t1) =>
    when_ (kilnOn s && decide (1000000 ≤ nsSince s t1)) s
      (sendTermreq (modKln (fput s r_KLN_STAT f_KLN_STAT_WITLOST 1) fun k => { k with ask := some (a, t0, s.tb.tb) }))
  | none => .next s

/-! ### The pair (R380, R381, R383, R384) -/

def isPair (s : State) : Bool := kilnRole s == 1 || kilnRole s == 2
def beatHeard (s : State) : State := fput (modKln s fun k => { k with beatIn := s.tb.tb }) r_KLN_STAT f_KLN_STAT_PEERLOST 0
/-- BEAT (R381): one is received from the partner, or, every 100 µs, one is sent. -/
def execBeat (recv : Bool) (spkg : Nat) (s : State) : Out :=
  if recv then when_ (kilnOn s && isPair s && spkg == kilnPeer s) s (beatHeard s)
  else when_ (kilnOn s && isPair s && decide (100000 ≤ nsSince s s.kln.beatOut)) s
    (sendMgt (modKln s fun k => { k with beatOut := s.tb.tb }) 16 0x1F (kilnPeer s) 16 [kilnTerm s * 2 ^ 32 + 0x31 * 2 ^ 56])
/-- BEAT_TIMEOUT (R381 Table 6, step 1). -/
def execBeatTimeout (s : State) : Out :=
  when_ (kilnOn s && isPair s && s.kln.ask.isNone && decide (fget s r_KLN_TIMING f_KLN_TIMING_FMTMO * 1000000 ≤ nsSince s s.kln.beatIn)) s
    (ask (fput (modKln s fun k => { k with stopped := true }) r_KLN_STAT f_KLN_STAT_PEERLOST 1) .failover)
/-- R371: terms compare modulo 2^24. -/
def newerTerm (a b : Nat) : Bool := let d := (a + 2 ^ 24 - b % 2 ^ 24) % 2 ^ 24; decide (1 ≤ d) && decide (d < 2 ^ 23)
/-- MIRROR (R380, R384, R392): the standby takes the role's state and sends its copy of the command; the first MIRROR of a newer term
makes a former active kiln, or the other member of an elected pair, the standby. The active kiln takes a request from its standby. -/
def execMirror (spkg num term : Nat) (m : MirrorIn) (s : State) : Out :=
  if !kilnOn s || spkg != kilnPeer s || !fbit s r_KLN_PAIR f_KLN_PAIR_PEERV then .next s
  else match m with
    | .request r es => when_ (kilnRole s == 1 && s.kln.role.req.isNone) s (roleGoesOn (reqStart (beatHeard s) none r es))
    | .state st cmd done =>
      let older := newerTerm (kilnTerm s) term
      if older || (roleHeld s && !(newerTerm term (kilnTerm s))) then .next s
      else
        let s := setFm (setRole (beatHeard s) 2) spkg (some (myPkg s))
        let s := modKln (fput s r_KLN_TERM f_KLN_TERM_TERM term) fun k => { k with held := term, taken := num, role := st, stopped := false, mirrors := [] }
        let s := match cmd with
          | some (k, q) => sendCmd s k q
          | none => s
        let s := match done, s.kln.passed with
          | some (code, bs), some c =>
            let s := if code = 0 then hostWrite s (reqOf s c).result (bs.map fun b => BitVec.ofNat 8 b) else s
            modKln (mbxAck s c code) fun k => { k with passed := none }
          | _, _ => s
        .next (sendMgt s 16 0x1F spkg 16 [term * 2 ^ 32 + 0x33 * 2 ^ 56, num])
/-- MACK (R380): every MIRROR up to `num` is taken, and what it held is released. -/
def execMack (spkg num : Nat) (s : State) : Out :=
  if kilnOn s && kilnRole s == 1 && spkg == kilnPeer s && s.kln.mirrors.any (fun m => m.num == num && m.sent) then
    let n := ((s.kln.mirrors.findIdx? fun m => m.num == num).getD 0) + 1
    let freed := s.kln.mirrors.take n
    let s := modKln (beatHeard s) fun k => { k with mirrors := k.mirrors.drop n }
    .next (roleGoesOn (mirrorPump (each freed releaseMirror s)))
  else .next s
/-- SYNC (R383): without a copy, the SOLO kiln sends its state to its partner, which is reachable and holds no role; with one, this
kiln takes the copy of its partner and becomes STANDBY. -/
def execSync (copy : Option (Nat × RoleSt)) (s : State) : Out :=
  match copy with
  | none =>
    when_ (kilnOn s && kilnRole s == 3 && fbit s r_KLN_PAIR f_KLN_PAIR_PEERV && inTopo (topoOf s) (kilnPeer s)) s
      (let s := beatHeard (setFm (setRole s 1) (myPkg s) (some (kilnPeer s)))
       emitSent (modKln s fun k => { k with mirrors := [] }) (.sync (kilnPeer s) (kilnTerm s) s.kln.role))
  | some (term, r) =>
    when_ (kilnOn s && fbit s r_KLN_PAIR f_KLN_PAIR_PEERV && (kilnRole s == 0 || kilnRole s == 4)) s
      (let s := setFm (setRole (beatHeard s) 2) (kilnPeer s) (some (myPkg s))
       modKln (fput s r_KLN_TERM f_KLN_TERM_TERM term) fun k => { k with held := term, role := r, ask := none, stopped := false, mirrors := [] })

/-- R384: the active kiln offers the role, or defers. -/
def offerSwap (s : State) : State :=
  let free := kilnRole s == 1 && s.kln.role.change.isNone && s.kln.role.req.isNone && !s.kln.stopped
  let s := modKln s fun k => { k with swapAt := s.tb.tb, deferAt := s.tb.tb }
  if free then
    sendMgt (fput (modKln s fun k => { k with stopped := true }) r_KLN_STAT f_KLN_STAT_SWAPDEF 0) 16 0x1F (kilnPeer s) 16 [kilnTerm s * 2 ^ 32 + 0x37 * 2 ^ 56]
  else fput s r_KLN_STAT f_KLN_STAT_SWAPDEF 1
/-- SWAP_TIMER (R384). -/
def execSwapTimer (s : State) : Out :=
  when_ (kilnOn s && roleHeld s && s.kln.ask.isNone && decide (fget s r_KLN_TIMING f_KLN_TIMING_SWAP * 60000000000 ≤ nsSince s s.kln.swapAt)) s (offerSwap s)
/-- SWAPNOW (R384, R403): a write of KLN_CTL.SWAPNOW; discarded at a kiln without the role. -/
def execSwapnow (s : State) : Out := when_ (kilnOn s && roleHeld s && s.kln.ask.isNone) s (offerSwap s)
/-- SWAP_DEFER_RETRY (R384): every 1 s while SWAPDEF is set. -/
def execSwapDeferRetry (s : State) : Out :=
  when_ (kilnOn s && roleHeld s && s.kln.ask.isNone && fbit s r_KLN_STAT f_KLN_STAT_SWAPDEF && decide (1000000000 ≤ nsSince s s.kln.deferAt)) s (offerSwap s)
/-- HANDOVER (R384): the standby asks its witness. -/
def execHandover (spkg : Nat) (s : State) : Out :=
  when_ (kilnOn s && kilnRole s == 2 && spkg == kilnPeer s && s.kln.ask.isNone) s (ask (beatHeard s) .swap)
/-- HANDOVER_TIMEOUT (R384): no answer within 10 ms. -/
def execHandoverTimeout (s : State) : Out :=
  match s.kln.ask with
  | some (.swap, t0, _) => when_ (kilnOn s && decide (10000000 ≤ nsSince s t0)) s (abortSwap s)
  | _ => .next s
/-- ABORT (R384): the former active kiln resumes under its term. -/
def execAbort (spkg : Nat) (s : State) : Out :=
  when_ (kilnOn s && kilnRole s == 1 && spkg == kilnPeer s && s.kln.stopped && s.kln.ask.isNone) s
    (roleGoesOn (modKln s fun k => { k with stopped := false }))

/-! ### Commands, answers, reports (R371, R373, R387, R388, R398, R399, R402) -/

/-- COMMAND_RESEND (R373). -/
def execCommandResend (pkg ep seq : Nat) (s : State) : Out :=
  let k := wickKey pkg ep
  match ((getLit s k).bind fun x => x.out.find? fun c => c.seq == seq).bind (·.sent) with
  | some t => when_ (issuing s && decide (500000 ≤ nsSince s t)) s (sendCmd s k seq)
  | none => .next s
/-- WICK_TIMEOUT (R373, R328): a wick has answered none of its commands for 10 ms. -/
def execWickTimeout (pkg ep : Nat) (s : State) : Out :=
  let k := wickKey pkg ep
  when_ (issuing s && (getLit s k).any fun x => x.lit && (x.out.any fun c => c.sent.isSome) && decide (10000000 ≤ nsSince s x.heard)) s
    (roleGoesOn (mirrorPush (takeDown s k) none none none))
/-- R373: every link of a package is down, or its link state is stale. -/
def packageGone (s : State) (pkg : Nat) : Bool :=
  let t := topoOf s
  let stale := [0, 1].any fun i => (tblFind s.kln.lsr (2 * pkg + i)).any fun p => decide (350000000 ≤ nsSince s p.heard)
  inTopo t pkg && pkg != myPkg s && (stale || !((packages t).any fun p => p != pkg && allLinks.any fun x => linkTo t p x.1 x.2 == some pkg))
/-- PACKAGE_LOST (R373, R385). -/
def execPackageLost (pkg : Nat) (s : State) : Out :=
  when_ (issuing s && packageGone s pkg) s
    (let s := modRole s fun r => { r with lost := r.lost ++ [pkg] }
     let s := each ((s.kln.role.lit.map Prod.fst).filter fun k => k / 32 == pkg) takeDown s
     roleGoesOn (mirrorPush (trigger (syncTopo s)) none none none))

/-- LIT (R398): a wick answers LIGHT. -/
def execLit (pkg ep kind serial term fw : Nat) (s : State) : Out :=
  let k := wickKey pkg ep
  if issuing s && (getLit s k).isSome && term == kilnTerm s then
    let s := modLit s k fun x => { x with lit := true, kind := kind, serial := serial, fw := fw, heard := s.tb.tb }
    let s := if kind = 1 ∨ kind = 3 then trigger s else s
    .next (roleGoesOn (mirrorPush s none none none))
  else .next s

/-- R402: may an endpoint with these capacities take part? -/
def joinOk (j : JoinSt) : Bool :=
  decide (64 ≤ j.ctxs) && decide (16 ≤ j.fwdCtxs) && decide (j.fwdCtxs + 16 ≤ j.ctxs) && decide (65536 ≤ j.fwdBytes) && decide (65536 ≤ j.rsp)
  && decide (32 ≤ j.intake) && (j.col == 0 || decide (8 ≤ j.col))
/-- The role gives the endpoint the lowest free number and lights it. -/
def joinTp (s : State) (pkg l : Nat) (j : JoinSt) : State :=
  if !joinOk j || s.kln.role.tps.any fun p => p.1 / 32 == pkg && p.2.link == l then s
  else match (List.range 11).map (21 + ·) |>.find? fun e => (tblFind s.kln.role.tps (wickKey pkg e)).isNone with
    | none => s
    | some e =>
      let k := wickKey pkg e
      sendLight (modRole s fun r => { r with tps := tblPut r.tps k { link := l, serial := j.serial, col := j.col }, lit := tblPut r.lit k litReset }) k
/-- Have all four attach links of link number `l` joined with one serial? -/
def joinedAll (s : State) (l : Nat) : Bool :=
  match tblFind s.kln.joins (linkKey 0 l) with
  | some j => (List.range 4).all fun w => linkLive s w l && (tblFind s.kln.joins (linkKey w l)).any fun x => x.serial == j.serial
  | none => false
/-- JOIN (R374, R402): a third-party endpoint on attach link `l` of wheel `w` of package `pkg`. The host package's kiln takes it, and
passes it to the role when the endpoint has joined on all four wheels. -/
def execJoin (pkg w l : Nat) (j : JoinSt) (s : State) : Out :=
  if !kilnOn s then .next s
  else if pkg = myPkg s then
    if 4 ≤ w ∨ 12 ≤ l ∨ !linkLive s w l then .next s
    else
      let s := modKln s fun k => { k with joins := tblPut k.joins (linkKey w l) j }
      if !joinedAll s l then .next s
      else if issuing s then .next (joinTp s pkg l j)
      else if fbit s r_KLN_FMPKG f_KLN_FMPKG_ACTV then
        .next (sendMgt s 16 0x18 (fget s r_KLN_FMPKG f_KLN_FMPKG_ACT) 16
          [3 + 1 * 16, j.serial, j.ctxs + j.fwdCtxs * 2 ^ 16 + j.bytes * 2 ^ 32, j.rsp + j.intake * 2 ^ 32 + j.col * 2 ^ 48, j.fwdBytes])
      else .next s
  else when_ (issuing s && inTopo (topoOf s) pkg) s (joinTp s pkg l j)

/-- The effect of an answer to a command. -/
def answered (s : State) (key : Nat) (c : RoleCmd) (ws : List Nat) : State :=
  let w1 := ws.getD 1 0
  let status := bits w1 7 0
  let op := bits (c.words.headD 0) 63 56
  if c.ty = 0x19 then
    (if bitAt (c.words.getD 1 0) 18 then (if status = 0 then modChange s fun x => { x with wait := x.wait.filter (· != key) } else badBank s key) else s)
  else if c.ty = 0x1A then modChange s fun x => { x with wait := x.wait.filter (· != key), lastAck := s.tb.tb }
  else if op = 6 ∨ op = 7 ∨ op = 8 ∨ op = 9 then
    modReq s fun q => { q with
      wait := q.wait.erase key
      fail := if op = 8 ∧ status ≠ 0 then some 6 else if op = 9 ∧ status ≠ 0 ∧ q.step = 10 then some 0x0C else q.fail
      members := if op = 8 ∧ status = 0 then
          q.members.map fun m => if !m.tp && ctlKey m.pkg == key then { m with sag := bits (ws.getD 2 0) 7 0, mask := bits (ws.getD 3 0) 15 0 } else m
        else q.members }
  else if op = 4 then takeDown s key
  else s
/-- RSP (R399): the answer of a wick; its FMSEQ names the command. -/
def execRsp (pkg ep : Nat) (ws : List Nat) (s : State) : Out :=
  let k := wickKey pkg ep
  let q := bits (ws.headD 0) 31 0
  match (getLit s k).bind fun x => x.out.find? fun c => c.seq == q with
  | some c =>
    if roleHeld s && kilnOn s && c.sent.isSome then
      let s := modLit s k fun x => { x with out := x.out.filter (fun c => c.seq != q), heard := s.tb.tb }
      .next (roleGoesOn (mirrorPush (answered s k c ws) none none none))
    else .next s
  | none => .next s

/-- R385: a link lost four times within 1 s stays out of service for 10 s. -/
def noteLoss (s : State) (idx : Nat) : State :=
  let l := ((tblGet (fun _ => []) s.kln.role.losses idx).filter fun t => decide (nsSince s t < 1000000000)) ++ [s.tb.tb]
  let s := modRole s fun r => { r with losses := tblPut r.losses idx l }
  if 4 ≤ l.length then modRole s fun r => { r with out := tblPut r.out idx s.tb.tb } else s
def keptOut (s : State) (idx : Nat) : Bool := (tblFind s.kln.role.out idx).any fun t => decide (nsSince s t < 10000000000)
/-- The effect of a report of kind 1 LINKDOWN, 2 LINKUP, 3 DRAINED or 4 ATTACHDOWN. -/
def reported (s : State) (key kind w l : Nat) : State :=
  let idx := linkIdx (key / 32) w l
  if kind = 1 then (let was := keptOut s idx; let s := noteLoss s idx; if was then s else trigger s)
  else if kind = 2 then (if keptOut s idx then s else trigger s)
  else if kind = 3 then modChange s fun x => { x with drain := x.drain.filter (· != key) }
  else match s.kln.role.tps.find? fun p => p.1 / 32 == key / 32 && p.2.link == l with
    | some p => trigger (takeDown s p.1)
    | none => s
/-- REPORT (R399, R373): at most two of a wick's reports are unacknowledged; one is sent again after 500 µs. -/
def execReport (e : ReportEv) (s : State) : Out :=
  match e with
  | .send num =>
    (match s.fab.reports.find? fun r => r.num == num with
    | none => .next s
    | some r =>
      let mine := s.fab.reports.filter fun x => x.ep == r.ep
      let may := match r.sent with
        | some t => decide (500000 ≤ nsSince s t)
        | none => decide ((mine.filter fun x => x.sent.isSome).length < 2) && (mine.find? fun x => x.sent.isNone) == some r
      when_ (may && (getWick s r.ep).lit) s
        (let s := modFab s fun f => { f with reports := f.reports.map fun x => if x.num = num then { x with sent := some s.tb.tb } else x }
         sendMgt s r.ep 0x1F (getWick s r.ep).act 16 [num + (getWick s r.ep).term * 2 ^ 32 + 0x20 * 2 ^ 56, r.kind, r.wheel + r.link * 4 + r.err * 2 ^ 6]))
  | .take pkg ep num kind w l =>
    let k := wickKey pkg ep
    if !(roleHeld s && kilnOn s && (getLit s k).any (·.lit)) then .next s
    else if tblFind s.kln.role.reps k = some num then .next (sendRack s k num)
    else
      let s := reported (modRole s fun r => { r with reps := tblPut r.reps k num }) k kind w l
      .next (roleGoesOn (mirrorPush s none (some (k, num)) none))
/-- RACK (R399): the kiln has taken report `num` of wick `ep` of this module. -/
def execRack (ep num : Nat) (s : State) : Out :=
  .next (modFab s fun f => { f with reports := f.reports.filter fun r => !(r.ep == ep && r.num == num) })

/-! ### Tables (R385 to R391, R327) -/

/-- RECOMP (R385, R403): a write of KLN_CTL.RECOMP. -/
def execRecomp (s : State) : Out := when_ (roleHeld s && kilnOn s) s (trigger s)

/-- R391: TPARENT to every module: the neighbour one hop nearer the master, over the lowest live link. -/
def sendParents (s : State) (f : Fabric) (master : Nat) : State :=
  let h := hopsTo f.topo none master
  each (packages f.topo) (fun s p =>
    match tblFind h p with
    | none => s
    | some n =>
      let up := (List.range 6).findSome? fun d =>
        if (anyNext f.topo p d).any fun q => tblFind h q == some (n - 1) then
          (List.range 4).findSome? fun w => (dirPair d).findSome? fun l => if (linkTo f.topo p w l).any fun q => tblFind h q == some (n - 1) then some (w, l) else none
        else none
      let x := if n = 0 then (0, 0) else up.getD (0, 0)
      queueCmd s (ctlKey p) { ty := 0x1F, op := 0x0A, tail := [x.1 + x.2 * 4 + b2n (n == 0) * 2 ^ 6 + n * 2 ^ 8 + master * 2 ^ 16] }) s
/-- R390: slices of which two packages cannot reach each other by the new tables are snuffed and BROKEN. -/
def breakUnreached (s : State) (f : Fabric) : State :=
  each s.kln.role.slices (fun s (p : Nat × SliceRec) =>
    if allReach f (p.2.members.map (·.pkg)) then s
    else
      let n := s.rst.snuffNo
      let s := each ((p.2.members.map (·.pkg)).filter (· != myPkg s)) (fun s k => sendMgt s 16 0x1B k 16 [p.1 + myPkg s * 2 ^ 16 + n * 2 ^ 32, 9]) s
      let s := modRst (addBroken s p.1) fun r => { r with snuffNo := (n + 1) % 2 ^ 32 }
      if (sgOfSlice s p.1).isSome && !settling s p.1 then snuffApply s p.1 9 else s) s
/-- R385 to R389: the RCE computes every bank, in `us` microseconds, and the role begins to write them. `pps` lists the modules with a
valid 1PPS input (R53). -/
def recomputeNow (s : State) (us : Nat) (pps : List Nat) : State :=
  let s := modRole s fun r => { r with trig := none, out := r.out.filter fun p => decide (nsSince s p.2 < 10000000000) }
  let s := fput (fadd s r_KLN_RC_CNT f_KLN_RC_CNT_CNT 1) r_KLN_RC_TIME f_KLN_RC_TIME_RCUS (min 65535 us)
  let f := fabricOf s
  let s := syncTopo (modRole s fun r => { r with barred := f.barred })
  let s := each (packages f.topo) lightPkg s
  let s := breakUnreached s f
  let n := if s.kln.role.installed then (s.kln.role.epoch + 1) % 2 ^ 32 else 0
  let wheels := (litKeys s).filter fun k => isWheelAgent k && inTopo f.topo (k / 32)
  let s := each wheels (fun s k =>
    let bk := bankKey (k / 32) (k % 32 - 17) (n % 2)
    let new := bankFor f (k % 32 - 17) (k / 32)
    let all := s.kln.role.installed && (tblFind s.kln.role.banks bk).isNone
    let s := each (bankCmds (tblGet (fun _ => []) s.kln.role.banks bk) new (n % 2) all) (fun s b => queueCmd s k b) s
    modRole s fun r => { r with banks := tblPut r.banks bk new }) s
  let c : ChangeSt := { step := 1, epoch := n, wait := wheels, drain := [], lastAck := s.tb.tb, began := s.tb.tb, again := [], skip := [] }
  let s := modRole s fun r => { r with change := some c }
  roleGoesOn (mirrorPush (sendParents s f (pps.foldl (fun m p => match m with
    | some x => some (min x p)
    | none => some p) none |>.getD (myPkg s))) none none none)
/-- RECOMPUTE (R385, R386, R387): the hold is over and no change is in progress. -/
def execRecompute (us : Nat) (pps : List Nat) (s : State) : Out :=
  match s.kln.role.trig with
  | none => .next s
  | some t =>
    when_ (issuing s && s.kln.role.change.isNone && decide (fget s r_KLN_TIMING f_KLN_TIMING_RCHOLD * 100000 ≤ nsSince s t)) s (recomputeNow s us pps)

/-- A wheel agent sets its DRAINING bank RETIRED. -/
def retireBank (s : State) (w : Nat) : State :=
  let s := if bankState s w 0 = 3 then fput s (r_FAB_RT_STAT w) f_FAB_RT_STAT_B0ST 0 else s
  let s := if bankState s w 1 = 3 then fput s (r_FAB_RT_STAT w) f_FAB_RT_STAT_B1ST 0 else s
  fput s (r_FAB_RT_STAT w) f_FAB_RT_STAT_DRAINED 0
/-- EPOCH_RETIRE (R327, step 7): the role ends the change: every acknowledgement and report is in, and 4,100 µs have passed; or the
wheel agents of this module are told so by a role on another. -/
def execEpochRetire (told : Bool) (s : State) : Out :=
  if told then when_ (!roleHeld s) s (each (List.range 4) retireBank s)
  else
    match s.kln.role.change with
    | some c =>
      if issuing s && c.step == 6 && c.drain.isEmpty && decide (4100000 ≤ nsSince s c.lastAck) then
        let s := each ((litKeys s).filter isWheelAgent) (fun s k =>
          if k / 32 = myPkg s then retireBank s (k % 32 - 17) else emitSent s (.retire (k / 32) (k % 32 - 17))) s
        .next (roleGoesOn (mirrorPush (modRole s fun r => { r with change := none, epoch := c.epoch }) none none none))
      else .next s
    | none => .next s

end Sys2Proof.Machine
end

