-- ==== Sys2Proof/Machine/KilnWick.lean ====
section
/-! DEFINITION. Machine/KilnWick.lean: what the wicks of this module do: LIGHT, TERM, DOWN, M_ROUTE, M_EPOCH, DRAINED, MLIST, GRPW,
SPMRD, TPARENT (spec/12 R371, R387 to R399; spec/10 R325 to R327; spec/11 R346). Endpoints: compute wicks 0 to 15, CTL wick 16, wheel
agents 17 to 20. -/

namespace Sys2Proof.Machine

/-! ### Taking a command (R371) -/

/-- Word 0 and word 1 of RSP, and what follows. -/
def rspWords (seq term op status : Nat) (extra : List Nat) : List Nat := [fmWord seq term 0x10, status + op * 2 ^ 8] ++ extra
/-- The wick answers and keeps the answer. -/
def wickAnswer (s : State) (ep seq term op status : Nat) (extra : List Nat) : State :=
  let ws := rspWords seq term op status extra
  let s := modWick s ep fun w => { w with cache := ((seq, ws) :: w.cache).take 8, busy := none }
  sendMgt s ep 0x1F (getWick s ep).act 16 ws
/-- A command for wick `ep`: performed at its turn, with the status and words of its answer; `none` answers later. Commands of an older
term are discarded, and of a newer one all but TERM; one that has been performed is answered from the cache. A command ahead of its
turn waits in the intake. -/
def wickCommand (ep seq term op : Nat) (act : State → State × Option (Nat × List Nat)) (s : State) : Out :=
  let w := getWick s ep
  if 21 ≤ ep ∨ !w.lit ∨ newerTerm w.term term then .next s
  else if seq = w.expect then
    if (newerTerm term w.term && op != 3) || w.busy.isSome then .next s
    else
      let r := act (modWick s ep fun w => { w with expect := (seq + 1) % 2 ^ 32, busy := some (seq, term, op) })
      match r.2 with
      | some (status, extra) => .next (wickAnswer r.1 ep seq term op status extra)
      | none => .next r.1
  else match w.cache.find? fun c => c.1 == seq with
    | some c => .next (sendMgt s ep 0x1F w.act 16 c.2)
    | none => .next s
def okAnswer (s : State) : State × Option (Nat × List Nat) := (s, some (0, []))
def badAnswer (s : State) (status : Nat) : State × Option (Nat × List Nat) := (s, some (status, []))

/-! ### Lighting (R398, R32, R326) -/

/-- The current epoch of every source of a wick's die. -/
def setEpoch (s : State) (ep n : Nat) : State :=
  if ep < 16 then modNi s ep fun x => { x with epoch := BitVec.ofNat 32 n }
  else if ep = 16 then rput s r_KLN_EPOCH (BitVec.ofNat 32 n)
  else modWheel s (ep - 17) fun x => { x with epoch := BitVec.ofNat 32 n }
def wickKind (ep : Nat) : Nat := if ep < 16 then 0 else if ep = 16 then 2 else if ep ≤ 20 then 1 else 3
/-- R310, R402: the attach links of the third-party endpoint that has joined on them. -/
def bindAttach (s : State) (ep : Nat) : State :=
  match (List.range 12).find? fun l => joinedAll s l && (getLink s (linkKey 0 l)).attach.isNone with
  | some l => kilnLooks (each (List.range 4) (fun s w => modLink s (linkKey w l) fun x => { x with attach := some ep }) s)
  | none => s
/-- LIGHT (R398): from the role `act`; a lit wick performs one of a newer term only. -/
def execLight (pkg ep first term act : Nat) (stby : Option Nat) (period epoch : Nat) (s : State) : Out :=
  let w := getWick s ep
  if !fbit s r_KLN_ENUM f_KLN_ENUM_PKGV || pkg != myPkg s || decide (32 ≤ ep) then .next s
  else if 21 ≤ ep then .next (bindAttach (beginWatch s ep) ep)
  else if w.lit && !newerTerm term w.term then .next s
  else
    let s := modWick s ep fun w => { w with lit := true, term := term, act := act, stby := stby, period := period, expect := first, cache := [], busy := none,
                                            lastPilot := s.tb.tb }
    let s := beginWatch (setEpoch s ep epoch) ep
    let s := if ep < 16 then modNi s ep fun x => { x with stopped := false } else s
    let s := if ep = 16 then seeAct s act term stby else s
    .next (sendMgt s ep 0x18 act 16 [2 + 1 * 16 + pkg * 2 ^ 8 + ep * 2 ^ 20 + wickKind ep * 2 ^ 25, moduleSerial s, term, Config.bundleVersion s.lnt.running])
/-- TERM (R371, R381): the wick adopts the term and the pair; its unacknowledged reports go out again. -/
def execTerm (ep seq term act : Nat) (stby : Option Nat) (s : State) : Out :=
  wickCommand ep seq term 3 (fun s =>
    let s := modWick s ep fun w => { w with term := term, act := act, stby := stby }
    let s := if ep = 16 then seeAct s act term stby else s
    okAnswer (modFab s fun f => { f with reports := f.reports.map fun r => if r.ep = ep then { r with sent := none } else r })) s
/-- DOWN (R398, R328): the wick is unlit, and every source of its die stops. -/
def execDown (ep seq term : Nat) (s : State) : Out :=
  wickCommand ep seq term 4 (fun s =>
    let s := if ep < 16 then modNi s ep fun x => { x with stopped := true } else s
    okAnswer (modWick s ep fun w => { w with lit := false })) s

/-! ### Tables (R325, R327, R387) -/

def setBank (s : State) (w b st : Nat) : State := fput s (r_FAB_RT_STAT w) (if b = 0 then f_FAB_RT_STAT_B0ST else f_FAB_RT_STAT_B1ST) st
def wheelBank (s : State) (w b : Nat) : Tbl (BitVec 16) := if b = 0 then (getWheel s w).bank0 else (getWheel s w).bank1
/-- Entry j of the words of an M_ROUTE: `ws` holds words 1 to 7. -/
def routeArg (ws : List Nat) (j : Nat) : BitVec 16 := BitVec.ofNat 16 (ws.getD (1 + j / 4) 0 / 2 ^ (16 * (j % 4)))
/-- R387: the local check of one entry. -/
def entryOk (s : State) (w pkg : Nat) (e : BitVec 16) : Bool :=
  let mins := (List.range 6).filter fun d => e.getLsbD (2 + d)
  let linked (d : Nat) : Bool := (dirLinks d).any fun l => (getLink s (linkKey w l)).attach.isNone && linkLive s w l
  bits e.toNat 15 12 == 0 && decide (bits e.toNat 10 8 ≤ 5)
  && (if e.getLsbD 1 then pkg == myPkg s && e == 3#16
      else pkg != myPkg s && (if e.getLsbD 0 then !mins.isEmpty && mins.all linked && linked (bits e.toNat 10 8) else e == 0#16))
/-- The checks at LAST. -/
def bankGood (s : State) (w b crc : Nat) : Bool :=
  let t := wheelBank s w b
  crc == (crc32cAdd 0#32 ((List.range 4096).flatMap fun i => leBytes 2 (tblGet (fun _ => 0#16) t i).toNat)).toNat
  && (List.range 4096).all fun i => entryOk s w i (tblGet (fun _ => 0#16) t i)
/-- M_ROUTE (R387, R325) at the agent of wheel `w`; `ws` holds words 1 to 7. -/
def execMRoute (w seq term : Nat) (ws : List Nat) (s : State) : Out :=
  if 4 ≤ w then .next s
  else
    wickCommand (17 + w) seq term 0 (fun s =>
      let h := ws.headD 0
      let first := bits h 11 0
      let count := bits h 16 12
      let b := bits h 17 17
      let last := bitAt h 18
      if count = 0 ∨ 24 < count ∨ 4096 < first + count ∨ bits h 31 19 ≠ 0 ∨ (!last ∧ bits h 63 32 ≠ 0) then badAnswer s 3
      else if 2 ≤ bankState s w b then badAnswer s 4
      else
        let put (t : Tbl (BitVec 16)) : Tbl (BitVec 16) := (List.range count).foldl (fun t j => tblSet (fun _ => 0#16) t (first + j) (routeArg ws j)) t
        let s := modWheel (setBank s w b 0) w fun x => if b = 0 then { x with bank0 := put x.bank0 } else { x with bank1 := put x.bank1 }
        if !last then okAnswer s
        else if bankGood s w b (bits h 63 32) then okAnswer (setBank s w b 1)
        else badAnswer (raiseSrc s (srcWheel w 10)) 2) s
/-- M_EPOCH (R327, R388, R389): wick `ep` takes epoch `n`. A wheel agent sets the new bank CURRENT and the old one DRAINING. -/
def execMEpoch (ep seq term n : Nat) (s : State) : Out :=
  wickCommand ep seq term 0 (fun s =>
    if 17 ≤ ep then
      let w := ep - 17
      let b := n % 2
      if bankState s w b != 1 then badAnswer s 2
      else
        let s := if bankState s w (1 - b) = 2 then setBank s w (1 - b) 3 else s
        let s := fput (fput (setBank s w b 2) (r_FAB_RT_STAT w) f_FAB_RT_STAT_CUR b) (r_FAB_RT_STAT w) f_FAB_RT_STAT_DRAINED 0
        okAnswer (setEpoch (rput s (r_FAB_RT_EPOCH w) (BitVec.ofNat 32 n)) ep n)
    else okAnswer (setEpoch s ep n)) s
/-- FAB_RT_OLD: cells held in wheel `w` that carry the epoch of its DRAINING bank. -/
def oldCells (s : State) (w : Nat) : Nat :=
  let b := if bankState s w 0 = 3 then false else true
  if bankState s w 0 = 3 ∨ bankState s w 1 = 3 then
    ((List.range 33).flatMap fun p => wheelIn s w p).countP fun c => c.cell.epoch == b
  else 0
/-- DRAINED (R327, step 6): wheel `w` holds no cell of the old epoch, and reports so once. -/
def execDrained (w : Nat) (s : State) : Out :=
  when_ (decide (w < 4) && (bankState s w 0 == 3 || bankState s w 1 == 3) && !fbit s (r_FAB_RT_STAT w) f_FAB_RT_STAT_DRAINED && oldCells s w == 0) s
    (addReport (fput s (r_FAB_RT_STAT w) f_FAB_RT_STAT_DRAINED 1) (17 + w) 3 w 0 0)

/-! ### Slices and groups (R393, R394, R396, R346) -/

/-- Is a 32-bit member of MLIST well formed? -/
def memWordOk (m : Nat) : Bool := bits m 15 13 == 0 && (!bitAt m 12 || bits m 31 21 == 0)
/-- MLIST (R393, R394): the CTL wick takes members; on LAST it writes the rank table. `ws` holds words 1 to 7. -/
def execMlist (seq term : Nat) (ws : List Nat) (s : State) : Out :=
  wickCommand 16 seq term 6 (fun s =>
    let h := ws.headD 0
    let slice := bits h 9 0
    let first := bits h 21 10
    let count := bits h 25 22
    let mem (j : Nat) : Nat := ws.getD (1 + j / 2) 0 / 2 ^ (32 * (j % 2)) % 2 ^ 32
    if count = 0 ∨ 12 < count ∨ bits h 63 28 ≠ 0 ∨ !((List.range count).all fun j => memWordOk (mem j)) then badAnswer s 3
    else
      let old := if bitAt h 27 then [] else tblGet (fun _ => []) s.kln.mlist slice
      let new := (List.range count).foldl (fun t j => tblPut t (first + j) (mem j)) old
      let s := modKln s fun k => { k with mlist := tblPut k.mlist slice new }
      if bitAt h 26 then
        okAnswer (modFab s fun f => { f with ranks := tblPut f.ranks slice (((rankEntries (new.map Prod.snd)).take 65536).zipIdx.map fun p => (p.2, p.1)) })
      else okAnswer s) s

/-- A local member of GRPW: index, rank, logical core. -/
def grpwMember (s : State) (slice m : Nat) : Option Member :=
  if bitAt m 63 then
    match tblFind (tblGet (fun _ => []) s.fab.ranks slice) (bits m 40 17) with
    | some e => if e.getLsbD 31 && bits e.toNat 11 0 == myPkg s then
        some { index := bits m 16 0, rank := bits m 40 17, lcore := bits m 52 41, ep := bits e.toNat 16 12 } else none
    | none => none
  else none
/-- GRPW (R396, R346): a wheel agent or compute wick writes a group entry; members are added by their index. -/
def execGrpw (ep seq term : Nat) (ws : List Nat) (s : State) : Out :=
  wickCommand ep seq term 7 (fun s =>
    let h := ws.headD 0
    let num := bits h 11 0
    let st := bits h 13 12
    let w2 := ws.getD 1 0
    if num = 0 ∨ st = 3 ∨ bits h 62 45 ≠ 0 then badAnswer s 3
    else if st = 0 then okAnswer (modFab s fun f => { f with groups := tblErase f.groups num })
    else
      let ms := (List.range 5).filterMap fun i => grpwMember s (bits h 26 17) (ws.getD (2 + i) 0)
      let old := getGroup s num
      let keep := if old.slice = bits h 26 17 ∧ old.st ≠ 0 then old.members.filter fun m => !(ms.any fun n => n.index == m.index) else []
      okAnswer (modGroup s num fun _ =>
        { st := st, slice := bits h 26 17, fence := bitAt h 14, plane := bits h 16 15, m := bits w2 16 0, root := bits w2 33 17, members := keep ++ ms,
          parent := bits h 29 27, children := bits h 35 30, slots := bits h 44 36, opno := 0, nodes := [] })) s

/-! ### Spare maps and the time tree -/

/-- SPMRD (R399): bound slots, and the position of each slot, 31 where it is unbound. -/
def spmWords (s : State) (d cl : Nat) : List Nat :=
  let v := (List.range 16).foldl (fun a k => a + (let p := posOf s (coreId d cl k); if p = 99 then 31 else p) * 2 ^ (5 * k)) 0
  [slotMask s d cl, v % 2 ^ 64, v / 2 ^ 64]
def execSpmrd (ep seq term cl : Nat) (s : State) : Out :=
  wickCommand ep seq term 5 (fun s => if ep < 16 then (s, some (0, spmWords s ep (cl % 16))) else badAnswer s 1) s
/-- R53: the parent link `par` in the time tree, and the time master's package. -/
def setParent (s : State) (par : Option Nat) (mpkg : Nat) : State :=
  { s with tb := { s.tb with parent := par, lastTime := if s.tb.parent = par then s.tb.lastTime else s.tb.tb, mpkg := mpkg } }
/-- TPARENT (R391, R53): the CTL wick takes the module's parent link in the time tree. -/
def execTparent (seq term wheel link : Nat) (master : Bool) (hops mpkg : Nat) (s : State) : Out :=
  wickCommand 16 seq term 0x0A (fun s =>
    let s := fput (fput s r_DET_TB_STAT f_DET_TB_STAT_MASTER (b2n master)) r_DET_TB_STAT f_DET_TB_STAT_HOPS hops
    okAnswer (setParent s (if master then none else some (linkKey wheel link)) mpkg)) s

end Sys2Proof.Machine
end

