-- ==== Sys2Proof/Machine/Classify.lean ====
section
/-! DEFINITION. Machine/Classify.lean: the tile check and its classification: WFLUSH_COMPLETE, REPEAT_COMPLETE
(spec/04 R116 to R118; spec/13 R407 to R412, R414, R425, R427). -/

namespace Sys2Proof.Machine

/-- R427: the corruption armed at an engine and set for its next WFLUSH, 0 for none. -/
def armedFlush (s : State) (c e set : Nat) : Nat :=
  match s.tst.arm with
  | some a => if a.core = physOf c ∧ a.engine = e ∧ a.set = set ∧ !a.fired then a.kind else 0
  | none => 0
/-- R427: the corruption of a repeat that runs on an engine. -/
def armedRepeat (s : State) (c e : Nat) : Nat :=
  match s.tst.arm with
  | some a => if a.core = physOf c ∧ a.engine = e ∧ a.persist ∧ a.fired then a.kind else 0
  | none => 0
/-- R427: the injection has taken effect: GO reads 0; without PERSIST nothing stays armed. -/
def armFired (s : State) : State :=
  let s := modTst s fun t => { t with arm := t.arm.bind fun a => if a.persist then some { a with fired := true } else none }
  fput s r_TST_INJ f_TST_INJ_GO 0

/-- WFLUSH_COMPLETE (R116): the last elements of engine `e`'s flush, and the check of the set (R118). Under LOCK a failed check stalls
the core (R407). -/
def execWflushComplete (c e : Nat) (s : State) : Out :=
  let k := getCore s c
  let x := getEng k e
  if coreOn s c && decide (e < 4) && flushLast x then
    let set := ((activeFlush x).map (·.set)).getD 0
    let kind := armedFlush s c e set
    let (k', syn) := flushComplete k e kind
    let k' := { k' with classify := k'.classify.map fun q => if q.engine = e ∧ q.set = set then { q with since := s.tb.tb } else q }
    let s := if kind != 0 then armFired (setCore s c k') else setCore s c k'
    let s := if k.mode = .test ∧ syn.isSome then
        modTst s fun t => { t with tests := t.tests.map fun x => if x.core = c then { x with fails := x.fails + 1 } else x } else s
    .next (if syn.isSome && coreLock s k then beginStall s c else s)
  else .next s

/-- R410: the event of a class. -/
def classSrc (c cls : Nat) : Nat :=
  srcDie (dieOf c) (if cls = 4 ∨ cls = 5 then 9 else if cls = 6 ∨ cls = 7 then 10 else 11)

/-- CLASSIFY_END (R410): counts, event and sherd of a class. A core whose values are discarded stands until it is fenced or its job is
snuffed. -/
def classEnd (s : State) (c cls : Nat) (k : Core) (x : Classify) : State :=
  let s := fadd s (r_TST_CLS_CNT cls) f_TST_CLS_CNT_CNT 1
  let s := classSherd s c cls (classSrc c cls) k x
  let s := if 4 ≤ cls then modCore s c fun k => { k with mode := if k.mode = .live then .stopped else k.mode } else s
  let sg := if k.mode = .test then none else some k.sg
  let s := if k.mode = .test ∧ 98304 ≤ c then s
    else raise s { eventOf s (classSrc c cls) with mid := midCore c, sg := sg, slice := sg.bind (sliceOf s), sub := physOf c % 256 }
  let unit := physOf c * 4 + x.engine
  if cls = 1 then countTransient s .engData unit else if cls = 2 ∨ cls = 3 then countTransient s .engCheck unit else s

/-- R411: the mark of an engine stands in every context of its core. -/
def markSuspects (s : State) (c e : Nat) : State :=
  if (getEng (getCore s c) e).suspect then
    each ((coreKeys s).filter fun q => physOf q == physOf c) (fun s q => modCore s q fun k => setEng k e { getEng k e with suspect := true }) s
  else s

/-- REPEAT_COMPLETE (R408 to R412): a repeat of the oldest classification of core `c` ends. -/
def execRepeatComplete (c : Nat) (s : State) : Out :=
  let k := getCore s c
  match k.classify with
  | [] => .next s
  | x :: _ =>
    if (k.mode == .live || k.mode == .stopped || k.mode == .test) && dieUp s (dieOf c) && !k.wedged then
      let kind2 := ((siblingOf k x.engine).map (armedRepeat s c)).getD 0
      let (k', out) := repeatComplete k (armedRepeat s c x.engine) kind2
      let s := setCore s c k'
      (match out with
      | some (.ends cls) => .next (markSuspects (classEnd s c cls k x) c x.engine)
      | _ => .next s)
    else .next s

end Sys2Proof.Machine
end

