-- ==== Sys2Proof/Machine/Resets.lean ====
section
/-! DEFINITION. Machine/Resets.lean: the ember, die resets, fences, the retire list, power cycles and time-sharing
(spec/15 R460, R466 to R475; spec/06 R209, R210; spec/21 R594, R595; spec/01 R29). -/

namespace Sys2Proof.Machine

/-! ### Dies (R468) -/

def dieWatch (s : State) (d : Nat) : DieWatch := tblGet (fun _ => dieWatchReset) s.rst.dies d
def modWatch (s : State) (d : Nat) (f : DieWatch → DieWatch) : State := modRst s fun r => { r with dies := tblModify (fun _ => dieWatchReset) r.dies d f }
def setDieState (s : State) (d x : Nat) : State := fput s (r_RST_DIE_STAT d) f_RST_DIE_STAT_STATE x
def setRung (s : State) (d x : Nat) : State := fput s (r_RST_DIE_STAT d) f_RST_DIE_STAT_RUNG x

/-- A trigger of a die reset, or of a fence (trigger 3). One that arrives during a reset merges into it; a fence goes before a reset
that waits. -/
def requestReset (s : State) (d trig : Nat) (fence : Bool) : State :=
  if decide (d < 16) && dieState s d == 0 then
    modWatch s d fun w => { w with waiting := match w.waiting with
      | some (t, f) => some (if fence then (trig, true) else (t, f))
      | none => some (trig, fence) }
  else s

/-- R468: the contexts of a die. -/
def coresOfDie (s : State) (d : Nat) : List Nat := (coreKeys s).filter fun c => decide (c < 131072) && dieOf c == d && (getCore s c).mode != .idle

/-- DIE_RESET (R468, R473): steps 1 and 2: the hold-off since the last step 1 has passed; the die takes no work, and its cores and
engines stand. -/
def execDieReset (d : Nat) (s : State) : Out :=
  let w := dieWatch s d
  match w.waiting with
  | none => .next s
  | some (trig, fence) =>
    let held := w.step1.any fun t => decide ((s.tb.tb - t).toNat < fget s r_RST_LAD_B f_RST_LAD_B_HOLDOFF * 1000000)
    if w.phase = 0 ∧ dieState s d = 0 ∧ !held then
      let s := setDieState (fadd s (r_RST_DIE_STAT d) f_RST_DIE_STAT_RCNT (b2n !fence)) d 1
      .next (modWatch s d fun w => { w with waiting := none, phase := 2, trig := trig, fence := fence, step1 := some s.tb.tb, since := s.tb.tb, ember := false })
    else .next s

/-! ### The ember (R466) -/

/-- Table 3, byte 777. -/
def stallCode (s : State) (c : Nat) (k : Core) : Nat :=
  if k.stallAt.isNone then 0
  else if !k.classify.isEmpty then 4
  else if coreFaulted s c then 2
  else if 256 ≤ postedWaiting k then 3
  else 1
def emberThread (k : Core) (th : Nat) : List Byte :=
  let t := getThread k th
  leBytes 8 t.pc.toNat ++ leBytes 1 (match t.st with
    | .run => 0
    | .halt => 1
    | .exc => 2) ++ leBytes 1 (b2n t.nv + 2 * b2n t.xovf) ++ leBytes 1 t.xcause.toNat ++ leBytes 1 (k.gated.filter fun g => g.thread == th).length
def emberEngine (x : Engine) : List Byte :=
  leBytes 2 ((x.queue.length % 4) + 4 * b2n x.set0.held + 8 * b2n x.set1.held)
  ++ leBytes 6 (((x.queue.find? fun o => o.disp.isSome).map (·.done)).getD 0)
/-- The record of one core number (Table 3). -/
def emberRecord (s : State) (c : Nat) (k : Core) : List Byte :=
  let live := k.mode != .idle && k.mode != .test
  (List.range 64).flatMap (emberThread k) ++ leBytes 8 k.step.toNat ++ leBytes 1 (bitLen k.rl - 1) ++ leBytes 1 (stallCode s c k)
  ++ leBytes 2 k.wins.length ++ leBytes 2 (postedWaiting k) ++ leBytes 2 0 ++ k.eng.flatMap emberEngine
  ++ leBytes 1 (if live then k.sg else 0xFF) ++ [0#8] ++ leBytes 2 (if live then (sliceOf s k.sg).getD 0xFFFF else 0xFFFF) ++ List.replicate 204 0#8
  ++ (if fbit s r_RST_CFG f_RST_CFG_EMBSPM then (List.range 3).flatMap fun i => memReadN k.spad (fget s (r_RST_EMB_OFF i) f_RST_EMB_OFF_OFF * 1024) 1024
      else List.replicate 3072 0#8)
/-- The context that a core number holds: of those that share it, the resident one. -/
def residentOf (s : State) (c : Nat) : Core :=
  match (coreKeys s).find? fun q => physOf q == c && ((getCore s q).mode == .live || (getCore s q).mode == .stopped) with
  | some q => getCore s q
  | none => getCore s c
/-- R466: the ember of die `d`. -/
def emberOf (s : State) (d : Nat) (inc : Bool) : Ember :=
  let w := dieWatch s d
  { die := d, gen := fget s (r_RST_DIE_STAT d) f_RST_DIE_STAT_GEN, trig := w.trig, inc := inc, began := w.step1.getD 0, ended := s.tb.tb,
    progress := (List.range 8).map fun e => ((dmaCur (getDma s (d * 8 + e))).map (·.done)).getD 0,
    faults := (s.mem.faults.filter fun (p : Nat × FaultRec) => p.2.die == d).length,
    records := (List.range 256).filterMap fun k =>
      if posOf s (d * 256 + k) = 99 then none else some (k, emberRecord s (d * 256 + k) (residentOf s (d * 256 + k))) }
/-- R467: the MRAM keeps eight, newest first. -/
def writeEmber (s : State) (d : Nat) (inc : Bool) : State :=
  let s := modRst s fun r => { r with embers := (emberOf s d inc :: r.embers).take 8 }
  modWatch (fput s (r_RST_DIE_STAT d) f_RST_DIE_STAT_EMBINC (b2n inc)) d fun w => { w with ember := true }

/-! ### Steps 4 to 6 -/

/-- The jobs with a context or a cluster on a die. -/
def jobsOnDie (s : State) (d : Nat) : List Nat :=
  ((List.range 128).filter fun sg => sgState s sg != 0
    && ((getSag s sg).clmap.any (fun p => p.1 == d) || (coresOfSg s sg).any fun c => decide (c < 131072) && dieOf c == d)).foldl (fun l sg => addOnce l (jobKey s sg)) []

/-- R209: an access at a controller of the die: a second half is written, what has not started is discarded. -/
def mcStop (d : Nat) (s : State) (id : Nat) : State :=
  match getAcc s id with
  | some a =>
    (match a.stage with
    | .ready p => if stackOf p.word / 2 = d then setStage s id (.failed true) else s
    | .half p _ x e bad =>
      if stackOf p.word / 2 = d then
        let s := match p.tail with
          | some t => dramWrite s p.tag t e
          | none => s
        let ok := tagLive s p.tag
        let s := raiseMalformed (dramWrite s p.tag p.word x) (srcDie d 21) a.sg (p.word * 64) bad
        setStage s id (if ok then .done 0#512 else .failed false)
      else s
    | _ => s)
  | none => s

/-- Step 6: GONE to every request in the reassembly store. -/
def niGone (s : State) (d : Nat) : State :=
  let rs := (getNi s d).reasm.filter fun r => cellClass r.first.ty == some 0 || cellClass r.first.ty == some 1
  let s := modNi s d fun n => { n with reasm := [] }
  each rs (fun s r => answer s d (reasmMsg r) 4 0) s

/-- Steps 4 to 6 (R468, R473). -/
def stepsFourToSix (s : State) (d : Nat) : State :=
  let w := dieWatch s d
  let s := each (jobsOnDie s d) (fun s j => snuffJob s j (if w.fence then 6 else 5)) s
  let s := each (coresOfDie s d) (fun s c => dropCtx s c false) s
  let s := each (s.mem.acc.map Prod.fst) (mcStop d) s
  modWatch (niGone s d) d fun w => { w with phase := 6, since := s.tb.tb }

/-- EMBER_DONE (R466, R468): the ember is written within 5 ms; the snuffs, the controllers and the NI follow. -/
def execEmberDone (d : Nat) (s : State) : Out :=
  let w := dieWatch s d
  when_ (w.phase == 2 && decide ((s.tb.tb - w.since).toNat < 5000000)) s (stepsFourToSix (writeEmber s d false) d)
/-- EMBER_ABANDON (R468): it is not written at 5 ms. -/
def execEmberAbandon (d : Nat) (s : State) : Out :=
  let w := dieWatch s d
  when_ (w.phase == 2 && decide (5000000 ≤ (s.tb.tb - w.since).toNat)) s (stepsFourToSix (writeEmber s d true) d)

/-! ### Steps 7 to 10 -/

/-- The compute domain as a reset leaves it (R210, R411): cores, cluster memory, DMA engines, translation buffer. -/
def dieBlank (s : State) (d : Nat) : State :=
  let n := (s.tst.tests.filter fun t => t.die == d).length
  let s := fput (modTst s fun t => { t with tests := t.tests.filter fun x => x.die != d }) r_TST_STAT f_TST_STAT_RUNNING
    (fget s r_TST_STAT f_TST_STAT_RUNNING - n)
  let s := each ((coreKeys s).filter fun c => decide (c < 131072) && dieOf c == d) (fun s c => modCore s c blankCore) s
  let s := each (List.range 16) (fun s cl => setClMem s d cl []) s
  let s := each (List.range 8) (fun s e => modDma s (d * 8 + e) fun _ => dmaReset) s
  modMem s fun m => { m with tbuf := tblErase m.tbuf d }

/-- RESET_HOLD_RELEASE (R468, R470): the domain has been in reset for 100 µs: GEN advances, and the die aligns again. -/
def execResetHoldRelease (d : Nat) (s : State) : Out :=
  let w := dieWatch s d
  if w.phase = 6 ∧ !w.fence ∧ 100000 ≤ (s.tb.tb - w.since).toNat then
    .next (modWatch (faddw (dieBlank s d) (r_RST_DIE_STAT d) f_RST_DIE_STAT_GEN 1) d fun w => { w with phase := 8, since := s.tb.tb })
  else .next s

/-- R27, R472: the positions that the slots of a cluster take. -/
def posKey (d cl pos : Nat) : Nat := d * 512 + cl * 32 + pos
def positionUsed (s : State) (d cl pos : Nat) : Bool := (List.range 16).any fun k => posOf s (coreId d cl k) == pos
/-- R29, R471, R472: the lowest-numbered spare of a cluster. -/
def spareOf (s : State) (d cl : Nat) : Option Nat :=
  (List.range 17).find? fun p => !positionUsed s d cl p && (tblFind s.rst.retired (posKey d cl p)).isNone && !s.rst.untested.contains (posKey d cl p)
def setPos (s : State) (c pos : Nat) : State := modRst s fun r => { r with spare := tblSet (fun k => k % 16) r.spare (physOf c) pos }
/-- R422: the test of a position is stopped, and counted. -/
def stopTest (s : State) (d cl pos : Nat) : State :=
  let mine (t : FieldTest) : Bool := t.die == d && t.cl == cl && t.pos == pos
  if s.tst.tests.any mine then
    let cs := (s.tst.tests.filter mine).map (·.core)
    let s := each cs (fun s c => modCore s c blankCore) s
    let s := fput s r_TST_STAT f_TST_STAT_RUNNING (fget s r_TST_STAT f_TST_STAT_RUNNING - 1)
    fadd (modTst s fun t => { t with tests := t.tests.filter fun x => !mine x }) r_TST_ABORTS f_TST_ABORTS_CNT 1
  else s
/-- R471, R472: a position is retired, and the slot that is bound to it takes the lowest spare, or none. -/
def retirePos (s : State) (d cl pos cause : Nat) : State :=
  let s := stopTest s d cl pos
  let s := modRst s fun r => { r with retired := tblPut r.retired (posKey d cl pos) cause }
  match (List.range 16).find? fun k => posOf s (coreId d cl k) == pos with
  | none => s
  | some k =>
    let c := coreId d cl k
    (match spareOf s d cl with
    | some p => setPos (setCore (stopTest s d cl p) c coreReset) c p
    | none => setPos (setCore s c coreReset) c 99)

/-- R595: the sherd of a failed part of the self-test. -/
def selfTestSherd (s : State) (d cl slot pos : Nat) : State := sherd s { kind := 6, place := [d, cl, slot, pos, 0xFF, 0] }

/-- DIE_SELF_TEST (R594, R595, R469): the result of the self-test of a compute die that is in reset: the positions that have failed
(cluster, position), and whether a part whose failure is that of the die has failed. A failed die is fenced. -/
def execDieSelfTest (d : Nat) (bad : List (Nat × Nat)) (dieBad : Bool) (s : State) : Out :=
  let w := dieWatch s d
  if w.phase = 8 ∧ d < 16 then
    (if dieBad then
      .next (modWatch (selfTestSherd s d 0xFF 0xFF 0xFF) d fun w => { w with phase := 6, trig := 3, fence := true, since := s.tb.tb })
    else
      let s := each bad (fun s p =>
        if decide (p.1 < 16) && decide (p.2 < 17) && (tblFind s.rst.retired (posKey d p.1 p.2)).isNone then
          retirePos (selfTestSherd s d p.1 0xFF p.2) d p.1 p.2 3
        else s) s
      .next (modWatch (setDieState s d 0) d fun w => { w with phase := 0, since := s.tb.tb, heard := false, missed := 0 }))
  else .next s

/-- R456, R469: rung 5. -/
def rungFive (s : State) (d : Nat) : State := addAct (setRung s d 5) .cycle

/-- DIE_RESET_TIMEOUT (R469): CYC ms after step 1 the die is not UP, or its ladder goes on. -/
def execDieResetTimeout (d : Nat) (s : State) : Out :=
  let w := dieWatch s d
  let late := w.step1.any fun t => decide (fget s r_RST_LAD_B f_RST_LAD_B_CYC * 1000000 ≤ (s.tb.tb - t).toNat)
  let rung := fget s (r_RST_DIE_STAT d) f_RST_DIE_STAT_RUNG
  when_ (decide (d < 16) && late && !w.fence && (dieState s d == 1 || rung == 4)) s (rungFive s d)

/-! ### Fences -/

/-- R431, R474: EN = 0 on the links of a wheel. -/
def wheelLinksOff (s : State) (w : Nat) : State :=
  each (List.range 12) (fun s l => writeLnkCtl s w l (fldSet (rget s (r_FAB_LNK_CTL w l)) f_FAB_LNK_CTL_EN 0)) s
/-- R390: the slice becomes BROKEN and is snuffed. -/
def breakSlice (s : State) (slice : Nat) : State := snuffJob (addBroken s slice) slice 9

/-- The slices whose rank table names an endpoint of this module that satisfies `f`. -/
def slicesOf (s : State) (f : Nat → Bool) : List Nat :=
  (s.fab.ranks.filter fun (p : Nat × Tbl W32) => p.2.any fun (e : Nat × W32) =>
    e.2.getLsbD 31 && bits e.2.toNat 11 0 == myPkg s && f (bits e.2.toNat 16 12)).map Prod.fst

/-- R473: where the clusters of a saggar that lie on die `d` move: the lowest-numbered in-service die with room for all of them, with
its lowest free clusters. -/
def freeClusters (s : State) (d : Nat) : List Nat := (List.range 16).filter fun cl => (sgOfCluster s d cl).isNone && !(boundSlots s d cl).isEmpty
def remapDie (s : State) (d need : Nat) : Option Nat :=
  (List.range 16).find? fun q => q != d && dieUp s q && decide (q < fget s r_ID_GRADE f_ID_GRADE_CDCNT) && decide (need ≤ (freeClusters s q).length)
/-- The blocks of sync objects of a saggar on a die. -/
def blocksOf (s : State) (d sg : Nat) : List Nat := ((getSync s d).owner.filter fun (p : Nat × Nat) => p.2 == sg).map Prod.fst
/-- The map with the clusters on `d` replaced, in order, by those of `q`. -/
def movedMap (d q : Nat) : List (Nat × Nat) → List Nat → List (Nat × Nat)
  | [], _ => []
  | p :: ps, free =>
    if p.1 = d then (q, free.headD 0) :: movedMap d q ps (free.drop 1) else p :: movedMap d q ps free
/-- REMAP of one saggar and its slice; none when there is no room or its object indices are taken. -/
def remapSg (s : State) (d sg slice : Nat) : Option State :=
  let g := getSag s sg
  match remapDie s d (g.clmap.filter fun p => p.1 == d).length with
  | none => none
  | some q =>
    let bs := blocksOf s d sg
    if bs.any fun b => (tblFind (getSync s q).owner b).isSome then none
    else
      let free := freeClusters s q
      let s := each ((free.take (g.clmap.filter fun p => p.1 == d).length).flatMap fun cl => (List.range 17).map fun p => (cl, p)) (fun s x => stopTest s q x.1 x.2) s
      let s := modSag s sg fun g => { g with clmap := movedMap d q g.clmap free }
      let s := modSync s q fun x => { x with owner := bs.foldl (fun t b => tblPut t b sg) x.owner }
      let entry (e : W32) : W32 :=
        if e.getLsbD 31 && bits e.toNat 11 0 == myPkg s && bits e.toNat 16 12 == d then BitVec.ofNat 32 (setBits e.toNat 16 12 q) else e
      some (modFab s fun f => { f with
        ranks := tblModify (fun _ => []) f.ranks slice (tblMap entry)
        groups := tblMap (fun g => if g.slice = slice then { g with members := g.members.map fun m => if m.ep = d then { m with ep := q } else m } else g) f.groups
        remap := tblPut f.remap (d * 1024 + slice) q })

/-- R473: one slice with a rank on the fenced die. -/
def fenceSlice (d : Nat) (s : State) (slice : Nat) : State :=
  if fget s r_RST_CFG f_RST_CFG_DFMODE = 0 then breakSlice s slice
  else match (sgOfSlice s slice).bind fun sg => remapSg s d sg slice with
    | some s => s
    | none => breakSlice s slice

/-- DIE_FENCE (R473): after step 6 of a fence the compute domain is held in reset; stacks, sync objects and slots leave service, and
the slices are dealt with by DFMODE. -/
def execDieFence (d : Nat) (s : State) : Out :=
  let w := dieWatch s d
  if w.phase = 6 ∧ w.fence ∧ d < 16 then
    let s := modWatch (setDieState (dieBlank s d) d 2) d fun w => { w with phase := 0, since := s.tb.tb }
    let s := each (slicesOf s fun e => e == d) (fenceSlice d) s
    .next (modSync s d fun _ => syncReset)
  else .next s

/-- RST_DIE_RESET (R468, R431): a write of RST_DIE with ACT = 0, GO and the die. On a wheel it restarts the agent and the links; on CTL
it acts as CYCLE. -/
def wheelRestart (s : State) (w : Nat) : State :=
  each (List.range 12) (fun s l =>
    let s := if linkState s w l = 0 then s else setLinkState s w l 1
    modLink s (linkKey w l) fun x => { linkReset with attach := x.attach, peer := x.peer, since := s.tb.tb }) (modWheel s w fun x => { x with own := [], waited := [] })
def execRstDieReset (d : Nat) (s : State) : Out :=
  let s := fput (fput s r_RST_DIE f_RST_DIE_DIE d) r_RST_DIE f_RST_DIE_ACT 0
  if d < 16 then .next (requestReset s d 2 false)
  else if d < 20 then .next (wheelRestart s (d - 16))
  else if d = 20 then .next (addAct s .cycle)
  else .next s
/-- RST_DIE_FENCE (R473, R474, R431): ACT = 1. -/
def execRstDieFence (d : Nat) (s : State) : Out :=
  let s := fput (fput s r_RST_DIE f_RST_DIE_DIE d) r_RST_DIE f_RST_DIE_ACT 1
  if d < 16 then .next (requestReset s d 3 true)
  else if d < 20 then .next (addAct s (.fenceWheel (d - 16)))
  else if d = 20 then .next (addAct s .cycle)
  else .next s

/-- CORE_FENCE (R471, R472): a core that the collector wants fenced: its job is snuffed, and its slot moves to a spare. -/
def execCoreFence (c : Nat) (s : State) : Out :=
  match s.rst.acts.findSome? fun a => match a with
    | .fenceCore k cause => if k = c then some cause else none
    | _ => none with
  | none => .next s
  | some cause =>
    let s := dropAct s (.fenceCore c cause)
    let pos := posOf s c
    if pos = 99 then .next s
    else
      let jobs := ((coreKeys s).filter fun q => physOf q == c && (getCore s q).mode != .idle && (getCore s q).mode != .test).foldl
        (fun l q => addOnce l (jobKey s (getCore s q).sg)) []
      let s := each jobs (fun s j => snuffJob s j 6) s
      .next (retirePos s (dieOf c) (clOf c) pos cause)

/-- WHEEL_FENCE (R474): the wheel's links go OFF; slices that join this package with another become BROKEN. -/
def execWheelFence (w : Nat) (s : State) : Out :=
  if s.rst.acts.contains (.fenceWheel w) && decide (w < 4) then
    let s := setDieState (wheelLinksOff (dropAct s (.fenceWheel w)) w) (16 + w) 2
    .next (each ((slicesOf s fun _ => true).filter fun x => !(memberPkgs s x).isEmpty) breakSlice s)
  else .next s

/-- POWER_CYCLE (R460): streams stop fetching, every job is snuffed with reason CYCLE, and PWRCYC_REQ_N is asserted until the input is lost. -/
def execPowerCycle (s : State) : Out :=
  if s.rst.acts.contains .cycle then
    let s := modRst s fun r => { r with acts := r.acts.filter (· != .cycle), cycle := true }
    let jobs := ((List.range 128).filter fun sg => sgState s sg != 0).foldl (fun l sg => addOnce l (jobKey s sg)) []
    .next (setDieState (each jobs (fun s j => snuffJob s j 0x0C) s) 20 4)
  else .next s

/-! ### The retire list and embers -/

/-- RST_RET_VAL_CLR (R472): a fence retirement of the position that RST_RET_SEL names is cleared. -/
def retSel (s : State) : Nat :=
  posKey (fget s r_RST_RET_SEL f_RST_RET_SEL_DIE) (fget s r_RST_RET_SEL f_RST_RET_SEL_CL) (fget s r_RST_RET_SEL f_RST_RET_SEL_POS)
def execRstRetValClr (s : State) : Out :=
  when_ (tblFind s.rst.retired (retSel s) == some 1) s
    (modRst s fun r => { r with retired := tblErase r.retired (retSel s), untested := addOnce r.untested (retSel s) })

/-- R466: the index entry of an ember. -/
def emberIndex (s : State) (e : Ember) : List Byte :=
  leBytes 8 (pairGet s r_ID_SER_LO r_ID_SER_HI) ++ leBytes 1 e.die ++ leBytes 1 e.gen ++ leBytes 1 e.trig ++ leBytes 1 (b2n e.inc) ++ leBytes 4 0
  ++ leBytes 8 e.began.toNat ++ leBytes 8 e.ended.toNat ++ e.progress.flatMap (leBytes 8) ++ leBytes 2 e.faults ++ List.replicate 158 0#8
def emberBytes (e : Ember) : List Byte :=
  (List.range 256).flatMap fun k => match tblFind e.records k with
    | some b => b
    | none => List.replicate 4096 0#8
def emberSel (s : State) : Option Ember := s.rst.embers[fget s r_RST_EMB_SEL f_RST_EMB_SEL_SLOT]?
def emberDst (s : State) : Nat := fget s r_RST_EMB_DST_LO f_RST_EMB_DST_LO_ADDR * 4096 + fget s r_RST_EMB_DST_HI f_RST_EMB_DST_HI_ADDR * 2 ^ 32

/-- RST_EMB_CTL_GO (R467). -/
def execRstEmbCtlGo (s : State) : Out :=
  if fbit s r_RST_EMB_CTL f_RST_EMB_CTL_BUSY then .next s
  else if (emberSel s).isSome then .next (fput s r_RST_EMB_CTL f_RST_EMB_CTL_BUSY 1)
  else .next (fput s r_RST_EMB_CTL f_RST_EMB_CTL_ERR 1)
/-- EMBER_COPY_DONE (R467): the copy is complete, or it has failed. -/
def execEmberCopyDone (hostErr : Bool) (s : State) : Out :=
  if fbit s r_RST_EMB_CTL f_RST_EMB_CTL_BUSY then
    let s := fput s r_RST_EMB_CTL f_RST_EMB_CTL_BUSY 0
    match (if hostErr then none else emberSel s) with
    | some e => .next (hostWrite s (emberDst s) (emberIndex s e ++ emberBytes e))
    | none => .next (fput s r_RST_EMB_CTL f_RST_EMB_CTL_ERR 1)
  else .next s

/-! ### Time-sharing (R475) -/

/-- The context that comes after `c` in the rotation of its physical core. -/
def nextShared (s : State) (c : Nat) : Option Nat :=
  let k := getCore s c
  let others := (coreKeys s).filter fun q => physOf q == physOf c && q != c && (getCore s q).strm == k.strm && (getCore s q).mode == .parked
  let above := others.filter fun q => k.lcore < (getCore s q).lcore
  (if above.isEmpty then others else above).foldl (fun m q => match m with
    | none => some q
    | some x => if (getCore s q).lcore < (getCore s x).lcore then some q else some x) none

/-- The core saves context `c` and restores `q`. -/
def switchCtx (s : State) (c q : Nat) : State :=
  let s := modCore (endStall s c) c fun k => { k with mode := if k.mode = .live then .parked else k.mode, stallAt := none }
  modCore s q fun k => { k with mode := .live, quantum := 0, active := s.tb.tb }

/-- The quantum of the item that runs on a stream. -/
def quantumOf (s : State) (n : Nat) : Nat :=
  match (getStrm s n).run with
  | some r => (match (imageOf s r.sg r.rcd.img).map (·.quant) with
    | some 0 => 2 ^ 20
    | some q => q
    | none => 2 ^ 20)
  | none => 2 ^ 20

/-- QUANTUM_SWITCH (R475): the resident context has used its quantum, or has ended. -/
def execQuantumSwitch (c : Nat) (s : State) : Out :=
  let k := getCore s c
  match nextShared s c with
  | some q =>
    let resident := !((coreKeys s).any fun x => physOf x == physOf c && x != c && (getCore s x).mode == .live)
    when_ (dieUp s (dieOf c) && ((k.mode == .live && decide (quantumOf s k.strm ≤ k.quantum) && !stepEventsDue k) || (k.mode == .over && resident))) s (switchCtx s c q)
  | none => .next s
/-- YIELD_SWITCH (R475): it has stood in a whole-core stall for YIELD µs. -/
def execYieldSwitch (c : Nat) (s : State) : Out :=
  let k := getCore s c
  match nextShared s c, k.stallAt with
  | some q, some t =>
    when_ (dieUp s (dieOf c) && k.mode == .live && decide (fget s r_RST_RUN f_RST_RUN_YIELD * 1000 ≤ (s.tb.tb - t).toNat)) s (switchCtx s c q)
  | _, _ => .next s

end Sys2Proof.Machine
end

