-- ==== Sys2Proof/Machine/Watch.lean ====
section
/-! DEFINITION. Machine/Watch.lean: pilots, the escalation ladder and the restart of the kiln (spec/15 R453 to R461; spec/12 R364,
R400). Endpoints as in Machine/KilnWick.lean; dies as RST_DIE_STAT numbers them. -/

namespace Sys2Proof.Machine

/-! ### Pilots (R400, R453, R454) -/

/-- R454: time that counts toward neither condition: the context waits on a fault record or a classification, does not run, or the
module is HALTED. -/
def watchPaused (s : State) (c : Nat) (k : Core) : Bool :=
  coreFaulted s c || !k.classify.isEmpty || (k.mode != .live && k.mode != .stopped) || fbit s r_FLT_STAT f_FLT_STAT_HALTED
/-- The time since the last pilot is taken out of both measures of such a context. -/
def pauseWatch (since : W64) (s : State) (c : Nat) : State :=
  if watchPaused s c (getCore s c) then
    modCore s c fun k => { k with active := k.active + (s.tb.tb - since), paused := k.paused + (s.tb.tb - since).toNat }
  else s
/-- R454: is the context hung? -/
def hung (s : State) (c : Nat) : Bool :=
  let k := getCore s c
  let quiet := fget s r_RST_WATCH f_RST_WATCH_CTXTMO
  let item := fget s r_RST_WATCH f_RST_WATCH_ITMO
  (k.mode == .live || k.mode == .stopped) && !watchPaused s c k
    && ((quiet != 0 && decide (quiet * 1000000 ≤ nsSince s k.active))
      || (item != 0 && (match (getStrm s k.strm).run with
        | some r => decide (item * 10000000000 + k.paused ≤ nsSince s r.began)
        | none => false)))
/-- The core numbers of a die that hold a hung context. -/
def hungCores (s : State) (d : Nat) : List Nat := ((coresOfDie s d).filter fun c => hung s c).map fun c => physOf c % 256
/-- Core numbers as the four mask words. -/
def maskWords (l : List Nat) : List Nat := (List.range 4).map fun i => (l.filter fun c => c / 64 == i).foldl (fun m c => m ||| 2 ^ (c % 64)) 0

/-- PILOT_SEND (R453): a lit wick's pilot period ends: it looks for hung contexts and sends M_PILOT. -/
def execPilotSend (ep : Nat) (s : State) : Out :=
  let w := getWick s ep
  if decide (ep < 21) && w.lit && decide (w.period * 1000 ≤ nsSince s w.lastPilot) then
    let s := if ep < 16 then each (coresOfDie s ep) (pauseWatch w.lastPilot) s else s
    let cs := if ep < 16 then hungCores s ep else []
    let s := modWick s ep fun w => { w with pilots := (w.pilots + 1) % 2 ^ 32, lastPilot := s.tb.tb }
    let up := dieState s (watchIdx ep) == 0
    .next (sendMgt s ep 0x1D (myPkg s) 16 ([w.pilots, 1 + 2 * b2n up + 4 * b2n (!cs.isEmpty), cs.length] ++ maskWords cs))
  else .next s

/-! ### The watch (R455, R456) -/

/-- Does this module's kiln watch the endpoint? -/
def watched (s : State) (ep : Nat) : Bool :=
  kilnOn s && (if ep < 21 then (getWick s ep).lit else decide (ep < 32) && s.fab.links.any fun (p : Nat × LinkSt) => p.2.attach == some ep)
def watchPeriod (s : State) (ep : Nat) : Nat := if ep < 21 then (getWick s ep).period else fget s r_RST_PILOT f_RST_PILOT_PERIOD
def setMissed (s : State) (i n : Nat) : State := if i ≤ 20 then fput s (r_RST_DIE_STAT i) f_RST_DIE_STAT_MISSED (min 15 n) else s
/-- R429: the source PILOT of an endpoint's die. -/
def pilotEvent (s : State) (ep : Nat) : State :=
  if ep < 16 then raiseSrc s (srcDie ep 1) else if 17 ≤ ep ∧ ep ≤ 20 then raiseSrc s (srcWheel (ep - 17) 1) else s
/-- One missed pilot. -/
def missPilot (s : State) (ep : Nat) : State :=
  let i := watchIdx ep
  let s := modWatch s i fun w => { w with missed := w.missed + 1, seen := s.tb.tb }
  pilotEvent (setMissed s i (dieWatch s i).missed) ep
/-- M_PILOT (R455, R456): a pilot of endpoint `ep` with its bits lit and SICK and its mask of core numbers. A good one ends the ladder. -/
def execMPilot (ep : Nat) (lit sick : Bool) (mask : BitVec 256) (s : State) : Out :=
  if !watched s ep then .next s
  else
    let i := watchIdx ep
    let s := if i ≤ 20 then fput s (r_RST_DIE_STAT i) f_RST_DIE_STAT_SICK (b2n sick) else s
    if lit && !sick then
      let s := beginWatch s ep
      .next (if i ≤ 20 then setRung (setMissed s i 0) i 0 else modWatch s i fun w => { w with phase := 0 })
    else
      .next (missPilot (modWatch s i fun w =>
        { w with heard := true, sick := if sick then (List.range 256).filter fun c => mask.getLsbD c else w.sick }) ep)
/-- PILOT_PERIOD_MISS (R455): a pilot period of `ep` has ended without a pilot. -/
def execPilotPeriodMiss (ep : Nat) (s : State) : Out :=
  when_ (watched s ep && decide (watchPeriod s ep * 1000 ≤ nsSince s (dieWatch s (watchIdx ep)).seen)) s (missPilot s ep)

/-! ### The rungs (R456 to R458) -/

/-- The time of a rung in ns after the last good pilot. -/
def rungTime (s : State) (k : Nat) : Nat :=
  let one := fget s r_RST_PILOT f_RST_PILOT_MISS * fget s r_RST_PILOT f_RST_PILOT_PERIOD * 1000
  match k with
  | 1 => one
  | 2 => one + fget s r_RST_LAD_A f_RST_LAD_A_ENG * 1000000
  | 3 => fget s r_RST_LAD_A f_RST_LAD_A_FLUSH * 1000000
  | _ => fget s r_RST_LAD_A f_RST_LAD_A_DIE * 1000000
/-- The last rung performed. -/
def lastRung (s : State) (i : Nat) : Nat := if i ≤ 20 then fget s (r_RST_DIE_STAT i) f_RST_DIE_STAT_RUNG else (dieWatch s i).phase
/-- May rung `k` of endpoint `ep` be performed? -/
def rungDue (s : State) (ep k : Nat) : Bool :=
  let i := watchIdx ep
  watched s ep && dieState s i == 0 && decide (0 < (dieWatch s i).missed) && lastRung s i == k - 1
    && decide (rungTime s k ≤ nsSince s (dieWatch s i).lastGood)
def markRung (s : State) (i k : Nat) : State := if i ≤ 20 then setRung s i k else modWatch s i fun w => { w with phase := k }

/-- Rung 1 of a compute die. -/
def abortContexts (s : State) (d : Nat) : State :=
  let w := dieWatch s d
  let cs := if w.heard then some w.sick else none
  let hit := (coresOfDie s d).filter fun c => (getCore s c).mode != .test && cs.all fun l => l.contains (physOf c % 256)
  let jobs := hit.foldl (fun l c => addOnce l (jobKey s (getCore s c).sg)) []
  each jobs (fun s j => snuffJob s j 1) (modWatch s d fun w => { w with cores := cs })
/-- Rung 1 of a third-party endpoint: DOWN, and its slices. A kiln without the role reports the loss of the attach link to the role. -/
def dropThirdParty (s : State) (ep : Nat) : State :=
  let at_ := s.fab.links.find? fun (p : Nat × LinkSt) => p.2.attach == some ep
  let s := if issuing s then roleGoesOn (queueCmd s (wickKey (myPkg s) ep) { ty := 0x1F, op := 4, tail := [] })
    else addReport s 16 4 ((at_.map fun p => p.1 / 12).getD 0) ((at_.map fun p => p.1 % 12).getD 0) 0
  each (slicesOf s fun e => e == ep) (fun s x => snuffJob s x 1) s
/-- RUNG_CONTEXT_ABORT (R456): rung 1 of endpoint `ep`. -/
def execRungContextAbort (ep : Nat) (s : State) : Out :=
  if rungDue s ep 1 then
    let s := markRung s (watchIdx ep) 1
    .next (if ep < 16 then abortContexts s ep else if 21 ≤ ep then dropThirdParty s ep else s)
  else .next s

/-- The contexts that rungs 2 and 3 name. -/
def namedCores (s : State) (d : Nat) : List Nat :=
  (coreKeys s).filter fun c => decide (c < 131072) && dieOf c == d && (dieWatch s d).cores.all fun l => l.contains (physOf c % 256)
/-- R457: a core's engines, its vector engine, LAU and scatter unit are idle; its accumulator sets are empty. -/
def idleEngines (k : Core) : Core :=
  { k with eng := k.eng.map fun e => { engineReset with suspect := e.suspect }, classify := [], veLeft := 0, portLeft := 0,
           spadQ := k.spadQ.filter fun q => match q.act with
             | .read => true
             | .write _ => true
             | _ => false }
/-- ENGINE_RESET (R457): rung 2. -/
def execEngineReset (ep : Nat) (s : State) : Out :=
  if rungDue s ep 2 then
    let s := markRung s (watchIdx ep) 2
    .next (if ep < 16 then each (namedCores s ep) (fun s c => modCore (dropXfers s (xferOfCore c)) c idleEngines) s else s)
  else .next s

/-- R458: a saggar's contexts on die `d` are discarded, and its cores and cluster memory there scrubbed. -/
def flushSaggar (d : Nat) (s : State) (sg : Nat) : State :=
  let s := each ((coresOfSg s sg).filter fun c => dieOf c == d && decide (c < 131072)) (fun s c => dropCtx s c false) s
  each ((getSag s sg).clmap.filter fun p => p.1 == d) (fun s p => setClMem s p.1 p.2 []) s
/-- SAGGAR_FLUSH (R458): rung 3. -/
def execSaggarFlush (ep : Nat) (s : State) : Out :=
  if rungDue s ep 3 then
    let s := markRung s (watchIdx ep) 3
    let cls := (List.range 16).filter fun cl => (dieWatch s ep).cores.all fun l => l.any fun c => c / 16 == cl
    .next (if ep < 16 then
      each ((List.range 128).filter fun sg => sgState s sg == 1 && (getSag s sg).clmap.any fun p => p.1 == ep && cls.contains p.2) (flushSaggar ep) s
    else s)
  else .next s

/-- RUNG_DIE_RESET (R456): rung 4: a compute die resets, a wheel restarts, and for the CTL wick it acts as rung 5. -/
def execRungDieReset (ep : Nat) (s : State) : Out :=
  if rungDue s ep 4 && decide (ep < 21) then
    let s := markRung s (watchIdx ep) 4
    .next (if ep < 16 then requestReset s ep 0 false else if ep = 16 then rungFive s 20 else wheelRestart s (ep - 17))
  else .next s

/-! ### Kiln lockstep faults (R364, R461) -/

/-- KILN_LOCKSTEP_FAULT (R364, R461): both pairs stop and the module leaves its role; a third fault within one hour acts as CYCLE. -/
def execKilnLockstepFault (s : State) : Out :=
  if s.rst.restarting then .next s
  else
    let held := kilnRole s == 1 || kilnRole s == 3
    let s := setRole (raiseSrc s (srcCtl 2)) 0
    let s := if held then fput s r_KLN_FMPKG f_KLN_FMPKG_ACTV 0 else s
    let s := modKln s fun k => { k with ask := none, stopped := false, mirrors := [], role := roleReset, passed := none }
    let l := (s.rst.lockstep.filter fun t => decide (nsSince s t < 3600000000000)) ++ [s.tb.tb]
    let s := modRst s fun r => { r with restarting := true, lockstep := l }
    .next (if 3 ≤ l.length then addAct s .cycle else s)
/-- KILN_RESTART (R461, R545): the kiln pairs run again; the ladders go on from where they held. -/
def execKilnRestart (s : State) : Out :=
  if s.rst.restarting then
    let gap := s.tb.tb - s.rst.lockstep.getLastD 0
    let s := modRst s fun r => { r with restarting := false, dies := tblMap (fun w => { w with lastGood := w.lastGood + gap, seen := w.seen + gap }) r.dies }
    let s := partyLost (partyLost s 0x4000) 0x4002
    .next (if fbit s r_KLN_FMPKG f_KLN_FMPKG_ACTV then setRole s 4 else s)
  else .next s

end Sys2Proof.Machine
end

