-- ==== Sys2Proof/Machine/Faults.lean ====
section
/-! DEFINITION. Machine/Faults.lean: the fault collector: ERROR_LINE_FRAME, LINE_FAULT, FAULT_EVENT, DETAIL_TIMEOUT,
FLT_SRC_STAT_CLEAR, CAPV_CLEAR, FLT_INJ_GO, and the halt input (spec/14 R429 to R443). -/

namespace Sys2Proof.Machine

/-! ### Sources (R429 Table 1) -/

/-- What a FENCE or a reset acts on. -/
inductive FUnit where
  | die | core | job | wheel | link | module
  deriving DecidableEq, Repr

/-- The offset of a source in its block; the number of the die of a die's source and of the wheel of a wheel's. -/
def srcOff (src : Nat) : Nat := if src < 640 then src % 40 else if src < 736 then (src - 640) % 24 else src - 736
def srcUnitNo (src : Nat) : Nat := if src < 640 then src / 40 else (src - 640) / 24
/-- The line of a source: CD0 to CD15, then WH0 to WH3. -/
def srcLine (src : Nat) : Nat := if src < 640 then src / 40 else 16 + (src - 640) / 24
def srcAssigned (src : Nat) : Bool :=
  if src < 640 then decide (srcOff src ≤ 26) else if src < 736 then decide (srcOff src ≤ 12) else decide (src ≤ 756)
def unitOf (src : Nat) : FUnit :=
  let o := srcOff src
  if src < 640 then
    (if [3, 7, 8, 9, 11, 26].contains o then .core else if [4, 6, 10, 21, 22, 23].contains o then .job else if o = 24 ∨ o = 25 then .module else .die)
  else if src < 736 then
    (if [3, 4, 5].contains o then .link else if [6, 8, 9, 12].contains o then .job else .wheel)
  else .module
/-- Default severities. -/
def dieSev : List Nat := [2, 1, 5, 3, 4, 2, 4, 3, 3, 3, 4, 1, 2, 2, 5, 5, 3, 3, 5, 5, 2, 1, 2, 4, 6, 6, 3]
def wheelSev : List Nat := [2, 1, 5, 1, 1, 1, 4, 1, 4, 1, 2, 2, 4]
def ctlSev : List Nat := [2, 1, 2, 6, 2, 2, 2, 1, 1, 1, 1, 1, 1, 6, 2, 1, 1, 1, 2, 1, 6]
def sevDefault (src : Nat) : Nat :=
  if src < 640 then dieSev.getD (srcOff src) 0 else if src < 736 then wheelSev.getD (srcOff src) 0 else ctlSev.getD (srcOff src) 0
def sevOf (s : State) (src : Nat) : Nat := tblGet sevDefault s.flt.sev src

/-! ### Status (R434, R438) -/

def srcStat (s : State) (src : Nat) : Bool := (rget s (r_FLT_SRC_STAT (src / 32))).getLsbD (src % 32)
def srcLive (s : State) (src : Nat) : Bool := s.flt.live.contains src
def setLive (s : State) (src : Nat) (on : Bool) : State :=
  modFlt s fun f => { f with live := if on then addOnce f.live src else f.live.filter (· != src) }
/-- R438: FLT_STAT.FAULT. -/
def refreshFault (s : State) : State :=
  fput s r_FLT_STAT f_FLT_STAT_FAULT (b2n ((List.range 768).any fun x => srcStat s x && decide (3 ≤ sevOf s x)))
def setBitOf (s : State) (off i : Nat) : State := rput s off (rget s off ||| BitVec.ofNat 32 (2 ^ i))
def dropBitOf (s : State) (off i : Nat) : State := rput s off (rget s off &&& ~~~ BitVec.ofNat 32 (2 ^ i))
def addInfo (s : State) (src cnt : Nat) : State :=
  modFlt s fun f => { f with info := tblModify (fun _ => (0, 0)) f.info src fun p => (min 255 (p.1 + cnt), min 65535 (p.2 + 1)) }

/-! ### Capture and report (R435, R436, R447) -/

/-- The detail of a captured event. -/
def loadDetail (s : State) (e : Event) : State :=
  let s := fput (fput s r_FLT_CAP_ID f_FLT_CAP_ID_MID e.mid) r_FLT_CAP_ID f_FLT_CAP_ID_ACCT e.acct
  let s := pairPut s r_FLT_CAP_ADDR_LO r_FLT_CAP_ADDR_HI e.addr
  let s := pairPut s r_FLT_CAP_SYND_LO r_FLT_CAP_SYND_HI e.synd
  let s := fput (fput s r_FLT_CAP_OWNER f_FLT_CAP_OWNER_SLICE (e.slice.getD 0)) r_FLT_CAP_OWNER f_FLT_CAP_OWNER_SLV (b2n e.slice.isSome)
  fput (fput s r_FLT_CAP_OWNER f_FLT_CAP_OWNER_SG (e.sg.getD 0)) r_FLT_CAP_OWNER f_FLT_CAP_OWNER_SGV (b2n e.sg.isSome)
def loadTb (s : State) (t : W64) : State := pairPut s r_FLT_CAP_TB_LO r_FLT_CAP_TB_HI t.toNat
/-- The detail registers read 0. -/
def blankDetail (s : State) : State :=
  each [r_FLT_CAP_ID, r_FLT_CAP_ADDR_LO, r_FLT_CAP_ADDR_HI, r_FLT_CAP_TB_LO, r_FLT_CAP_TB_HI, r_FLT_CAP_SYND_LO, r_FLT_CAP_SYND_HI, r_FLT_CAP_OWNER]
    (fun s r => rput s r 0) s
/-- R435: the first error is captured; every later one is counted. -/
def capture (s : State) (e : Event) (detail : Bool) : State :=
  if fbit s r_FLT_CAP_STAT f_FLT_CAP_STAT_CAPV then
    fadd (fput s r_FLT_CAP_STAT f_FLT_CAP_STAT_MULTI 1) r_FLT_CAP_STAT f_FLT_CAP_STAT_MORE 1
  else
    let s := fput (fput s r_FLT_CAP_STAT f_FLT_CAP_STAT_CAPV 1) r_FLT_CAP_STAT f_FLT_CAP_STAT_SRC e.src
    let s := fput (fput s r_FLT_CAP_STAT f_FLT_CAP_STAT_INJ (b2n e.inj)) r_FLT_CAP_STAT f_FLT_CAP_STAT_NODETAIL 0
    let s := blankDetail s
    if detail then modFlt (loadTb (loadDetail s e) e.tb) fun f => { f with detail := none }
    else modFlt s fun f => { f with detail := some (e, s.tb.tb) }

/-- R447: the body of REPORT. -/
def reportBody (s : State) (e : Event) (sev count : Nat) (detail : Bool) : List Byte :=
  let d (n : Nat) : Nat := if detail then n else 0
  beBytes 2 e.src ++ beBytes 1 sev ++ beBytes 1 (b2n e.inj + 2 * b2n (!detail) + 4 * b2n (srcLive s e.src)) ++ beBytes 4 count
  ++ beBytes 8 (pairGet s r_ID_SER_LO r_ID_SER_HI) ++ beBytes 8 (if detail then e.tb.toNat else s.tb.tb.toNat) ++ beBytes 8 (d e.addr) ++ beBytes 2 (d e.mid)
  ++ beBytes 1 (d e.acct) ++ [0#8] ++ beBytes 8 (d e.synd) ++ beBytes 2 (d (e.slice.getD 0)) ++ beBytes 1 (d (e.sg.getD 0)) ++ List.replicate 17 0#8
/-- KMP_REPORT (R447): at most one for each source in a second; events between are counted in the next. -/
def report (s : State) (e : Event) (sev : Nat) (detail : Bool) : State :=
  match tblFind s.flt.reports e.src with
  | some (t, n) =>
    if nsSince s t < 1000000000 then modFlt s fun f => { f with reports := tblPut f.reports e.src (t, n + 1) }
    else kmpHold (modFlt s fun f => { f with reports := tblPut f.reports e.src (s.tb.tb, 0) }) 1 (reportBody s e sev (n + 1) detail)
  | none => kmpHold (modFlt s fun f => { f with reports := tblPut f.reports e.src (s.tb.tb, 0) }) 1 (reportBody s e sev 1 detail)

/-! ### Actions (R430, R431) -/

/-- The job that an event names (R431), none where it names none. -/
def eventJob (s : State) (e : Event) : Option Nat :=
  match e.slice with
  | some x => some x
  | none => e.sg.map (jobKey s)
/-- R462 Table 2: the reason of a snuff by severity. -/
def snuffReason (src : Nat) : Nat :=
  let o := srcOff src
  if src < 640 then (if o = 23 then 2 else if o = 4 ∨ o = 6 then 3 else if o = 10 then 4 else 0x0E)
  else if src < 736 then (if o = 6 ∨ o = 8 then 2 else if o = 12 then 3 else 0x0E)
  else 0x0E
/-- R464: a cell-loss event of a cell that was injected before the latest snuff of its slice. -/
def lossBefore (s : State) (e : Event) : Bool :=
  match e.born, e.slice with
  | some t, some x => (tblFind s.rst.lastSnuff x).any fun u => decide (t.toNat < u.toNat)
  | _, _ => false
def resetUnit (s : State) (src : Nat) : State :=
  if src < 640 then requestReset s (srcUnitNo src) 1 false else if src < 736 then wheelRestart s (srcUnitNo src) else addAct s .cycle
/-- SNUFF (R431, R416). -/
def actSnuff (s : State) (e : Event) : State :=
  match eventJob s e with
  | some j => if lossBefore s e then s else addAct s (.snuff j (snuffReason e.src))
  | none => if e.src < 640 ∧ (srcOff e.src = 4 ∨ srcOff e.src = 6) then resetUnit s e.src else s
/-- FENCE (R431, R421). A failed field test fences its position. -/
def actFence (s : State) (e : Event) : State :=
  let n := srcUnitNo e.src
  match unitOf e.src with
  | .die => requestReset s n 3 true
  | .core => if srcOff e.src = 26 then retirePos s n (e.addr / 32 % 16) (e.addr % 32) 3 else addAct s (.fenceCore (n * 256 + e.sub % 256) 1)
  | .job => actSnuff s e
  | .wheel => addAct s (.fenceWheel n)
  | .link => writeLnkCtl s n e.sub (fldSet (rget s (r_FAB_LNK_CTL n e.sub)) f_FAB_LNK_CTL_EN 0)
  | .module => addAct s .cycle
def faultAct (s : State) (e : Event) (sev : Nat) : State :=
  if sev = 3 then actFence s e else if sev = 4 then actSnuff s e else if sev = 5 then resetUnit s e.src else if sev = 6 then addAct s .cycle else s

/-- R430 to R436: an event at the collector; `detail` tells that the wick's detail comes with it. -/
def faultEvent (s : State) (e : Event) (detail : Bool) : State :=
  let sev := sevOf s e.src
  if sev = 0 then addInfo s e.src 0
  else
    let was := srcStat s e.src
    let s := addInfo (setBitOf s (r_FLT_SRC_STAT (e.src / 32)) (e.src % 32)) e.src 1
    let s := if e.src < 736 then setBitOf s r_FLT_LINE_STAT (srcLine e.src) else s
    let s := report (capture s e detail) e sev detail
    let s := if 2 ≤ sev ∧ !was then requestIrq s 0 (fget s r_FLT_CFG f_FLT_CFG_VEC) else s
    refreshFault (faultAct s e sev)

/-- CTL sources that a unit of CTL raises by itself: LANTERN, MRAM_LAST, MRAM_UNC, NOR_UNC, the XFIFOs, SELF. -/
def ctlOwn : List Nat := [3, 4, 5, 7, 8, 9, 10, 11, 20]
/-- FAULT_EVENT (R430): the collector takes the event that has come first, or the CTL source 736 + `ctl` finds one. -/
def execFaultEvent (ctl : Option Nat) (detail : Bool) (s : State) : Out :=
  match ctl with
  | some o => when_ (ctlOwn.contains o) s (faultEvent s (eventOf s (srcCtl o)) true)
  | none =>
    match s.evq with
    | [] => .next s
    | e :: es => .next (faultEvent { s with evq := es } e (detail || decide (736 ≤ e.src)))

/-- DETAIL_TIMEOUT (R436). -/
def execDetailTimeout (s : State) : Out :=
  match s.flt.detail with
  | some (_, t) =>
    when_ (decide (1000000 ≤ nsSince s t)) s
      (modFlt (loadTb (fput s r_FLT_CAP_STAT f_FLT_CAP_STAT_NODETAIL 1) t) fun f => { f with detail := none })
  | none => .next s

/-- FLT_SRC_STAT_CLEAR (R434, R438): a write of `v` to FLT_SRC_STAT(w); a bit whose LIVE is 1 stays. -/
def clearSrc (v : W32) (w : Nat) (s : State) (b : Nat) : State :=
  let src := 32 * w + b
  if v.getLsbD b && !srcLive s src then
    modFlt (dropBitOf s (r_FLT_SRC_STAT w) b) fun f => { f with info := tblModify (fun _ => (0, 0)) f.info src fun p => (0, p.2) }
  else s
def execFltSrcStatClear (w : Nat) (v : W32) (s : State) : Out :=
  when_ (decide (w < 24)) s (refreshFault (each (List.range 32) (clearSrc v w) s))

/-- CAPV_CLEAR (R437). -/
def execCapvClear (s : State) : Out :=
  let s := fput (fput s r_FLT_CAP_STAT f_FLT_CAP_STAT_CAPV 0) r_FLT_CAP_STAT f_FLT_CAP_STAT_MULTI 0
  .next (modFlt (fput s r_FLT_CAP_STAT f_FLT_CAP_STAT_MORE 0) fun f => { f with detail := none })

/-! ### Error lines (R432, R433) -/

/-- R432: CRC-4 of bits [14:4] of a frame, polynomial x^4 + x + 1. -/
def crc4Bit (c : Nat) (b : Bool) : Nat :=
  let t := (c / 8 % 2 == 1) != b
  (2 * c % 16) ^^^ (if t then 3 else 0)
def crc4 (frame : BitVec 16) : Nat := ((List.range 11).map fun i => frame.getLsbD (14 - i)).foldl crc4Bit 0
/-- The collector reads a wick's pending event set: every event that waits on the line is raised. -/
def readPending (s : State) (die : Nat) : State :=
  { s with evq := s.evq ++ tblGet (fun _ => []) s.lines die, lines := tblErase s.lines die }
def lineSrc (die : Nat) : Nat := if die < 16 then srcDie die 0 else srcWheel (die - 16) 0
/-- A line fault: LINE is raised, and the wick's pending set is read. -/
def lineFault (s : State) (die : Nat) (inj : Bool) : State :=
  let s := setBitOf s r_FLT_LINE_ERR die
  readPending { s with evq := s.evq ++ [{ eventOf s (lineSrc die) with inj := inj }] } die
/-- The source of a frame's offset. -/
def frameSrc (die off : Nat) : Nat := if die < 16 then srcDie die off else srcWheel (die - 16) off
/-- A good frame: the event of its offset that has waited longest; one whose detail the wick has not kept comes without. -/
def takeFrame (s : State) (die : Nat) (frame : BitVec 16) : State :=
  let off := bits frame.toNat 14 9
  let src := frameSrc die off
  if off = 63 then readPending s die
  else if !srcAssigned src || srcLine src != die then s
  else
    let l := tblGet (fun _ => []) s.lines die
    match l.find? fun e => e.src == src with
    | some e => { s with evq := s.evq ++ [{ e with inj := e.inj || frame.getLsbD 4 }], lines := tblSet (fun _ => []) s.lines die (l.erase e) }
    | none => { s with evq := s.evq ++ [{ eventOf s src with inj := frame.getLsbD 4 }] }
/-- ERROR_LINE_FRAME (R432, R433): a frame has come in on the line of die `die` (CD0 to CD15, WH0 to WH3). -/
def execErrorLineFrame (die : Nat) (frame : BitVec 16) (s : State) : Out :=
  if 20 ≤ die ∨ !frame.getLsbD 15 then .next s
  else
    let expected := tblGet (fun _ => 0) s.flt.frameSeq die
    let sq := bits frame.toNat 8 5
    let arm := armedAt s [lineSrc die] none
    let s := if arm.isSome then disarmInj s else s
    let next (s : State) (n : Nat) : State := modFlt s fun f => { f with frameSeq := tblSet (fun _ => 0) f.frameSeq die (n % 16) }
    if arm.isSome || crc4 frame != bits frame.toNat 3 0 then .next (lineFault (next s (expected + 1)) die arm.isSome)
    else
      let s' := takeFrame (setBitOf (next s (sq + 1)) r_FLT_LINE_STAT die) die frame
      .next (if sq = expected then s' else lineFault s' die false)
/-- LINE_FAULT (R433): a condition on the rails of a line begins or ends: equal rails (`stuck` false), which only DUALRAIL finds, or a
true rail that stays high. -/
def execLineFault (die : Nat) (stuck present : Bool) (s : State) : Out :=
  if 20 ≤ die ∨ (!stuck && !fbit s r_FLT_CFG f_FLT_CFG_DUALRAIL) then .next s
  else if present then .next (setLive (setBitOf (lineFault s die false) r_FLT_LINE_LIVE die) (lineSrc die) true)
  else .next (setLive (dropBitOf s r_FLT_LINE_LIVE die) (lineSrc die) false)

/-! ### Injection (R439) -/

/-- The modes of Table 1 for a source. -/
def injModes (src : Nat) : List Nat :=
  let o := srcOff src
  if src < 640 then (if o = 0 then [3] else if [3, 12, 13, 23].contains o then [1] else if [2, 4, 5, 6, 14, 15, 25].contains o then [1, 2] else [])
  else if src < 736 then (if o = 0 then [3] else if o = 6 then [1] else if [2, 8, 11, 12].contains o then [1, 2] else [])
  else if [4, 5, 7, 20].contains o then [1, 2] else []
/-- Is the checker of the source one whose checks are events of the model? -/
def injHeld (src : Nat) : Bool :=
  let o := srcOff src
  if src < 640 then [3, 4, 5, 6, 12, 13, 14, 15, 23].contains o else decide (src < 736) && (o == 6 || o == 8)
/-- The check of a source whose checks are no event of the model takes place at once: one inverted bit is corrected, except at a checker
that only detects (PLINK, SELF); two give the uncorrectable event. -/
def injNow (s : State) (src mode : Nat) : State :=
  let s := disarmInj s
  let o := srcOff src
  if mode = 3 then lineFault s (srcLine src) true
  else
    let tgt := if 640 ≤ src ∧ src < 736 ∧ o = 11 then src + 1 else if 736 ≤ src ∧ o = 4 then src + 1 else src
    let e := { eventOf s tgt with inj := true }
    if mode = 2 ∨ (src < 640 ∧ o = 25) ∨ (736 ≤ src ∧ o = 20) then { s with evq := s.evq ++ [e] } else s
/-- FLT_INJ_GO (R439): a write of `v`, with GO, to FLT_INJ. -/
def execFltInjGo (v : W32) (s : State) : Out :=
  let src := fldGet v f_FLT_INJ_SRC
  let mode := fldGet v f_FLT_INJ_MODE
  if mode = 0 then .next s
  else if !fbit s r_FLT_CFG f_FLT_CFG_INJEN || !(injModes src).contains mode then .next (fput s r_FLT_STAT f_FLT_STAT_INJERR 1)
  else
    let s := rput s r_FLT_INJ (v &&& 0x800FFFFF#32)
    let s := modFlt (fput s r_FLT_INJ f_FLT_INJ_GO 1) fun f => { f with arm := some (src, mode, fldGet v f_FLT_INJ_CL, fldGet v f_FLT_INJ_SLOT) }
    .next (if injHeld src || (mode == 3 && !fbit s r_FLT_CFG f_FLT_CFG_DUALRAIL) then s else injNow s src mode)

/-! ### The halt input (R440 to R443) -/

def haltA (s : State) : Bool := fbit s r_FLT_HALT_STAT f_FLT_HALT_STAT_A
def haltB (s : State) : Bool := fbit s r_FLT_HALT_STAT f_FLT_HALT_STAT_B
/-- HALT_CHANNEL_CHANGE (R440, R441): a channel, HALT_B or HALT_A, is taken as asserted or deasserted. -/
def execHaltChannelChange (b on : Bool) (s : State) : Out :=
  let before := haltA s != haltB s
  let s := fput s r_FLT_HALT_STAT (if b then f_FLT_HALT_STAT_B else f_FLT_HALT_STAT_A) (b2n on)
  let after := haltA s != haltB s
  if !before && after then .next (modFlt s fun f => { f with discSince := some s.tb.tb, discRaised := false })
  else if before && !after then
    let s := fput (fadd s r_FLT_HALT_STAT f_FLT_HALT_STAT_DCNT 1) r_FLT_HALT_STAT f_FLT_HALT_STAT_DISC 0
    .next (setLive (modFlt s fun f => { f with discSince := none, discRaised := false }) (srcCtl 0) false)
  else .next s
/-- HALT_DISC (R441): a disagreement has lasted TDISC. -/
def execHaltDisc (s : State) : Out :=
  match s.flt.discSince with
  | some t =>
    when_ (!s.flt.discRaised && decide (fget s r_FLT_HALT_CFG f_FLT_HALT_CFG_TDISC * 1000000 ≤ nsSince s t)) s
      (setLive (raiseSrc (fput (modFlt s fun f => { f with discRaised := true }) r_FLT_HALT_STAT f_FLT_HALT_STAT_DISC 1) (srcCtl 0)) (srcCtl 0) true)
  | none => .next s
/-- The jobs that run on the module. -/
def runningJobs (s : State) : List Nat :=
  ((List.range 128).filter fun sg => sgState s sg != 0 && (!(coresOfSg s sg).isEmpty || !(runningOn s sg).isEmpty)).foldl (fun l sg => addOnce l (jobKey s sg)) []
/-- HALT_ASSERT (R442): both channels are asserted. -/
def execHaltAssert (s : State) : Out :=
  when_ (haltA s && haltB s && !fbit s r_FLT_STAT f_FLT_STAT_HALTED) s
    (let s := raiseSrc (fput (modFlt s fun f => { f with released := none }) r_FLT_STAT f_FLT_STAT_HALTED 1) (srcCtl 1)
     each (runningJobs s) (fun s j => snuffJob s j 7) s)
/-- HALT_RELEASE (R443): both are deasserted. -/
def execHaltRelease (s : State) : Out :=
  when_ (!haltA s && !haltB s && fbit s r_FLT_STAT f_FLT_STAT_HALTED) s
    (modFlt (fput s r_FLT_STAT f_FLT_STAT_HALTED 0) fun f => { f with released := some s.tb.tb })
/-- HALT_RESUME (R443): 10 ms later streams fetch again. -/
def execHaltResume (s : State) : Out :=
  match s.flt.released with
  | some t => when_ (decide (10000000 ≤ nsSince s t)) s (modFlt s fun f => { f with released := none })
  | none => .next s

end Sys2Proof.Machine
end

