-- ==== Sys2Proof/Machine/Kmp.lean ====
section
/-! DEFINITION. Machine/Kmp.lean: the management port: MGP_FRAME_RECEIVE, KMP_ACK, KMP_RESEND, TELEM, PATCHUNK,
PATTERN_STAGE_TIMEOUT, KMP_TERMREQ, KMP_GRANT, KMP_DENY (spec/14 R444 to R450; spec/13 R423, R424; spec/17 R529, R531). -/

namespace Sys2Proof.Machine

/-! ### Frames (R444, R445) -/

/-- A big-endian number of `n` bytes at `o`. -/
def beAt (b : List Byte) (o n : Nat) : Nat := ((b.drop o).take n).foldl (fun a x => a * 256 + x.toNat) 0
/-- The ones' complement sum of 16-bit words, the last padded with zero. -/
def onesAdd (a b : Nat) : Nat := let x := a + b; if x < 65536 then x else x - 65535
def onesSum : List Byte → Nat → Nat
  | [], acc => acc
  | [x], acc => onesAdd acc (x.toNat * 256)
  | x :: y :: r, acc => onesSum r (onesAdd acc (x.toNat * 256 + y.toNat))

def ownMac (s : State) : Nat := (rget s r_FLT_MGP_MAC_LO).toNat + fget s r_FLT_MGP_MAC_HI f_FLT_MGP_MAC_HI_MAC * 2 ^ 32
def ownIp4 (s : State) : Nat := (rget s r_FLT_MGP_IP4).toNat
def ip6Of (s : State) (r : Nat → Nat) : Nat := (List.range 4).foldl (fun a k => a * 2 ^ 32 + (rget s (r k)).toNat) 0
def ownIp6 (s : State) : Nat := ip6Of s r_FLT_MGP_IP6
/-- The solicited-node address of an IPv6 address: ff02::1:ffxx:xxxx, and its MAC. -/
def solicited (ip : Nat) : Nat := 0xFF0200000000000000000001FF000000 + ip % 2 ^ 24
def solicitedMac (ip : Nat) : Nat := 0x3333FF000000 + ip % 2 ^ 24

/-- Where the last EtherType lies. -/
def etOff (s : State) : Nat := 12 + 4 * fget s r_FLT_MGP_CTL f_FLT_MGP_CTL_NTAG
def etOf (s : State) (b : List Byte) : Nat := beAt b (etOff s) 2
def l3Of (s : State) : Nat := etOff s + 2
def isTag (x : Nat) : Bool := x == 0x8100 || x == 0x88A8
/-- R444: exactly the tags that NTAG selects. -/
def tagsOk (s : State) (b : List Byte) : Bool :=
  let vid (o : Nat) : Nat := beAt b o 2 % 4096
  let o := fget s r_FLT_MGP_VLAN f_FLT_MGP_VLAN_OVID
  let i := fget s r_FLT_MGP_VLAN f_FLT_MGP_VLAN_IVID
  !isTag (etOf s b) && (match fget s r_FLT_MGP_CTL f_FLT_MGP_CTL_NTAG with
    | 0 => true
    | 1 => beAt b 12 2 == 0x8100 && vid 14 == o
    | _ => isTag (beAt b 12 2) && vid 14 == o && beAt b 16 2 == 0x8100 && vid 18 == i)
def isSolicit (s : State) (b : List Byte) : Bool := etOf s b == 0x86DD && beAt b (l3Of s + 6) 1 == 58 && beAt b (l3Of s + 40) 1 == 135
def macOk (s : State) (b : List Byte) : Bool :=
  let d := beAt b 0 6
  d == ownMac s || (d == 0xFFFFFFFFFFFF && etOf s b == 0x0806) || (d == solicitedMac (ownIp6 s) && isSolicit s b)
def etOk (s : State) (b : List Byte) : Bool :=
  let e := etOf s b
  (e == 0x0806 || e == 0x0800 || e == 0x86DD) && !(e == 0x86DD && beAt b (l3Of s + 6) 1 == 58 && !isSolicit s b)
def ihl (s : State) (b : List Byte) : Nat := 4 * (beAt b (l3Of s) 1 % 16)
def ip4Ok (s : State) (b : List Byte) : Bool :=
  let o := l3Of s
  beAt b o 1 / 16 == 4 && decide (20 ≤ ihl s b) && onesSum ((b.drop o).take (ihl s b)) 0 == 65535 && decide (o + ihl s b ≤ b.length)
  && beAt b (o + 6) 2 % 2 ^ 14 == 0 && beAt b (o + 16) 4 == ownIp4 s
def ip6Ok (s : State) (b : List Byte) : Bool :=
  let o := l3Of s
  let d := beAt b (o + 24) 16
  beAt b o 1 / 16 == 6 && (beAt b (o + 6) 1 == 17 || beAt b (o + 6) 1 == 58) && (d == ownIp6 s || d == solicited (ownIp6 s))
/-- Where the IP payload begins, and how long the lengths say the packet and the payload are. -/
def l4Of (s : State) (b : List Byte) : Nat := if etOf s b = 0x0800 then l3Of s + ihl s b else l3Of s + 40
def ipTotal (s : State) (b : List Byte) : Nat := if etOf s b = 0x0800 then beAt b (l3Of s + 2) 2 else 40 + beAt b (l3Of s + 4) 2
def l4Len (s : State) (b : List Byte) : Nat := ipTotal s b - (l4Of s b - l3Of s)
def ipProto (s : State) (b : List Byte) : Nat := if etOf s b = 0x0800 then beAt b (l3Of s + 9) 1 else beAt b (l3Of s + 6) 1
def lengthsOk (s : State) (b : List Byte) : Bool :=
  let rest := b.length - l3Of s
  let t := ipTotal s b
  (t == rest || (b.length == 60 && decide (t ≤ rest))) && (ipProto s b != 17 || beAt b (l4Of s b + 4) 2 == l4Len s b)
def udpOk (s : State) (b : List Byte) : Bool :=
  let o := l4Of s b
  let seg := (b.drop o).take (l4Len s b)
  let addrs := if etOf s b = 0x0800 then (b.drop (l3Of s + 12)).take 8 else (b.drop (l3Of s + 8)).take 32
  ipProto s b == 17 && decide (8 ≤ l4Len s b) && beAt b (o + 2) 2 == 7744 && beAt b (o + 6) 2 != 0
  && onesSum seg (onesSum addrs (onesAdd 17 (l4Len s b))) == 65535
/-- R446: the KMP header. -/
def kmpTypes : List Nat := [1, 2, 3, 4, 0x10, 0x11, 0x20, 0x21, 0x22]
def kmpOk (s : State) (b : List Byte) : Bool :=
  let o := l4Of s b + 8
  decide (24 ≤ l4Len s b) && beAt b o 2 == 0x4B4D && beAt b (o + 2) 1 == 1 && kmpTypes.contains (beAt b (o + 3) 1)
  && beAt b (o + 4) 2 + 24 == l4Len s b && decide (l4Len s b ≤ 24 + 1424)
/-- R445 Table 4: the first check that a frame fails; none when it passes all. -/
def dropReason (s : State) (b : List Byte) (fcsOk : Bool) : Option Nat :=
  let ip := etOf s b != 0x0806
  let udp := ip && !isSolicit s b
  if !fcsOk || decide (b.length < 60) || decide (1536 < b.length) then some 0
  else if !macOk s b then some 1
  else if !tagsOk s b then some 2
  else if !etOk s b then some 3
  else if etOf s b == 0x0800 && !ip4Ok s b then some 4
  else if etOf s b == 0x86DD && !ip6Ok s b then some 5
  else if ip && !lengthsOk s b then some 6
  else if udp && !udpOk s b then some 7
  else if udp && !kmpOk s b then some 8
  else none
def dropFrame (s : State) (r : Nat) : State := fadd s (r_FLT_MGP_DROP r) f_FLT_MGP_DROP_CNT 1
def frameTaken (s : State) : State := fadd s r_FLT_MGP_RXOK f_FLT_MGP_RXOK_CNT 1
/-- R446: does the frame come from the DST address? -/
def fromDst (s : State) (b : List Byte) : Bool :=
  if fbit s r_FLT_MGP_CTL f_FLT_MGP_CTL_V6 then etOf s b == 0x86DD && beAt b (l3Of s + 8) 16 == ip6Of s r_FLT_MGP_DST6
  else etOf s b == 0x0800 && beAt b (l3Of s + 12) 4 == (rget s r_FLT_MGP_DST4).toNat
def sendFrame (s : State) (kind : Nat) (body : List Nat) : State :=
  emitSent (fadd s r_FLT_MGP_TXOK f_FLT_MGP_TXOK_CNT 1) (.frame kind body)
/-- MGP_FRAME_RECEIVE (R444, R445): a frame without its FCS. ARP_REPLY and NEIGHBOUR_ADVERT answer for the module's addresses: the MAC
and the address of the asker. A KMP message waits for its own step; one of a type that the device does not take is refused. -/
def execMgpFrameReceive (b : List Byte) (fcsOk : Bool) (s : State) : Out :=
  if !mgpOn s then .next s
  else match dropReason s b fcsOk with
    | some r => .next (dropFrame s r)
    | none =>
      let o := l3Of s
      if etOf s b = 0x0806 then
        let s := frameTaken s
        .next (if beAt b (o + 6) 2 = 1 ∧ beAt b (o + 24) 4 = ownIp4 s then sendFrame s 0 [beAt b (o + 8) 6, beAt b (o + 14) 4] else s)
      else if isSolicit s b then
        let s := frameTaken s
        .next (if beAt b (o + 48) 16 = ownIp6 s then sendFrame s 1 [beAt b 6 6, beAt b (o + 8) 16] else s)
      else
        let k := l4Of s b + 8
        let ty := beAt b (k + 3) 1
        if [4, 0x10, 0x21, 0x22].contains ty then
          .next (modFlt s fun f => { f with inbox := f.inbox ++ [{ ty := ty, body := (b.drop (k + 16)).take (beAt b (k + 4) 2), fromDst := fromDst s b }] })
        else .next (dropFrame s 9)

/-! ### Messages (R446 to R448, R450) -/

/-- The KMP message that has waited longest, when it is of type `ty`; `act` answers none where it is refused (reason 9). -/
def takeKmp (ty : Nat) (act : KmpIn → State → Option State) (s : State) : Out :=
  match s.flt.inbox with
  | m :: ms =>
    if m.ty = ty then
      let s := modFlt s fun f => { f with inbox := ms }
      (match act m s with
      | some t => .next (frameTaken t)
      | none => .next (dropFrame s 9))
    else .next s
  | [] => .next s
/-- KMP_ACK (R447). -/
def execKmpAck (s : State) : Out :=
  takeKmp 4 (fun m s =>
    let q := beAt m.body 0 4
    if m.fromDst && m.body.length == 4 && s.flt.unacked.any (fun u => u.seq == q) then
      some (modFlt s fun f => { f with unacked := f.unacked.filter fun u => u.seq != q }) else none) s
/-- KMP_RESEND (R447): a held message has waited 100 ms. -/
def execKmpResend (seq : Nat) (s : State) : Out :=
  match s.flt.unacked.find? fun u => u.seq == seq with
  | some u =>
    when_ (mgpOn s && decide (100000000 ≤ nsSince s u.sent)) s
      (kmpFrame (modFlt s fun f => { f with unacked := f.unacked.map fun x => if x.seq = seq then { x with sent := s.tb.tb } else x }) u.ty u.seq true u.body)
  | none => .next s
/-- Optical links that are ACTIVE. -/
def linksUp (s : State) : Nat := ((List.range 48).filter fun k => linkLive s (k / 12) (k % 12)).length
def hottest (s : State) : Nat := (List.range 16).foldl (fun m d => max m (fget s (r_PWR_RAIL d) f_PWR_RAIL_TJ)) 0
def telemBody (s : State) : List Byte :=
  beBytes 8 (pairGet s r_ID_SER_LO r_ID_SER_HI) ++ beBytes 8 s.tb.tb.toNat ++ beBytes 2 (pkgOrNone s) ++ beBytes 1 (kilnRole s)
  ++ beBytes 1 (fget s r_FLT_STAT f_FLT_STAT_FAULT + 2 * fget s r_FLT_STAT f_FLT_STAT_HALTED) ++ beBytes 4 0
  ++ ((List.range 24).flatMap fun w => beBytes 4 (rget s (r_FLT_SRC_STAT w)).toNat) ++ beBytes 2 (fget s r_PWR_IN f_PWR_IN_PIN) ++ beBytes 1 (hottest s)
  ++ [0#8] ++ beBytes 2 (linksUp s) ++ beBytes 2 0
/-- TELEM (R448). -/
def execTelem (s : State) : Out :=
  let p := fget s r_FLT_MGP_CTL f_FLT_MGP_CTL_TPER
  when_ (mgpOn s && p != 0 && decide (p * 1000000000 ≤ nsSince s s.flt.telem)) s
    (kmpSend (modFlt s fun f => { f with telem := s.tb.tb }) 3 (telemBody s))

def trayWitness (s : State) : Bool := fget s r_KLN_PAIR f_KLN_PAIR_WITK == 2
/-- KMP_TERMREQ (R450): the kiln asks the tray controller for a term. -/
def execKmpTermreq (s : State) : Out :=
  when_ (kilnOn s && mgpOn s && trayWitness s && s.kln.ask.isSome && s.flt.termreq.isNone) s
    (kmpSend (modFlt s fun f => { f with termreq := some s.kln.held }) 0x20 (beBytes 4 s.kln.held ++ beBytes 2 (myPkg s) ++ beBytes 2 (kilnPeer s)))
/-- An answer of the tray controller. -/
def witnessSays (act : State → Nat → State) (m : KmpIn) (s : State) : Option State :=
  if m.fromDst && trayWitness s && s.flt.termreq.isSome && kilnOn s && decide (4 ≤ m.body.length) then
    some (act (modFlt s fun f => { f with termreq := none }) (beAt m.body 0 4 % 2 ^ 24)) else none
/-- KMP_GRANT (R450, R381). -/
def execKmpGrant (s : State) : Out := takeKmp 0x21 (witnessSays grantTerm) s
/-- KMP_DENY (R450, R381). -/
def execKmpDeny (s : State) : Out := takeKmp 0x22 (witnessSays fun s _ => denyTerm s) s

/-! ### Signatures and pattern sets (R423, R424, R449, R529, R531) -/

/-- R529: the bank in use: the valid one with the higher version. -/
def keyBank (s : State) : Option KeyBank :=
  match s.lnt.pkA, s.lnt.pkB with
  | some a, some b => some (if a.version < b.version then b else a)
  | some a, none => some a
  | none, b => b
/-- R531: does the signature block at `off` of an object verify under a key of a kind? -/
def signedBy (s : State) (b : List Byte) (off kind : Nat) : Bool :=
  match keyBank s with
  | none => false
  | some k =>
    let id := leNat ((b.drop (off + 4)).take 4)
    leNat ((b.drop off).take 4) == 0x384E4753 && (match k.keys.find? fun x => x.1 == id && x.2.1 == kind with
      | some (_, _, point) => Config.ecdsaOk point (b.take off) ((b.drop (off + 8)).take 48) ((b.drop (off + 56)).take 48)
      | none => false)

def leAt (b : List Byte) (o n : Nat) : Nat := leNat ((b.drop o).take n)
def zeroAt (b : List Byte) (o n : Nat) : Bool := ((b.drop o).take n).all fun x => x == 0#8
/-- The places of the patterns of a set, and the first byte after the last; none where a descriptor breaks its rule. -/
def patPlaces (b : List Byte) : Nat → Nat → Option (List Nat × Nat)
  | 0, o => some ([], o)
  | n + 1, o =>
    if b.length < o + 64 ∨ !zeroAt b (o + 20) 4 ∨ !zeroAt b (o + 44) 20 ∨ b.length < o + 64 + leAt b (o + 4) 4 + leAt b (o + 8) 4 then none
    else (patPlaces b n (align64 (o + 64 + leAt b (o + 4) 4 + leAt b (o + 8) 4))).map fun p => (o :: p.1, p.2)
/-- R423: may the set be installed? -/
def patternOk (s : State) (b : List Byte) : Bool :=
  let step := 16 * fget s r_ID_STEP f_ID_STEP_LETTER + fget s r_ID_STEP f_ID_STEP_DIGIT
  let n := leAt b 6 2
  leAt b 0 4 == 0x38505354 && leAt b 4 2 == 1 && decide (1 ≤ n) && decide (n ≤ 1024) && leAt b 12 4 == b.length && decide (b.length ≤ 2 ^ 25)
  && (leAt b 16 4).testBit step && zeroAt b 20 108 && (!fbit s r_TST_STAT f_TST_STAT_PATV || decide ((rget s r_TST_PATVER).toNat < leAt b 8 4))
  && (match patPlaces b n 128 with
    | some (_, o) => b.length == o + 128 && zeroAt b (o + 104) 24 && signedBy s b o 2
    | none => false)
/-- PATTERN_SET_CHECK (R423, R424): an accepted set goes into the slot that is not in use, and is in use; a refused one is recorded. -/
def installSet (s : State) (st : PatStage) : State × Nat :=
  let b := memReadN st.data 0 st.size
  let s := modTst s fun t => { t with stage := none }
  if patternOk s b then
    let v := leAt b 8 4
    let s := modTst s fun t => if t.useB then { t with slotA := some (v, st.data), useB := false } else { t with slotB := some (v, st.data), useB := true }
    (rput (fput s r_TST_STAT f_TST_STAT_PATV 1) r_TST_PATVER (BitVec.ofNat 32 v), 4)
  else (sherd (fput s r_TST_STAT f_TST_STAT_PATERR 1) { kind := 8, place := [0xFF, 0xFF, 0xFF, 0xFF, 0xFF, 0], pattern := st.version * 2 ^ 32 }, 5)

/-- The lowest stack that is in service. -/
def stageStack (s : State) : Option Nat := (List.range 32).find? fun st => stackInService s st
/-- The staged set that a chunk meets, and whether the chunk begins it anew because its stack has left service. -/
def stageFor (s : State) (version size stack : Nat) : PatStage × Bool :=
  let new : PatStage := { version := version, size := size, stack := stack, data := [], placed := [], last := s.tb.tb }
  match s.tst.stage with
  | some g => if !stackInService s g.stack then (new, true) else if g.version < version then (new, false) else (g, false)
  | none => (new, false)
/-- Status of a chunk (R449), and what becomes of the staged set. -/
def chunk (s : State) (version size off : Nat) (data : List Byte) : State × Nat :=
  match stageStack s with
  | none => (modTst s fun t => { t with stage := none }, 7)
  | some stack =>
    let inUse := if fbit s r_TST_STAT f_TST_STAT_PATV then (rget s r_TST_PATVER).toNat else 0
    let staged := (s.tst.stage.map (·.version)).getD 0
    if version < max inUse staged then (s, 1)
    else
      let (g, anew) := stageFor s version size stack
      if 2 ^ 25 < size ∨ size ≠ g.size ∨ size < off + data.length then (s, 2)
      else
        let g := { g with data := memWriteN g.data off data, placed := addOnce g.placed (off / 1024), last := s.tb.tb }
        if (List.range ((size + 1023) / 1024)).all fun i => g.placed.contains i then installSet s g
        else (modTst s fun t => { t with stage := some g }, if anew then 6 else 0)
/-- PATCHUNK (R449). -/
def execPatchunk (s : State) : Out :=
  takeKmp 0x10 (fun m s =>
    let b := m.body
    let (v, size, off, n) := (beAt b 0 4, beAt b 4 4, beAt b 8 4, beAt b 12 2)
    if b.length != 16 + n || beAt b 14 2 != 0 || off % 1024 != 0 || !(n == 1024 || (decide (0 < n) && decide (n < 1024) && off + n == size)) then none
    else
      let r := chunk s v size off (b.drop 16)
      some (kmpSend r.1 0x11 (beBytes 4 v ++ beBytes 4 off ++ beBytes 1 r.2))) s
/-- PATTERN_STAGE_TIMEOUT (R449): no chunk has come for 10 minutes. -/
def execPatternStageTimeout (s : State) : Out :=
  when_ (s.tst.stage.any fun g => decide (600000000000 ≤ nsSince s g.last)) s (modTst s fun t => { t with stage := none })

end Sys2Proof.Machine
end

