-- ==== Sys2Proof/Machine/FieldTest.lean ====
section
/-! DEFINITION. Machine/FieldTest.lean: field tests, injection into engines, and the export of sherds: FIELD_TEST_START, FIELD_TEST_END,
FIELD_TEST_ABORT, FTNOW, TST_INJ_GO, SHERD_EXPORT (spec/13 R420 to R428; spec/18 R547). A test of a service slot runs on its core; one of a
spare position on a core number of its own. -/

namespace Sys2Proof.Machine

/-! ### The export of sherds (R426, R547) -/

def chars (t : String) : List Byte := t.toList.map fun c => BitVec.ofNat 8 c.toNat
def twoDigits (n : Nat) : List Byte := [BitVec.ofNat 8 (48 + n / 10 % 10), BitVec.ofNat 8 (48 + n % 10)]
/-- R426: the FRU text; a part that the sherd does not name is left out. -/
def fruText (b : List Byte) : List Byte :=
  let p (i : Nat) : Nat := leAt b (18 + i) 1
  let part (t : String) (i : Nat) : List Byte := if p i = 0xFF then [] else chars t ++ twoDigits (p i)
  (chars "TM8" ++ part " CD" 0 ++ part " CL" 1 ++ part " P" 3 ++ List.replicate 20 0#8).take 20
/-- Section severity. -/
def cperSev (b : List Byte) : Nat :=
  let kind := leAt b 6 1
  let cls := leAt b 7 1
  if kind = 4 ∨ (kind = 1 ∧ 1 ≤ cls ∧ cls ≤ 3) then 2 else if kind = 1 ∧ cls = 0 then 3 else 0
def cperGuid : List Byte := [0x41, 0x8C, 0x2A, 0x5D, 0x07, 0x9E, 0x3F, 0x4B, 0xA6, 0x1C, 0x0F, 0x84, 0xE2, 0xB7, 0xD9, 0x53].map fun x => BitVec.ofNat 8 x
/-- The parts of the record header (128 bytes) and section descriptor (72 bytes) that are fixed: place and bytes. -/
def cperFixed (b : List Byte) : List (Nat × List Byte) :=
  [(0, chars "CPER"), (4, leBytes 2 0x0101), (6, leBytes 4 0xFFFFFFFF), (10, leBytes 2 1), (12, leBytes 4 (cperSev b)), (20, leBytes 4 328),
   (64, cperGuid), (128, leBytes 4 200), (132, leBytes 4 128), (144, cperGuid), (176, leBytes 4 (cperSev b)), (180, fruText b)]
/-- R426: the CPER record of a sherd. -/
def cperRecord (b : List Byte) : List Byte :=
  ((List.range 200).map fun i => ((cperFixed b).findSome? fun p => if p.1 ≤ i then p.2[i - p.1]? else none).getD (Config.cperByte b i)) ++ b

/-- R426: sherds that the device exports by itself, oldest first. -/
def exportNow (s : State) (bs : List (List Byte)) : State := each bs (fun s b => emitSent s (.cper ((cperRecord b).map BitVec.toNat))) s
/-- SHERD_EXPORT (R547): the request that waits in channel `c`; `hostErr` tells how many bytes are written before a write fails. -/
def execSherdExport (c : Nat) (hostErr : Option Nat) (s : State) : Out :=
  if !(chanBound s c && chanBusy s c && chanB s c == 0x5000 && c == 3) then .next s
  else
    let opt := payByte s c 1
    let addr := payNat s c 8 8
    let len := payNat s c 16 4
    if payByte s c 0 ≠ 1 ∨ 1 < opt ∨ !payZero s c 2 8 ∨ addr % 64 ≠ 0 then .next (mbxAck s c 1)
    else
      let all := (if opt = 0 then s.tst.sherds else s.tst.sherds.take s.tst.fresh).reverse
      let fit := all.take (len / 328)
      let left := all.length - fit.length
      let bytes := fit.flatMap cperRecord
      let reply (s : State) (w n l code : Nat) : State :=
        let s := rput (rput s (r_MBX_PAY c 6) (BitVec.ofNat 32 w)) (r_MBX_PAY c 7) (BitVec.ofNat 32 (n + l * 65536))
        mbxAck s c code
      match hostErr with
      | some w =>
        let w := min w bytes.length
        .next (reply (hostWrite s addr (bytes.take w)) w (w / 328) (all.length - w / 328) 3)
      | none =>
        let s := modTst (hostWrite s addr bytes) fun t => { t with fresh := left }
        .next (reply s bytes.length fit.length left (if left = 0 then 0 else 2))

/-! ### Field tests (R420 to R422, R428) -/

/-- The core that stands for a position under test. -/
def testCore (s : State) (d cl pos : Nat) : Nat :=
  match (List.range 16).find? fun k => posOf s (coreId d cl k) == pos with
  | some k => coreId d cl k
  | none => 98304 + 4096 * (pos / 16) + coreId d cl (pos % 16)
/-- May the position be tested now? -/
def testDue (s : State) (d cl pos : Nat) : Bool :=
  match tblFind s.tst.tested (posKey d cl pos) with
  | none => true
  | some t => decide (fget s r_TST_CFG f_TST_CFG_PERIOD * 3600000000000 ≤ nsSince s t)
def allPositions : List (Nat × Nat) := (List.range 16).flatMap fun cl => (List.range 17).map fun p => (cl, p)
/-- R420: the position of a die that is next: spares, then service slots of clusters without a saggar. -/
def nextTest (s : State) (d : Nat) : Option (Nat × Nat) :=
  let free := allPositions.filter fun p => (tblFind s.rst.retired (posKey d p.1 p.2)).isNone && testDue s d p.1 p.2
  match free.find? fun p => !positionUsed s d p.1 p.2 with
  | some p => some p
  | none => free.find? fun p => positionUsed s d p.1 p.2 && (sgOfCluster s d p.1).isNone
def testsDie (s : State) (d : Nat) : Bool := s.tst.tests.any fun t => t.die == d
/-- The set in use. -/
def patSet (s : State) : Option (Nat × Memory) := if s.tst.useB then s.tst.slotB else s.tst.slotA
def setBytes (m : Memory) : List Byte := memReadN m 0 (leNat (memReadN m 12 4))
/-- The descriptor of pattern `i` of a set, and its bytes. -/
def patternAt (m : Memory) (i : Nat) : Option (List Byte) :=
  let b := setBytes m
  (patPlaces b (leAt b 6 2) 128).bind fun p => p.1[i]?.map fun o => b.drop o
def patCode : Nat → List Byte → List W64
  | 0, _ => []
  | n + 1, b => BitVec.ofNat 64 (leAt b 0 8) :: patCode n (b.drop 8)
/-- R421: the pattern in the position's code store and scratchpad: thread 0 runs from the first word. -/
def loadPattern (s : State) (c : Nat) (p : List Byte) : State :=
  let code := leAt p 4 4
  modCore s c fun k =>
    { blankCore k with mode := .test, rl := 64, code := patCode (code / 8) (p.drop 64), spad := memWriteN [] 0 ((p.drop (64 + code)).take (leAt p 8 4)),
                       threads := (List.range 64).foldl (fun t i => tblSet (fun _ => threadReset) t i { threadReset with st := if i = 0 then .run else .halt }) [],
                       active := s.tb.tb }
/-- FIELD_TEST_START (R420): the tester of die `d` begins with its next position. -/
def execFieldTestStart (d : Nat) (s : State) : Out :=
  let before := (List.range d).all fun q => testsDie s q || !dieUp s q || (nextTest s q).isNone
  match nextTest s d, patSet s with
  | some (cl, pos), some set =>
    if decide (d < 16) && fbit s r_TST_CTL f_TST_CTL_FTEN && dieUp s d && !testsDie s d && before && fget s r_PWR_STAT f_PWR_STAT_STATE == 0
        && decide (s.tst.tests.length < fget s r_TST_CFG f_TST_CFG_MAXDIE) then
      (match patternAt set.2 0 with
      | some p =>
        let c := testCore s d cl pos
        let t : FieldTest := { die := d, cl := cl, pos := pos, core := c, pattern := 0, began := s.tb.tb, fails := 0, set := set }
        let s := modTst s fun x => { x with tests := x.tests ++ [t], tested := tblPut x.tested (posKey d cl pos) s.tb.tb }
        .next (loadPattern (fadd s r_TST_STAT f_TST_STAT_RUNNING 1) c p)
      | none => .next s)
    else .next s
  | _, _ => .next s

/-- The test on die `d` ends: the core is scrubbed; one that has passed clears its suspects. -/
def testOver (s : State) (t : FieldTest) (passed : Bool) : State :=
  let s := fadd (fput s r_TST_STAT f_TST_STAT_RUNNING (fget s r_TST_STAT f_TST_STAT_RUNNING - 1)) r_TST_RUNS f_TST_RUNS_CNT 1
  let s := modTst s fun x => { x with tests := x.tests.filter fun y => y.die != t.die, tested := tblPut x.tested (posKey t.die t.cl t.pos) s.tb.tb }
  let s := if 98304 ≤ t.core ∨ passed then setCore s t.core coreReset else modCore s t.core blankCore
  if passed then modRst s fun r => { r with untested := r.untested.filter (· != posKey t.die t.cl t.pos) } else s
/-- R421: what the pattern has left: CRC-64 of its output range. -/
def patternCrc (k : Core) (p : List Byte) : W64 := crc64Add 0 (memReadN k.spad (leAt p 12 4) (leAt p 16 4))
/-- FIELD_TEST_END (R421): the pattern that runs on die `d` has ended, or has exceeded its time. The next one follows, or the test ends. -/
def execFieldTestEnd (d : Nat) (s : State) : Out :=
  match s.tst.tests.find? fun t => t.die == d with
  | none => .next s
  | some t =>
    let k := getCore s t.core
    let finished := allStopped k && nothingOutstanding k && !stepEventsDue k
    let late := decide (fget s r_TST_CFG f_TST_CFG_TMO * 1000000 < nsSince s t.began)
    match patternAt t.set.2 t.pattern with
    | none => .next s
    | some p =>
      if !finished && !late then .next s
      else if finished && !late && (patternCrc k p).toNat == leAt p 24 8 && k.step.toNat == leAt p 32 8 && t.fails == leAt p 40 4 then
        match patternAt t.set.2 (t.pattern + 1) with
        | some q =>
          .next (loadPattern (modTst s fun x => { x with tests := x.tests.map fun y =>
            if y.die = d then { y with pattern := t.pattern + 1, began := s.tb.tb, fails := 0 } else y }) t.core q)
        | none => .next (testOver s t true)
      else
        let slot := if 98304 ≤ t.core then 0xFF else slotOf t.core
        let s := sherd s { kind := 5, place := [d, t.cl, slot, t.pos, 0xFF, 0], pattern := leAt p 0 4 + t.set.1 * 2 ^ 32, crcExp := leAt p 24 8,
                           crcObs := (patternCrc k p).toNat, src := srcDie d 26, dur := nsSince s t.began }
        let s := exportNow s (s.tst.sherds.take 1)
        let s := raise s { eventOf s (srcDie d 26) with addr := posKey d t.cl t.pos, sub := t.pos }
        .next (fadd (testOver s t false) r_TST_FAILS f_TST_FAILS_CNT 1)

/-- FIELD_TEST_ABORT (R422): the cluster that holds a position under test is bound. -/
def execFieldTestAbort (d cl pos : Nat) (s : State) : Out := when_ (sgOfCluster s d cl).isSome s (stopTest s d cl pos)
/-- FTNOW (R428): a round starts now: no position counts as tested. -/
def execFtnow (s : State) : Out := .next (modTst s fun t => { t with tested := [] })

/-! ### TST_INJ (R427) -/

/-- TST_INJ_GO (R427): a write of `v`, with GO, to TST_INJ. KIND 0 ends an injection. -/
def execTstInjGo (v : W32) (s : State) : Out :=
  let kind := fldGet v f_TST_INJ_KIND
  let c := coreId (fldGet v f_TST_INJ_DIE) (fldGet v f_TST_INJ_CL) (fldGet v f_TST_INJ_SLOT)
  let bound := (sgOfCluster s (dieOf c) (clOf c)).isSome || (getCore s c).mode == .test
  if kind = 3 then .next s
  else if !bound then .next (rput (modTst s fun t => { t with arm := none }) r_TST_INJ 0)
  else if kind = 0 then .next (rput (modTst s fun t => { t with arm := none }) r_TST_INJ (v &&& 0x3FFFF#32))
  else
    .next (rput (modTst s fun t => { t with arm := some { core := c, engine := fldGet v f_TST_INJ_ENG, set := fldGet v f_TST_INJ_SET, kind := kind,
                                                          persist := fldGet v f_TST_INJ_PERSIST == 1, fired := false } }) r_TST_INJ (v &&& 0x8003FFFF#32))

end Sys2Proof.Machine
end

