-- ==== Sys2Proof/Machine/Journal.lean ====
section
/-! DEFINITION. Machine/Journal.lean: recovery of the journal, the pair of twins and its cells: SPARE_MOVE, JOURNAL_RECOVERY, REC, JRNL_ACK,
JRNL_DONE, JRNL_STATE, JRNL_BEAT, JRNL_BEAT_RECEIVE, QUERY, SYNCREQ, SYNCEND, JRNL_RESEND, TWINLOST, SOLO, REJOIN (spec/16 R487 to R508). -/

namespace Sys2Proof.Machine

/-! ### Spare blocks (R491) -/

/-- SPARE_MOVE: reads of logical block `blk` have returned `count` corrected errors within one day of timebase. -/
def execSpareMove (blk count : Nat) (s : State) : Out :=
  when_ (decide (blk < 30720) && decide (16 < count) && mramOn s && !s.stm.jnl.failed.contains blk) s (spareMove s blk)

/-! ### The order of items of a stream -/

/-- R226: how far `x` lies ahead of `base`; 0 for what lies behind. -/
def ahead (base x : Nat) : Nat :=
  let d := (x + 2 ^ 48 - base % 2 ^ 48) % 2 ^ 48
  if d < 2 ^ 47 then d else 0
/-- Keeps accepted items in the order of their SEQ from `base` on. -/
def insertAcc (base : Nat) (a : Accepted) : List Accepted → List Accepted
  | [] => [a]
  | b :: l => if ahead base a.rcd.seq ≤ ahead base b.rcd.seq then a :: b :: l else b :: insertAcc base a l
def accOf (r : JRec) : Accepted := { rcd := { r with commit := 1 }, rerun := r.mark == 2, logged := false, hangs := 0 }
/-- A committed item joins those that are not done. -/
def holdItem (s : State) (n : Nat) (r : JRec) : State :=
  setInflight (modStrm s n fun t => { t with accepted := insertAcc (tblGet jstrmNone s.stm.jnl.streams n).seqbase (accOf r) t.accepted }) n (inflight s n + 1)
/-- An item of a holder is done or gone. -/
def dropItem (s : State) (n seq : Nat) : State :=
  if (getStrm s n).accepted.any fun a => a.rcd.seq == seq then
    setInflight (modStrm s n fun t => { t with accepted := t.accepted.filter fun a => a.rcd.seq != seq }) n (inflight s n - 1)
  else s

/-! ### The state of the pair (R493, R504 to R507) -/

def jnlPeer (s : State) : Nat := fget s r_JNL_PAIR f_JNL_PAIR_PEER
def jnlPeerV (s : State) : Bool := fbit s r_JNL_PAIR f_JNL_PAIR_PEERV
/-- A cell has come from the twin that JNL_PAIR names. -/
def fromTwin (s : State) (spkg : Nat) : Bool := jnlPeerV s && spkg == jnlPeer s
/-- R504: every M_JRNL cell counts as a beat. -/
def heardTwin (s : State) : State := modJnl s fun j => { j with lastHeard := s.tb.tb }
/-- The streams whose journal state is in use, or that hold anything, in a twinned mode. -/
def twinStrms (s : State) : List Nat :=
  ((s.stm.jnl.streams.map Prod.fst) ++ (s.stm.strms.map Prod.fst).filter fun n => (tblFind s.stm.jnl.streams n).isNone).filter fun n =>
    decide (n < 65536) && stMode s n != 0
def setRunner (s : State) (b : Bool) : State := modJnl (fput s r_JNL_STAT f_JNL_STAT_RUNNER (if b then 1 else 0)) fun j => { j with runner := b }
def queryBytes (n seq : Nat) : List Byte := jrnlBytes n seq 0x14 []

/-- R493, R507: the twin names this module: prepared records are asked for and the states of the streams exchanged. -/
def enterJoining (s : State) : State :=
  let s := setPstate s 1
  let s := each s.stm.jnl.asked (fun s p => jrnlSend s true 0x14 (queryBytes p.1 p.2)) s
  each (twinStrms s) sendState s
/-- R493, R497: the pair is formed; at the first pairing the leader becomes the runner. -/
def enterPaired (s : State) : State :=
  let lead := decide (myPkg s < jnlPeer s)
  let s := fput (setPstate s 2) r_JNL_STAT f_JNL_STAT_LEADER (if lead then 1 else 0)
  if isRunner s == s.stm.jnl.twin.2.1 then setRunner s lead else s

/-- JRNL_BEAT (R504): every 100 µs. -/
def execJrnlBeat (s : State) : Out :=
  let flags := (if isRunner s then 1 else 0) + (if soloed s then 2 else 0)
  when_ (jnlPeerV s && decide (100000 ≤ (s.tb.tb - s.stm.jnl.beatOut).toNat)) s
    (jrnlSend (modJnl s fun j => { j with beatOut := s.tb.tb }) false 0x13
      (jrnlBytes 0 0 0x13 (leBytes 7 0 ++ leBytes 1 (pstate s) ++ leBytes 1 flags ++ leBytes 2 (jnlPeer s))))

/-- JRNL_BEAT_RECEIVE (R493, R497): a BEAT of package `spkg` with its PSTATE, RUNNER, SOLO, and the package it names. -/
def execJrnlBeatReceive (spkg pst : Nat) (runner solo : Bool) (named : Nat) (s : State) : Out :=
  if !fromTwin s spkg then .next s
  else
    let me := named == myPkg s
    let s := modJnl (heardTwin s) fun j => { j with twin := (pst, runner, solo), named := me }
    if !me then .next (if pstate s == 1 || pstate s == 2 then setPstate s 0 else s)
    else
      let s := if pstate s = 0 then enterJoining s else s
      .next (if pstate s == 1 && (pst == 1 || pst == 2) && s.stm.jnl.asked.isEmpty then enterPaired s else s)

/-! ### Records at the receiver (R498, R500, R504) -/

/-- R498: the holder commits a record; a committed record of an older item in its slot is retired first. -/
def holdRec (s : State) (r : JRec) : State :=
  let n := r.stream
  let s := match tblFind s.stm.jnl.recs (recSlot n r.seq) with
    | some o => if o.seq = r.seq then s else dropItem (retireRec s n o.seq) n o.seq
    | none => s
  let s := holdItem (commitRec (writeRec s { r with commit := 0 } 0) r) n r
  if ahead (stSeq s n) r.seq = 0 ∧ stSeq s n ≠ r.seq then s else setStSeq s n ((r.seq + 1) % 2 ^ 48)

/-- REC: record `r` of the twin (KIND is its MARK). -/
def execRec (spkg : Nat) (r : JRec) (s : State) : Out :=
  if !fromTwin s spkg || soloed s || !mramOn s then .next s
  else
    let s := heardTwin s
    let n := r.stream
    let ack (s : State) (st : Nat) : State := sendAck s n r.seq r.mark st (if stMode s n = 2 then ((getRec s n r.seq).map fun x => x.digest.toNat).getD 0 else 0)
    let held := (getRec s n r.seq).any (fun x => x.commit == 1) || (getDone s n r.seq).isSome
    if pstate s = 4 then .next (ack (if held then s else modJnl (holdRec s r) fun j => { j with synced := j.synced + 1 }) 0)
    else match s.stm.jnl.answered.find? fun x => x.1 == n && x.2.1 == r.seq with
      | some (_, _, ok) => .next (ack s (if ok then 0 else 1))
      | none =>
        if !(stState s n == stRun && stMode s n != 0) then .next (ack s 2)
        else if stMode s n = 2 then
          .next (dualCompare (modJnl s fun j => { j with twinRec := addOnce j.twinRec (n, r.seq, r.digest) }) n)
        else if !isHolder s n then .next (ack s 2)
        else .next (ack (if held then s else holdRec s r) 0)

/-! ### Answers (R495, R500, R501, R490 Table 6) -/

/-- R490: the place of a stream after recovery: STM_SEQ, STM_LDONE and INFLIGHT from its records and DONE entries. -/
def rebuildStrm (s : State) (n : Nat) : State :=
  let j := s.stm.jnl
  let base := (tblGet jstrmNone j.streams n).seqbase
  let recs := (j.recs.filter fun (p : Nat × JRec) => p.2.stream == n && p.2.commit == 1).map Prod.snd
  let dones := (j.dones.filter fun (p : Nat × Cpl) => p.1 / 16 == n).map fun (p : Nat × Cpl) => p.2.seq
  let far := (recs.map JRec.seq ++ dones).foldl (fun m x => max m (ahead base x + 1)) 0
  let s := setStSeq s n ((base + (if recs.isEmpty ∧ dones.isEmpty then 0 else far)) % 2 ^ 48)
  let s := if dones.isEmpty then s else setLdone s n ((base + dones.foldl (fun m x => max m (ahead base x)) 0) % 2 ^ 48)
  let acc := recs.foldl (fun l r => insertAcc base (accOf r) l) []
  setInflight (modStrm s n fun t => { t with accepted := acc }) n acc.length

def noteDisc (s : State) : State := fadd s r_JNL_RECOV f_JNL_RECOV_DISC 1
/-- Table 6: the twin has answered a QUERY. -/
def resolveAsked (s : State) (n seq : Nat) (held : Bool) : State :=
  let s := modJnl s fun j => { j with asked := j.asked.filter fun x => x != (n, seq) }
  match getRec s n seq with
  | none => s
  | some r =>
    if !held then noteDisc (retireRec s n seq)
    else if (getDone s n seq).isSome then rebuildStrm (retireRec s n seq) n
    else fadd (rebuildStrm (putRec (fadd s r_JNL_COMMITS f_JNL_COMMITS_CNT 1) { r with commit := 1 }) n) r_JNL_RECOV f_JNL_RECOV_RERUN 1

/-- R496: cells that waited for a place go. -/
def drainTodo (s : State) : State :=
  let k := 4096 - s.stm.jnl.unacked.length
  let go := s.stm.jnl.todo.take k
  let s := modJnl s fun j => { j with todo := j.todo.drop k, unacked := j.unacked ++ go.map fun c => { c with sent := s.tb.tb } }
  each go (fun s c => jrnlCell s c.words) s

def cellKey (c : JCell) : Nat := c.words.headD 0
/-- The oldest cell that an ACK of (kind, key) answers is no longer kept. -/
def ackedCell (s : State) (kind key : Nat) : State :=
  modJnl s fun j => { j with unacked := match j.unacked.findIdx? fun c => cellKey c == key && (c.kind == kind || (c.kind == 1 && kind == 2)) with
    | some i => j.unacked.eraseIdx i
    | none => j.unacked }

/-- JRNL_ACK: ACK of a cell of `kind` for stream `n` and `seq` with `status`. -/
def execJrnlAck (spkg n seq kind status : Nat) (s : State) : Out :=
  if !fromTwin s spkg || soloed s || !mramOn s then .next s
  else
    let s := heardTwin s
    let key := n + seq * 65536
    let s := if kind = 1 ∨ kind = 2 then
        let waits := (getStrm s n).prepared.any fun p => p.1.seq == seq
        if !waits then ackedCell s kind key
        else if status = 0 then settle (modJnl s fun j => { j with acked := addOnce j.acked (n, seq) }) n
        else if status = 1 then twinDiff s n seq
        else modJnl s fun j => { j with peer := tblErase j.peer n }
      else
        let s := ackedCell s kind key
        if kind = 0x14 then (if s.stm.jnl.asked.contains (n, seq) then resolveAsked s n seq (status == 3 || status == 5) else s)
        else if kind = 0x16 ∧ pstate s = 4 then setRunner (enterPaired s) true
        else s
    .next (drainTodo s)

/-! ### DONE, STATE, QUERY (R498, R502, R494, R504) -/

/-- The holder takes a DONE entry: D0 to D3. -/
def holdDone (s : State) (n : Nat) (c : Cpl) : State := setLdone (dropItem (retireRec (putDone s n c) n c.seq) n c.seq) n c.seq

/-- R502: the DONE of a DUAL stream is compared with this module's own, or kept until it is committed. -/
def dualDone (s : State) (n : Nat) (c : Cpl) : State :=
  let s := modJnl s fun j => { j with doneFrom := tblPut j.doneFrom n c.seq }
  match getDone s n c.seq with
  | some own => if own.status = c.status ∧ own.crc = c.crc then s else noteDiverge s n c.seq
  | none => modJnl s fun j => { j with early := tblPut j.early (earlyKey n c.seq) (c.status, c.crc) }

/-- JRNL_DONE: the DONE cell of stream `n`. -/
def execJrnlDone (spkg n : Nat) (c : Cpl) (s : State) : Out :=
  if !fromTwin s spkg || soloed s || !mramOn s then .next s
  else
    let s := heardTwin s
    let held := (getDone s n c.seq).isSome
    let s := if pstate s = 4 then (if held then s else modJnl (holdDone s n c) fun j => { j with synced := j.synced + 1 })
      else if stMode s n = 2 then (if tblFind s.stm.jnl.doneFrom n = some c.seq then s else dualDone s n c)
      else if isHolder s n && !held then holdDone s n c
      else s
    .next (sendAck s n c.seq 0x11 0 0)

/-- JRNL_STATE: STM_SEQ, MODE and STATE of the twin's stream `n`. -/
def execJrnlState (spkg n seq mode state : Nat) (s : State) : Out :=
  if !fromTwin s spkg || !mramOn s then .next s
  else
    let s := heardTwin s
    let new := (tblFind s.stm.jnl.peer n).isNone
    let s := modJnl s fun j => { j with peer := tblPut j.peer n (seq, mode, state) }
    let s := if pstate s = 4 then
        let s := if new then modJnl s fun j => { j with synced := j.synced + 1 } else s
        if mode = 1 then setStSeq (modJStrm s n fun _ => { seqbase := seq, mode := mode, used := state != 0 }) n seq else s
      else if twinned s n && stState s n == stRun && state == stRun && !(mode == stMode s n && seq == stSeq s n) then haltStrm s n 6
      else s
    .next (sendAck s n 0 0x12 0 0)

/-- QUERY: does this module hold the record of (stream, SEQ)? -/
def execQuery (spkg n seq : Nat) (s : State) : Out :=
  if !fromTwin s spkg || soloed s then .next s
  else
    let s := heardTwin s
    .next (sendAck s n seq 0x14 (if (getDone s n seq).isSome then 5 else if (getRec s n seq).any fun r => r.commit == 1 then 3 else 4) 0)

/-- JRNL_RESEND: the `i`-th cell that is not acknowledged goes again, 1 ms after it was sent. -/
def execJrnlResend (i : Nat) (s : State) : Out :=
  match s.stm.jnl.unacked[i]? with
  | none => .next s
  | some c => when_ (decide (1000000 ≤ (s.tb.tb - c.sent).toNat)) s
      (fadd (jrnlCell (modJnl s fun j => { j with unacked := j.unacked.set i { c with sent := s.tb.tb } }) c.words) r_JNL_TWIN_RTX f_JNL_TWIN_RTX_CNT 1)

/-! ### Losing the twin, SOLO (R505, R506) -/

/-- R506: the prepared records of a stream are committed and accepted; one that the log has no room for goes back to the front end. -/
def soloPrepared (n : Nat) : List (JRec × List Byte × W64) → State → State
  | [], s => modStrm s n fun t => { t with prepared := [] }
  | (r, bs, t0) :: l, s =>
    if acceptFits s n r bs then soloPrepared n l (acceptItem (commitRec s r) n r bs)
    else modStrm s n fun t => { t with prepared := [], fetched := ((r, bs, t0) :: l).map (fun p => (p.1, p.2.1)) ++ t.fetched }

/-- R506: entry into SOLO. -/
def enterSolo (s : State) : State :=
  let holder := !isRunner s
  let strms := twinStrms s
  let s := setPstate s 3
  let s := each s.stm.jnl.asked (fun s p => noteDisc (retireRec s p.1 p.2)) s
  let s := modJnl s fun j => { j with asked := [], unacked := [], todo := [], early := [], twinRec := [], acked := [], answered := [], doneFrom := [] }
  let s := each strms (fun s n =>
    let ps := (getStrm s n).prepared
    soloPrepared n ps (modStrm s n fun t => { t with prepared := [] })) s
  if !holder then s
  else each (strms.filter fun n => stMode s n == 1) (fun s n => modStrm s n fun t => { t with accepted := t.accepted.map fun a => { a with rerun := true } })
    (setRunner s true)

/-- TWINLOST (R505): the twin has been silent for TMO ms, or its package is lost. -/
def execTwinlost (s : State) : Out :=
  let quiet := decide (fget s r_JNL_PAIR f_JNL_PAIR_TMO * 1000000 ≤ (s.tb.tb - s.stm.jnl.lastHeard).toNat)
  if jnlPeerV s && !soloed s && (quiet || s.kln.role.lost.contains (jnlPeer s)) then
    let s := fput s r_JNL_STAT f_JNL_STAT_TWINLOST 1
    if fbit s r_JNL_PAIR f_JNL_PAIR_AUTOSOLO then .next (enterSolo s)
    else .next (modJnl (setPstate s 0) fun j => { j with named := false, peer := [] })
  else .next s

/-- SOLO (R506): a write of JNL_CTL.SOLO. -/
def execSolo (s : State) : Out := when_ (!soloed s) s (enterSolo s)

/-! ### Rejoining (R507) -/

/-- R507: a DUAL stream stands still on both members with nothing in flight at one STM_SEQ. -/
def dualStill (s : State) (n : Nat) : Bool :=
  let p := (tblFind s.stm.jnl.peer n).getD (0, 2, 0)
  (stState s n == stOff || stState s n == stStopped) && inflight s n == 0 && (p.2.2 == stOff || p.2.2 == stStopped) && p.1 == stSeq s n

/-- What a rejoin transfers of MIRROR streams: their committed records and DONE entries. -/
def syncRecs (s : State) : List JRec :=
  (s.stm.jnl.recs.filter fun (p : Nat × JRec) => p.2.commit == 1 && stMode s p.2.stream == 1).map Prod.snd
def syncDones (s : State) : List (Nat × Cpl) :=
  (s.stm.jnl.dones.filter fun (p : Nat × Cpl) => stMode s (p.1 / 16) == 1).map fun (p : Nat × Cpl) => (p.1 / 16, p.2)

/-- REJOIN: a write of JNL_CTL.REJOIN in SOLO. -/
def execRejoin (s : State) : Out :=
  if !soloed s then .next s
  else if (twinStrms s).any fun n => stMode s n == 2 && !dualStill s n then
    .next (fput (fput s r_JNL_STAT f_JNL_STAT_REJERR 1) r_JNL_STAT f_JNL_STAT_SPLIT 1)
  else
    let strms := twinStrms s
    let recs := syncRecs s
    let dones := syncDones s
    let s := setRunner (setPstate (heardTwin s) 4) true
    let s := jrnlSend s false 0x15 (jrnlBytes 0 0 0x15 [])
    let s := each recs (fun s r => jrnlSend s true 1 (recBytes64 r)) s
    let s := each dones (fun s p => jrnlSend s true 0x11 (doneCell p.1 p.2)) s
    let s := each strms sendState s
    .next (jrnlSend s true 0x16 (jrnlBytes 0 0 0x16 (leBytes 7 0 ++ leBytes 4 (recs.length + dones.length + strms.length))))

/-- R507: the receiver retires what it holds of a MIRROR stream. -/
def retireStrm (s : State) (n : Nat) : State :=
  let t := getStrm s n
  let s := modJnl s fun j => { j with recs := j.recs.filter fun (p : Nat × JRec) => p.2.stream != n, streams := tblErase j.streams n }
  let s := dropItemCores (retireDones s n) n true
  let s := rewindSq s n (t.fetched.length + t.prepared.length)
  setInflight (modStrm s n fun t => { t with fetched := [], prepared := [], accepted := [], run := none }) n 0

/-- SYNCREQ: the twin, in SOLO until now, begins a transfer. -/
def execSyncreq (spkg : Nat) (s : State) : Out :=
  if !fromTwin s spkg || !mramOn s then .next s
  else
    let s := heardTwin s
    let mirror := (twinStrms s).filter fun n => stMode s n == 1 || (tblGet jstrmNone s.stm.jnl.streams n).mode == 1
    let jn := (s.stm.jnl.streams.filter fun (p : Nat × JStream) => p.2.mode == 1 && !mirror.contains p.1).map Prod.fst
    let s := setPstate s 4
    let s := modJnl s fun j => { j with synced := 0, peer := [], asked := [], unacked := [], todo := [], early := [], twinRec := [], acked := [],
                                        answered := [], doneFrom := [] }
    .next (each (mirror ++ jn) retireStrm s)

/-- SYNCEND: the transfer of `count` cells is complete; this module is the holder. -/
def execSyncend (spkg count : Nat) (s : State) : Out :=
  if !fromTwin s spkg || soloed s || !mramOn s then .next s
  else
    let s := heardTwin s
    if pstate s = 4 then
      (if count ≤ s.stm.jnl.synced then
        let s := modJnl (setRunner s false) fun j => { j with twin := (2, true, false) }
        let s := enterPaired s
        .next (sendAck (each (twinStrms s) sendState s) 0 0 0x16 0 0)
      else .next s)
    else .next (sendAck s 0 0 0x16 0 0)

/-! ### Recovery (R490) -/

/-- Table 5 and Table 6 on one record of a stream in mode `mode`; `bad`: its slot reads as uncorrectable. -/
def recoverRec (s : State) (r : JRec) (mode : Nat) (bad : Bool) : State :=
  let n := r.stream
  let s := if bad && r.commit == 1 then raiseSrc s (srcCtl 5) else s
  if r.commit = 1 ∧ !bad then
    (if (getDone s n r.seq).isSome then retireRec s n r.seq else fadd s r_JNL_RECOV f_JNL_RECOV_RERUN 1)
  else if mode = 0 then (if r.commit = 1 then s else noteDisc (retireRec s n r.seq))
  else modJnl (putRec s { r with commit := 0 }) fun j => { j with asked := addOnce j.asked (n, r.seq) }

/-- R490, R234: one stream of the journal. -/
def recoverJournalStrm (s : State) (bad : List Nat) (n : Nat) (js : JStream) : State :=
  let mine := (s.stm.jnl.recs.filter fun (p : Nat × JRec) => p.2.stream == n).map Prod.snd
  let isBad (r : JRec) : Bool := bad.contains (recSlot n r.seq)
  let lost := js.mode == 0 && mine.any fun r => isBad r && r.commit == 1
  let s := each mine (fun s r => recoverRec s r js.mode (isBad r)) s
  let s := setStState (rebuildStrm s n) n stRecover
  if lost then setStSeq (haltStrm s n 8) n js.seqbase else s

/-- JOURNAL_RECOVERY: once after a module reset. `bad` lists record slots that the MRAM returns as uncorrectable. -/
def execJournalRecovery (bad : List Nat) (s : State) : Out :=
  if s.stm.jnl.recovered then .next s
  else
    let s := rput (fput s r_JNL_STAT f_JNL_STAT_CLEAN (if s.stm.jnl.clean then 1 else 0)) r_JNL_RECOV 0
    let s := modJnl s fun j => { j with recovered := true, clean := false, asked := [] }
    .next (each (s.stm.jnl.streams.filter fun (p : Nat × JStream) => p.2.used) (fun s p => recoverJournalStrm s bad p.1 p.2) s)

end Sys2Proof.Machine
end

