-- ==== Sys2Proof/Machine/Preempt.lean ====
section
/-! DEFINITION. Machine/Preempt.lean: pre-emption, restoring, and Function Level Resets: TNT_PREEMPT_SAVE, PREEMPT_SAVE_COMPLETE,
TNT_PREEMPT_RESTORE, RESTORE_COMPLETE, FLR (spec/06 R203 to R211, R214; spec/07 R218, R234; spec/13 R413). -/

namespace Sys2Proof.Machine

/-! ### New names for contexts and clusters -/

/-- Contexts and clusters of a saggar go by other names. -/
structure Renaming where
  core : Nat → Nat
  place : Nat × Nat → Nat × Nat

def renRegion (f : Renaming) (r : Region) : Region :=
  match r with
  | .cluster d cl off => .cluster (f.place (d, cl)).1 (f.place (d, cl)).2 off
  | r => r
def renReq (f : Renaming) (r : OutReq) : OutReq :=
  let g := renRegion f
  match r with
  | .mem p k a loc act => .mem p k a (g loc) act
  | .dma src dst len => .dma (g src) (g dst) len
  | .frd la rank ra len => .frd (g la) rank ra len
  | .fwr la rank ra len => .fwr (g la) rank ra len
  | .fatom k o c la rank ra => .fatom k o c (la.map g) rank ra
  | .send la rank len tag => .send (g la) rank len tag
  | .recv la any rank room tag => .recv (g la) any rank room tag
  | .coll k gr src dst n => .coll k gr (src.map g) (dst.map g) n
  | r => r
def renNiReq (f : Renaming) (r : NiReq) : NiReq := { r with core := f.core r.core, req := renReq f r.req }
def renXfer (f : Renaming) (x : Xfer) : Xfer :=
  { x with who := (match x.who with
             | .thread c t i => .thread (f.core c) t i
             | w => w)
           src := renRegion f x.src, dst := renRegion f x.dst }
def renNi (f : Renaming) (n : Ni) : Ni :=
  { n with out := tblMap (fun o => { o with who := renNiReq f o.who }) n.out, sums := n.sums.map fun x => { x with core := f.core x.core },
           wait := n.wait.map (renNiReq f), recvs := n.recvs.map fun r => { r with who := renNiReq f r.who } }
def renSyncOp (f : Renaming) (o : SyncOp) : SyncOp :=
  { o with who := match o.who with
      | .thread d r => .thread d (renNiReq f r)
      | w => w }
def renSync (f : Renaming) (x : SyncDie) : SyncDie :=
  { x with queue := x.queue.map (renSyncOp f), waits := x.waits.map (renSyncOp f), held := x.held.map fun p => (renNiReq f p.1, renSyncOp f p.2) }
def renColNode (f : Renaming) (x : ColNode) : ColNode :=
  { x with locals := x.locals.map fun o => { o with who := renNiReq f o.who, src := o.src.map (renRegion f), dst := o.dst.map (renRegion f) } }
def renPiece (f : Renaming) (p : Piece) : Piece := { p with src := renRegion f p.src, dst := renRegion f p.dst }
def renSpad (f : Renaming) (r : SpadReq) : SpadReq :=
  { r with act := match r.act with
      | .wideRead t a => .wideRead (renRegion f t) a
      | a => a }
/-- Everything that names a context or a cluster of the saggar, the contexts' own table aside. -/
def renameAll (s : State) (sg : Nat) (f : Renaming) : State :=
  let s := modMem s fun m => { m with acc := tblMap (fun a => { a with core := f.core a.core, loc := renRegion f a.loc }) m.acc,
                                      dma := tblMap (fun g => { g with thq := g.thq.map (renXfer f), feq := g.feq.map (renXfer f) }) m.dma }
  let s := modFab s fun x => { x with ni := tblMap (renNi f) x.ni, sync := tblMap (renSync f) x.sync,
                                      groups := tblMap (fun g => { g with nodes := tblMap (renColNode f) g.nodes }) x.groups }
  modStm s fun t => { t with strms := tblMap (fun x => { x with run := x.run.map fun r =>
    if r.sg = sg then { r with pieces := r.pieces.map (renPiece f), outs := r.outs.map (renPiece f) } else r }) t.strms }
/-- The contexts of the saggar move to their new names. -/
def moveCores (s : State) (cs : List Nat) (f : Renaming) (g : Core → Core) : State :=
  let old := cs.map fun c => (f.core c, g { getCore s c with spadQ := (getCore s c).spadQ.map (renSpad f) })
  let s := each cs (fun s c => modCore s c blankCore) s
  each old (fun s p => setCore s p.1 p.2) s
/-- A cluster memory moves; its old place reads zero. -/
def moveCluster (s : State) (a b : Nat × Nat) : State :=
  let m := clMem s a.1 a.2
  setClMem (setClMem s a.1 a.2 []) b.1 b.2 m

/-! ### Save (R204 to R207) -/

/-- A GO that is refused. -/
def preRefuse (s : State) (code : Nat) : State :=
  fput (fput s r_TNT_PRE_STAT f_TNT_PRE_STAT_ERR 1) r_TNT_PRE_STAT f_TNT_PRE_STAT_ECODE code
def preStart (s : State) (sg st : Nat) : State :=
  fput (fput (setSgState s sg st) r_TNT_PRE_STAT f_TNT_PRE_STAT_BUSY 1) r_TNT_PRE_STAT f_TNT_PRE_STAT_SG sg
def preDone (s : State) (sg st : Nat) : State :=
  fput (fput (fput (setSgState s sg st) r_TNT_PRE_STAT f_TNT_PRE_STAT_BUSY 0) r_TNT_PRE_STAT f_TNT_PRE_STAT_DONE 1) r_TNT_PRE_STAT f_TNT_PRE_STAT_ECODE 0
def preBusy (s : State) : Bool := fbit s r_TNT_PRE_STAT f_TNT_PRE_STAT_BUSY
def preSg (s : State) : Nat := fget s r_TNT_PRE_STAT f_TNT_PRE_STAT_SG
/-- The write of TNT_PREEMPT. -/
def preWrite (s : State) (sg act : Nat) : State := fput (fput s r_TNT_PREEMPT f_TNT_PREEMPT_SG sg) r_TNT_PREEMPT f_TNT_PREEMPT_ACT act

/-- TNT_PREEMPT_SAVE (R204): a write of TNT_PREEMPT with ACT = 0, GO and the saggar: steps 1 to 5. -/
def execTntPreemptSave (sg : Nat) (s : State) : Out :=
  let s := preWrite s sg 0
  if preBusy s then .next (preRefuse s 3)
  else if 128 ≤ sg ∨ sgState s sg ≠ 1 then .next (preRefuse s 1)
  else .next (each (coresOfSg s sg) (fun s c => modCore (endStall s c) c fun k => { k with mode := if k.mode = .live then .stopped else k.mode, stallAt := none })
    (preStart s sg 2))

/-- Steps 3 to 5 are over: no classification runs (R413), and what the cores have passed on has been performed. -/
def saveReady (s : State) (sg : Nat) : Bool :=
  let cs := coresOfSg s sg
  cs.all (fun c => (getCore s c).classify.isEmpty)
  && s.mem.acc.all fun (p : Nat × Access) => !cs.contains p.2.core || (match p.2.stage, p.2.loc with
    | .ready _, _ => false
    | .half _ _ _ _ _, _ => false
    | .waiting, .cluster _ _ _ => false
    | _, _ => true)

/-- R207: the save area, and the first of its pages at which a save or a restore stops. -/
def saveBase (s : State) (sg : Nat) : Nat :=
  fget s (r_TNT_SG_SAVE_LO sg) f_TNT_SG_SAVE_LO_VA * 65536 + fget s (r_TNT_SG_SAVE_HI sg) f_TNT_SG_SAVE_HI_VA * 2 ^ 32
def saveFault (s : State) (d sg n : Nat) (need : Need) : Option (Nat × Trans) :=
  (List.range (1280 * n)).findSome? fun i =>
    match (translate s d sg (saveBase s sg + 65536 * i) need false).2 with
    | .ok _ => none
    | t => some (saveBase s sg + 65536 * i, t)

/-- R207: a refusal: the job is snuffed, its clusters are scrubbed and the saggar is FREE. -/
def saveRefused (s : State) (sg : Nat) : State :=
  let s := snuffJob s (jobKey s sg) 0x0A
  let s := fput (preRefuse (setSgState s sg 0) 2) r_TNT_PRE_STAT f_TNT_PRE_STAT_BUSY 0
  modSag s sg fun g => { g with clmap := [], saved := none, fault := none, refused := false }

/-- The pages of the save area, for `n` clusters, at the MMU of die `d`: go on, or hold at a fault record, or refused. -/
def throughSaveArea (s : State) (d sg n : Nat) (need : Need) (acct : Nat) (go : State → State) : State :=
  let g := getSag s sg
  if g.refused then saveRefused s sg
  else if g.fault.isSome then s
  else match saveFault s d sg n need with
    | none => go s
    | some (va, .fault k l) =>
      (match faultRecord s d sg k l (midSave d) 5 acct va with
      | (s, t) => modSag s sg fun g => { g with fault := t })
    | some _ => saveRefused s sg

/-- Steps 6 to 9: the contexts and cluster memories are saved, the clusters scrubbed and released. -/
def savedNow (sg : Nat) (s : State) : State :=
  let g := getSag s sg
  let cs := coresOfSg s sg
  let f : Renaming := { core := fun c => if cs.contains c then savedCtx sg (getCore s c).lcore else c,
                        place := fun p => match g.clmap.findIdx? (· == p) with
                          | some l => savedPlace sg l
                          | none => p }
  let lcl := cs.map fun c => ((getCore s c).lcore, (g.clmap.findIdx? (· == (dieOf c, clOf c))).getD 0)
  let runs := runningOn s sg
  let ours (x : Xfer) : Bool := match x.who with
    | .thread c _ _ => cs.contains c
    | .item n _ => runs.contains n
  let xs := s.mem.dma.flatMap fun (p : Nat × DmaEng) => ((p.2.thq ++ p.2.feq).filter ours).map fun x => (p.1, renXfer f x)
  let s := dropXfers s ours
  let s := moveCores (renameAll s sg f) cs f id
  let s := each g.clmap.zipIdx (fun s p => moveCluster s p.1 (savedPlace sg p.2)) s
  preDone (modSag s sg fun g => { g with clmap := [], saved := some { last := g.clmap, lcl := lcl, xfers := xs } }) sg 3

/-- PREEMPT_SAVE_COMPLETE (R204 steps 6 to 9, R206, R207). -/
def execPreemptSaveComplete (s : State) : Out :=
  let sg := preSg s
  let g := getSag s sg
  if preBusy s && sgState s sg == 2 && (g.refused || saveReady s sg) && g.clmap.all fun p => dieUp s p.1 then
    .next (throughSaveArea s ((g.clmap.head?.map (·.1)).getD 0) sg g.clmap.length needAdd 3 (savedNow sg))
  else .next s

/-! ### Restore (R208) -/

/-- The clusters for a restore: those last held when they are free, else free ones in ascending die and cluster. -/
def restoreClusters (s : State) (last : List (Nat × Nat)) : Option (List (Nat × Nat)) :=
  let free := ((List.range 16).filter fun d => dieUp s d && decide (d < fget s r_ID_GRADE f_ID_GRADE_CDCNT)).flatMap fun d =>
    (freeClusters s d).map fun cl => (d, cl)
  if last.all free.contains then some last
  else if last.length ≤ free.length then some (free.take last.length)
  else none

/-- R422, R471: the tests in a cluster that is bound are stopped. -/
def stopTests (s : State) (p : Nat × Nat) : State := each (List.range 17) (fun s k => stopTest s p.1 p.2 k) s

/-- TNT_PREEMPT_RESTORE (R208): a write of TNT_PREEMPT with ACT = 1, GO and the saggar. -/
def execTntPreemptRestore (sg : Nat) (s : State) : Out :=
  let s := preWrite s sg 1
  if preBusy s then .next (preRefuse s 3)
  else if 128 ≤ sg ∨ sgState s sg ≠ 3 then .next (preRefuse s 1)
  else match (getSag s sg).saved.bind fun x => restoreClusters s x.last with
    | none => .next (preRefuse s 1)
    | some m => .next (each m stopTests (preStart (modSag s sg fun g => { g with clmap := m }) sg 4))

/-- R250: where a saved logical core runs on the new clusters. -/
def restoredCtx (s : State) (sg : Nat) (x : SavedSg) (l : Nat) : Nat :=
  let lc := ((x.lcl.find? fun p => p.1 == l).map (·.2)).getD 0
  match clmapOf s sg lc with
  | none => savedCtx sg l
  | some (d, cl) =>
    let b := boundSlots s d cl
    let i := (x.lcl.filter fun p => p.2 == lc && decide (p.1 < l)).length
    coreId d cl (b.getD (i % max 1 b.length) 0) + 4096 * (i / max 1 b.length)

/-- Reads the images back and starts the cores at their saved steps; of those that share a core the first is resident. -/
def restoredNow (sg : Nat) (s : State) : State :=
  match (getSag s sg).saved with
  | none => s
  | some x =>
    let cs := coresOfSg s sg
    let f : Renaming := { core := fun c => if cs.contains c then restoredCtx s sg x (getCore s c).lcore else c,
                          place := fun p => match (List.range x.last.length).find? fun l => savedPlace sg l == p with
                            | some l => (clmapOf s sg l).getD p
                            | none => p }
    let s := moveCores (renameAll s sg f) cs f fun k =>
      { k with mode := (if k.mode = .stopped ∨ k.mode = .parked then .parked else k.mode), active := s.tb.tb }
    let new := cs.map f.core
    let s := each new (fun s c =>
      if (getCore s c).mode = .parked ∧ !(new.any fun q => physOf q == physOf c && (getCore s q).mode == .live) then modCore s c fun k => { k with mode := .live } else s) s
    let s := each (List.range x.last.length) (fun s l => moveCluster s (savedPlace sg l) ((clmapOf s sg l).getD (savedPlace sg l))) s
    let eng (e : Nat) : Nat := match x.last.findIdx? fun p => p.1 * 8 + p.2 / 2 == e with
      | some l => (match clmapOf s sg l with
        | some p => p.1 * 8 + p.2 / 2
        | none => e)
      | none => e
    let s := each x.xfers (fun s p => modDma s (eng p.1) fun g => match p.2.who with
      | .thread _ _ _ => { g with thq := g.thq ++ [renXfer f p.2] }
      | .item _ _ => { g with feq := g.feq ++ [renXfer f p.2] }) s
    preDone (modSag s sg fun g => { g with saved := none }) sg 1

/-- RESTORE_COMPLETE (R208, R207). -/
def execRestoreComplete (s : State) : Out :=
  let sg := preSg s
  let g := getSag s sg
  if preBusy s && sgState s sg == 4 && g.clmap.all fun p => dieUp s p.1 then
    .next (throughSaveArea s ((g.clmap.head?.map (·.1)).getD 0) sg g.clmap.length needRead 4 (restoredNow sg))
  else .next s

/-! ### FLR (R211) -/

/-- R234, R211: a stream that the journal holds enters RECOVER; what it was doing is forgotten but for its accepted items. -/
def recoverStrm (s : State) (n : Nat) : State :=
  let used := ((tblFind s.stm.jnl.streams n).map (·.used)).getD false
  let s := fput (setStState s n (if used then stRecover else stOff)) (r_STM_CTL n) f_STM_CTL_EN 0
  let s := rput s (r_STM_PTR n) 0
  let s := fput (fput (fput s (r_STM_STAT n) f_STM_STAT_SQPH 0) (r_STM_STAT n) f_STM_STAT_CQPH 0) (r_STM_STAT n) f_STM_STAT_PHWAIT 0
  modStrm s n fun t => { strmReset with prepared := t.prepared, accepted := t.accepted, run := t.run }

/-- FLR (R211): a Function Level Reset of function `f`, Table 10. -/
def execFlr (f : Nat) (s : State) : Out :=
  if f < 256 then
    let s := match sgOfFn s f with
      | some sg => if (runningOn s sg).isEmpty then s else snuffJob s (jobKey s sg) 8
      | none => s
    let s := each (strmsOfFn s f) recoverStrm s
    .next (modFn s f fun _ => { funcReset with stopped := true })
  else .next s

end Sys2Proof.Machine
end

