-- ==== Sys2Proof/Machine/Lantern.lean ====
section
/-! DEFINITION. Machine/Lantern.lean: the lantern's commands on saggars, keys, key banks and bundles: SG_CREATE, SG_DESTROY, REKEY,
ZEROISE, PKEY_UPDATE, FW_UPDATE, SVN_COMMIT, KEY_DRAIN_ERASE, TNT_SG_BIND_WRITE, SGREQ, SGREL, RECOVERY_BUNDLE (spec/17 R510 to R532). -/

namespace Sys2Proof.Machine

def modLnt (s : State) (f : LntSt → LntSt) : State := { s with lnt := f s.lnt }

/-! ### Taking a command (R518) -/

/-- The lantern firmware runs. -/
def lanternUp (s : State) : Bool := fget s r_TNT_LAN_STAT f_TNT_LAN_STAT_BOOT == 1
/-- R518: commands run one at a time: a release or REKEY has not ended. -/
def lanternBusy (s : State) : Bool := s.lnt.rekeyWait.isSome || !s.lnt.rekeyDrain.isEmpty || !s.lnt.release.isEmpty
/-- The lantern takes the request of channel `c` when its OP is `op`. A reserved OP is answered by whichever command looks. -/
def lanternTake (c op : Nat) (go : State → State) (s : State) : Out :=
  if !(chanBound s c && chanB s c == 0x5000 && c != 3 && chanBusy s c && lanternUp s) then .next s
  else if op != 4 && lanternBusy s then .next s
  else
    let o := payByte s c 0
    if chanA s c ≠ 0 then .next (mbxAck s c 0x0B)
    else if o = 0 ∨ 7 < o then .next (mbxAck s c 1)
    else if o ≠ op then .next s
    else .next (go s)

/-- R528: no die that holds a cluster of the saggar resets. -/
def sgDiesStill (s : State) (sg : Nat) : Bool := (getSag s sg).clmap.all fun p => dieState s p.1 != 1
/-- Table 6 BUSY. -/
def sgInUse (s : State) (sg : Nat) : Bool :=
  ((strmsOfFn s (fnOf s sg)).any fun n => !(getStrm s n).accepted.isEmpty || stState s n == stRun)
  || ((rplState s == 1 || rplState s == 2) && rplSg s == sg)

/-! ### Keys (R525) -/

/-- The lowest free tenant slot. -/
def freeSlot (s : State) : Nat := ((List.range 256).find? fun k => (slotKey s k).isNone).getD 0
/-- A new key in a slot: state and tag. -/
def newKey (s : State) (slot : Nat) : State × KeyTag :=
  ({ s with keys := tblPut s.keys slot s.nextKey, nextKey := s.nextKey + 1 }, { slot := slot, id := s.nextKey })
def zeroSlot (s : State) (slot : Nat) : State := { s with keys := tblErase s.keys slot }

/-! ### SG_CREATE (R519, R520) -/

/-- The first `n` free clusters of the allowed dies. -/
def takeClusters (s : State) (mask n : Nat) : Option (List (Nat × Nat)) :=
  let free := ((List.range 16).filter fun d => (mask = 0 || bitAt mask d) && dieUp s d && decide (d < fget s r_ID_GRADE f_ID_GRADE_CDCNT)).flatMap fun d =>
    (freeClusters s d).map fun cl => (d, cl)
  if n ≤ free.length then some (free.take n) else none
def diesHolding (m : List (Nat × Nat)) : List Nat := (List.range 16).filter fun d => m.any fun p => p.1 == d
/-- R520: the lowest free blocks of a die. -/
def takeBlocks (s : State) (d n : Nat) : Option (List Nat) :=
  let free := (List.range 64).filter fun b => (tblFind (getSync s d).owner b).isNone
  if n ≤ free.length then some (free.take n) else none
def bindBlocks (s : State) (sg n : Nat) (d : Nat) : State :=
  let bs := (takeBlocks s d n).getD []
  modSync s d fun x => { x with owner := bs.foldl (fun t b => tblPut t b sg) x.owner, cnt := x.cnt.filter fun (p : Nat × W64) => !bs.contains (p.1 / 256) }
def sgPrep (s : State) (sg : Nat) : Bool := sgState s sg == 0 && fbit s (r_TNT_SG_BIND sg) f_TNT_SG_BIND_PREP
/-- The saggar that SG 0xFF takes. -/
def preparedFor (s : State) (fn : Nat) : Option Nat := (List.range 128).find? fun n => sgPrep s n && fnOf s n == fn

/-- R519: carves saggar `sg`; the code of Table 6 and the new state. -/
def carve (s : State) (sg cnt mask : Nat) (slice : Option Nat) : State × Nat :=
  if sgState s sg ≠ 0 then (s, 2)
  else if !sgPrep s sg || decide (fget s (r_TNT_SG_SAVE_SZ sg) f_TNT_SG_SAVE_SZ_SZ < 5 * cnt) then (s, 7)
  else if (sgOfFn s (fnOf s sg)).isSome then (s, 4)
  else match takeClusters s mask cnt with
    | none => (s, 5)
    | some m =>
      let ds := diesHolding m
      let blocks := fget s (r_TNT_SG_SOB sg) f_TNT_SG_SOB_BLOCKS
      if ds.any fun d => (takeBlocks s d blocks).isNone then (s, 6)
      else
        let k := newKey s (freeSlot s)
        let s := setSag k.1 sg { sagReset with cur := some k.2, kver := 1, clmap := m }
        let s := each ds (fun s d => bindBlocks s sg blocks d) (each m stopTests s)
        let s := fput s (r_TNT_SG_SOB sg) f_TNT_SG_SOB_DIES (ds.foldl (fun a d => a + 2 ^ d) 0)
        let s := match slice with
          | some x => fput (fput s (r_TNT_SG_BIND sg) f_TNT_SG_BIND_SLICE x) (r_TNT_SG_BIND sg) f_TNT_SG_BIND_SLV 1
          | none => s
        (fput (setSgState s sg 1) (r_TNT_SG_STATE sg) f_TNT_SG_STATE_CLCNT (cnt % 256), 0)

/-- SG_CREATE: the request of channel `c`. -/
def execSgCreate (c : Nat) (s : State) : Out :=
  lanternTake c 1 (fun s =>
    let sg := payByte s c 1
    let fn := payByte s c 2
    let cnt := payNat s c 4 2
    let mask := payNat s c 6 2
    if (127 < sg ∧ sg ≠ 0xFF) ∨ (sg ≠ 0xFF ∧ fn ≠ 0) ∨ cnt = 0 ∨ 256 < cnt ∨ !payZero s c 3 4 ∨ !payZero s c 8 256 then mbxAck s c 1
    else match if sg = 0xFF then preparedFor s fn else some sg with
      | none => mbxAck s c 7
      | some sg =>
        let r := carve s sg cnt mask none
        mbxAck r.1 c r.2) s

/-- SGREQ (R519, R393): the CTL wick's command; `ws` holds words 1 and on. -/
def execSgreq (seq term : Nat) (ws : List Nat) (s : State) : Out :=
  if !lanternUp s || lanternBusy s then .next s
  else
    wickCommand 16 seq term 8 (fun s =>
      let h := ws.headD 0
      let slice := bits h 9 0
      let cnt := bits h 26 18
      if bits h 63 27 ≠ 0 then badAnswer s 3
      else if cnt = 0 ∨ 256 < cnt ∨ (sgOfSlice s slice).isSome then badAnswer s 4
      else match preparedFor s (bits h 17 10) with
        | none => badAnswer s 4
        | some sg =>
          let r := carve s sg cnt 0 (some slice)
          if r.2 = 0 then (r.1, some (0, [sg, fget r.1 (r_TNT_SG_SOB sg) f_TNT_SG_SOB_DIES])) else badAnswer s 4) s

/-! ### Releases (R521 Table 7, R532) -/

/-- The scrub of everything of a saggar: contexts, saved images, cluster memories, transfers, faults, arrived requests. -/
def scrubSg (s : State) (sg : Nat) : State :=
  let slice := sliceOf s sg
  let s := each (coresOfSg s sg) (fun s c => dropCtx (abandonClass s c) c true) s
  let s := each (List.range (((getSag s sg).saved.map fun x => x.last.length).getD 0)) (fun s l => setClMem s (savedPlace sg l).1 (savedPlace sg l).2 []) s
  let s := dropXfers s fun x => x.sg == sg
  let s := modFab s fun f => { f with ni := tblMap (niForget sg slice) f.ni, sync := tblMap (syncForget sg) f.sync }
  modSag (scrubClusters (dropFaults s sg) sg) sg fun g => { g with saved := none, fault := none, refused := false }
/-- Steps 1 to 3. -/
def releaseSg (s : State) (sg : Nat) (dest : ReleaseTo) : State :=
  let s := dropTrans (scrubSg s sg) sg
  let s := modSag s sg fun g => { g with cur := none, drain := g.cur }
  modLnt s fun l => { l with release := l.release ++ [(sg, dest)] }
/-- Step 5. -/
def freeSg (s : State) (sg : Nat) : State :=
  let s := match sliceOf s sg with
    | some x => modKln (modFab s fun f => { f with ranks := tblErase f.ranks x }) fun k => { k with mlist := tblErase k.mlist x }
    | none => s
  let s := modFab s fun f => { f with sync := tblMap (fun x =>
    { x with cnt := x.cnt.filter fun (p : Nat × W64) => tblFind x.owner (p.1 / 256) != some sg, owner := x.owner.filter fun (p : Nat × Nat) => p.2 != sg }) f.sync }
  let b := r_TNT_SG_BIND sg
  let s := fput (fput (fput s b f_TNT_SG_BIND_SLICE 0) b f_TNT_SG_BIND_SLV 0) b f_TNT_SG_BIND_PREP 0
  let s := fput (fput (setSgState s sg 0) (r_TNT_SG_STATE sg) f_TNT_SG_STATE_CLCNT 0) (r_TNT_SG_SOB sg) f_TNT_SG_SOB_DIES 0
  modStm (setSag s sg sagReset) fun t => { t with images := t.images.filter fun (p : Nat × Image) => p.1 / 65536 != sg }
/-- A release answers. -/
def releaseAnswer (s : State) (dest : ReleaseTo) : State :=
  match dest with
  | .chan c => mbxAck s c 0
  | .wick => match (getWick s 16).busy with
    | some (seq, term, op) => wickAnswer s 16 seq term op 0 []
    | none => s

/-- SG_DESTROY (R521). -/
def execSgDestroy (c : Nat) (s : State) : Out :=
  lanternTake c 2 (fun s =>
    let sg := payByte s c 1
    let st := sgState s sg
    if 127 < sg ∨ !payZero s c 2 256 then mbxAck s c 1
    else if (st ≠ 1 ∧ st ≠ 3) ∨ (sliceOf s sg).isSome then mbxAck s c 2
    else if !sgDiesStill s sg then s
    else if sgInUse s sg then mbxAck s c 3
    else releaseSg s sg (.chan c)) s
/-- SGREL (R521): the CTL wick answers when the release is complete. -/
def execSgrel (seq term : Nat) (ws : List Nat) (s : State) : Out :=
  let h := ws.headD 0
  let sg := sgOfSlice s (bits h 9 0)
  if !lanternUp s || lanternBusy s || !(sg.all fun x => sgDiesStill s x) then .next s
  else
    wickCommand 16 seq term 9 (fun s =>
      if bits h 63 10 ≠ 0 then badAnswer s 3
      else match sg with
        | none => badAnswer s 4
        | some x => if (sgState s x ≠ 1 ∧ sgState s x ≠ 3) ∨ sgInUse s x then badAnswer s 4 else (releaseSg s x .wick, none)) s

/-! ### REKEY, KEY_DRAIN_ERASE (R526, R527) -/

/-- The new version is CURRENT and the old one DRAINING. -/
def rekeyNow (s : State) (c sg : Nat) : State :=
  let k := newKey s (freeSlot s)
  let s := modSag k.1 sg fun g => { g with cur := some k.2, drain := g.cur, kver := g.kver + 1 }
  modLnt s fun l => { l with rekeyWait := none, rekeyDrain := l.rekeyDrain ++ [(c, sg)] }
/-- REKEY. -/
def execRekey (c : Nat) (s : State) : Out :=
  lanternTake c 3 (fun s =>
    let sg := payByte s c 1
    if 127 < sg ∨ !payZero s c 2 256 then mbxAck s c 1
    else if sgState s sg ≠ 1 then mbxAck s c 2
    else if !sgDiesStill s sg then s
    else if sgInUse s sg then mbxAck s c 3
    else if (getSag s sg).drain.isSome then modLnt s fun l => { l with rekeyWait := some (c, sg) }
    else rekeyNow s c sg) s

/-- R526: a request that has bound its version and is not complete. -/
def boundTo (slot : Nat) (a : Access) : Bool :=
  match a.stage with
  | .ready p => p.tag.slot == slot
  | .half p _ _ _ _ => p.tag.slot == slot
  | _ => false
/-- KEY_DRAIN_ERASE (R526): no request is outstanding for the DRAINING version of saggar `sg`. What waited for the erasure goes on. -/
def execKeyDrainErase (sg : Nat) (s : State) : Out :=
  match (getSag s sg).drain with
  | none => .next s
  | some t =>
    if (s.mem.acc.any fun (p : Nat × Access) => boundTo t.slot p.2) || !sgDiesStill s sg then .next s
    else
      let s := modSag (zeroSlot s t.slot) sg fun g => { g with drain := none }
      let s := each (s.lnt.rekeyDrain.filter fun p => p.2 == sg) (fun s p => mbxAck s p.1 0) s
      let s := modLnt s fun l => { l with rekeyDrain := l.rekeyDrain.filter fun p => p.2 != sg }
      let s := match s.lnt.rekeyWait with
        | some (c, g) => if g = sg then rekeyNow s c sg else s
        | none => s
      match s.lnt.release.find? fun p => p.1 == sg with
      | some (_, dest) => .next (releaseAnswer (freeSg (modLnt s fun l => { l with release := l.release.filter fun p => p.1 != sg }) sg) dest)
      | none => .next s

/-! ### ZEROISE (R527) -/

/-- Every item of a stream that is accepted and not done completes with KEYLOSS. -/
def keyLossItems (n sg : Nat) : Nat → State → State
  | 0, s => s
  | fuel + 1, s =>
    match (getStrm s n).accepted with
    | [] => s
    | a :: _ => keyLossItems n sg fuel (commitDone s n { runReset a.rcd sg a.rerun s.tb.tb with status := 9 } (a.logged && logActive s sg))
def keyLossStrm (sg : Nat) (s : State) (n : Nat) : State :=
  let s := keyLossItems n sg (getStrm s n).accepted.length s
  if stState s n = stOff then s else haltStrm s n 9
/-- Requests of the slots that wait are discarded (R209). -/
def failQueued (slots : List Nat) (a : Access) : Access :=
  match a.stage with
  | .ready p => if slots.contains p.tag.slot then { a with stage := .failed true } else a
  | _ => a
def dropQueued (s : State) (slots : List Nat) : State := modMem s fun m => { m with acc := tblMap (failQueued slots) m.acc }
/-- ZEROISE of one saggar. -/
def zeroiseSg (s : State) (sg : Nat) : State :=
  let g := getSag s sg
  let slots := (g.cur.map (·.slot)).toList ++ (g.drain.map (·.slot)).toList
  let strms := strmsOfFn s (fnOf s sg)
  let s := match sliceOf s sg with
    | some x => snuffJob s x 0x0D
    | none => s
  let s := each slots zeroSlot (dropQueued s slots)
  let s := each strms (keyLossStrm sg) (scrubSg s sg)
  let s := each ((s.lnt.rekeyDrain ++ s.lnt.rekeyWait.toList).filter fun p => p.2 == sg) (fun s p => mbxAck s p.1 0x0A) s
  let done := s.lnt.release.filter fun p => p.1 == sg
  let s := modLnt s fun l => { l with rekeyDrain := l.rekeyDrain.filter fun p => p.2 != sg, release := l.release.filter fun p => p.1 != sg }
  let s := modLnt s fun l => { l with rekeyWait := l.rekeyWait.filter fun p => p.2 != sg }
  each done (fun s p => releaseAnswer s p.2) (dropTrans (freeSg s sg) sg)
/-- R527: new service keys. -/
def newServiceKeys (s : State) : State := each (List.range 16) (fun s k => (newKey s (256 + k)).1) s
def allSaggars (s : State) : List Nat := (List.range 128).filter fun n => sgState s n != 0
/-- ZEROISE. -/
def execZeroise (c : Nat) (s : State) : Out :=
  lanternTake c 4 (fun s =>
    let sg := payByte s c 1
    if (127 < sg ∧ sg ≠ 0xFE) ∨ !payZero s c 2 256 then mbxAck s c 1
    else if sg = 0xFE then
      mbxAck (fadd (newServiceKeys (each (allSaggars s) zeroiseSg s)) r_TNT_ZCNT f_TNT_ZCNT_CNT 1) c 0
    else if sgState s sg = 0 then mbxAck s c 2
    else mbxAck (fadd (zeroiseSg s sg) r_TNT_ZCNT f_TNT_ZCNT_CNT 1) c 0) s

/-- TNT_SG_BIND_WRITE (R517). -/
def execTntSgBindWrite (n : Nat) (v : W32) (s : State) : Out :=
  let b := r_TNT_SG_BIND n
  when_ (decide (n < 128) && sgState s n == 0) s
    (fput (fput s b f_TNT_SG_BIND_FN (fldGet v f_TNT_SG_BIND_FN)) b f_TNT_SG_BIND_PREP (fldGet v f_TNT_SG_BIND_PREP))

/-! ### Key banks, bundles (R512, R529, R530, R511) -/

/-- R529: a valid bank image. -/
def parseBank (b : List Byte) : Option KeyBank :=
  let n := leAt b 8 2
  let keyOk (k : Nat) : Bool := (leAt b (20 + 128 * k) 4 == 1 || leAt b (20 + 128 * k) 4 == 2) && zeroAt b (24 + 128 * k) 24
  if b.length = 65536 ∧ leAt b 0 4 = 0x384B424B ∧ 1 ≤ n ∧ n ≤ 64 ∧ zeroAt b 10 6 ∧ (List.range n).all keyOk ∧ zeroAt b (16 + 128 * n) (65520 - (16 + 128 * n))
      ∧ leAt b 65520 4 = (crc32cAdd 0#32 (b.take 65520)).toNat ∧ zeroAt b 65524 4 ∧ leAt b 65528 8 = 0xC3C3C3C3C3C3C3C3 then
    some { version := leAt b 4 4, keys := (List.range n).map fun k => (leAt b (16 + 128 * k) 4, leAt b (20 + 128 * k) 4, (b.drop (48 + 128 * k)).take 96) }
  else none
/-- The image of a bank. -/
def bankImage (k : KeyBank) : List Byte :=
  let b := leBytes 4 0x384B424B ++ leBytes 4 k.version ++ leBytes 2 k.keys.length ++ leBytes 6 0
    ++ k.keys.flatMap fun x => leBytes 4 x.1 ++ leBytes 4 x.2.1 ++ List.replicate 24 0#8 ++ x.2.2
  let b := b ++ List.replicate (65520 - b.length) 0#8
  b ++ leBytes 4 (crc32cAdd 0#32 b).toNat ++ leBytes 4 0 ++ leBytes 8 0xC3C3C3C3C3C3C3C3
/-- R529: TNT_LAN_STAT follows the banks; true is B. -/
def bankB (s : State) : Bool :=
  match s.lnt.pkA, s.lnt.pkB with
  | some a, some b => decide (a.version < b.version)
  | none, some _ => true
  | _, _ => false
def showBank (s : State) : State :=
  fput (fput s r_TNT_LAN_STAT f_TNT_LAN_STAT_PKBANK (b2n (bankB s))) r_TNT_LAN_STAT f_TNT_LAN_STAT_BANKERR (b2n (keyBank s).isNone)
/-- The object of PKEY_UPDATE and FW_UPDATE: address and length, none where a field is wrong. -/
def objectOf (s : State) (c : Nat) : Option (Nat × Nat) :=
  let a := payNat s c 8 8
  if payZero s c 1 8 && payZero s c 20 256 && a % 64 == 0 then some (a, payNat s c 16 4) else none

/-- PKEY_UPDATE (R530); `hostErr`: the read fails. -/
def execPkeyUpdate (c : Nat) (hostErr : Bool) (s : State) : Out :=
  lanternTake c 5 (fun s =>
    match objectOf s c with
    | none => mbxAck s c 1
    | some (a, len) =>
      if len ≠ 65640 then mbxAck s c 1
      else if hostErr then mbxAck s c 0x0C
      else
        let b := hostRead s a len
        if !signedBy s b 65536 1 then mbxAck s c 8
        else if leAt b 4 4 ≤ ((keyBank s).map (·.version)).getD 0 then mbxAck s c 9
        else match parseBank (b.take 65536) with
          | none => mbxAck (modLnt s fun l => if bankB s then { l with pkA := none } else { l with pkB := none }) c 1
          | some k => mbxAck (showBank (modLnt s fun l => if bankB s then { l with pkA := some k } else { l with pkB := some k })) c 0) s

/-- R512: the bundle that the boot header selects: true is B. -/
def hdrPick (l : LntSt) : Bool :=
  match l.hdr0, l.hdr1 with
  | some a, some b => if a.1 < b.1 then b.2 else a.2
  | some a, none => a.2
  | none, some b => b.2
  | none, none => false
def hdrVersion (h : Option (Nat × Bool)) : Nat := (h.map (·.1)).getD 0
def fusedSvn (s : State) : Nat := fget s r_TNT_LAN_STAT f_TNT_LAN_STAT_SVN
/-- R512: the bundle goes into the slot not selected, then the older header copy selects it. -/
def putBundle (l : LntSt) (b : List Byte) : LntSt :=
  let sel := hdrPick l
  let v := max (hdrVersion l.hdr0) (hdrVersion l.hdr1) + 1
  let l := if sel then { l with bundleA := b } else { l with bundleB := b }
  if hdrVersion l.hdr1 < hdrVersion l.hdr0 then { l with hdr1 := some (v, !sel) } else { l with hdr0 := some (v, !sel) }
/-- FW_UPDATE (R512). -/
def execFwUpdate (c : Nat) (hostErr : Bool) (s : State) : Out :=
  lanternTake c 6 (fun s =>
    match objectOf s c with
    | none => mbxAck s c 1
    | some (a, len) =>
      if len = 0 ∨ 2 ^ 27 < len then mbxAck s c 1
      else if hostErr then mbxAck s c 0x0C
      else
        let b := hostRead s a len
        if !Config.bundleOk b then mbxAck s c 8
        else if Config.bundleSvn b < fusedSvn s then mbxAck s c 9
        else mbxAck (modLnt s fun l => putBundle l b) c 0) s
/-- SVN_COMMIT (R512). -/
def execSvnCommit (c : Nat) (s : State) : Out :=
  lanternTake c 7 (fun s =>
    let v := Config.bundleSvn s.lnt.running
    if !payZero s c 1 256 then mbxAck s c 1
    else if v ≤ fusedSvn s then mbxAck s c 9
    else mbxAck (fput s r_TNT_LAN_STAT f_TNT_LAN_STAT_SVN v) c 0) s
/-- RECOVERY_BUNDLE (R511): in RECOVERY a bundle that verifies is written into bundle A. -/
def execRecoveryBundle (b : List Byte) (s : State) : Out :=
  when_ (fget s r_TNT_LAN_STAT f_TNT_LAN_STAT_BOOT == 2 && Config.bundleOk b && decide (fusedSvn s ≤ Config.bundleSvn b)) s
    (modLnt s fun l => { l with bundleA := b })

end Sys2Proof.Machine
end

