-- ==== Sys2Proof/Machine/Attest.lean ====
section
/-! DEFINITION. Machine/Attest.lean: SPDM, its sessions and IDE keys: GET_VERSION, GET_CAPABILITIES, NEGOTIATE_ALGORITHMS, GET_DIGESTS,
GET_CERTIFICATE, CHALLENGE, GET_MEASUREMENTS, KEY_EXCHANGE, FINISH, HEARTBEAT, KEY_UPDATE, END_SESSION, IDE_KM, and MCTP_PACKET, which
brings SPDM to the I3C port (spec/17 R513 to R515, R533; spec/20 R588). A request names its requester: a function, or 256 for the I3C
port. An answer is emitted with its SPDM response code. -/

namespace Sys2Proof.Machine

def modPin (s : State) (f : PinSt → PinSt) : State := { s with pin := f s.pin }

/-! ### MCTP over I3C (R515, R588) -/

/-- MCTP_PACKET: a private write with packet `b`; `pecOk`: its PEC and length are right. A packet is a 4-byte transport header, whose last
byte holds SOM in bit 7 and EOM in bit 6, and a part of a message. -/
def execMctpPacket (b : List Byte) (pecOk : Bool) (s : State) : Out :=
  let first := leAt b 0 1
  if !(pecOk && s.pin.dyn.isSome && decide (5 ≤ b.length) && decide (1 ≤ first) && decide (first ≤ 15)) then .next s
  else
    let f := leAt b 3 1
    let body := b.drop 4
    match if bitAt f 7 then some body else s.pin.mctpPart.map (· ++ body) with
    | none => .next s
    | some m => .next (modPin s fun p => if bitAt f 6 then { p with mctpPart := none, mctp := p.mctp ++ [m] } else { p with mctpPart := some m })

/-- R515: a request of the I3C port is the oldest MCTP message, of type SPDM (5), with request code `code`. -/
def requested (s : State) (f code : Nat) : Bool :=
  if f < 256 then true
  else match s.pin.mctp with
    | m :: _ => f == 256 && leAt m 0 1 == 5 && leAt m 2 1 == code
    | [] => false
def spdmTaken (s : State) (f : Nat) : State := if f < 256 then s else modPin s fun p => { p with mctp := p.mctp.drop 1 }

/-! ### Answers (R514) -/

def spdmReply (s : State) (code : Nat) (body : List Byte) : State := emitSent s (.reply code (body.map BitVec.toNat))
/-- ERROR with an SPDM error code: 1 InvalidRequest, 4 UnexpectedRequest, 7 UnsupportedRequest, 0x0A SessionLimitExceeded, 2 InvalidSession. -/
def spdmError (s : State) (code : Nat) : State := spdmReply s 0x7F (leBytes 1 code)
def spdmStage (s : State) (f : Nat) : Nat := tblGet (fun _ => 0) s.lnt.spdm f
/-- The lantern firmware answers a request of a requester once it has negotiated as far as `need`. -/
def spdmTake (f code need : Nat) (go : State → State) (s : State) : Out :=
  if !(lanternUp s && requested s f code) then .next s
  else
    let s := spdmTaken s f
    if spdmStage s f < need then .next (spdmError s 4) else .next (go s)
def setSpdm (s : State) (f n : Nat) : State := modLnt s fun l => { l with spdm := tblSet (fun _ => 0) l.spdm f n }

/-- GET_VERSION: SPDM 1.3; the negotiation begins anew. -/
def execGetVersion (f : Nat) (s : State) : Out := spdmTake f 0x84 0 (fun s => spdmReply (setSpdm s f 1) 0x04 (leBytes 1 0x13)) s
/-- GET_CAPABILITIES. -/
def execGetCapabilities (f : Nat) (s : State) : Out := spdmTake f 0xE1 1 (fun s => spdmReply (setSpdm s f (max 2 (spdmStage s f))) 0x61 []) s
/-- NEGOTIATE_ALGORITHMS. -/
def execNegotiateAlgorithms (f : Nat) (s : State) : Out := spdmTake f 0xE3 2 (fun s => spdmReply (setSpdm s f 3) 0x63 []) s

def certs (s : State) : List Byte := Config.certChain s.lnt.running
/-- GET_DIGESTS: slot 0 alone. -/
def execGetDigests (f : Nat) (s : State) : Out := spdmTake f 0x81 3 (fun s => spdmReply s 0x01 (leBytes 1 1 ++ Config.sha384 (certs s))) s
/-- GET_CERTIFICATE. -/
def execGetCertificate (f slot off len : Nat) (s : State) : Out :=
  spdmTake f 0x82 3 (fun s => if slot = 0 ∧ off < (certs s).length then spdmReply s 0x02 (((certs s).drop off).take len) else spdmError s 1) s
/-- CHALLENGE. -/
def execChallenge (f slot : Nat) (nonce : List Byte) (s : State) : Out :=
  spdmTake f 0x83 3 (fun s => if slot = 0 then spdmReply s 0x03 (Config.sha384 (certs s) ++ Config.aliasAnswer s.lnt.running nonce) else spdmError s 1) s

/-! ### Measurements (R513 Table 4) -/

/-- The LOCK bit of every block that has one, by rising address. -/
def lockBits (s : State) : List Bool :=
  [fbit s r_PWR_CFG f_PWR_CFG_LOCK, fbit s r_RST_CFG f_RST_CFG_LOCK, fbit s r_FLT_CFG f_FLT_CFG_LOCK, fbit s r_KLN_CFG f_KLN_CFG_LOCK,
   fbit s r_DET_CTL f_DET_CTL_LOCK, fbit s r_TST_CTL f_TST_CTL_LOCK, fbit s r_JNL_PAIR f_JNL_PAIR_LOCK]
  ++ (List.range 4).map fun w => fbit s (r_FAB_WH_CTL w) f_FAB_WH_CTL_LOCK
def lockWord (s : State) : Nat := (lockBits s).zipIdx.foldl (fun a p => a + b2n p.1 * 2 ^ p.2) 0
def mapBytes (m : List (Nat × Nat)) : List Byte := m.flatMap fun p => leBytes 1 p.1 ++ leBytes 1 p.2
/-- The value of a measurement for requester `f`, none where it has no such index. -/
def measurement (s : State) (f i : Nat) : Option (List Byte) :=
  if i = 1 then some Config.romDigest
  else if 2 ≤ i ∧ i ≤ 5 then some (Config.bundleDigest i s.lnt.running)
  else if i = 6 then some (Config.sha384 (((keyBank s).map bankImage).getD []))
  else if i = 7 then some (leBytes 4 (rget s r_TST_PATVER).toNat)
  else if i = 8 then some (leBytes 4 (rget s r_ID_GRADE).toNat ++ leBytes 4 (rget s r_ID_STEP).toNat ++ leBytes 4 (fusedSvn s)
    ++ leBytes 4 (rget s r_DET_CTL).toNat ++ leBytes 8 (pairGet s r_MBX_LOCK_LO r_MBX_LOCK_HI) ++ leBytes 8 (lockWord s))
  else if i = 16 ∧ 1 ≤ f ∧ f < 256 then
    (match sgOfFn s f with
    | some sg => some (leBytes 4 sg ++ leBytes 4 (getSag s sg).kver ++ leBytes 8 ((sliceOf s sg).getD 0xFFFF) ++ Config.sha384 (mapBytes (getSag s sg).clmap))
    | none => some (leBytes 4 0xFF ++ leBytes 4 0 ++ leBytes 8 0xFFFF ++ Config.sha384 []))
  else none
def indices (f : Nat) : List Nat := [1, 2, 3, 4, 5, 6, 7, 8] ++ (if 1 ≤ f ∧ f < 256 then [16] else [])
/-- A measurement block: its index, the length of its value, and the value. -/
def measureBlock (s : State) (f i : Nat) : List Byte := match measurement s f i with
  | some v => leBytes 1 i ++ leBytes 2 v.length ++ v
  | none => []
/-- GET_MEASUREMENTS: `op` is 0 for their number, 255 for all, or an index. -/
def execGetMeasurements (f op : Nat) (s : State) : Out :=
  spdmTake f 0xE0 3 (fun s =>
    if op = 0 then spdmReply s 0x60 (leBytes 1 (indices f).length)
    else if op = 255 then spdmReply s 0x60 (leBytes 1 (indices f).length ++ (indices f).flatMap (measureBlock s f))
    else if (indices f).contains op then spdmReply s 0x60 (leBytes 1 1 ++ measureBlock s f op)
    else spdmError s 1) s

/-! ### Sessions (R514) -/

def sessOf (s : State) (f id : Nat) : Option SpdmSess := s.lnt.sess.find? fun x => x.fn == f && x.id == id
/-- A secured session is open. -/
def inSession (s : State) (f id : Nat) : Bool := (sessOf s f id).any (·.open_)
/-- KEY_EXCHANGE: at most two sessions of a function; none on the I3C port. -/
def execKeyExchange (f : Nat) (req : List Byte) (s : State) : Out :=
  spdmTake f 0xE4 3 (fun s =>
    if 256 ≤ f then spdmError s 7
    else if 2 ≤ (s.lnt.sess.filter fun x => x.fn == f).length then spdmError s 0x0A
    else
      let id := s.lnt.nextSess
      spdmReply (modLnt s fun l => { l with sess := l.sess ++ [{ fn := f, id := id, open_ := false }], nextSess := id + 1 }) 0x64
        (leBytes 2 id ++ Config.aliasAnswer s.lnt.running req)) s
/-- FINISH completes a session; `macOk`: its verification data is right. -/
def execFinish (f id : Nat) (macOk : Bool) (s : State) : Out :=
  spdmTake f 0xE5 3 (fun s =>
    if 256 ≤ f then spdmError s 7
    else match sessOf s f id with
      | some x =>
        if x.open_ then spdmError s 4
        else if macOk then spdmReply (modLnt s fun l => { l with sess := l.sess.map fun y => if y = x then { y with open_ := true } else y }) 0x65 []
        else spdmError (modLnt s fun l => { l with sess := l.sess.filter fun y => y != x }) 6
      | none => spdmError s 2) s
/-- A request within an open session. -/
def sessionTake (f code id : Nat) (go : State → State) (s : State) : Out :=
  spdmTake f code 3 (fun s => if 256 ≤ f then spdmError s 7 else if inSession s f id then go s else spdmError s 2) s
/-- HEARTBEAT. -/
def execHeartbeat (f id : Nat) (s : State) : Out := sessionTake f 0xE8 id (fun s => spdmReply s 0x68 []) s
/-- KEY_UPDATE. -/
def execKeyUpdate (f id op : Nat) (s : State) : Out := sessionTake f 0xE9 id (fun s => if 1 ≤ op ∧ op ≤ 3 then spdmReply s 0x69 (leBytes 1 op) else spdmError s 1) s
/-- END_SESSION. -/
def execEndSession (f id : Nat) (s : State) : Out :=
  sessionTake f 0xEC id (fun s => spdmReply (modLnt s fun l => { l with sess := l.sess.filter fun y => !(y.fn == f && y.id == id) }) 0x6C []) s
/-- IDE_KM (R533): in a session of the physical function, the keys of one key set of selective stream `strm` of a port. -/
def execIdeKm (f id port strm : Nat) (set1 : Bool) (s : State) : Out :=
  if !lanternUp s then .next s
  else if f = 0 ∧ inSession s f id ∧ port < 2 ∧ strm < 16 then
    .next (spdmReply (modLnt s fun l => { l with ide := tblModify (fun _ => (false, false)) l.ide (port * 16 + strm) fun p =>
      if set1 then (p.1, true) else (true, p.2) }) 0x7E [])
  else .next s

end Sys2Proof.Machine
end

