-- ==== Sys2Proof/Machine/Power.lean ====
section
/-! DEFINITION. Machine/Power.lean: the power controller: PWRFAIL_ASSERT, PWRFAIL_RELEASE, PFREL_CYCLE, INPUT_UNDERVOLT, INPUT_OVERVOLT,
RAIL_OUT_OF_LIMITS, CAP_LOOP, THERMAL_THROTTLE, THERM, PWR_RAIL_VSET_WRITE, POWER_STATE_SELECT, WAKE_EVENT, PWR_LTR_WRITE,
PWR_PEER_TOL_WRITE, PWR_CTL_WAKE, PWR_CTL_HOLD (spec/19 R549 to R569; spec/16 R487). -/

namespace Sys2Proof.Machine

def modPwr (s : State) (f : PwrSt → PwrSt) : State := { s with pwr := f s.pwr }

/-! ### The input and the rails (R550 to R552) -/

/-- PWRFAIL, RAIL and THERM are level sources: an event, and LIVE while the condition lasts. -/
def levelSrc (s : State) (off : Nat) (on : Bool) (sub : Nat) : State :=
  if on then setLive (raise s { eventOf s (srcCtl off) with sub := sub }) (srcCtl off) true else setLive s (srcCtl off) false
/-- R551, R487: PWRFAIL_N is taken as asserted. While an MRST_N is being performed it changes nothing (R590). -/
def pwrfail (s : State) : State :=
  if s.pin.mrst.isSome || fbit s r_PWR_STAT f_PWR_STAT_PFAIL then s
  else
    let s := levelSrc (fput s r_PWR_STAT f_PWR_STAT_PFAIL 1) 12 true 0
    modJnl s fun j => { j with failAt := if j.failAt.isSome then j.failAt else some s.tb.tb }
/-- PWRFAIL_ASSERT: PWRFAIL_N has been low for 1 µs. -/
def execPwrfailAssert (s : State) : Out := .next (pwrfail s)
/-- INPUT_UNDERVOLT: the input has lain below 40 V for 10 µs. -/
def execInputUndervolt (s : State) : Out := .next (pwrfail s)
/-- PWRFAIL_RELEASE: the input has stayed above 40 V. -/
def execPwrfailRelease (s : State) : Out :=
  when_ (fbit s r_PWR_STAT f_PWR_STAT_PFAIL) s
    (modPwr (levelSrc (fput (fput s r_PWR_STAT f_PWR_STAT_PFAIL 0) r_PWR_STAT f_PWR_STAT_PFREL 1) 12 false 0) fun p => { p with relAt := some s.tb.tb })
/-- PFREL_CYCLE: 10 ms after the release. -/
def execPfrelCycle (s : State) : Out :=
  match s.pwr.relAt with
  | none => .next s
  | some t => when_ (decide (10000000 ≤ (s.tb.tb - t).toNat)) s (addAct (modPwr s fun p => { p with relAt := none }) .cycle)
/-- INPUT_OVERVOLT: the input has lain above 58 V for 10 µs, or does so no longer. -/
def execInputOvervolt (on : Bool) (s : State) : Out := .next (levelSrc s 13 on 0)
/-- RAIL_OUT_OF_LIMITS: regulated rail `rail` has lain outside ±3 % for 20 µs, or does so no longer. -/
def execRailOutOfLimits (rail : Nat) (on : Bool) (s : State) : Out := .next (levelSrc s 13 on rail)

/-! ### Core rails (R554 to R556) -/

def vset (s : State) (d : Nat) : Nat := fget s (r_PWR_RAIL d) f_PWR_RAIL_VSET
def veff (s : State) (d : Nat) : Nat := fget s (r_PWR_RAIL d) f_PWR_RAIL_VEFF
def setVeff (s : State) (d x : Nat) : State := fput s (r_PWR_RAIL d) f_PWR_RAIL_VEFF x
def dieServed (s : State) (d : Nat) : Bool := decide (d < fget s r_ID_GRADE f_ID_GRADE_CDCNT) && dieState s d != 2 && dieState s d != 3
def servedDies (s : State) : List Nat := (List.range 16).filter (dieServed s)
/-- A die stands below its VSET because of the cap or the thermal limit. -/
def lowered (s : State) (d : Nat) : Bool := s.pwr.capped.contains d || s.pwr.warm.contains d
def showCapped (s : State) : State :=
  fput s r_PWR_STAT f_PWR_STAT_CAPPED (b2n (s.pwr.capped.any fun d => decide (veff s d < vset s d)))

/-- PWR_RAIL_VSET_WRITE (R554): 10 to 80; other values are reserved encodings. -/
def execPwrRailVsetWrite (d v : Nat) (s : State) : Out :=
  if 16 ≤ d ∨ v < 10 ∨ 80 < v then .next s
  else
    let s := fput s (r_PWR_RAIL d) f_PWR_RAIL_VSET v
    .next (showCapped (if !dieServed s d then s else if lowered s d then setVeff s d (min v (veff s d)) else setVeff s d v))

/-- R555: a die is lowered by 10 mV. -/
def capDown (s : State) (d : Nat) : State :=
  if veff s d ≤ 10 then s else modPwr (setVeff s d (max 10 (veff s d - 2))) fun p => { p with capped := addOnce p.capped d }
/-- R555, R556: a lowered die that the thermal limit does not lower now rises by 10 mV. -/
def railUp (s : State) (d : Nat) : State :=
  if !lowered s d || s.pwr.hot.contains d then s
  else
    let v := min (vset s d) (veff s d + 2)
    let s := setVeff s d v
    if v = vset s d then modPwr s fun p => { p with capped := p.capped.filter (· != d), warm := p.warm.filter (· != d) } else s
/-- CAP_LOOP (R555): every 100 µs, with the input power in W over the last 1 ms and the input voltage in 10 mV. -/
def execCapLoop (pin vin : Nat) (s : State) : Out :=
  if (s.tb.tb - s.pwr.loopAt).toNat < 100000 then .next s
  else
    let s := modPwr (fput (fput s r_PWR_IN f_PWR_IN_PIN pin) r_PWR_IN f_PWR_IN_VIN vin) fun p => { p with loopAt := s.tb.tb }
    let cap := fget s r_PWR_CAP f_PWR_CAP_CAPW
    if cap ≠ 0 ∧ cap < pin then
      let low := (servedDies s).all fun d => veff s d == 10
      .next (showCapped (if low then fput s r_PWR_STAT f_PWR_STAT_CAPLIM 1 else each (servedDies s) capDown s))
    else if (cap = 0 ∨ pin * 100 < cap * 97) ∧ 1000000 ≤ (s.tb.tb - s.pwr.raisedAt).toNat then
      .next (showCapped (each (servedDies s) railUp (modPwr s fun p => { p with raisedAt := s.tb.tb })))
    else .next s

/-- THERMAL_THROTTLE (R556): the junction of die `d` stands at `tj` °C. -/
def execThermalThrottle (d tj : Nat) (s : State) : Out :=
  if 16 ≤ d then .next s
  else
    let s := fput s (r_PWR_RAIL d) f_PWR_RAIL_TJ tj
    let s := if (List.range 16).any fun k => decide (100 ≤ fget s (r_PWR_RAIL k) f_PWR_RAIL_TJ) then s else setLive s (srcCtl 14) false
    let hot := decide (95 ≤ tj) || (s.pwr.hot.contains d && decide (93 < tj))
    if !hot then .next (modPwr s fun p => { p with hot := p.hot.filter (· != d) })
    else
      let due := match tblFind s.pwr.coolAt d with
        | some t => decide (1000000 ≤ (s.tb.tb - t).toNat)
        | none => true
      let s := fput (modPwr s fun p => { p with hot := addOnce p.hot d }) r_PWR_STAT f_PWR_STAT_THROT 1
      .next (if due && dieServed s d && decide (10 < veff s d) then
        modPwr (setVeff s d (max 10 (veff s d - 2))) fun p => { p with warm := addOnce p.warm d, coolAt := tblPut p.coolAt d s.tb.tb }
      else s)
/-- THERM (R556): the junction of die `d` has stood at 100 °C or above for 1 ms. -/
def execTherm (d : Nat) (s : State) : Out :=
  when_ (decide (d < 16) && decide (100 ≤ fget s (r_PWR_RAIL d) f_PWR_RAIL_TJ)) s (levelSrc s 14 true d)

/-! ### Tolerances (R562, R563) -/

/-- Streams of a range, by what STM_STAT says. -/
def strmLive (s : State) (base cnt : Nat) : Bool :=
  s.regs.any fun (p : Nat × W32) => decide (r_STM_STAT base ≤ p.1) && decide (p.1 < r_STM_STAT (base + cnt)) && (p.1 - r_STM_STAT base) % 64 == 0 && bits p.2.toNat 2 0 != 0
/-- R562: a function is active. -/
def fnActive (s : State) (f : Nat) : Bool := (sgOfFn s f).isSome || strmLive s (fnBase s f) (fnCount s f)
/-- The effective tolerance and its source. -/
def tolerance (s : State) : Nat × Nat :=
  (List.range 256).foldl (fun m f => if fnActive s f && decide ((getFn s f).ltr < m.1) then ((getFn s f).ltr, f) else m) (fget s r_PWR_PEER_TOL f_PWR_PEER_TOL_TOL, 256)
def showTol (s : State) : State :=
  let t := tolerance s
  fput (fput s r_PWR_MINTOL f_PWR_MINTOL_T t.1) r_PWR_MINSRC f_PWR_MINSRC_SRC t.2

/-! ### States (R558 to R566) -/

def pwrState (s : State) : Nat := fget s r_PWR_STAT f_PWR_STAT_STATE
def setPwrState (s : State) (x : Nat) : State := fput (fput s r_PWR_STAT f_PWR_STAT_STATE x) r_PWR_STAT f_PWR_STAT_TARGET x
/-- Exit latencies in µs. -/
def exitLatency (st : Nat) : Nat := [0, 5, 50, 3000, 400000].getD st 0
/-- R559. -/
def idleNow (s : State) : Bool :=
  (s.stm.strms.all fun (p : Nat × Strm) => p.2.accepted.isEmpty && p.2.run.isNone)
  && (s.cores.all fun (p : Nat × Core) => decide (131072 ≤ p.1) || (p.2.mode == .idle && p.2.classify.isEmpty))
  && ((List.range 128).all fun n => sgState s n != 2 && sgState s n != 4)
  && (s.mem.dma.all fun (p : Nat × DmaEng) => p.2.thq.isEmpty && p.2.feq.isEmpty)
  && s.tst.tests.isEmpty && rplState s != 1 && rplState s != 2
  && (s.stm.logs.all fun (p : Nat × LogSt) => p.2.buf.isEmpty) && !fbit s r_PWR_CTL f_PWR_CTL_HOLD
/-- R561. -/
def deepIdle (s : State) : Bool :=
  fbit s r_PWR_CFG f_PWR_CFG_L4EN && !strmLive s 0 65536 && kilnRole s == 0 && pstate s == 0 && ((List.range 128).all fun n => (sliceOf s n).isNone)
/-- R564. -/
def powerTarget (s : State) : Nat :=
  let t := (tolerance s).1
  (List.range 5).foldl (fun m st => if decide (st ≤ fget s r_PWR_CFG f_PWR_CFG_MAXST) && decide (exitLatency st ≤ t) && (st != 4 || deepIdle s) then st else m) 0

/-- R559, R564: since when the conditions have held, taken once in a nanosecond. -/
def tickIdle (s : State) : State :=
  modPwr s fun p => { p with idleAt := if idleNow s then (if p.idleAt.isSome then p.idleAt else some s.tb.tb) else none }

/-- R560: what L3 loses: translation buffers, and every SRAM but the cluster memories of ACTIVE saggars and the sync objects. -/
def enterL3 (s : State) : State :=
  let kept (k : Nat) : Bool := decide (16000 ≤ k) || ((sgOfCluster s (k / 16) (k % 16)).any fun g => sgState s g == 1)
  let s := modMem s fun m => { m with tbuf := [], cl := m.cl.filter fun (p : Nat × Memory) => kept p.1 }
  { s with cores := tblMap (fun k => if k.mode = .idle then { k with spad := [], writebacks := [] } else k) s.cores }
/-- R561: keys are lost, and the steps of start-up that depend on the compute dies are undone. -/
def blankKeys (s : State) : State :=
  { s with keys := [], boot := { s.boot with steps := s.boot.steps.filter fun k => !([5, 7, 8, 9, 10, 14, 15, 16, 17, 18].contains k), fill := List.range 32 } }
/-- R561: every saggar is released, links go OFF, compute and wheel wicks are unlit, DRAM and keys are lost. -/
def enterL4 (s : State) : State :=
  let s := each (allSaggars s) (fun s g => freeSg (scrubSg s g) g) s
  let s := each (List.range 16) dieBlank s
  let s := each (List.range 48) (fun s k => modLink (setLinkState s (k / 12) (k % 12) 0) k fun x => { linkReset with attach := x.attach, since := s.tb.tb }) s
  let s := each ((List.range 16) ++ [17, 18, 19, 20]) (fun s ep => modWick s ep fun w => { w with lit := false }) s
  let s := each (List.range 16) (fun s d => modNi s d fun n => { niReset with stopped := true, nextMseq := n.nextMseq }) s
  let s := each (List.range 4) (fun s w => modWheel (setBank (setBank s w 0 0) w 1 0) w fun _ => wheelReset) s
  blankKeys (modMem s fun m => { m with dram := [], poison := [], lost := [], tbuf := [], acc := [], scrub := [] })
/-- L4 is left: service keys are generated anew, and the links that are enabled begin again. -/
def leaveL4 (s : State) : State :=
  let s := newServiceKeys { s with boot := { s.boot with began := s.tb.tb } }
  each (List.range 48) (fun s k => if fbit s (r_FAB_LNK_CTL (k / 12) (k % 12)) f_FAB_LNK_CTL_EN then setLinkState s (k / 12) (k % 12) 1 else s) s
def enterState (s : State) (st : Nat) : State :=
  let s := if 3 ≤ st ∧ pwrState s < 3 then enterL3 s else s
  setPwrState (if st = 4 then enterL4 s else s) st
/-- The module returns to L0. -/
def toL0 (s : State) : State :=
  let s := modPwr (if pwrState s = 4 then leaveL4 s else s) fun p => { p with idleAt := none }
  setPwrState s 0
/-- A wake event (R565). -/
def wake (s : State) : State := if pwrState s = 0 then s else fadd (toL0 s) r_PWR_STAT f_PWR_STAT_WAKECNT 1
/-- A change of the tolerance: it may wake the module. -/
def retol (s : State) : State :=
  let s := showTol s
  if (tolerance s).1 < exitLatency (pwrState s) then wake s else s

/-- POWER_STATE_SELECT (R564). -/
def execPowerStateSelect (s : State) : Out :=
  let s := showTol s
  let cur := pwrState s
  let t := powerTarget s
  let due := match s.pwr.idleAt with
    | some a => idleNow s && decide (fget s r_PWR_CFG f_PWR_CFG_IDLE * 1000 ≤ (s.tb.tb - a).toNat)
    | none => false
  if cur = 0 then .next (if due && t != 0 then enterState s t else s)
  else if !idleNow s ∨ t < cur then .next (toL0 s)
  else .next (if cur < t then enterState s t else s)

/-- R565: is it a wake event now? -/
def wakes (s : State) (w : Wake) : Bool :=
  match w with
  | .doorbell n => stState s n != stOff
  | .enable n => fbit s (r_STM_CTL n) f_STM_CTL_EN
  | .tolerance => decide ((tolerance s).1 < exitLatency (pwrState s))
  | .fieldTest => decide (pwrState s ≤ 2)
  | .cell => true
  | .command => true
  | .flr => true
/-- WAKE_EVENT. -/
def execWakeEvent (w : Wake) (s : State) : Out := when_ (wakes s w) s (wake s)
/-- PWR_CTL_WAKE. -/
def execPwrCtlWake (s : State) : Out := .next (wake s)
/-- PWR_CTL_HOLD: a write of HOLD. -/
def execPwrCtlHold (on : Bool) (s : State) : Out :=
  let s := fput s r_PWR_CTL f_PWR_CTL_HOLD (b2n on)
  .next (if on then wake s else s)
/-- PWR_LTR_WRITE (R562, R569). -/
def execPwrLtrWrite (f v : Nat) (s : State) : Out := when_ (decide (f < 256)) s (retol (modFn s f fun x => { x with ltr := v % 2 ^ 24 }))
/-- PWR_PEER_TOL_WRITE (R563). -/
def execPwrPeerTolWrite (v : Nat) (s : State) : Out := .next (retol (fput s r_PWR_PEER_TOL f_PWR_PEER_TOL_TOL v))

end Sys2Proof.Machine
end

