-- ==== Sys2Proof/Machine/Boot.lean ====
section
/-! DEFINITION. Machine/Boot.lean: module reset and start-up: MRST_N, MRST_N_RESET, START_UP, INIT_FILL, and the pins REFCLK_LOSS,
PERST_ASSERT, PERST_DEASSERT, SGMII_AUTONEG (spec/21 R593 to R600; spec/20 R574, R582, R589, R590; spec/17 R511; spec/16 R487). -/

namespace Sys2Proof.Machine

/-! ### Module reset (R590, R593) -/

/-- What MRAM keeps of the journal; CLEAN: step 4 of R487 has been reached. -/
def keptJournal (s : State) : Journal :=
  let j := s.stm.jnl
  { journalReset with recs := j.recs, dones := j.dones, streams := j.streams, map := j.map, failed := j.failed, runner := j.runner,
                      clean := j.failAt.any fun t => decide (1000000 ≤ (s.tb.tb - t).toNat) }
/-- What a module reset keeps: host memory, what has left the module, the pins, MRAM (journal, embers, sherds, retire list, witness
term), the boot NOR, and the fused SVN. -/
def moduleReset (s : State) : State :=
  let z := State.reset
  let z := { z with
    mem := { z.mem with host := s.mem.host }
    sent := s.sent
    pending := s.pending
    stm := { z.stm with jnl := keptJournal s, ports := (false, false) }
    tst := { z.tst with sherds := s.tst.sherds, fresh := s.tst.fresh, slotA := s.tst.slotA, slotB := s.tst.slotB, useB := s.tst.useB }
    rst := { z.rst with retired := s.rst.retired, untested := s.rst.untested, embers := s.rst.embers }
    kln := { z.kln with witTerm := s.kln.witTerm }
    lnt := { z.lnt with bundleA := s.lnt.bundleA, bundleB := s.lnt.bundleB, hdr0 := s.lnt.hdr0, hdr1 := s.lnt.hdr1, pkA := s.lnt.pkA, pkB := s.lnt.pkB }
    pin := { z.pin with perst := s.pin.perst, mrstLow := s.pin.mrstLow, noRef := s.pin.noRef }
    boot := { z.boot with sherds := s.tst.formed } }
  let z := fput z r_TNT_LAN_STAT f_TNT_LAN_STAT_SVN (fusedSvn s)
  let z := fput z r_JNL_STAT f_JNL_STAT_RUNNER (b2n s.stm.jnl.runner)
  let z := fput z r_JNL_STAT f_JNL_STAT_NOSPARE (fget s r_JNL_STAT f_JNL_STAT_NOSPARE)
  let z := fput z r_JNL_STAT f_JNL_STAT_CLEAN (b2n (keptJournal s).clean)
  fput z r_JNL_SPARE f_JNL_SPARE_USED (fget s r_JNL_SPARE f_JNL_SPARE_USED)

/-- MRST_N (R590): the pin has been low for 10 µs, or is high again. -/
def execMrstN (low : Bool) (s : State) : Out :=
  if !low then .next (modPin s fun p => { p with mrstLow := false })
  else if s.pin.mrst.isSome then .next (modPin s fun p => { p with mrstLow := true })
  else if pwrState s = 4 then .next (moduleReset (modPin s fun p => { p with mrstLow := true }))
  else .next (modPin (pwrfail s) fun p => { p with mrst := some s.tb.tb, mrstLow := true })
/-- MRST_N_RESET (R590): 2 ms have passed since the assertion, and the pin is high. -/
def execMrstNReset (s : State) : Out :=
  match s.pin.mrst with
  | none => .next s
  | some t => when_ (!s.pin.mrstLow && decide (2000000 ≤ (s.tb.tb - t).toNat)) s (moduleReset s)

/-! ### The init fill (R600) -/

/-- INIT_FILL: the controller of stack `k` has written every word: nothing of the stack has been written since, and nothing is lost. -/
def execInitFill (k : Nat) (s : State) : Out :=
  when_ (s.boot.fill.contains k && s.boot.steps.contains 5) s
    { s with
      mem := { s.mem with dram := s.mem.dram.filter fun (p : Nat × DWord) => stackOf p.1 != k, poison := tblErase s.mem.poison k, lost := s.mem.lost.filter fun w => stackOf w != k }
      boot := { s.boot with fill := s.boot.fill.filter (· != k) } }

/-! ### Start-up (R593 Table 1) -/

/-- Wait for. -/
def bootWaits (n : Nat) : List Nat :=
  [[], [], [1], [2], [3], [2], [4], [4, 5], [7], [7], [9], [5], [4], [12], [9], [13, 14], [15], [16], [17], [17]].getD n []
def bootReady (s : State) (n : Nat) : Bool := (bootWaits n).all s.boot.steps.contains
/-- The sequence is held at a step. -/
def bootHeld (s : State) (n code : Nat) : State :=
  let r := r_RST_BOOT_STAT
  fput (fput (fput s r f_RST_BOOT_STAT_FAIL 1) r f_RST_BOOT_STAT_FSTEP n) r f_RST_BOOT_STAT_FCODE code
/-- Step `n` is complete: STEP, MS, DONE. -/
def bootDone (s : State) (n : Nat) : State :=
  let r := r_RST_BOOT_STAT
  let s := { s with boot := { s.boot with steps := addOnce s.boot.steps n } }
  let top := ((List.range 20).find? fun k => !s.boot.steps.contains (k + 1)).getD 19
  let s := if fget s r f_RST_BOOT_STAT_FSTEP = n then fput (fput (fput s r f_RST_BOOT_STAT_FAIL 0) r f_RST_BOOT_STAT_FSTEP 0) r f_RST_BOOT_STAT_FCODE 0 else s
  let s := if fget s r f_RST_BOOT_STAT_STEP < top then
      fput (fput s r f_RST_BOOT_STAT_STEP top) r f_RST_BOOT_STAT_MS (min 65535 ((s.tb.tb - s.boot.began).toNat / 1000000))
    else s
  fput s r f_RST_BOOT_STAT_DONE (b2n (s.boot.steps.contains 6 && s.boot.steps.contains 17))

/-- R511 steps 1 to 3: does a bundle boot? -/
def bundleBoots (s : State) (b : List Byte) : Bool := Config.bundleOk b && decide (fusedSvn s ≤ Config.bundleSvn b)
/-- Step 3: the ROM takes the selected bundle, else the other one, else RECOVERY. -/
def bootRom (s : State) : State :=
  let sel := hdrPick s.lnt
  let pick (x : Bool) : List Byte := if x then s.lnt.bundleB else s.lnt.bundleA
  let run (s : State) (x : Bool) : State :=
    bootDone (fput (fput (modLnt s fun l => { l with running := pick x }) r_TNT_LAN_STAT f_TNT_LAN_STAT_BOOT 1) r_TNT_LAN_STAT f_TNT_LAN_STAT_BUNDLE (b2n x)) 3
  if bundleBoots s (pick sel) then run s sel
  else
    let s := fput s r_TNT_LAN_STAT f_TNT_LAN_STAT_FSTEP 2
    if bundleBoots s (pick !sel) then run s (!sel)
    else bootHeld (fput s r_TNT_LAN_STAT f_TNT_LAN_STAT_BOOT 2) 3 1
/-- Step 4: key bank and pattern slot. -/
def bootBanks (s : State) : State :=
  let s := showBank s
  match patSet s with
  | some (v, _) => rput (fput s r_TST_STAT f_TST_STAT_PATV 1) r_TST_PATVER (BitVec.ofNat 32 v)
  | none => s

def graded (s : State) (d : Nat) : Bool := decide (d < fget s r_ID_GRADE f_ID_GRADE_CDCNT)
/-- R42, R595: a die is OFF. -/
def dieOff (s : State) (d : Nat) : State := setVeff (setDieState s d 3) d 0
/-- Step 8: dies whose start alignment fails are OFF; the fill of every other die is done. -/
def bootAlign (s : State) (bad : List Nat) : State :=
  let s := each (bad.filter fun d => decide (d < 16) && graded s d) (fun s d => dieOff (raiseSrc s (srcDie d 20)) d) s
  if (List.range 32).any fun k => graded s (k / 2) && dieState s (k / 2) != 3 && s.boot.fill.contains k then s else bootDone s 8
/-- Step 9 (R594, R595): what the self-test has found: dies (16 to 19 wheels, 20 CTL) and positions (die, cluster, position). -/
def bootTest (s : State) (bad : List Nat) (badPos : List (Nat × Nat × Nat)) : State :=
  let s := each (bad.filter (· < 16)) (fun s d => dieOff (selfTestSherd s d 0xFF 0xFF 0xFF) d) s
  let s := each (bad.filter fun d => decide (16 ≤ d) && decide (d < 20)) (fun s d => addAct (selfTestSherd s d 0xFF 0xFF 0xFF) (.fenceWheel (d - 16))) s
  let s := each badPos (fun s p => modRst (selfTestSherd s p.1 p.2.1 0xFF p.2.2) fun r =>
    { r with retired := if (tblFind r.retired (posKey p.1 p.2.1 p.2.2)).isSome then r.retired else tblPut r.retired (posKey p.1 p.2.1 p.2.2) 3 }) s
  let up := (List.range 21).foldl (fun a d => if !bad.contains d && (decide (16 ≤ d) || (graded s d && dieState s d != 3)) then a + 2 ^ d else a) 0
  let s := fput s r_RST_BOOT_DIE f_RST_BOOT_DIE_UP up
  if bad.contains 20 then bootHeld (selfTestSherd s 20 0xFF 0xFF 0xFF) 9 5 else bootDone s 9
/-- Step 10 (R28, R472): each slot whose position is retired takes a spare. -/
def bindSlot (s : State) (d cl k : Nat) : State :=
  let c := coreId d cl k
  if (tblFind s.rst.retired (posKey d cl k)).isNone then s
  else match spareOf s d cl with
    | some p => setPos s c p
    | none => setPos s c 99
def bootBind (s : State) : State :=
  let hit := s.rst.retired.map fun (p : Nat × Nat) => (p.1 / 512, p.1 / 32 % 16, p.1 % 32)
  let s := modRst s fun r => { r with spare := [] }
  let s := each (hit.filter fun p => decide (p.2.2 < 16)) (fun s p => bindSlot s p.1 p.2.1 p.2.2) s
  let n := s.tst.formed + s.boot.sherds
  bootDone (exportNow s (s.tst.sherds.take n).reverse) 10

/-- What has to hold for the steps that other commands perform. -/
def bootHolds (s : State) (n : Nat) : Bool :=
  match n with
  | 6 => s.stm.jnl.recovered
  | 13 => fbit s r_KLN_ENUM f_KLN_ENUM_PKGV
  | 14 => (List.range 48).all fun k => !fbit s (r_FAB_LNK_CTL (k / 12) (k % 12)) f_FAB_LNK_CTL_EN || linkState s (k / 12) (k % 12) == 1 || linkState s (k / 12) (k % 12) == 5
  | 15 => fbit s r_KLN_STAT f_KLN_STAT_QUIET
  | 16 => kilnRole s != 0 || fbit s r_KLN_FMPKG f_KLN_FMPKG_ACTV
  | 17 => (getWick s 16).lit && (List.range 4).all fun w => !(getWick s (17 + w)).lit || bankState s w 0 == 2 || bankState s w 1 == 2
  | 18 => fbit s r_DET_TB_STAT f_DET_TB_STAT_SYNCED || fbit s r_DET_TB_STAT f_DET_TB_STAT_MASTER
  | 19 => !fbit s r_KLN_PAIR f_KLN_PAIR_PEERV || fbit s r_KLN_FMPKG f_KLN_FMPKG_STBYV
  | _ => true

/-- START_UP: step `n` of Table 1 ends. `bad`: dies that fail step 8 or 9; `badPos`: positions that fail step 9. Step 1 is an input that
returns after it was lost; the sequence begins with a module reset. PWRFAIL_N or MRST_N stops the sequence (R597). -/
def execStartUp (n : Nat) (bad : List Nat) (badPos : List (Nat × Nat × Nat)) (s : State) : Out :=
  if n = 1 then when_ (s.rst.cycle || fbit s r_PWR_STAT f_PWR_STAT_PFAIL) s (moduleReset s)
  else if n = 0 ∨ 19 < n ∨ s.boot.steps.contains n ∨ !bootReady s n ∨ s.stm.jnl.failAt.isSome then .next s
  else if n = 3 then .next (bootRom s)
  else if n = 4 then .next (bootDone (bootBanks s) 4)
  else if n = 5 then
    .next (if s.pin.noRef then bootHeld s 5 2 else bootDone (each (servedDies s) (fun s d => setVeff s d (vset s d)) s) 5)
  else if n = 7 then .next (bootDone (if (slotKey s 256).isSome then s else newServiceKeys s) 7)
  else if n = 8 then .next (bootAlign s bad)
  else if n = 9 then .next (bootTest s bad badPos)
  else if n = 10 then .next (bootBind s)
  else if n = 13 ∧ fbit s r_KLN_ENUM f_KLN_ENUM_ENUMERR then .next (bootHeld s 13 3)
  else if n = 16 ∧ fbit s r_KLN_STAT f_KLN_STAT_WITLOST then .next (bootHeld s 16 4)
  else when_ (bootHolds s n) s (bootDone s n)

/-! ### Pins -/

/-- REFCLK_LOSS (R582): the reference is lost, or stable again. -/
def execRefclkLoss (on : Bool) (s : State) : Out := .next (levelSrc (modPin s fun p => { p with noRef := on }) 13 on 0)

/-- R574: the functions that a port carries. -/
def portFns (s : State) (hp1 : Bool) : List Nat :=
  (List.range 256).filter fun f => fbit s (r_TNT_FN_PORT f) f_TNT_FN_PORT_PORT == hp1
def flrNow (s : State) (f : Nat) : State :=
  match execFlr f s with
  | .next t => t
  | .fault _ => s
  | .refused _ => s
/-- PERST_ASSERT (R574): PERSTn_N has been low for 1 µs. Every function that the port carries is reset. -/
def execPerstAssert (hp1 : Bool) (s : State) : Out :=
  let s := modPin s fun p => { p with perst := if hp1 then (p.perst.1, true) else (true, p.perst.2) }
  .next (each (portFns s hp1) flrNow (setPort s hp1 false))
/-- PERST_DEASSERT (R574): the port trains; its functions answer configuration requests again. -/
def execPerstDeassert (hp1 : Bool) (s : State) : Out :=
  .next (modPin s fun p => { p with perst := if hp1 then (p.perst.1, false) else (false, p.perst.2) })
/-- SGMII_AUTONEG (R589): the link partner's result: speed in Mb/s and full duplex. -/
def execSgmiiAutoneg (speed : Nat) (full : Bool) (s : State) : Out := .next (modPin s fun p => { p with sgmii := speed == 1000 && full })

end Sys2Proof.Machine
end

