-- ==== Sys2Proof/Machine/Timebase.lean ====
section
/-! DEFINITION. Machine/Timebase.lean: the timebase and its synchronisation: DET_TB_LO_READ, M_TIME_EXCHANGE, M_TIME,
TB_SYNC_TIMEOUT, PPS_EDGE, PPS_LOST (spec/02 R51 to R58; spec/12 R391). -/

namespace Sys2Proof.Machine

def modTb (s : State) (f : TbSt → TbSt) : State := { s with tb := f s.tb }

/-- DET_TB_LO_READ (R58): a read of the low word latches the high word. -/
def execDetTbLoRead (s : State) : Out :=
  .next (rput (rput s r_DET_TB_LO (s.tb.tb.truncate 32)) r_DET_TB_HI (s.tb.tb.extractLsb' 32 32))

/-- M_TIME_EXCHANGE (R54): every 1 ms the module sends a request to its parent. -/
def execMTimeExchange (s : State) : Out :=
  match s.tb.parent with
  | none => .next s
  | some k =>
    if kilnOn s && decide (1000000 ≤ nsSince s s.tb.exchAt) then
      let n := (s.tb.exch + 1) % 65536
      let s := modTb s fun t => { t with exch := n, exchAt := s.tb.tb, t1 := some s.tb.tb }
      .next (sendLocal s 16 0x1C 0xFFF 16 (k / 12) (k % 12) [0 + n * 2 ^ 16, s.tb.tb.toNat])
    else .next s

/-- SYNCED falls (R56). -/
def tbLost (s : State) : State :=
  let was := fbit s r_DET_TB_STAT f_DET_TB_STAT_SYNCED
  let s := fput (fput s r_DET_TB_STAT f_DET_TB_STAT_SYNCED 0) r_DET_TB_STAT f_DET_TB_STAT_LOST 1
  if was then raiseSrc s (srcCtl 15) else s
/-- R55: no context is resident. -/
def noContext (s : State) : Bool := s.cores.all fun p => p.2.mode == .idle
/-- R54 to R56: a measured offset, in nanoseconds. -/
def takeOffset (s : State) (off : Int) : State :=
  let s := fput s r_DET_TB_STAT f_DET_TB_STAT_ERRNS (min 65535 off.natAbs)
  let s := if !s.tb.synced1 && noContext s && decide (0 < off) then modTb s fun t => { t with tb := t.tb + BitVec.ofNat 64 off.natAbs, slew := 0, synced1 := true }
    else modTb s fun t => { t with slew := off, synced1 := true }
  if off.natAbs ≤ 100 then fput s r_DET_TB_STAT f_DET_TB_STAT_SYNCED 1 else tbLost s

/-- M_TIME (R391): a cell of SUB `sub` on link `l` of wheel `w`, with its stamps. A request is answered; the reply of the exchange in
progress gives the offset. -/
def execMTime (w l sub exch : Nat) (t1 t2 t3 : W64) (mpkg hops : Nat) (s : State) : Out :=
  if !kilnOn s || !(decide (w < 4) && decide (l < 12) && linkLive s w l) then .next s
  else if sub = 0 then
    .next (sendLocal s 16 0x1C 0xFFF 16 w l
      [1 + exch * 2 ^ 16, t1.toNat, s.tb.tb.toNat, s.tb.tb.toNat, 0,
       (if fbit s r_DET_TB_STAT f_DET_TB_STAT_MASTER then myPkg s else s.tb.mpkg) + fget s r_DET_TB_STAT f_DET_TB_STAT_HOPS * 2 ^ 12])
  else if sub = 1 then
    match s.tb.t1 with
    | some mine =>
      if s.tb.parent = some (linkKey w l) ∧ exch = s.tb.exch ∧ t1 = mine then
        let off : Int := (((t2.toNat : Int) - t1.toNat) - ((s.tb.tb.toNat : Int) - t3.toNat)) / 2
        let s := modTb s fun t => { t with t1 := none, lastTime := s.tb.tb, mpkg := mpkg }
        .next (takeOffset (fput s r_DET_TB_STAT f_DET_TB_STAT_HOPS (min 255 (hops + 1))) off)
      else .next s
    | none => .next s
  else .next s

/-- TB_SYNC_TIMEOUT (R56): no M_TIME from the parent for 10 ms. -/
def execTbSyncTimeout (s : State) : Out :=
  when_ (s.tb.parent.isSome && decide (10000000 ≤ nsSince s s.tb.lastTime)) s (tbLost s)

/-- PPS_EDGE (R57): an edge on the 1PPS input. -/
def execPpsEdge (rising : Bool) (s : State) : Out :=
  if !fbit s r_DET_TB_CFG f_DET_TB_CFG_PPS_EN || (fget s r_DET_TB_CFG f_DET_TB_CFG_PPS_EDGE == 0) != rising then .next s
  else
    let now := s.tb.tb
    let good := match s.tb.lastPps with
      | some t => decide (999999000 ≤ (now - t).toNat) && decide ((now - t).toNat ≤ 1000001000)
      | none => true
    let s := modTb s fun t => { t with lastPps := some now }
    if !good then .next (fput s r_DET_TB_STAT f_DET_TB_STAT_PPS_SEEN 0)
    else
      let s := fput (pairPut s r_DET_TB_PPS_LO r_DET_TB_PPS_HI now.toNat) r_DET_TB_STAT f_DET_TB_STAT_PPS_SEEN 1
      if fbit s r_DET_TB_STAT f_DET_TB_STAT_MASTER then
        let r := now.toNat % 1000000000
        .next (modTb s fun t => { t with slew := if r ≤ 500000000 then -(r : Int) else (1000000000 - r : Int) })
      else .next s
/-- PPS_LOST (R57): no valid edge within 1 µs after it was due. -/
def execPpsLost (s : State) : Out :=
  match s.tb.lastPps with
  | some t =>
    when_ (fbit s r_DET_TB_CFG f_DET_TB_CFG_PPS_EN && fbit s r_DET_TB_STAT f_DET_TB_STAT_PPS_SEEN && decide (1000001000 < nsSince s t)) s
      (raiseSrc (modTb (fput s r_DET_TB_STAT f_DET_TB_STAT_PPS_SEEN 0) fun t => { t with lastPps := none }) (srcCtl 16))
  | none => .next s

/-- R51, R54, R55: one nanosecond of the local reference passes; while an offset remains, the timebase runs faster or slower by at most
SLEW_PPM, and never steps back. -/
def tickTb (t : TbSt) (ppm : Nat) : TbSt :=
  let f := t.frac + (if t.slew = 0 then 0 else ppm)
  let whole : Nat := f / 1000000
  let frac := f % 1000000
  if t.slew < 0 then { t with tb := if whole = 1 then t.tb else t.tb + 1, frac := frac, slew := t.slew + whole }
  else if 0 < t.slew then { t with tb := t.tb + 1 + BitVec.ofNat 64 whole, frac := frac, slew := t.slew - whole }
  else { t with tb := t.tb + 1 }

end Sys2Proof.Machine
end

