-- ==== Sys2Proof/Machine/RegIO.lean ====
section
/-! DEFINITION. Machine/RegIO.lean: reads and writes of registers as a whole: what a register shows, where a write goes, and the commands
REGISTER_WRITE, RD32, WR32, those of the I3C port, and the tick (spec/00 R8 to R14; the register table of each chapter; spec/12 R399;
spec/20 R587, R588). -/

namespace Sys2Proof.Machine

/-! ### Reads (R8, R9, R11) -/

/-- Three byte fields and the like of a value that is put together: (value, lowest bit). -/
def packs (l : List (Nat × Nat)) : W32 := BitVec.ofNat 32 (l.foldl (fun a p => a + p.1 * 2 ^ p.2) 0)

/-- TNT_CLMAP_VAL (R214). -/
def viewClmap (s : State) : W32 :=
  match clmapOf s (fget s r_TNT_CLMAP_SEL f_TNT_CLMAP_SEL_SG) (fget s r_TNT_CLMAP_SEL f_TNT_CLMAP_SEL_LCL) with
  | some p => packs [(1, 0), (p.1, 4), (p.2, 8)]
  | none => 0
/-- TNT_SOB_VAL (R535). -/
def viewSob (s : State) : W32 :=
  match (tblFind s.fab.sync (fget s r_TNT_SOB_SEL f_TNT_SOB_SEL_DIE)).bind fun (x : SyncDie) => tblFind x.owner (fget s r_TNT_SOB_SEL f_TNT_SOB_SEL_BLOCK) with
  | some g => packs [(1, 0), (g, 8)]
  | none => 0
/-- TNT_SG_KEY(n) (R535). -/
def viewKey (s : State) (n : Nat) : W32 :=
  let g := getSag s n
  let slot (k : Option KeyTag) : Nat := (k.map KeyTag.slot).getD 0
  packs [(slot g.cur % 256, 0), (slot g.drain % 256, 8), (b2n g.drain.isSome, 16), (if sgState s n = 0 then 0 else g.kver % 256, 24)]
/-- KLN_SPM_VAL (R403, R28). -/
def viewSpm (s : State) : W32 :=
  let d := fget s r_KLN_SPM_SEL f_KLN_SPM_SEL_DIE
  let cl := fget s r_KLN_SPM_SEL f_KLN_SPM_SEL_CL
  let p := posOf s (coreId d cl (fget s r_KLN_SPM_SEL f_KLN_SPM_SEL_SLOT))
  let spares := ((List.range 17).filter fun q => !positionUsed s d cl q && (tblFind s.rst.retired (posKey d cl q)).isNone
    && !s.rst.untested.contains (posKey d cl q)).length
  packs [(slotMask s d cl, 0), (if p = 99 then 31 else p, 16), (spares, 21)]
/-- KLN_TP_VAL (R403): a third-party endpoint is bound to its attach links as it is lit. -/
def viewTp (s : State) : W32 :=
  match s.fab.links.find? fun (p : Nat × LinkSt) => p.2.attach == some (fget s r_KLN_TP_SEL f_KLN_TP_SEL_EP) with
  | some p => packs [(1, 0), (p.1 % 12, 1), (1, 5)]
  | none => 0
/-- RST_RET_VAL (R476). -/
def viewRet (s : State) : W32 :=
  match tblFind s.rst.retired (retSel s) with
  | some c => packs [(1, 0), (c % 4, 2)]
  | none => 0
/-- RST_EMB_INFO (R476). -/
def viewEmber (s : State) : W32 :=
  match emberSel s with
  | some e => packs [(1, 0), (b2n e.inc, 1), (e.die % 32, 2), (e.gen % 256, 8), (e.trig % 4, 16)]
  | none => 0
/-- FLT_SRC_CFG and FLT_SRC_INFO (R451). -/
def selSrc (s : State) : Nat := fget s r_FLT_SRC_SEL f_FLT_SRC_SEL_SRC
def viewSrc (s : State) : W32 :=
  let i := tblGet (fun _ => (0, 0)) s.flt.info (selSrc s)
  packs [(b2n (srcStat s (selSrc s)), 0), (b2n (srcLive s (selSrc s)), 1), (min i.1 255, 8), (min i.2 65535, 16)]
/-- TST_ENG_VAL (R428): the marks of the selected core's engines, and the counts of the selected engine. -/
def viewEng (s : State) : W32 :=
  let c := coreId (fget s r_TST_ENG_SEL f_TST_ENG_SEL_DIE) (fget s r_TST_ENG_SEL f_TST_ENG_SEL_CL) (fget s r_TST_ENG_SEL f_TST_ENG_SEL_SLOT)
  let sum (k : TransKind) : Nat :=
    let x := tblGet (fun _ => (0, 0)) s.tst.trans (transKey k (c * 4 + fget s r_TST_ENG_SEL f_TST_ENG_SEL_ENG))
    min 255 (x.1 + x.2)
  packs ([0, 1, 2, 3].map (fun e => (b2n (getEng (getCore s c) e).suspect, e)) ++ [(sum .engData, 16), (sum .engCheck, 24)])
/-- TST_SHD_DATA(k) (R428). -/
def viewSherd (s : State) (k : Nat) : W32 :=
  match s.tst.sherds[fget s r_TST_SHD_IDX f_TST_SHD_IDX_IDX]? with
  | some b => BitVec.ofNat 32 (leAt b (4 * k) 4)
  | none => 0
/-- PWR_FN_LTR(f) (R568). -/
def viewLtr (s : State) (f : Nat) : W32 := packs [((getFn s f).ltr, 0), (b2n (fnActive s f), 24)]
/-- FAB_RT_ENT (R334). -/
def viewRoute (s : State) (w : Nat) : W32 :=
  (bankEntry s w (fget s (r_FAB_RT_SEL w) f_FAB_RT_SEL_BANK) (fget s (r_FAB_RT_SEL w) f_FAB_RT_SEL_IDX)).zeroExtend 32
/-- FAB_CC_RATE (R335). -/
def viewRate (s : State) : W32 := BitVec.ofNat 32 (getRate s (fget s r_FAB_CC_SEL f_FAB_CC_SEL_DIE) (fget s r_FAB_CC_SEL f_FAB_CC_SEL_DPKG)).rate

/-- The value of a register of blocks 0 to 4 that shows something held elsewhere. -/
def viewLow (s : State) (off : Nat) : Option W32 :=
  if 0x11000 ≤ off ∧ off < 0x11400 then some (viewLtr s ((off - 0x11000) / 4))
  else if off = r_RST_RET_VAL then some (viewRet s)
  else if off = r_RST_EMB_INFO then some (viewEmber s)
  else if off = r_FLT_SRC_CFG then some (BitVec.ofNat 32 (sevOf s (selSrc s)))
  else if off = r_FLT_SRC_INFO then some (viewSrc s)
  else if 0x41000 ≤ off ∧ off < 0x49000 ∧ off % 0x200 = 0x100 then some (rget s (off + 4))
  else none
/-- The same for the other blocks. -/
def viewHigh (s : State) (off : Nat) : Option W32 :=
  if off = r_TNT_CLMAP_VAL then some (viewClmap s)
  else if off = r_TNT_SOB_VAL then some (viewSob s)
  else if 0x51000 ≤ off ∧ off < 0x52000 ∧ off % 0x20 = 0x14 then some (viewKey s ((off - 0x51000) / 0x20))
  else if 0x71000 ≤ off ∧ off < 0x72000 ∧ off % 0x20 = 0x14 then
    some (fldSet (rget s off) f_DET_LOG_STAT_BUF ((logUsed s ((off - 0x71000) / 0x20) + 65535) / 65536))
  else if off = r_KLN_SPM_VAL then some (viewSpm s)
  else if off = r_KLN_TP_VAL then some (viewTp s)
  else if off = r_FAB_CC_RATE then some (viewRate s)
  else if 0x90000 ≤ off ∧ off < 0xA0000 ∧ off % 0x4000 = 0x3108 then some (BitVec.ofNat 32 (min 65535 (oldCells s ((off - 0x90000) / 0x4000))))
  else if 0x90000 ≤ off ∧ off < 0xA0000 ∧ off % 0x4000 = 0x3110 then some (viewRoute s ((off - 0x90000) / 0x4000))
  else if off = r_TST_ENG_VAL then some (viewEng s)
  else if 0xA0200 ≤ off ∧ off < 0xA0280 then some (viewSherd s ((off - 0xA0200) / 4))
  else if 0x100000 ≤ off ∧ !strmsUp s then some 0
  else if 0x100000 ≤ off ∧ off % 64 = 0x28 then some (fldSet (rget s off) f_STM_STAT_NOACC (b2n (noAcc s ((off - 0x100000) / 64))))
  else none

/-- What a read of BAR0 at `off` returns (R8): 0 where no register is assigned. -/
def regRead (s : State) (off : Nat) : W32 :=
  match regRow off with
  | none => 0
  | some _ => ((viewLow s (regAlias off)).or (viewHigh s (regAlias off))).getD (rget s (regAlias off))

/-- R539: the channel of a window that `off` lies in. -/
def windowOf (off : Nat) : Option Nat := if 0x41000 ≤ off ∧ off < 0x49000 then some ((off - 0x41000) / 0x200) else none
/-- A read by master `mid`, with what the read does: it latches DET_TB_HI (R58), and the hub checks it (R540). -/
def readBy (s : State) (mid off : Nat) : State × W32 :=
  if off = r_DET_TB_LO then
    match execDetTbLoRead s with
    | .next t => (t, rget t off)
    | _ => (s, 0)
  else match (if off % 4 = 0 then windowOf off else none) with
    | some c => if isA s c mid || isB s c mid then (s, regRead s off) else (mbxViolation s c mid, 0)
    | none => (s, regRead s off)

/-! ### Writes to registers without a row of their own (R10, R11) -/

/-- The LOCK bit of a block (R11). -/
def blockLocked (s : State) (off : Nat) : Bool :=
  match off / 0x10000 with
  | 1 => fbit s r_PWR_CFG f_PWR_CFG_LOCK
  | 2 => fbit s r_RST_CFG f_RST_CFG_LOCK
  | 3 => fbit s r_FLT_CFG f_FLT_CFG_LOCK
  | 8 => fbit s r_KLN_CFG f_KLN_CFG_LOCK
  | 9 => fbit s (r_FAB_WH_CTL ((off - 0x90000) / 0x4000)) f_FAB_WH_CTL_LOCK
  | 10 => fbit s r_TST_CTL f_TST_CTL_LOCK
  | 11 => fbit s r_JNL_PAIR f_JNL_PAIR_LOCK
  | _ => false
/-- Is the write discarded for a reserved encoding? -/
def storeBad (s : State) (off : Nat) (v : W32) : Bool :=
  match regRow off with
  | some (r, _) => writeReserved r (blockLocked s off) v
  | none => true
/-- What the register holds after the write. -/
def stored (s : State) (off : Nat) (v : W32) : W32 :=
  match regRow off with
  | some (r, _) => writeRow r (blockLocked s off) (rget s off) v
  | none => rget s off
/-- The write is checked and stored. -/
def regStore (s : State) (off : Nat) (v : W32) : State := if storeBad s off v then s else rput s off (stored s off v)
/-- The same with action bits that read 0. -/
def storeOff (s : State) (off : Nat) (v mask : W32) : State := if storeBad s off v then s else rput s off (stored s off v &&& ~~~ mask)
/-- Then. -/
def andThen (o : Out) (f : State → Out) : Out :=
  match o with
  | .next s => f s
  | x => x

/-- PWR (R568). -/
def writePwr (off : Nat) (v : W32) (s : State) : Out :=
  if off = r_PWR_CTL then andThen (execPwrCtlHold (v.getLsbD 1) s) fun s => if v.getLsbD 0 then execPwrCtlWake s else .next s
  else if off = r_PWR_PEER_TOL then execPwrPeerTolWrite (fldGet v f_PWR_PEER_TOL_TOL) s
  else if 0x10100 ≤ off ∧ off < 0x10140 then execPwrRailVsetWrite ((off - 0x10100) / 4) (fldGet v f_PWR_RAIL_VSET) s
  else .next (regStore s off v)

/-- R476: the ladder that a write of RST_PILOT or RST_LAD_A would leave. -/
def ladderBad (pilot lad : W32) : Bool :=
  let flush := fldGet lad f_RST_LAD_A_FLUSH
  decide (1000 * flush < fldGet pilot f_RST_PILOT_MISS * fldGet pilot f_RST_PILOT_PERIOD + 1000 * fldGet lad f_RST_LAD_A_ENG)
  || decide (fldGet lad f_RST_LAD_A_DIE ≤ flush)
def writeLadder (off : Nat) (v : W32) (s : State) : State :=
  if storeBad s off v then s
  else
    let x := stored s off v
    if ladderBad (if off = r_RST_PILOT then x else rget s r_RST_PILOT) (if off = r_RST_PILOT then rget s r_RST_LAD_A else x) then
      fput s r_RST_CFG f_RST_CFG_CFGERR 1
    else rput s off x
/-- RST (R476). -/
def writeRst (off : Nat) (v : W32) (s : State) : Out :=
  if off = r_RST_PILOT ∨ off = r_RST_LAD_A then .next (writeLadder off v s)
  else if off = r_RST_SNUFF then (if v.getLsbD 31 then execRstSnuffGo (fldGet v f_RST_SNUFF_SLICE) s else .next (regStore s off v))
  else if off = r_RST_DIE then
    (if storeBad s off v then .next s
     else if !v.getLsbD 31 then .next (storeOff s off v 0x80000000#32)
     else if fldGet v f_RST_DIE_ACT = 0 then execRstDieReset (fldGet v f_RST_DIE_DIE) s else execRstDieFence (fldGet v f_RST_DIE_DIE) s)
  else if off = r_RST_RET_VAL then (if v.getLsbD 1 then execRstRetValClr s else .next s)
  else if off = r_RST_EMB_CTL then
    (let s := storeOff s off v 1#32
     if v.getLsbD 0 then execRstEmbCtlGo s else .next s)
  else .next (regStore s off v)

/-- FLT_SRC_CFG (R430, R451): severity 7 is reserved. -/
def writeSev (v : W32) (s : State) : State :=
  let x := fldGet v f_FLT_SRC_CFG_SEV
  if blockLocked s r_FLT_SRC_CFG || x == 7 || !srcAssigned (selSrc s) then s
  else refreshFault (modFlt s fun f => { f with sev := tblSet sevDefault f.sev (selSrc s) x })
/-- FLT (R451, R452). -/
def writeFlt (off : Nat) (v : W32) (s : State) : Out :=
  if off = r_FLT_SRC_CFG then .next (writeSev v s)
  else if 0x30100 ≤ off ∧ off < 0x30160 then execFltSrcStatClear ((off - 0x30100) / 4) v s
  else if off = r_FLT_CAP_STAT then (if v.getLsbD 0 then execCapvClear s else .next s)
  else if off = r_FLT_INJ then (if v.getLsbD 31 then execFltInjGo v s else .next (regStore s off v))
  else .next (regStore s off v)

/-- MBX_CH_CFG (R548): each party writes its own vector. -/
def writeChCfg (c mid : Nat) (v : W32) (s : State) : State :=
  let r := r_MBX_CH_CFG c
  let s := if isA s c mid && decide (mid < 256) then fput (fput s r f_MBX_CH_CFG_AVEC (fldGet v f_MBX_CH_CFG_AVEC)) r f_MBX_CH_CFG_ACKIE (fldGet v f_MBX_CH_CFG_ACKIE) else s
  if isB s c mid && decide (mid < 256) then fput s r f_MBX_CH_CFG_BVEC (fldGet v f_MBX_CH_CFG_BVEC) else s
/-- MBX_ACK (R541, R548): the error bits are cleared by either party. -/
def writeAck (c mid : Nat) (v : W32) (s : State) : Out :=
  mbxAccess c mid (fun s =>
    let r := r_MBX_ACK c
    let s := if v.getLsbD 18 then fput s r f_MBX_ACK_PWERR 0 else s
    if v.getLsbD 19 then fput s r f_MBX_ACK_ACKERR 0 else s) s
/-- A channel's window at offset `o` (R539, R548). -/
def writeWindow (c o mid : Nat) (v : W32) (s : State) : Out :=
  if o < 0x100 then execMbxPayWrite c (o / 4) mid v s
  else if o = 0x100 then execMbxDbSet c mid v s
  else if o = 0x104 then execMbxDbPend c mid v s
  else if o = 0x108 then execMbxDbMask c mid v s
  else if o = 0x10C then
    andThen (writeAck c mid v s) fun s =>
      if isA s c mid then (if v.getLsbD 16 then execMbxAckValidClear c mid s else .next s)
      else if isB s c mid then execMbxAckCode c mid (v.toNat % 65536) s else .next s
  else if o = 0x110 then mbxAccess c mid (writeChCfg c mid v) s
  else mbxAccess c mid (fun s => s) s
/-- MBX (R548). -/
def writeMbx (off mid : Nat) (v : W32) (s : State) : Out :=
  match windowOf off with
  | some c => writeWindow c ((off - 0x41000) % 0x200) mid v s
  | none =>
    if 0x40100 ≤ off ∧ off < 0x40200 then execMbxBind ((off - 0x40100) / 4) v s
    else if off = r_MBX_LOCK_LO then execMbxLock false v s
    else if off = r_MBX_LOCK_HI then execMbxLock true v s
    else .next (regStore s off v)

/-- TNT (R214, R252, R535): registers of one saggar are written while it is FREE. -/
def writeTnt (off : Nat) (v : W32) (s : State) : Out :=
  if off = r_TNT_PREEMPT then
    (if storeBad s off v then .next s
     else if !v.getLsbD 31 then .next (storeOff s off v 0x80000000#32)
     else if fldGet v f_TNT_PREEMPT_ACT = 0 then execTntPreemptSave (fldGet v f_TNT_PREEMPT_SG) s else execTntPreemptRestore (fldGet v f_TNT_PREEMPT_SG) s)
  else if 0x51000 ≤ off ∧ off < 0x52000 then
    (let n := (off - 0x51000) / 0x20
     if off % 0x20 = 0x10 then execTntSgBindWrite n v s
     else if sgState s n != 0 && off % 0x20 != 0x0C then .next s else .next (regStore s off v))
  else if 0x52000 ≤ off ∧ off < 0x53000 ∧ off % 0x10 = 0 then execTntFnStrmWrite ((off - 0x52000) / 0x10) v s
  else if 0x52000 ≤ off ∧ off < 0x53000 ∧ off % 0x10 = 0x0C then execTntFnPortWrite ((off - 0x52000) / 0x10) v s
  else .next (regStore s off v)

/-- MMU (R213). -/
def writeMmu (off : Nat) (v : W32) (s : State) : Out :=
  if off = r_MMU_TW_CTL then execMmuTwGo v s
  else if 0x61000 ≤ off ∧ off < 0x61400 ∧ sgState s ((off - 0x61000) / 8) ≠ 0 then .next s
  else .next (regStore s off v)

/-- DET_RPL_CTL (R275): GO and ABORT in one write is a reserved encoding. -/
def writeRplCtl (v : W32) (s : State) : Out :=
  if v.getLsbD 8 && v.getLsbD 9 then .next s
  else if v.getLsbD 8 then execDetRplGo v s
  else andThen (if v.getLsbD 9 then execDetRplAbort s else .next s) fun s => .next (storeOff s r_DET_RPL_CTL v 0x300#32)
/-- DET (R58, R275, R276). -/
def writeDet (off : Nat) (v : W32) (s : State) : Out :=
  if off = r_DET_CTL then execDetCtlLockWrite v s
  else if off = r_DET_RPL_CTL then writeRplCtl v s
  else if 0x71000 ≤ off ∧ off < 0x72000 then
    (let n := (off - 0x71000) / 0x20
     if off % 0x20 = 8 then execDetLogCfgWrite n v s
     else if off % 0x20 = 0x0C then execDetLogHeadWrite n v s
     else if off % 0x20 < 8 && (fbit s (r_DET_LOG_CFG n) f_DET_LOG_CFG_EN || logActive s n) then .next s
     else .next (regStore s off v))
  else .next (regStore s off v)

/-- KLN (R403): KLN_CTL acts at a kiln in role ACTIVE or SOLO. -/
def writeKln (off : Nat) (v : W32) (s : State) : Out :=
  if off = r_KLN_CTL then
    andThen (if v.getLsbD 0 then execRecomp s else .next s) fun s => if v.getLsbD 1 then execSwapnow s else .next s
  else if off = r_KLN_ENUM then
    execKlnEnumChainWrite (BitVec.ofNat 6 v.toNat) (if v.getLsbD 29 then fput s r_KLN_ENUM f_KLN_ENUM_ENUMERR 0 else s)
  else .next (regStore s off v)

/-- R307: does a value of FAB_VC_BUF(v) break the rules? -/
def vcBufBad (s : State) (w k : Nat) (x : W32) : Bool :=
  let mn := fldGet x f_FAB_VC_BUF_MIN
  let sum := (List.range 14).foldl (fun a j => a + (if j = k then mn else fget s (r_FAB_VC_BUF w j) f_FAB_VC_BUF_MIN)) 0
  decide (fldGet x f_FAB_VC_BUF_CAP < mn) || decide (4096 < sum) || ([1, 2, 4, 5, 7, 8, 10, 11, 12, 13].contains k && decide (mn < 16))
/-- FAB (R306, R307, R334, R335). -/
def writeFab (off : Nat) (v : W32) (s : State) : Out :=
  let w := (off - 0x90000) / 0x4000
  let o := (off - 0x90000) % 0x4000
  if o < 0x3000 ∧ o % 0x400 = 0 then execFabLnkEnWrite w (o / 0x400) v s
  else if 0x3040 ≤ o ∧ o < 0x3078 then .next (if vcBufBad s w ((o - 0x3040) / 4) (stored s off v) then s else regStore s off v)
  else .next (regStore s off v)

/-- TST (R427, R428). -/
def writeTst (off : Nat) (v : W32) (s : State) : Out :=
  if off = r_TST_CTL then
    (let s := storeOff s off v 2#32
     if v.getLsbD 1 then execFtnow s else .next s)
  else if off = r_TST_INJ then
    (if v.getLsbD 31 || fldGet v f_TST_INJ_KIND == 0 then execTstInjGo v s else .next (regStore s off v))
  else .next (regStore s off v)

/-- JNL (R508): SOLO and REJOIN in one write is a reserved encoding. -/
def writeJnl (off : Nat) (v : W32) (s : State) : Out :=
  if off = r_JNL_CTL then
    (if v.getLsbD 0 && v.getLsbD 1 then .next s else if v.getLsbD 0 then execSolo s else if v.getLsbD 1 then execRejoin s else .next s)
  else .next (regStore s off v)

/-- STM_CTL (R220, R221): FLUSH and RESUME in one write is a reserved encoding. -/
def writeStmCtl (n : Nat) (v : W32) (s : State) : Out :=
  let en := fbit s (r_STM_CTL n) f_STM_CTL_EN
  if v.getLsbD 1 && v.getLsbD 2 then .next s
  else
    andThen (if v.getLsbD 0 && !en then execStmEnSet n s else if !v.getLsbD 0 && en then execStmEnClear n s else .next s) fun s =>
      if v.getLsbD 1 then execStmFlush n s else if v.getLsbD 2 then execStmResume n s else .next s
/-- STM (R220, R221, R597): STM_SQB, STM_CQB, STM_CFG and STM_SEQ take writes while EN = 0. -/
def writeStm (n o : Nat) (v : W32) (s : State) : Out :=
  let off := r_STM_SQB_LO n + o
  if !strmsUp s then .next s
  else if o = 0x14 then writeStmCtl n v s
  else if o = 0x1C then execStmSeqWrite n (BitVec.ofNat 48 (stSeq s n / 2 ^ 32 * 2 ^ 32 + v.toNat)) s
  else if o = 0x20 then execStmSeqWrite n (BitVec.ofNat 48 (stSeq s n % 2 ^ 32 + v.toNat % 65536 * 2 ^ 32)) s
  else if o ≤ 0x10 ∧ fbit s (r_STM_CTL n) f_STM_CTL_EN then .next s
  else .next (regStore s off v)

/-- A 32-bit write of BAR0 by master `mid` (R8): discarded where no register is assigned. -/
def regWrite (mid off : Nat) (v : W32) (s : State) : Out :=
  if (regRow off).isNone then .next s
  else if 0x100000 ≤ off then writeStm ((off - 0x100000) / 64) (off % 64) v s
  else match off / 0x10000 with
    | 1 => writePwr off v s
    | 2 => writeRst off v s
    | 3 => writeFlt off v s
    | 4 => writeMbx off mid v s
    | 5 => writeTnt off v s
    | 6 => writeMmu off v s
    | 7 => writeDet off v s
    | 8 => writeKln off v s
    | 9 => writeFab (regAlias off) v s
    | 10 => writeTst off v s
    | 11 => writeJnl off v s
    | _ => .next s

/-! ### BAR0 and BAR4 of a function (R218, R539, R569) -/

/-- R218: a virtual function's own contexts. A write of MODE is discarded there (R220). -/
def writeVf (f off : Nat) (v : W32) (s : State) : Out :=
  let n := fnBase s f + off / 64
  if f = 0 ∨ 256 ≤ f ∨ fnCount s f ≤ off / 64 then .next s
  else regWrite f (0x100000 + 64 * n + off % 64) (if off % 64 = 0x10 then fldSet v f_STM_CFG_MODE (stMode s n) else v) s

/-- The k-th channel bound to a function. -/
def chanOfFn (s : State) (f k : Nat) : Option Nat := ((List.range 64).filter fun c => isA s c f || isB s c f)[k]?
/-- A mask bit or a mask of the function has been cleared: messages that pend are sent. -/
def sendPend (f : Nat) (s : State) : State :=
  each ((getFn s f).vecs.map Prod.fst) (fun s v => if (getVec s f v).pend then sendMsix s f v else s) s
/-- A word of an MSI-X table entry: address, data, vector control (bit 0 masks). -/
def writeVec (f k w : Nat) (v : W32) (s : State) : State :=
  match w with
  | 0 => modVec s f k fun x => { x with addr := x.addr / 2 ^ 32 * 2 ^ 32 + v.zeroExtend 64 }
  | 1 => modVec s f k fun x => { x with addr := x.addr % 2 ^ 32 + (v.zeroExtend 64 <<< 32) }
  | 2 => modVec s f k fun x => { x with data := v }
  | _ => sendPend f (modVec s f k fun x => { x with mask := v.getLsbD 0 })
def writeBar4 (f off : Nat) (v : W32) (s : State) : Out :=
  if 256 ≤ f ∨ off % 4 ≠ 0 then .next s
  else if off < 0x8000 then .next (writeVec f (off / 16) (off % 16 / 4) v s)
  else if off = 0xE000 then execPwrLtrWrite f (v.toNat % 2 ^ 24) s
  else if 0xC000 ≤ off ∧ off < 0xD000 ∧ f ≠ 0 then
    match chanOfFn s f ((off - 0xC000) / 0x200) with
    | some c => writeWindow c (off % 0x200) f v s
    | none => .next s
  else .next s

/-! ### Commands -/

/-- REGISTER_WRITE (R8 to R12): a 32-bit write of host software. -/
def execRegisterWrite (t : WriteTo) (v : W32) (s : State) : Out :=
  match t with
  | .bar0 off => regWrite 0 off v s
  | .vf f off => writeVf f off v s
  | .bar4 f off => writeBar4 f off v s
  | .msixCap f => when_ (decide (f < 256)) s (sendPend f (modFn s f fun x => { x with msixEn := v.getLsbD 31, msixMask := v.getLsbD 30 }))
  | .fnEnable f => when_ (decide (f < 256) && v.getLsbD 0) s (modFn s f fun x => { x with stopped := false })
  | .host a => .next (hostWrite s a (leBytes 4 v.toNat))

/-- R399: the register that wick `ep` reaches at an offset within its die's view: the CTL wick all of BAR0, a wheel agent the FAB window
of its wheel. -/
def wickReg (ep off : Nat) : Option Nat :=
  if ep = 16 then some off else if 17 ≤ ep ∧ ep ≤ 20 ∧ off < 0x4000 then some (0x90000 + 0x4000 * (ep - 17) + off) else none
def midWick (ep : Nat) : Nat := 0x3000 + ep
/-- RD32. -/
def execRd32 (ep seq term off : Nat) (s : State) : Out :=
  wickCommand ep seq term 1 (fun s =>
    match wickReg ep off with
    | some a => let r := readBy s (midWick ep) a
                (r.1, some (0, [r.2.toNat]))
    | none => (s, some (0, [0]))) s
def nextState (o : Out) (s : State) : State :=
  match o with
  | .next t => t
  | _ => s
/-- WR32. -/
def execWr32 (ep seq term off : Nat) (v : W32) (s : State) : Out :=
  wickCommand ep seq term 2 (fun s =>
    match wickReg ep off with
    | some a => okAnswer (nextState (regWrite (midWick ep) a v s) s)
    | none => okAnswer s) s

/-! ### The I3C port (R587, R588) -/

/-- R587: the provisional ID, most significant byte first. -/
def pidBytes (s : State) : List Byte := (leBytes 6 (2 ^ 32 + (rget s r_ID_SER_LO).toNat)).reverse
/-- What the port drives: the kind is 0x100 plus the CCC, or 0x1A0 for a register read. -/
def i3cSay (s : State) (kind : Nat) (bs : List Byte) : State := emitSent s (.reply kind (bs.map BitVec.toNat))
/-- ENTDAA: a target without a dynamic address sends its ID, BCR and DCR and takes the address. -/
def execEntdaa (a : BitVec 7) (s : State) : Out :=
  when_ s.pin.dyn.isNone s (modPin (i3cSay s 0x107 (pidBytes s ++ [0#8, 0#8])) fun p => { p with dyn := some a.toNat })
/-- SETNEWDA. -/
def execSetnewda (a : BitVec 7) (s : State) : Out := when_ s.pin.dyn.isSome s (modPin s fun p => { p with dyn := some a.toNat })
/-- RSTDAA. -/
def execRstdaa (s : State) : Out := .next (modPin s fun p => { p with dyn := none })
/-- GETPID. -/
def execGetpid (s : State) : Out := when_ s.pin.dyn.isSome s (i3cSay s 0x18D (pidBytes s))
/-- GETBCR. -/
def execGetbcr (s : State) : Out := when_ s.pin.dyn.isSome s (i3cSay s 0x18E [0#8])
/-- GETDCR. -/
def execGetdcr (s : State) : Out := when_ s.pin.dyn.isSome s (i3cSay s 0x18F [0#8])
/-- GETSTATUS: the content is free. -/
def execGetstatus (s : State) : Out := when_ s.pin.dyn.isSome s (i3cSay s 0x190 ((leBytes 2 (Config.i3cStatus s.tb.tb).toNat).reverse))

/-- I3C_REGISTER_READ (R588): a register read frame and the private read that follows. The port reads as the physical function does. -/
def execI3cRegisterRead (off : Nat) (pecOk : Bool) (s : State) : Out :=
  if s.pin.dyn.isNone then .next s
  else if pecOk ∧ off < 0xC0000 then
    let r := readBy s 0 off
    .next (i3cSay r.1 0x1A0 (leBytes 4 r.2.toNat))
  else .next (i3cSay s 0x1A0 (leBytes 4 0xFFFFFFFF))
/-- Table 9: the offsets that a register write may name. -/
def i3cAllowed (off : Nat) : Bool :=
  [r_KLN_CFG, r_KLN_PAIR, r_KLN_SHAPE, r_KLN_TIMING, r_KLN_ENUM, r_PWR_CAP].contains off || (decide (r_FLT_MGP_CTL ≤ off) && decide (off ≤ r_FLT_MGP_DST6 3))
/-- I3C_REGISTER_WRITE (R588). -/
def execI3cRegisterWrite (off : Nat) (v : W32) (pecOk : Bool) (s : State) : Out :=
  if s.pin.dyn.isSome && pecOk && i3cAllowed off then regWrite 0 off v s else .next s

/-! ### The tick -/

/-- R306: a cell waits for credit on link `l` of wheel `w`. -/
def linkStalled (s : State) (w l : Nat) : Bool :=
  (getWheel s w).choice.any fun (p : Nat × Tbl Choice) => p.2.any fun (q : Nat × Choice) =>
    q.2.out == l && linkLive s w l && !hasCredit (getLink s (linkKey w l)).tx q.2.vc (vcCap s w q.2.vc)
def tickStall (s : State) : State :=
  each (List.range 4) (fun s w => if (getWheel s w).choice.isEmpty then s else
    each (List.range 12) (fun s l => if linkStalled s w l then cadd s (r_FAB_STALL_LO w l) (r_FAB_STALL_HI w l) 1 else s) s) s
/-- One nanosecond of the local reference (R51, R186, R559): the timebase and the slot counters advance. -/
def tick (s : State) : State :=
  let s := tickStall s
  let s := modTb s fun t => tickTb t (fget s r_DET_TB_CFG f_DET_TB_CFG_SLEW_PPM)
  tickIdle (modMem s fun m => { m with slotCtr := m.slotCtr + 1, slotUsed := [] })

end Sys2Proof.Machine
end

