-- ==== Sys2Proof/Machine/Dispatch.lean ====
section
/-! DEFINITION. Machine/Dispatch.lean: the meaning of every command: one arm for each row of the table. -/

namespace Sys2Proof.Machine

def exec (i : Instr) (s : State) : Host.Outcome State Fault Refusal :=
  match i with
  | .nop c w => Sys2Proof.Machine.execNop c w s
  | .add c w => Sys2Proof.Machine.execAdd c w s
  | .sub c w => Sys2Proof.Machine.execSub c w s
  | .and c w => Sys2Proof.Machine.execAnd c w s
  | .or c w => Sys2Proof.Machine.execOr c w s
  | .xor c w => Sys2Proof.Machine.execXor c w s
  | .shl c w => Sys2Proof.Machine.execShl c w s
  | .shr c w => Sys2Proof.Machine.execShr c w s
  | .sra c w => Sys2Proof.Machine.execSra c w s
  | .slt c w => Sys2Proof.Machine.execSlt c w s
  | .sltu c w => Sys2Proof.Machine.execSltu c w s
  | .seq c w => Sys2Proof.Machine.execSeq c w s
  | .min c w => Sys2Proof.Machine.execMin c w s
  | .max c w => Sys2Proof.Machine.execMax c w s
  | .movi c w => Sys2Proof.Machine.execMovi c w s
  | .movh c w => Sys2Proof.Machine.execMovh c w s
  | .mul c w => Sys2Proof.Machine.execMul c w s
  | .mulh c w => Sys2Proof.Machine.execMulh c w s
  | .mulhu c w => Sys2Proof.Machine.execMulhu c w s
  | .div c w => Sys2Proof.Machine.execDiv c w s
  | .divu c w => Sys2Proof.Machine.execDivu c w s
  | .rem c w => Sys2Proof.Machine.execRem c w s
  | .remu c w => Sys2Proof.Machine.execRemu c w s
  | .popc c w => Sys2Proof.Machine.execPopc c w s
  | .ctz c w => Sys2Proof.Machine.execCtz c w s
  | .beq c w => Sys2Proof.Machine.execBeq c w s
  | .bne c w => Sys2Proof.Machine.execBne c w s
  | .blt c w => Sys2Proof.Machine.execBlt c w s
  | .bge c w => Sys2Proof.Machine.execBge c w s
  | .bltu c w => Sys2Proof.Machine.execBltu c w s
  | .bgeu c w => Sys2Proof.Machine.execBgeu c w s
  | .jal c w => Sys2Proof.Machine.execJal c w s
  | .jr c w => Sys2Proof.Machine.execJr c w s
  | .halt c w => Sys2Proof.Machine.execHalt c w s
  | .brk c w => Sys2Proof.Machine.execBrk c w s
  | .stepw c w => Sys2Proof.Machine.execStepw c w s
  | .tctlResume c w => Sys2Proof.Machine.execTctlResume c w s
  | .tctlStop c w => Sys2Proof.Machine.execTctlStop c w s
  | .tctlRead c w => Sys2Proof.Machine.execTctlRead c w s
  | .tctlReadXpc c w => Sys2Proof.Machine.execTctlReadXpc c w s
  | .tctlReadXinfo c w => Sys2Proof.Machine.execTctlReadXinfo c w s
  | .ld c w => Sys2Proof.Machine.execLd c w s
  | .st c w => Sys2Proof.Machine.execSt c w s
  | .vld c w => Sys2Proof.Machine.execVld c w s
  | .vst c w => Sys2Proof.Machine.execVst c w s
  | .vstm c w => Sys2Proof.Machine.execVstm c w s
  | .lnld c w => Sys2Proof.Machine.execLnld c w s
  | .lnst c w => Sys2Proof.Machine.execLnst c w s
  | .fence c w => Sys2Proof.Machine.execFence c w s
  | .mma c w => Sys2Proof.Machine.execMma c w s
  | .wflush c w => Sys2Proof.Machine.execWflush c w s
  | .rstore c w => Sys2Proof.Machine.execRstore c w s
  | .xstore c w => Sys2Proof.Machine.execXstore c w s
  | .spget c w => Sys2Proof.Machine.execSpget c w s
  | .spadd c w => Sys2Proof.Machine.execSpadd c w s
  | .mclr c w => Sys2Proof.Machine.execMclr c w s
  | .lnadd c w => Sys2Proof.Machine.execLnadd c w s
  | .lnmov c w => Sys2Proof.Machine.execLnmov c w s
  | .lnclr c w => Sys2Proof.Machine.execLnclr c w s
  | .lnneg c w => Sys2Proof.Machine.execLnneg c w s
  | .lnlane c w => Sys2Proof.Machine.execLnlane c w s
  | .lnrnd c w => Sys2Proof.Machine.execLnrnd c w s
  | .vadd c w => Sys2Proof.Machine.execVadd c w s
  | .vsub c w => Sys2Proof.Machine.execVsub c w s
  | .vmul c w => Sys2Proof.Machine.execVmul c w s
  | .vfma c w => Sys2Proof.Machine.execVfma c w s
  | .vmin c w => Sys2Proof.Machine.execVmin c w s
  | .vmax c w => Sys2Proof.Machine.execVmax c w s
  | .vcvt c w => Sys2Proof.Machine.execVcvt c w s
  | .viadd c w => Sys2Proof.Machine.execViadd c w s
  | .vimul c w => Sys2Proof.Machine.execVimul c w s
  | .vbcast c w => Sys2Proof.Machine.execVbcast c w s
  | .vlane c w => Sys2Proof.Machine.execVlane c w s
  | .vidx c w => Sys2Proof.Machine.execVidx c w s
  | .vfn c w => Sys2Proof.Machine.execVfn c w s
  | .vcmp c w => Sys2Proof.Machine.execVcmp c w s
  | .vsel c w => Sys2Proof.Machine.execVsel c w s
  | .vgath c w => Sys2Proof.Machine.execVgath c w s
  | .vscat c w => Sys2Proof.Machine.execVscat c w s
  | .vscadd c w => Sys2Proof.Machine.execVscadd c w s
  | .xscadd c w => Sys2Proof.Machine.execXscadd c w s
  | .dma c w => Sys2Proof.Machine.execDma c w s
  | .signal c w => Sys2Proof.Machine.execSignal c w s
  | .wait c w => Sys2Proof.Machine.execWait c w s
  | .sreset c w => Sys2Proof.Machine.execSreset c w s
  | .spoll c w => Sys2Proof.Machine.execSpoll c w s
  | .frd c w => Sys2Proof.Machine.execFrd c w s
  | .fwr c w => Sys2Proof.Machine.execFwr c w s
  | .fatomAdd64 c w => Sys2Proof.Machine.execFatomAdd64 c w s
  | .fatomSwap64 c w => Sys2Proof.Machine.execFatomSwap64 c w s
  | .fatomCas64 c w => Sys2Proof.Machine.execFatomCas64 c w s
  | .fatomMin64 c w => Sys2Proof.Machine.execFatomMin64 c w s
  | .fatomMax64 c w => Sys2Proof.Machine.execFatomMax64 c w s
  | .fatomXadd c w => Sys2Proof.Machine.execFatomXadd c w s
  | .send c w => Sys2Proof.Machine.execSend c w s
  | .recv c w => Sys2Proof.Machine.execRecv c w s
  | .probe c w => Sys2Proof.Machine.execProbe c w s
  | .collAllreduce c w => Sys2Proof.Machine.execCollAllreduce c w s
  | .collReduce c w => Sys2Proof.Machine.execCollReduce c w s
  | .collReducescatter c w => Sys2Proof.Machine.execCollReducescatter c w s
  | .collBroadcast c w => Sys2Proof.Machine.execCollBroadcast c w s
  | .collAllgather c w => Sys2Proof.Machine.execCollAllgather c w s
  | .collBarrier c w => Sys2Proof.Machine.execCollBarrier c w s
  | .collAlltoall c w => Sys2Proof.Machine.execCollAlltoall c w s
  | .rand c w => Sys2Proof.Machine.execRand c w s
  | .vrand c w => Sys2Proof.Machine.execVrand c w s
  | .steprd c w => Sys2Proof.Machine.execSteprd c w s
  | .tbrd c w => Sys2Proof.Machine.execTbrd c w s
  | .flags c w => Sys2Proof.Machine.execFlags c w s
  | .tdw c w => Sys2Proof.Machine.execTdw c w s
  | .tdr c w => Sys2Proof.Machine.execTdr c w s
  | .bubble c => Sys2Proof.Machine.execBubble c s
  | .resultArrival c issue => Sys2Proof.Machine.execResultArrival c issue s
  | .gatedDelivery c => Sys2Proof.Machine.execGatedDelivery c s
  | .scratchpadGrant c b ecc => Sys2Proof.Machine.execScratchpadGrant c b ecc s
  | .externalWrite c b => Sys2Proof.Machine.execExternalWrite c b s
  | .postedPerformed c issue => Sys2Proof.Machine.execPostedPerformed c issue s
  | .mmaDispatch c e => Sys2Proof.Machine.execMmaDispatch c e s
  | .feederFetch c e => Sys2Proof.Machine.execFeederFetch c e s
  | .arrayStep c e => Sys2Proof.Machine.execArrayStep c e s
  | .spillRetire c e => Sys2Proof.Machine.execSpillRetire c e s
  | .wflushDispatch c e => Sys2Proof.Machine.execWflushDispatch c e s
  | .wflushComplete c e => Sys2Proof.Machine.execWflushComplete c e s
  | .rstoreDispatch c e => Sys2Proof.Machine.execRstoreDispatch c e s
  | .xstoreDispatch c e => Sys2Proof.Machine.execXstoreDispatch c e s
  | .resultWordWrite c b => Sys2Proof.Machine.execResultWordWrite c b s
  | .engineOpDispatch c e => Sys2Proof.Machine.execEngineOpDispatch c e s
  | .logicalCoreEnd c => Sys2Proof.Machine.execLogicalCoreEnd c s
  | .repeatComplete c => Sys2Proof.Machine.execRepeatComplete c s
  | .translateAccess id hit => Sys2Proof.Machine.execTranslateAccess id hit s
  | .faultRetry tag => Sys2Proof.Machine.execFaultRetry tag s
  | .faultRefuse tag => Sys2Proof.Machine.execFaultRefuse tag s
  | .faultTimeout tag => Sys2Proof.Machine.execFaultTimeout tag s
  | .mmuTwGo v => Sys2Proof.Machine.execMmuTwGo v s
  | .tableWriterDone readOk => Sys2Proof.Machine.execTableWriterDone readOk s
  | .dmaUnitWrite u hit hostErr => Sys2Proof.Machine.execDmaUnitWrite u hit hostErr s
  | .dmaTransferComplete idx => Sys2Proof.Machine.execDmaTransferComplete idx s
  | .dramSlot stack pc code ecc => Sys2Proof.Machine.execDramSlot stack pc code ecc s
  | .dramExactAddWrite stack pc => Sys2Proof.Machine.execDramExactAddWrite stack pc s
  | .rmwWrite stack pc => Sys2Proof.Machine.execRmwWrite stack pc s
  | .initFill k => Sys2Proof.Machine.execInitFill k s
  | .tntPreemptSave sg => Sys2Proof.Machine.execTntPreemptSave sg s
  | .preemptSaveComplete => Sys2Proof.Machine.execPreemptSaveComplete s
  | .tntPreemptRestore sg => Sys2Proof.Machine.execTntPreemptRestore sg s
  | .restoreComplete => Sys2Proof.Machine.execRestoreComplete s
  | .flr f => Sys2Proof.Machine.execFlr f s
  | .dbSqTail n v => Sys2Proof.Machine.execDbSqTail n v s
  | .dbCqHead n v => Sys2Proof.Machine.execDbCqHead n v s
  | .stmEnSet n => Sys2Proof.Machine.execStmEnSet n s
  | .stmEnClear n => Sys2Proof.Machine.execStmEnClear n s
  | .stmFlush n => Sys2Proof.Machine.execStmFlush n s
  | .stmResume n => Sys2Proof.Machine.execStmResume n s
  | .stmSeqWrite n seq => Sys2Proof.Machine.execStmSeqWrite n seq s
  | .tntFnStrmWrite f v => Sys2Proof.Machine.execTntFnStrmWrite f v s
  | .tntFnPortWrite f v => Sys2Proof.Machine.execTntFnPortWrite f v s
  | .descriptorFetch n hostErr badList => Sys2Proof.Machine.execDescriptorFetch n hostErr badList s
  | .phaseRecheck n => Sys2Proof.Machine.execPhaseRecheck n s
  | .acceptCommit n bad lat => Sys2Proof.Machine.execAcceptCommit n bad lat s
  | .nopItem n => Sys2Proof.Machine.execNopItem n s
  | .runItem n badList => Sys2Proof.Machine.execRunItem n badList s
  | .loadItem n badList => Sys2Proof.Machine.execLoadItem n badList s
  | .unloadItem n => Sys2Proof.Machine.execUnloadItem n s
  | .stepLimitReached n => Sys2Proof.Machine.execStepLimitReached n s
  | .itemCoresEnded n => Sys2Proof.Machine.execItemCoresEnded n s
  | .doneCommit n => Sys2Proof.Machine.execDoneCommit n s
  | .coalesceTimeout n => Sys2Proof.Machine.execCoalesceTimeout n s
  | .msixMergedSend f v => Sys2Proof.Machine.execMsixMergedSend f v s
  | .budgetWindow f => Sys2Proof.Machine.execBudgetWindow f s
  | .detCtlLockWrite v => Sys2Proof.Machine.execDetCtlLockWrite v s
  | .detLogCfgWrite sg v => Sys2Proof.Machine.execDetLogCfgWrite sg v s
  | .detLogHeadWrite sg v => Sys2Proof.Machine.execDetLogHeadWrite sg v s
  | .logTailAdvance sg hostErr => Sys2Proof.Machine.execLogTailAdvance sg hostErr s
  | .detRplGo v => Sys2Proof.Machine.execDetRplGo v s
  | .detRplAbort => Sys2Proof.Machine.execDetRplAbort s
  | .replayItem hostErr => Sys2Proof.Machine.execReplayItem hostErr s
  | .stopPointReached hit hostErr => Sys2Proof.Machine.execStopPointReached hit hostErr s
  | .detTbLoRead => Sys2Proof.Machine.execDetTbLoRead s
  | .mTimeExchange => Sys2Proof.Machine.execMTimeExchange s
  | .mTime w l sub exch t1 t2 t3 mpkg hops => Sys2Proof.Machine.execMTime w l sub exch t1 t2 t3 mpkg hops s
  | .tbSyncTimeout => Sys2Proof.Machine.execTbSyncTimeout s
  | .ppsEdge rising => Sys2Proof.Machine.execPpsEdge rising s
  | .fabLnkEnWrite w l v => Sys2Proof.Machine.execFabLnkEnWrite w l v s
  | .retrain w l => Sys2Proof.Machine.execRetrain w l s
  | .hwmclr w l => Sys2Proof.Machine.execHwmclr w l s
  | .signalDetect w l lanes => Sys2Proof.Machine.execSignalDetect w l lanes s
  | .trainingFrame w l ctl far => Sys2Proof.Machine.execTrainingFrame w l ctl far s
  | .linkTimeLimit w l => Sys2Proof.Machine.execLinkTimeLimit w l s
  | .linkRestartDelay w l => Sys2Proof.Machine.execLinkRestartDelay w l s
  | .blockReceive w l b => Sys2Proof.Machine.execBlockReceive w l b s
  | .replayTimeout panel a b => Sys2Proof.Machine.execReplayTimeout panel a b s
  | .configRecord w l r => Sys2Proof.Machine.execConfigRecord w l r s
  | .linkLoss w l why => Sys2Proof.Machine.execLinkLoss w l why s
  | .holdExpiry w l => Sys2Proof.Machine.execHoldExpiry w l s
  | .panelTransfer a b bad cvc => Sys2Proof.Machine.execPanelTransfer a b bad cvc s
  | .cellAgeDiscard node port pos => Sys2Proof.Machine.execCellAgeDiscard node port pos s
  | .messageReassembled d idx hit => Sys2Proof.Machine.execMessageReassembled d idx hit s
  | .responseMatch d idx => Sys2Proof.Machine.execResponseMatch d idx s
  | .wheelRoute w port pos => Sys2Proof.Machine.execWheelRoute w port pos s
  | .outputArbitrate node out => Sys2Proof.Machine.execOutputArbitrate node out s
  | .eceDecrease d pkg => Sys2Proof.Machine.execEceDecrease d pkg s
  | .rateIncrease d pkg => Sys2Proof.Machine.execRateIncrease d pkg s
  | .mRoute w seq term ws => Sys2Proof.Machine.execMRoute w seq term ws s
  | .mEpoch ep seq term n => Sys2Proof.Machine.execMEpoch ep seq term n s
  | .drained w => Sys2Proof.Machine.execDrained w s
  | .epochRetire told => Sys2Proof.Machine.execEpochRetire told s
  | .colStartMerge node gn => Sys2Proof.Machine.execColStartMerge node gn s
  | .colDataReduce node gn idx => Sys2Proof.Machine.execColDataReduce node gn idx s
  | .colGo node gn => Sys2Proof.Machine.execColGo node gn s
  | .colDone node gn => Sys2Proof.Machine.execColDone node gn s
  | .sigAdd d idx => Sys2Proof.Machine.execSigAdd d idx s
  | .sigReset d idx => Sys2Proof.Machine.execSigReset d idx s
  | .sigWait d idx => Sys2Proof.Machine.execSigWait d idx s
  | .sigPoll d idx => Sys2Proof.Machine.execSigPoll d idx s
  | .sigClose d => Sys2Proof.Machine.execSigClose d s
  | .orderedAtomicPerform d sg hit => Sys2Proof.Machine.execOrderedAtomicPerform d sg hit s
  | .enumFrameReceive f => Sys2Proof.Machine.execEnumFrameReceive f s
  | .enumFrameSend => Sys2Proof.Machine.execEnumFrameSend s
  | .klnEnumChainWrite c => Sys2Proof.Machine.execKlnEnumChainWrite c s
  | .headStrap => Sys2Proof.Machine.execHeadStrap s
  | .mHelloLink w l ws => Sys2Proof.Machine.execMHelloLink w l ws s
  | .helloTimer w l => Sys2Proof.Machine.execHelloTimer w l s
  | .light pkg ep first term act stby period epoch => Sys2Proof.Machine.execLight pkg ep first term act stby period epoch s
  | .lit pkg ep kind serial term fw => Sys2Proof.Machine.execLit pkg ep kind serial term fw s
  | .join pkg w l j => Sys2Proof.Machine.execJoin pkg w l j s
  | .lsr spkg origin part p => Sys2Proof.Machine.execLsr spkg origin part p s
  | .lsrRefresh => Sys2Proof.Machine.execLsrRefresh s
  | .quiet => Sys2Proof.Machine.execQuiet s
  | .election => Sys2Proof.Machine.execElection s
  | .termreq t requester => Sys2Proof.Machine.execTermreq t requester s
  | .grant spkg term => Sys2Proof.Machine.execGrant spkg term s
  | .deny spkg => Sys2Proof.Machine.execDeny spkg s
  | .witnessRetry => Sys2Proof.Machine.execWitnessRetry s
  | .beat recv spkg => Sys2Proof.Machine.execBeat recv spkg s
  | .beatTimeout => Sys2Proof.Machine.execBeatTimeout s
  | .mirror spkg num term m => Sys2Proof.Machine.execMirror spkg num term m s
  | .mack spkg num => Sys2Proof.Machine.execMack spkg num s
  | .sync copy => Sys2Proof.Machine.execSync copy s
  | .swapTimer => Sys2Proof.Machine.execSwapTimer s
  | .swapnow => Sys2Proof.Machine.execSwapnow s
  | .handover spkg => Sys2Proof.Machine.execHandover spkg s
  | .abort spkg => Sys2Proof.Machine.execAbort spkg s
  | .commandResend pkg ep seq => Sys2Proof.Machine.execCommandResend pkg ep seq s
  | .wickTimeout pkg ep => Sys2Proof.Machine.execWickTimeout pkg ep s
  | .packageLost pkg => Sys2Proof.Machine.execPackageLost pkg s
  | .recomp => Sys2Proof.Machine.execRecomp s
  | .recompute us pps => Sys2Proof.Machine.execRecompute us pps s
  | .rd32 ep seq term off => Sys2Proof.Machine.execRd32 ep seq term off s
  | .wr32 ep seq term off v => Sys2Proof.Machine.execWr32 ep seq term off v s
  | .term ep seq term act stby => Sys2Proof.Machine.execTerm ep seq term act stby s
  | .down ep seq term => Sys2Proof.Machine.execDown ep seq term s
  | .spmrd ep seq term cl => Sys2Proof.Machine.execSpmrd ep seq term cl s
  | .mlist seq term ws => Sys2Proof.Machine.execMlist seq term ws s
  | .grpw ep seq term ws => Sys2Proof.Machine.execGrpw ep seq term ws s
  | .sgreq seq term ws => Sys2Proof.Machine.execSgreq seq term ws s
  | .sgrel seq term ws => Sys2Proof.Machine.execSgrel seq term ws s
  | .tparent seq term wheel link master hops mpkg => Sys2Proof.Machine.execTparent seq term wheel link master hops mpkg s
  | .rsp pkg ep ws => Sys2Proof.Machine.execRsp pkg ep ws s
  | .report e => Sys2Proof.Machine.execReport e s
  | .rack ep num => Sys2Proof.Machine.execRack ep num s
  | .sliceCreate c hostErr => Sys2Proof.Machine.execSliceCreate c hostErr s
  | .sliceDestroy c => Sys2Proof.Machine.execSliceDestroy c s
  | .sliceRecarve c hostErr => Sys2Proof.Machine.execSliceRecarve c hostErr s
  | .groupCreate c hostErr => Sys2Proof.Machine.execGroupCreate c hostErr s
  | .groupDestroy c => Sys2Proof.Machine.execGroupDestroy c s
  | .mSnuff spkg slice origin number reason => Sys2Proof.Machine.execMSnuff spkg slice origin number reason s
  | .snuffOrigin => Sys2Proof.Machine.execSnuffOrigin s
  | .rstSnuffGo slice => Sys2Proof.Machine.execRstSnuffGo slice s
  | .settleEnd job => Sys2Proof.Machine.execSettleEnd job s
  | .pilotSend ep => Sys2Proof.Machine.execPilotSend ep s
  | .mPilot ep lit sick mask => Sys2Proof.Machine.execMPilot ep lit sick mask s
  | .pilotPeriodMiss ep => Sys2Proof.Machine.execPilotPeriodMiss ep s
  | .rungContextAbort ep => Sys2Proof.Machine.execRungContextAbort ep s
  | .engineReset ep => Sys2Proof.Machine.execEngineReset ep s
  | .saggarFlush ep => Sys2Proof.Machine.execSaggarFlush ep s
  | .rungDieReset ep => Sys2Proof.Machine.execRungDieReset ep s
  | .powerCycle => Sys2Proof.Machine.execPowerCycle s
  | .dieReset d => Sys2Proof.Machine.execDieReset d s
  | .emberDone d => Sys2Proof.Machine.execEmberDone d s
  | .emberAbandon d => Sys2Proof.Machine.execEmberAbandon d s
  | .resetHoldRelease d => Sys2Proof.Machine.execResetHoldRelease d s
  | .dieSelfTest d bad dieBad => Sys2Proof.Machine.execDieSelfTest d bad dieBad s
  | .dieResetTimeout d => Sys2Proof.Machine.execDieResetTimeout d s
  | .rstDieReset d => Sys2Proof.Machine.execRstDieReset d s
  | .rstDieFence d => Sys2Proof.Machine.execRstDieFence d s
  | .coreFence c => Sys2Proof.Machine.execCoreFence c s
  | .dieFence d => Sys2Proof.Machine.execDieFence d s
  | .wheelFence w => Sys2Proof.Machine.execWheelFence w s
  | .quantumSwitch c => Sys2Proof.Machine.execQuantumSwitch c s
  | .yieldSwitch c => Sys2Proof.Machine.execYieldSwitch c s
  | .rstRetValClr => Sys2Proof.Machine.execRstRetValClr s
  | .rstEmbCtlGo => Sys2Proof.Machine.execRstEmbCtlGo s
  | .kilnLockstepFault => Sys2Proof.Machine.execKilnLockstepFault s
  | .kilnRestart => Sys2Proof.Machine.execKilnRestart s
  | .spareMove blk count => Sys2Proof.Machine.execSpareMove blk count s
  | .pwrfailAssert => Sys2Proof.Machine.execPwrfailAssert s
  | .pwrfailRelease => Sys2Proof.Machine.execPwrfailRelease s
  | .pfrelCycle => Sys2Proof.Machine.execPfrelCycle s
  | .inputUndervolt => Sys2Proof.Machine.execInputUndervolt s
  | .inputOvervolt on => Sys2Proof.Machine.execInputOvervolt on s
  | .railOutOfLimits rail on => Sys2Proof.Machine.execRailOutOfLimits rail on s
  | .journalRecovery bad => Sys2Proof.Machine.execJournalRecovery bad s
  | .recCell spkg r => Sys2Proof.Machine.execRec spkg r s
  | .jrnlAck spkg n seq kind status => Sys2Proof.Machine.execJrnlAck spkg n seq kind status s
  | .jrnlDone spkg n c => Sys2Proof.Machine.execJrnlDone spkg n c s
  | .jrnlState spkg n seq mode state => Sys2Proof.Machine.execJrnlState spkg n seq mode state s
  | .jrnlBeat => Sys2Proof.Machine.execJrnlBeat s
  | .query spkg n seq => Sys2Proof.Machine.execQuery spkg n seq s
  | .syncreq spkg => Sys2Proof.Machine.execSyncreq spkg s
  | .syncend spkg count => Sys2Proof.Machine.execSyncend spkg count s
  | .jrnlResend idx => Sys2Proof.Machine.execJrnlResend idx s
  | .twinlost => Sys2Proof.Machine.execTwinlost s
  | .solo => Sys2Proof.Machine.execSolo s
  | .rejoin => Sys2Proof.Machine.execRejoin s
  | .sgCreate c => Sys2Proof.Machine.execSgCreate c s
  | .sgDestroy c => Sys2Proof.Machine.execSgDestroy c s
  | .rekey c => Sys2Proof.Machine.execRekey c s
  | .zeroise c => Sys2Proof.Machine.execZeroise c s
  | .pkeyUpdate c hostErr => Sys2Proof.Machine.execPkeyUpdate c hostErr s
  | .fwUpdate c hostErr => Sys2Proof.Machine.execFwUpdate c hostErr s
  | .svnCommit c => Sys2Proof.Machine.execSvnCommit c s
  | .keyDrainErase sg => Sys2Proof.Machine.execKeyDrainErase sg s
  | .tntSgBindWrite n v => Sys2Proof.Machine.execTntSgBindWrite n v s
  | .getVersion f => Sys2Proof.Machine.execGetVersion f s
  | .getCapabilities f => Sys2Proof.Machine.execGetCapabilities f s
  | .negotiateAlgorithms f => Sys2Proof.Machine.execNegotiateAlgorithms f s
  | .getDigests f => Sys2Proof.Machine.execGetDigests f s
  | .getCertificate f slot off len => Sys2Proof.Machine.execGetCertificate f slot off len s
  | .challenge f slot nonce => Sys2Proof.Machine.execChallenge f slot nonce s
  | .getMeasurements f op => Sys2Proof.Machine.execGetMeasurements f op s
  | .keyExchange f req => Sys2Proof.Machine.execKeyExchange f req s
  | .finish f id macOk => Sys2Proof.Machine.execFinish f id macOk s
  | .heartbeat f id => Sys2Proof.Machine.execHeartbeat f id s
  | .keyUpdate f id op => Sys2Proof.Machine.execKeyUpdate f id op s
  | .endSession f id => Sys2Proof.Machine.execEndSession f id s
  | .ideKm f id port strm set1 => Sys2Proof.Machine.execIdeKm f id port strm set1 s
  | .recoveryBundle b => Sys2Proof.Machine.execRecoveryBundle b s
  | .mbxBind c v => Sys2Proof.Machine.execMbxBind c v s
  | .mbxLock hi v => Sys2Proof.Machine.execMbxLock hi v s
  | .mbxPayWrite c k mid v => Sys2Proof.Machine.execMbxPayWrite c k mid v s
  | .mbxDbSet c mid v => Sys2Proof.Machine.execMbxDbSet c mid v s
  | .mbxDbPend c mid v => Sys2Proof.Machine.execMbxDbPend c mid v s
  | .mbxDbMask c mid v => Sys2Proof.Machine.execMbxDbMask c mid v s
  | .mbxAckCode c mid code => Sys2Proof.Machine.execMbxAckCode c mid code s
  | .mbxAckValidClear c mid => Sys2Proof.Machine.execMbxAckValidClear c mid s
  | .partyLost mid => Sys2Proof.Machine.execPartyLost mid s
  | .sherdExport c hostErr => Sys2Proof.Machine.execSherdExport c hostErr s
  | .errorLineFrame die frame => Sys2Proof.Machine.execErrorLineFrame die frame s
  | .lineFault die stuck present => Sys2Proof.Machine.execLineFault die stuck present s
  | .faultEvent ctl detail => Sys2Proof.Machine.execFaultEvent ctl detail s
  | .sramWriteback c b => Sys2Proof.Machine.execSramWriteback c b s
  | .detailTimeout => Sys2Proof.Machine.execDetailTimeout s
  | .fltSrcStatClear w v => Sys2Proof.Machine.execFltSrcStatClear w v s
  | .capvClear => Sys2Proof.Machine.execCapvClear s
  | .fltInjGo v => Sys2Proof.Machine.execFltInjGo v s
  | .haltChannelChange b on => Sys2Proof.Machine.execHaltChannelChange b on s
  | .haltDisc => Sys2Proof.Machine.execHaltDisc s
  | .haltAssert => Sys2Proof.Machine.execHaltAssert s
  | .haltRelease => Sys2Proof.Machine.execHaltRelease s
  | .haltResume => Sys2Proof.Machine.execHaltResume s
  | .mgpFrameReceive b fcsOk => Sys2Proof.Machine.execMgpFrameReceive b fcsOk s
  | .kmpAck => Sys2Proof.Machine.execKmpAck s
  | .kmpResend seq => Sys2Proof.Machine.execKmpResend seq s
  | .telem => Sys2Proof.Machine.execTelem s
  | .patchunk => Sys2Proof.Machine.execPatchunk s
  | .patternStageTimeout => Sys2Proof.Machine.execPatternStageTimeout s
  | .kmpTermreq => Sys2Proof.Machine.execKmpTermreq s
  | .kmpGrant => Sys2Proof.Machine.execKmpGrant s
  | .kmpDeny => Sys2Proof.Machine.execKmpDeny s
  | .transientWindow => Sys2Proof.Machine.execTransientWindow s
  | .fieldTestStart d => Sys2Proof.Machine.execFieldTestStart d s
  | .fieldTestEnd d => Sys2Proof.Machine.execFieldTestEnd d s
  | .fieldTestAbort d cl pos => Sys2Proof.Machine.execFieldTestAbort d cl pos s
  | .ftnow => Sys2Proof.Machine.execFtnow s
  | .tstInjGo v => Sys2Proof.Machine.execTstInjGo v s
  | .capLoop pin vin => Sys2Proof.Machine.execCapLoop pin vin s
  | .thermalThrottle d tj => Sys2Proof.Machine.execThermalThrottle d tj s
  | .therm d => Sys2Proof.Machine.execTherm d s
  | .pwrRailVsetWrite d v => Sys2Proof.Machine.execPwrRailVsetWrite d v s
  | .powerStateSelect => Sys2Proof.Machine.execPowerStateSelect s
  | .wakeEvent w => Sys2Proof.Machine.execWakeEvent w s
  | .pwrLtrWrite f v => Sys2Proof.Machine.execPwrLtrWrite f v s
  | .pwrPeerTolWrite v => Sys2Proof.Machine.execPwrPeerTolWrite v s
  | .pwrCtlWake => Sys2Proof.Machine.execPwrCtlWake s
  | .pwrCtlHold on => Sys2Proof.Machine.execPwrCtlHold on s
  | .perstAssert hp1 => Sys2Proof.Machine.execPerstAssert hp1 s
  | .perstDeassert hp1 => Sys2Proof.Machine.execPerstDeassert hp1 s
  | .mrstN low => Sys2Proof.Machine.execMrstN low s
  | .refclkLoss on => Sys2Proof.Machine.execRefclkLoss on s
  | .entdaa a => Sys2Proof.Machine.execEntdaa a s
  | .setnewda a => Sys2Proof.Machine.execSetnewda a s
  | .rstdaa => Sys2Proof.Machine.execRstdaa s
  | .getpid => Sys2Proof.Machine.execGetpid s
  | .getbcr => Sys2Proof.Machine.execGetbcr s
  | .getdcr => Sys2Proof.Machine.execGetdcr s
  | .getstatus => Sys2Proof.Machine.execGetstatus s
  | .i3cRegisterRead off pecOk => Sys2Proof.Machine.execI3cRegisterRead off pecOk s
  | .i3cRegisterWrite off v pecOk => Sys2Proof.Machine.execI3cRegisterWrite off v pecOk s
  | .mctpPacket b pecOk => Sys2Proof.Machine.execMctpPacket b pecOk s
  | .sgmiiAutoneg speed full => Sys2Proof.Machine.execSgmiiAutoneg speed full s
  | .startUp n bad badPos => Sys2Proof.Machine.execStartUp n bad badPos s
  | .registerWrite t v => Sys2Proof.Machine.execRegisterWrite t v s
  | .clusterMemoryServe d cl b ecc => Sys2Proof.Machine.execClusterMemoryServe d cl b ecc s
  | .hostPortLinkDown hp1 => Sys2Proof.Machine.execHostPortLinkDown hp1 s
  | .hostPortLinkUp hp1 => Sys2Proof.Machine.execHostPortLinkUp hp1 s
  | .ppsLost => Sys2Proof.Machine.execPpsLost s
  | .swapDeferRetry => Sys2Proof.Machine.execSwapDeferRetry s
  | .handoverTimeout => Sys2Proof.Machine.execHandoverTimeout s
  | .jrnlBeatReceive spkg pst runner solo named => Sys2Proof.Machine.execJrnlBeatReceive spkg pst runner solo named s
  | .emberCopyDone hostErr => Sys2Proof.Machine.execEmberCopyDone hostErr s
  | .mrstNReset => Sys2Proof.Machine.execMrstNReset s

end Sys2Proof.Machine
end

