-- ==== Sys2Proof/WellFormed.lean ====
section
/-! DEFINITION. WellFormed.lean: which commands name units that exist and values that fit the fields that carry them: cores and contexts
(R14, R27, R250), dies, stacks and pseudo-channels (R16, R182), streams, functions and saggars (R215, R220, R214), wheels and links (R277),
packages, endpoints, terms and sequence numbers (R288, R371), channels (R536), slices and groups (R345, R386), journal blocks (R477). A
command that is not well formed is one that no part of the module or its surroundings can send. -/

namespace Sys2Proof

open Sys2Proof.Machine

/-- A core, or a context that shares one (R27, R250, R475); a core position of the module. -/
def isCore (c : Nat) : Bool := decide (c < 131072)
def isPos (c : Nat) : Bool := decide (c < 4096)
def isEngine (e : Nat) : Bool := decide (e < 4)
def isBank (b : Nat) : Bool := decide (b < 16)
/-- Compute dies, dies with an error line, dies of RST_DIE, nodes of the panel; clusters, stacks, pseudo-channels, DMA engines. -/
def isDie (d : Nat) : Bool := decide (d < 16)
def isLineDie (d : Nat) : Bool := decide (d < 20)
def isAnyDie (d : Nat) : Bool := decide (d < 21)
def isNode (n : Nat) : Bool := decide (n < 21)
def isCluster (c : Nat) : Bool := decide (c < 16)
def isStack (k : Nat) : Bool := decide (k < 32)
def isPc (p : Nat) : Bool := decide (p < 32)
def isDma (i : Nat) : Bool := decide (i < 128)
/-- Positions of a cluster (R27). -/
def isPosition (p : Nat) : Bool := decide (p < 17)
/-- Fault records (R195), saggars, functions, requesters of SPDM (256 is the I3C port), streams, MSI-X vectors, host ports. -/
def isFault (t : Nat) : Bool := decide (t < 1024)
def isSaggar (n : Nat) : Bool := decide (n < 128)
def isFn (f : Nat) : Bool := decide (f < 256)
def isRequester (f : Nat) : Bool := decide (f < 257)
def isStream (n : Nat) : Bool := decide (n < 65536)
def isVector (v : Nat) : Bool := decide (v < 2048)
def isHostPort (p : Nat) : Bool := decide (p < 2)
/-- Wheels, links, ports of a wheel, packages, endpoints, groups, slices; jobs: a slice, or 1,024 + a saggar without one. -/
def isWheel (w : Nat) : Bool := decide (w < 4)
def isLink (l : Nat) : Bool := decide (l < 12)
def isPort (p : Nat) : Bool := decide (p < 34)
def isPkg (p : Nat) : Bool := decide (p < 4096)
def isEp (e : Nat) : Bool := decide (e < 32)
def isGroup (g : Nat) : Bool := decide (g < 4096)
def isSlice (s : Nat) : Bool := decide (s < 1024)
def isJob (j : Nat) : Bool := decide (j < 1152)
/-- Mailbox channels, logical blocks of the journal, steps of start-up. -/
def isChan (c : Nat) : Bool := decide (c < 64)
def isBlock (b : Nat) : Bool := decide (b < 30720)
def isStep (n : Nat) : Bool := decide (n < 21)
/-- Words of FLT_SRC_STAT; modes of a stream. -/
def isStatWord (w : Nat) : Bool := decide (w < 24)
def isMode (m : Nat) : Bool := decide (m < 3)
/-- Offsets of BAR0, of BAR4 and of host memory; functions. -/
def isTarget : WriteTo → Bool
  | .bar0 off => decide (off < 2 ^ 32)
  | .vf f off => isFn f && decide (off < 2 ^ 22)
  | .bar4 f off => isFn f && decide (off < 2 ^ 16)
  | .msixCap f => isFn f
  | .fnEnable f => isFn f
  | .host a => decide (a < 2 ^ 63)
/-- A value of a field of `k` bits. -/
def fits (k x : Nat) : Bool := decide (x < 2 ^ k)

/-- A command whose operands lie within the ranges of the units and fields that they name. -/
def WellFormed : Instr → Bool
  | .nop c _ => isCore c
  | .add c _ => isCore c
  | .sub c _ => isCore c
  | .and c _ => isCore c
  | .or c _ => isCore c
  | .xor c _ => isCore c
  | .shl c _ => isCore c
  | .shr c _ => isCore c
  | .sra c _ => isCore c
  | .slt c _ => isCore c
  | .sltu c _ => isCore c
  | .seq c _ => isCore c
  | .min c _ => isCore c
  | .max c _ => isCore c
  | .movi c _ => isCore c
  | .movh c _ => isCore c
  | .mul c _ => isCore c
  | .mulh c _ => isCore c
  | .mulhu c _ => isCore c
  | .div c _ => isCore c
  | .divu c _ => isCore c
  | .rem c _ => isCore c
  | .remu c _ => isCore c
  | .popc c _ => isCore c
  | .ctz c _ => isCore c
  | .beq c _ => isCore c
  | .bne c _ => isCore c
  | .blt c _ => isCore c
  | .bge c _ => isCore c
  | .bltu c _ => isCore c
  | .bgeu c _ => isCore c
  | .jal c _ => isCore c
  | .jr c _ => isCore c
  | .halt c _ => isCore c
  | .brk c _ => isCore c
  | .stepw c _ => isCore c
  | .tctlResume c _ => isCore c
  | .tctlStop c _ => isCore c
  | .tctlRead c _ => isCore c
  | .tctlReadXpc c _ => isCore c
  | .tctlReadXinfo c _ => isCore c
  | .ld c _ => isCore c
  | .st c _ => isCore c
  | .vld c _ => isCore c
  | .vst c _ => isCore c
  | .vstm c _ => isCore c
  | .lnld c _ => isCore c
  | .lnst c _ => isCore c
  | .fence c _ => isCore c
  | .mma c _ => isCore c
  | .wflush c _ => isCore c
  | .rstore c _ => isCore c
  | .xstore c _ => isCore c
  | .spget c _ => isCore c
  | .spadd c _ => isCore c
  | .mclr c _ => isCore c
  | .lnadd c _ => isCore c
  | .lnmov c _ => isCore c
  | .lnclr c _ => isCore c
  | .lnneg c _ => isCore c
  | .lnlane c _ => isCore c
  | .lnrnd c _ => isCore c
  | .vadd c _ => isCore c
  | .vsub c _ => isCore c
  | .vmul c _ => isCore c
  | .vfma c _ => isCore c
  | .vmin c _ => isCore c
  | .vmax c _ => isCore c
  | .vcvt c _ => isCore c
  | .viadd c _ => isCore c
  | .vimul c _ => isCore c
  | .vbcast c _ => isCore c
  | .vlane c _ => isCore c
  | .vidx c _ => isCore c
  | .vfn c _ => isCore c
  | .vcmp c _ => isCore c
  | .vsel c _ => isCore c
  | .vgath c _ => isCore c
  | .vscat c _ => isCore c
  | .vscadd c _ => isCore c
  | .xscadd c _ => isCore c
  | .dma c _ => isCore c
  | .signal c _ => isCore c
  | .wait c _ => isCore c
  | .sreset c _ => isCore c
  | .spoll c _ => isCore c
  | .frd c _ => isCore c
  | .fwr c _ => isCore c
  | .fatomAdd64 c _ => isCore c
  | .fatomSwap64 c _ => isCore c
  | .fatomCas64 c _ => isCore c
  | .fatomMin64 c _ => isCore c
  | .fatomMax64 c _ => isCore c
  | .fatomXadd c _ => isCore c
  | .send c _ => isCore c
  | .recv c _ => isCore c
  | .probe c _ => isCore c
  | .collAllreduce c _ => isCore c
  | .collReduce c _ => isCore c
  | .collReducescatter c _ => isCore c
  | .collBroadcast c _ => isCore c
  | .collAllgather c _ => isCore c
  | .collBarrier c _ => isCore c
  | .collAlltoall c _ => isCore c
  | .rand c _ => isCore c
  | .vrand c _ => isCore c
  | .steprd c _ => isCore c
  | .tbrd c _ => isCore c
  | .flags c _ => isCore c
  | .tdw c _ => isCore c
  | .tdr c _ => isCore c
  | .bubble c => isCore c
  | .resultArrival c _ => isCore c
  | .gatedDelivery c => isCore c
  | .scratchpadGrant c b _ => isCore c && isBank b
  | .externalWrite c b => isCore c && isBank b
  | .postedPerformed c _ => isCore c
  | .mmaDispatch c e => isCore c && isEngine e
  | .feederFetch c e => isCore c && isEngine e
  | .arrayStep c e => isCore c && isEngine e
  | .spillRetire c e => isCore c && isEngine e
  | .wflushDispatch c e => isCore c && isEngine e
  | .wflushComplete c e => isCore c && isEngine e
  | .rstoreDispatch c e => isCore c && isEngine e
  | .xstoreDispatch c e => isCore c && isEngine e
  | .resultWordWrite c b => isCore c && isBank b
  | .engineOpDispatch c e => isCore c && isEngine e
  | .logicalCoreEnd c => isCore c
  | .repeatComplete c => isCore c
  | .translateAccess _ _ => true
  | .faultRetry tag => isFault tag
  | .faultRefuse tag => isFault tag
  | .faultTimeout tag => isFault tag
  | .mmuTwGo _ => true
  | .tableWriterDone _ => true
  | .dmaUnitWrite i _ _ => isDma i
  | .dmaTransferComplete i => isDma i
  | .dramSlot stack pc _ _ => isStack stack && isPc pc
  | .dramExactAddWrite stack pc => isStack stack && isPc pc
  | .rmwWrite stack pc => isStack stack && isPc pc
  | .initFill k => isStack k
  | .tntPreemptSave sg => isSaggar sg
  | .preemptSaveComplete => true
  | .tntPreemptRestore sg => isSaggar sg
  | .restoreComplete => true
  | .flr f => isFn f
  | .dbSqTail n _ => isStream n
  | .dbCqHead n _ => isStream n
  | .stmEnSet n => isStream n
  | .stmEnClear n => isStream n
  | .stmFlush n => isStream n
  | .stmResume n => isStream n
  | .stmSeqWrite n _ => isStream n
  | .tntFnStrmWrite f _ => isFn f
  | .tntFnPortWrite f _ => isFn f
  | .descriptorFetch n _ _ => isStream n
  | .phaseRecheck n => isStream n
  | .acceptCommit n _ lat => isStream n && fits 16 lat
  | .nopItem n => isStream n
  | .runItem n _ => isStream n
  | .loadItem n _ => isStream n
  | .unloadItem n => isStream n
  | .stepLimitReached n => isStream n
  | .itemCoresEnded n => isStream n
  | .doneCommit n => isStream n
  | .coalesceTimeout n => isStream n
  | .msixMergedSend f v => isFn f && isVector v
  | .budgetWindow f => isFn f
  | .detCtlLockWrite _ => true
  | .detLogCfgWrite sg _ => isSaggar sg
  | .detLogHeadWrite sg _ => isSaggar sg
  | .logTailAdvance sg _ => isSaggar sg
  | .detRplGo _ => true
  | .detRplAbort => true
  | .replayItem _ => true
  | .stopPointReached _ _ => true
  | .detTbLoRead => true
  | .mTimeExchange => true
  | .mTime w l sub exch _ _ _ mpkg hops => isWheel w && isLink l && fits 8 sub && fits 32 exch && isPkg mpkg && fits 8 hops
  | .tbSyncTimeout => true
  | .ppsEdge _ => true
  | .fabLnkEnWrite w l _ => isWheel w && isLink l
  | .retrain w l => isWheel w && isLink l
  | .hwmclr w l => isWheel w && isLink l
  | .signalDetect w l lanes => isWheel w && isLink l && fits 4 lanes
  | .trainingFrame w l _ _ => isWheel w && isLink l
  | .linkTimeLimit w l => isWheel w && isLink l
  | .linkRestartDelay w l => isWheel w && isLink l
  | .blockReceive w l _ => isWheel w && isLink l
  | .replayTimeout _ a b => isNode a && isNode b
  | .configRecord w l _ => isWheel w && isLink l
  | .linkLoss w l _ => isWheel w && isLink l
  | .holdExpiry w l => isWheel w && isLink l
  | .panelTransfer a b _ cvc => isNode a && isNode b && fits 4 cvc
  | .cellAgeDiscard node port pos => isNode node && isPort port && fits 16 pos
  | .messageReassembled d _ _ => isDie d
  | .responseMatch d _ => isDie d
  | .wheelRoute w port pos => isWheel w && isPort port && fits 16 pos
  | .outputArbitrate node out => isNode node && isPort out
  | .eceDecrease d pkg => isDie d && isPkg pkg
  | .rateIncrease d pkg => isDie d && isPkg pkg
  | .mRoute w seq term _ => isWheel w && fits 32 seq && fits 24 term
  | .mEpoch ep seq term n => isEp ep && fits 32 seq && fits 24 term && fits 32 n
  | .drained w => isWheel w
  | .epochRetire _ => true
  | .colStartMerge node gn => isNode node && isGroup gn
  | .colDataReduce node gn _ => isNode node && isGroup gn
  | .colGo node gn => isNode node && isGroup gn
  | .colDone node gn => isNode node && isGroup gn
  | .sigAdd d _ => isDie d
  | .sigReset d _ => isDie d
  | .sigWait d _ => isDie d
  | .sigPoll d _ => isDie d
  | .sigClose d => isDie d
  | .orderedAtomicPerform d sg _ => isDie d && isSaggar sg
  | .enumFrameReceive f => fits 24 f
  | .enumFrameSend => true
  | .klnEnumChainWrite _ => true
  | .headStrap => true
  | .mHelloLink w l _ => isWheel w && isLink l
  | .helloTimer w l => isWheel w && isLink l
  | .light pkg ep first term act _ period epoch => isPkg pkg && isEp ep && fits 32 first && fits 24 term && isPkg act && fits 16 period && fits 32 epoch
  | .lit pkg ep kind serial term fw => isPkg pkg && isEp ep && fits 2 kind && fits 64 serial && fits 24 term && fits 32 fw
  | .join pkg w l _ => isPkg pkg && isWheel w && isLink l
  | .lsr spkg origin part _ => isPkg spkg && isPkg origin && fits 1 part
  | .lsrRefresh => true
  | .quiet => true
  | .election => true
  | .termreq t requester => fits 24 t && isPkg requester
  | .grant spkg term => isPkg spkg && fits 24 term
  | .deny spkg => isPkg spkg
  | .witnessRetry => true
  | .beat _ spkg => isPkg spkg
  | .beatTimeout => true
  | .mirror spkg num term _ => isPkg spkg && fits 32 num && fits 24 term
  | .mack spkg num => isPkg spkg && fits 32 num
  | .sync _ => true
  | .swapTimer => true
  | .swapnow => true
  | .handover spkg => isPkg spkg
  | .abort spkg => isPkg spkg
  | .commandResend pkg ep seq => isPkg pkg && isEp ep && fits 32 seq
  | .wickTimeout pkg ep => isPkg pkg && isEp ep
  | .packageLost pkg => isPkg pkg
  | .recomp => true
  | .recompute us _ => fits 16 us
  | .rd32 ep seq term off => isEp ep && fits 32 seq && fits 24 term && fits 32 off
  | .wr32 ep seq term off _ => isEp ep && fits 32 seq && fits 24 term && fits 32 off
  | .term ep seq term act _ => isEp ep && fits 32 seq && fits 24 term && isPkg act
  | .down ep seq term => isEp ep && fits 32 seq && fits 24 term
  | .spmrd ep seq term cl => isEp ep && fits 32 seq && fits 24 term && isCluster cl
  | .mlist seq term _ => fits 32 seq && fits 24 term
  | .grpw ep seq term _ => isEp ep && fits 32 seq && fits 24 term
  | .sgreq seq term _ => fits 32 seq && fits 24 term
  | .sgrel seq term _ => fits 32 seq && fits 24 term
  | .tparent seq term wheel link _ hops mpkg => fits 32 seq && fits 24 term && isWheel wheel && isLink link && fits 8 hops && isPkg mpkg
  | .rsp pkg ep _ => isPkg pkg && isEp ep
  | .report _ => true
  | .rack ep num => isEp ep && fits 32 num
  | .sliceCreate c _ => isChan c
  | .sliceDestroy c => isChan c
  | .sliceRecarve c _ => isChan c
  | .groupCreate c _ => isChan c
  | .groupDestroy c => isChan c
  | .mSnuff spkg slice origin number reason => isPkg spkg && isSlice slice && isPkg origin && fits 32 number && fits 8 reason
  | .snuffOrigin => true
  | .rstSnuffGo slice => isSlice slice
  | .settleEnd job => isJob job
  | .pilotSend ep => isEp ep
  | .mPilot ep _ _ _ => isEp ep
  | .pilotPeriodMiss ep => isEp ep
  | .rungContextAbort ep => isEp ep
  | .engineReset ep => isEp ep
  | .saggarFlush ep => isEp ep
  | .rungDieReset ep => isEp ep
  | .powerCycle => true
  | .dieReset d => isDie d
  | .emberDone d => isDie d
  | .emberAbandon d => isDie d
  | .resetHoldRelease d => isDie d
  | .dieSelfTest d _ _ => isDie d
  | .dieResetTimeout d => isDie d
  | .rstDieReset d => isAnyDie d
  | .rstDieFence d => isAnyDie d
  | .coreFence c => isCore c
  | .dieFence d => isDie d
  | .wheelFence w => isWheel w
  | .quantumSwitch c => isCore c
  | .yieldSwitch c => isCore c
  | .rstRetValClr => true
  | .rstEmbCtlGo => true
  | .kilnLockstepFault => true
  | .kilnRestart => true
  | .spareMove blk count => isBlock blk && fits 32 count
  | .pwrfailAssert => true
  | .pwrfailRelease => true
  | .pfrelCycle => true
  | .inputUndervolt => true
  | .inputOvervolt _ => true
  | .railOutOfLimits rail _ => fits 4 rail
  | .journalRecovery _ => true
  | .recCell spkg _ => isPkg spkg
  | .jrnlAck spkg n seq kind status => isPkg spkg && isStream n && fits 48 seq && fits 8 kind && fits 8 status
  | .jrnlDone spkg n _ => isPkg spkg && isStream n
  | .jrnlState spkg n seq mode state => isPkg spkg && isStream n && fits 48 seq && isMode mode && fits 3 state
  | .jrnlBeat => true
  | .query spkg n seq => isPkg spkg && isStream n && fits 48 seq
  | .syncreq spkg => isPkg spkg
  | .syncend spkg count => isPkg spkg && fits 32 count
  | .jrnlResend i => fits 12 i
  | .twinlost => true
  | .solo => true
  | .rejoin => true
  | .sgCreate c => isChan c
  | .sgDestroy c => isChan c
  | .rekey c => isChan c
  | .zeroise c => isChan c
  | .pkeyUpdate c _ => isChan c
  | .fwUpdate c _ => isChan c
  | .svnCommit c => isChan c
  | .keyDrainErase sg => isSaggar sg
  | .tntSgBindWrite n _ => isSaggar n
  | .getVersion f => isRequester f
  | .getCapabilities f => isRequester f
  | .negotiateAlgorithms f => isRequester f
  | .getDigests f => isRequester f
  | .getCertificate f slot off len => isRequester f && fits 3 slot && fits 16 off && fits 16 len
  | .challenge f slot _ => isRequester f && fits 3 slot
  | .getMeasurements f op => isRequester f && fits 8 op
  | .keyExchange f _ => isRequester f
  | .finish f id _ => isRequester f && fits 32 id
  | .heartbeat f id => isRequester f && fits 32 id
  | .keyUpdate f id op => isRequester f && fits 32 id && fits 8 op
  | .endSession f id => isRequester f && fits 32 id
  | .ideKm f id port strm _ => isRequester f && fits 32 id && isHostPort port && fits 4 strm
  | .recoveryBundle _ => true
  | .mbxBind c _ => isChan c
  | .mbxLock _ _ => true
  | .mbxPayWrite c k mid _ => isChan c && fits 6 k && fits 16 mid
  | .mbxDbSet c mid _ => isChan c && fits 16 mid
  | .mbxDbPend c mid _ => isChan c && fits 16 mid
  | .mbxDbMask c mid _ => isChan c && fits 16 mid
  | .mbxAckCode c mid code => isChan c && fits 16 mid && fits 16 code
  | .mbxAckValidClear c mid => isChan c && fits 16 mid
  | .partyLost mid => fits 16 mid
  | .sherdExport c _ => isChan c
  | .errorLineFrame die _ => isLineDie die
  | .lineFault die _ _ => isLineDie die
  | .faultEvent _ _ => true
  | .sramWriteback c b => isPos c && isBank b
  | .detailTimeout => true
  | .fltSrcStatClear w _ => isStatWord w
  | .capvClear => true
  | .fltInjGo _ => true
  | .haltChannelChange _ _ => true
  | .haltDisc => true
  | .haltAssert => true
  | .haltRelease => true
  | .haltResume => true
  | .mgpFrameReceive _ _ => true
  | .kmpAck => true
  | .kmpResend seq => fits 32 seq
  | .telem => true
  | .patchunk => true
  | .patternStageTimeout => true
  | .kmpTermreq => true
  | .kmpGrant => true
  | .kmpDeny => true
  | .transientWindow => true
  | .fieldTestStart d => isDie d
  | .fieldTestEnd d => isDie d
  | .fieldTestAbort d cl pos => isDie d && isCluster cl && isPosition pos
  | .ftnow => true
  | .tstInjGo _ => true
  | .capLoop pin vin => fits 16 pin && fits 16 vin
  | .thermalThrottle d tj => isDie d && fits 8 tj
  | .therm d => isDie d
  | .pwrRailVsetWrite d v => isDie d && fits 7 v
  | .powerStateSelect => true
  | .wakeEvent _ => true
  | .pwrLtrWrite f v => isFn f && fits 24 v
  | .pwrPeerTolWrite v => fits 24 v
  | .pwrCtlWake => true
  | .pwrCtlHold _ => true
  | .perstAssert _ => true
  | .perstDeassert _ => true
  | .mrstN _ => true
  | .refclkLoss _ => true
  | .entdaa _ => true
  | .setnewda _ => true
  | .rstdaa => true
  | .getpid => true
  | .getbcr => true
  | .getdcr => true
  | .getstatus => true
  | .i3cRegisterRead off _ => fits 32 off
  | .i3cRegisterWrite off _ _ => fits 32 off
  | .mctpPacket _ _ => true
  | .sgmiiAutoneg _ _ => true
  | .startUp n _ _ => isStep n
  | .registerWrite t _ => isTarget t
  | .clusterMemoryServe d cl b _ => isDie d && isCluster cl && isBank b
  | .hostPortLinkDown _ => true
  | .hostPortLinkUp _ => true
  | .ppsLost => true
  | .swapDeferRetry => true
  | .handoverTimeout => true
  | .jrnlBeatReceive spkg pst _ _ named => isPkg spkg && fits 3 pst && fits 13 named
  | .emberCopyDone _ => true
  | .mrstNReset => true

end Sys2Proof
end

