-- ==== Sys2Proof/Safety.lean ====
section
/-! DEFINITION. Safety.lean: the terms in which claims about the module are made: the next step of a core, an operation that stands at its
thread's PC, what an issue leaves, and what every step keeps. -/

namespace Sys2Proof.Machine

/-! ### A core's next step (R35, R89, R90) -/

/-- Core `c` at the start of its next step. -/
def coreNext (s : State) (c : Nat) : Core := beginStep (getCore s c)
/-- R89: the thread to which the step is offered. -/
def thrOf (s : State) (c : Nat) : Nat := offered (coreNext s c)
/-- That thread. -/
def thrNext (s : State) (c : Nat) : Thread := getThread (coreNext s c) (thrOf s c)
/-- What the core sees of the module. -/
def ctxNow (s : State) (c : Nat) : Ctx := ctxOf s c (getCore s c)
/-- The core may take its step, the thread may issue, and the word at its PC has operation code `op` and fields `w` (R89, R90, R134). -/
def OpAt (op c : Nat) (w : OpWord) (s : State) : Prop :=
  coreReady s c (getCore s c) = true ∧ threadOffered (coreNext s c) (thrOf s c) = true
    ∧ fetchAt (coreNext s c) (thrNext s c).pc = some (opEncode op w)
/-- R137: no earlier operation still has to write one of these registers. -/
def RegsFree (s : State) (c : Nat) (l : List RegName) : Prop := ∀ r ∈ l, regBusy (coreNext s c) (thrOf s c) r = false
/-- R139: the posted queue has a free entry. -/
def PostRoom (s : State) (c : Nat) : Prop := postedWaiting (coreNext s c) < 256

/-! ### What an issue leaves -/

/-- The thread of the step has issued: `f` is what becomes of it beside its step count. -/
def issuedBy (s : State) (c : Nat) (k : Core) (f : Thread → Thread) : State :=
  setCore (endStall s c) c { endIssue (modThread k (thrOf s c) fun t => countIssue (f t)) with active := s.tb.tb }
/-- The operation has issued: core `k` is what its effect has made of the core, `pc` the thread's next PC. -/
def issued (s : State) (c : Nat) (k : Core) (pc : W64) : State := issuedBy s c k fun t => { t with pc := pc, waitStep := none }
/-- Requests of the operation handed to the units that perform them. -/
def handOut (s t : State) (c : Nat) (rs : List OutReq) : State := each (emitsOf (thrOf s c) (coreNext s c).step rs) (emitOne c) t
/-- The operation has issued with effect `k`, goes on at PC + 8, and hands out requests. -/
def issuedOut (s : State) (c : Nat) (k : Core) (rs : List OutReq) : State := handOut s (issued s c k ((thrNext s c).pc + 8)) c rs
/-- R137: the operation's result `r` is written `lat` steps after its issue; the operation goes on at PC + 8. -/
def issuedResult (s : State) (c lat : Nat) (r : RegVal) : State :=
  issued s c (result (coreNext s c) (thrOf s c) lat r) ((thrNext s c).pc + 8)
/-- R170: the thread has taken an exception in its step. -/
def raised (s : State) (c cause : Nat) (xinfo : W64) : State :=
  issuedBy s c (coreNext s c) fun t => takeException t cause t.pc xinfo

/-! ### What every step keeps -/

/-- The identity registers that are listed away from their fused values (R13: Fused). -/
def fuses (s : State) : Tbl W32 := s.regs.filter fun p => decide (p.1 < 0x10000)
/-- The commands that wait, and the identity registers. -/
def keptOf (r : Tbl W32) (q : List Instr) : List Instr × Tbl W32 := (q, r.filter fun p => decide (p.1 < 0x10000))
def kept (s : State) : List Instr × Tbl W32 := keptOf s.regs s.pending
/-- The next state, if there is one, keeps `k`. -/
def outKept (k : List Instr × Tbl W32) (o : Out) : Prop :=
  match o with
  | .next t => kept t = k
  | _ => True
/-- R13: the identity registers show their fused values: none is listed away from it. -/
def Fused (s : State) : Prop := fuses s = []

/-! ### The block as a whole -/

/-- A row of Table 4 of spec/05 with two sources: command, operation code, latency, and the result as a function of sA and b. -/
structure ScalarRow where
  cmd : Nat → OpWord → Instr
  op : Nat
  lat : Nat
  f : W64 → W64 → W64

/-- R142: a / b truncated toward zero, and its remainder; by zero -1 and a. -/
def quotS (a b : W64) : W64 := if b = 0 then BitVec.ofInt 64 (-1) else BitVec.ofInt 64 (a.toInt.tdiv b.toInt)
def quotU (a b : W64) : W64 := if b = 0 then BitVec.ofInt 64 (-1) else BitVec.ofNat 64 (a.toNat / b.toNat)
def restS (a b : W64) : W64 := if b = 0 then a else BitVec.ofInt 64 (a.toInt.tmod b.toInt)
def restU (a b : W64) : W64 := if b = 0 then a else BitVec.ofNat 64 (a.toNat % b.toNat)
def oneIf (p : Prop) [Decidable p] : W64 := if p then 1 else 0

def scalarRows : List ScalarRow := [
  ⟨.add, 0x01, 2, fun a b => a + b⟩, ⟨.sub, 0x02, 2, fun a b => a - b⟩, ⟨.and, 0x03, 2, fun a b => a &&& b⟩,
  ⟨.or, 0x04, 2, fun a b => a ||| b⟩, ⟨.xor, 0x05, 2, fun a b => a ^^^ b⟩,
  ⟨.shl, 0x06, 2, fun a b => BitVec.ofNat 64 (a.toNat * 2 ^ (b.toNat % 64))⟩,
  ⟨.shr, 0x07, 2, fun a b => BitVec.ofNat 64 (a.toNat / 2 ^ (b.toNat % 64))⟩,
  ⟨.sra, 0x08, 2, fun a b => BitVec.ofInt 64 (a.toInt / 2 ^ (b.toNat % 64))⟩,
  ⟨.slt, 0x09, 2, fun a b => oneIf (a.toInt < b.toInt)⟩, ⟨.sltu, 0x0A, 2, fun a b => oneIf (a.toNat < b.toNat)⟩,
  ⟨.seq, 0x0B, 2, fun a b => oneIf (a = b)⟩,
  ⟨.min, 0x0C, 2, fun a b => if a.toInt < b.toInt then a else b⟩, ⟨.max, 0x0D, 2, fun a b => if a.toInt < b.toInt then b else a⟩,
  ⟨.mul, 0x10, 6, fun a b => a * b⟩, ⟨.mulh, 0x11, 6, fun a b => BitVec.ofInt 64 (a.toInt * b.toInt / 2 ^ 64)⟩,
  ⟨.mulhu, 0x12, 6, fun a b => BitVec.ofNat 64 (a.toNat * b.toNat / 2 ^ 64)⟩,
  ⟨.div, 0x13, 40, quotS⟩, ⟨.divu, 0x14, 40, quotU⟩, ⟨.rem, 0x15, 40, restS⟩, ⟨.remu, 0x16, 40, restU⟩]

/-! ### Control flow and threads (spec/05 R143, R144) -/

/-- R92: the thread whose branch issued does not issue in the next step. -/
def branched (s : State) (c : Nat) : Core := modThread (coreNext s c) (thrOf s c) fun t => { t with branchAt := some (coreNext s c).step }

structure BranchRow where
  cmd : Nat → OpWord → Instr
  op : Nat
  f : W64 → W64 → Bool

def branchRows : List BranchRow := [
  ⟨.beq, 0x20, fun a b => decide (a = b)⟩, ⟨.bne, 0x21, fun a b => decide (a ≠ b)⟩,
  ⟨.blt, 0x22, fun a b => decide (a.toInt < b.toInt)⟩, ⟨.bge, 0x23, fun a b => decide (b.toInt ≤ a.toInt)⟩,
  ⟨.bltu, 0x24, fun a b => decide (a.toNat < b.toNat)⟩, ⟨.bgeu, 0x25, fun a b => decide (b.toNat ≤ a.toNat)⟩]

/-- The thread that a TCTL names: another existing thread of the core (R144). -/
def otherThread (s : State) (c : Nat) (w : OpWord) : Prop :=
  (readS (thrNext s c) w.sa).toNat < (coreNext s c).rl ∧ (readS (thrNext s c) w.sa).toNat ≠ thrOf s c
/-- What TCTL leaves: a result of thread number sA in sD, and what takes effect two steps on. -/
def controlled (s : State) (c : Nat) (w : OpWord) (f : Thread → W64) (p : List CtlPend) : State :=
  issued s c { result (coreNext s c) (thrOf s c) 2 (.s w.dst.toNat (f (getThread (coreNext s c) (readS (thrNext s c) w.sa).toNat))) with
    ctl := (coreNext s c).ctl ++ p } ((thrNext s c).pc + 8)

/-! ### Loads, stores, FENCE (spec/05 R145 to R147) -/

/-- R145, R146, Table 19: an access of `n` bytes at address `a`, a multiple of `al`, that passes its checks and leads to region `r`. -/
def AccessTo (s : State) (c : Nat) (a : W64) (n al : Nat) (r : Region) : Prop :=
  a.toNat % al = 0 ∧ regionOf (ctxNow s c) a n = some r ∧ isHost r = false
    ∧ (∀ off, r = .spad off → (ctxNow s c).lock = true → touchesWindow (coreNext s c) off n = false)
/-- An access that leads into the scratchpad at `off`, whose banks have room (Table 1 of spec/04). -/
def SpadAccess (s : State) (c : Nat) (a : W64) (n al off : Nat) : Prop :=
  AccessTo s c a n al (.spad off) ∧ banksFree (coreNext s c) (wordsOf off n) = true
/-- R145, R44: an access that leads elsewhere. -/
def FarLoad (s : State) (c : Nat) (a : W64) (n al : Nat) (r : Region) : Prop :=
  AccessTo s c a n al r ∧ isSpad r = false ∧ gatedRoom (coreNext s c) (thrOf s c) = true
def FarStore (s : State) (c : Nat) (a : W64) (n al : Nat) (r : Region) : Prop :=
  AccessTo s c a n al r ∧ isSpad r = false ∧ PostRoom s c
/-- The words of a load from region `r` outside the scratchpad. -/
def loadReqs (a : W64) (n : Nat) (r : Region) : List OutReq :=
  (wordsOf a.toNat n).zipIdx.map fun p => .mem false (p.1 / 64) a (regionPlus (regionWord r) (64 * p.2)) .read
/-- The words of a posted store. -/
def storeReqs (a : W64) (bs : List MByte) (r : Region) : List OutReq :=
  (splitWords 8 (a.toNat % 64) bs).zipIdx.map fun p => .mem true p.2 a (regionPlus (regionWord r) (64 * p.2)) (.write p.1)
/-- R96: the words of a store waiting at their banks. -/
def storeWords (k : Core) (th off : Nat) (bs : List MByte) : List SpadReq :=
  (splitWords 8 (off % 64) bs).zipIdx.map fun p => spadReq k th ((off / 64 + p.2) * 64) (.write p.1)

/-- A load form: command, code, unused fields, bytes and alignment, register written, and how the words make its value. -/
structure LoadRow where
  cmd : Nat → OpWord → Instr
  op : Nat
  legal : OpWord → Bool
  size : OpWord → Nat
  align : OpWord → Nat
  dest : OpWord → RegName
  kind : OpWord → W64 → LoadKind
  spadOnly : Bool

/-- R146 Table 7: LD of 1, 2, 4 or 8 bytes, MOD[2] extends the sign; VLD of 64 elements of the format MOD names. LNLD of 128 bytes is
in the scratchpad only. -/
def loadRows : List LoadRow := [
  ⟨.ld, 0x30, fun w => !badUnused { dst := true, sa := true, md := true, imm := true } w && !w.md.getLsbD 3,
    fun w => 2 ^ (w.md.toNat % 4), fun w => 2 ^ (w.md.toNat % 4), fun w => .s w.dst.toNat,
    fun w a => .scalar w.dst.toNat (a.toNat % 64) (2 ^ (w.md.toNat % 4)) (w.md.getLsbD 2), false⟩,
  ⟨.vld, 0x32, fun w => !badUnused { dst := true, sa := true, md := true, imm := true } w && decide (w.dst.toNat < 8) && (fmtOfCode w.md.toNat).isSome,
    fun w => 8 * fmtWidth (laneFmt w), laneAlign, fun w => .v w.dst.toNat, fun w a => .vector w.dst.toNat (a.toNat % 64) w.md.toNat, false⟩,
  ⟨.lnld, 0x35, fun w => !badUnused { dst := true, sa := true, imm := true } w && decide (w.dst.toNat < 16),
    fun _ => 128, fun _ => 64, fun w => .ln w.dst.toNat, fun w _ => .long w.dst.toNat, true⟩]

/-- A store form: the masked bytes it stores. -/
structure StoreRow where
  cmd : Nat → OpWord → Instr
  op : Nat
  legal : OpWord → Bool
  srcs : OpWord → List RegName
  align : OpWord → Nat
  bytes : Core → Thread → OpWord → List MByte

/-- R146 Table 7: ST of 1, 2, 4 or 8 bytes, little-endian; VST of 64 elements; VSTM of those lanes whose bit in sC is set. -/
def storeRows : List StoreRow := [
  ⟨.st, 0x31, fun w => !badUnused { sa := true, sb := true, md := true, imm := true } w && decide (w.md.toNat < 4),
    fun w => [.s w.sa.toNat, .s w.sb.toNat], fun w => 2 ^ (w.md.toNat % 4),
    fun _ t w => (leBytes (2 ^ (w.md.toNat % 4)) (readS t w.sb).toNat).map mOn⟩,
  ⟨.vst, 0x33, fun w => !badUnused { sa := true, sb := true, md := true, imm := true } w && decide (w.sb.toNat < 8) && (fmtOfCode w.md.toNat).isSome,
    fun w => [.s w.sa.toNat, .v w.sb.toNat], laneAlign, fun _ t w => packLanes (laneFmt w) (readV t w.sb) fun _ => true⟩,
  ⟨.vstm, 0x34, fun w => !badUnused { sa := true, sb := true, sc := true, md := true, imm := true } w && decide (w.sb.toNat < 8) && (fmtOfCode w.md.toNat).isSome,
    fun w => [.s w.sa.toNat, .v w.sb.toNat, .s w.sc.toNat], laneAlign,
    fun _ t w => packLanes (laneFmt w) (readV t w.sb) fun l => (readS t w.sc).getLsbD l⟩]

/-! ### Matrix engines, long registers (spec/05 R151 to R155) -/

/-- R151: an operation in the queue of engine `e` for set `set`; whether a store may follow, and whether a flush went before (R153). -/
def queuedOn (s : State) (c e set : Nat) (k : EngKind) (storable flushed : Bool) : State :=
  issued s c (enqueue (coreNext s c) (thrOf s c) e set k storable flushed) ((thrNext s c).pc + 8)
/-- R105: the queue of engine `e` has a free place. -/
def QueueRoom (s : State) (c e : Nat) : Prop := (getEng (coreNext s c) e).queue.length < 3

/-- R93: a result of the LAU thread port, which it occupies for `occ` steps. -/
def lauResult (s : State) (c occ lat : Nat) (r : RegVal) : State :=
  issued s c (result { coreNext s c with portLeft := occ } (thrOf s c) lat r) ((thrNext s c).pc + 8)

/-! ### Vectors (spec/05 R156 to R158, spec/03 R87, R88) -/

/-- R93: a result of the vector engine, which it occupies for `occ` steps. -/
def veResult (s : State) (c occ lat : Nat) (r : RegVal) : State :=
  issued s c (result { coreNext s c with veLeft := occ } (thrOf s c) lat r) ((thrNext s c).pc + 8)

/-- A vector operation: its fields, the registers it reads, and lane `l` of its result. -/
structure VecRow where
  cmd : Nat → OpWord → Instr
  op : Nat
  lat : Nat
  uses : Uses
  srcs : OpWord → List RegName
  mode : Bool
  f : Core → Nat → Thread → OpWord → Nat → W32

def va (t : Thread) (w : OpWord) (l : Nat) : W32 := lane (readV t w.sa) l
def vb (t : Thread) (w : OpWord) (l : Nat) : W32 := lane (readV t w.sb) l
def vc (t : Thread) (w : OpWord) (l : Nat) : W32 := lane (readV t w.sc) l
/-- R87, R156: a lane laneRounded in the mode that MOD names. -/
def laneRounded (k : Core) (th : Nat) (w : OpWord) (l : Nat) (x : Val) : W32 := roundLane (modMode w) (srDraw (modMode w) (genKey k th) l) x

def vecRows : List VecRow := [
  ⟨.vadd, 0x50, 8, { dst := true, sa := true, sb := true, md := true }, fun w => [.v w.sa.toNat, .v w.sb.toNat], true,
    fun k th t w l => laneRounded k th w l (addVal (modMode w) (f32 (va t w l)) (f32 (vb t w l)))⟩,
  ⟨.vsub, 0x51, 8, { dst := true, sa := true, sb := true, md := true }, fun w => [.v w.sa.toNat, .v w.sb.toNat], true,
    fun k th t w l => laneRounded k th w l (addVal (modMode w) (f32 (va t w l)) (f32 (vb t w l)).neg)⟩,
  ⟨.vmul, 0x52, 8, { dst := true, sa := true, sb := true, md := true }, fun w => [.v w.sa.toNat, .v w.sb.toNat], true,
    fun k th t w l => laneRounded k th w l (mulVal (f32 (va t w l)) (f32 (vb t w l)))⟩,
  ⟨.vfma, 0x53, 8, { dst := true, sa := true, sb := true, sc := true, md := true }, fun w => [.v w.sa.toNat, .v w.sb.toNat, .v w.sc.toNat], true,
    fun k th t w l => laneRounded k th w l (addVal (modMode w) (mulVal (f32 (va t w l)) (f32 (vb t w l))) (f32 (vc t w l)))⟩,
  ⟨.vmin, 0x54, 8, { dst := true, sa := true, sb := true }, fun w => [.v w.sa.toNat, .v w.sb.toNat], false,
    fun _ _ t w l => if isNaN32 (va t w l) || isNaN32 (vb t w l) then 0x7FC00000#32 else if valKey (va t w l) ≤ valKey (vb t w l) then va t w l else vb t w l⟩,
  ⟨.vmax, 0x55, 8, { dst := true, sa := true, sb := true }, fun w => [.v w.sa.toNat, .v w.sb.toNat], false,
    fun _ _ t w l => if isNaN32 (va t w l) || isNaN32 (vb t w l) then 0x7FC00000#32 else if valKey (va t w l) ≤ valKey (vb t w l) then vb t w l else va t w l⟩,
  ⟨.viadd, 0x57, 8, { dst := true, sa := true, sb := true }, fun w => [.v w.sa.toNat, .v w.sb.toNat], false, fun _ _ t w l => va t w l + vb t w l⟩,
  ⟨.vimul, 0x58, 8, { dst := true, sa := true, sb := true }, fun w => [.v w.sa.toNat, .v w.sb.toNat], false, fun _ _ t w l => va t w l * vb t w l⟩,
  ⟨.vbcast, 0x59, 4, { dst := true, sa := true }, fun w => [.s w.sa.toNat], false,
    fun _ _ t w _ => BitVec.ofNat 32 (readS t w.sa).toNat⟩,
  ⟨.vidx, 0x5B, 4, { dst := true }, fun _ => [], false, fun _ _ _ _ l => BitVec.ofNat 32 l⟩,
  ⟨.vsel, 0x62, 4, { dst := true, sa := true, sb := true, sc := true }, fun w => [.v w.sa.toNat, .v w.sb.toNat, .s w.sc.toNat], false,
    fun _ _ t w l => if (readS t w.sc).getLsbD l then va t w l else vb t w l⟩]

/-- The vector register numbers of an operation are below 8. -/
def vecRegs (l : List RegName) : Bool := l.all fun r => match r with | .v n => decide (n < 8) | _ => true

/-! ### Indexed operations (spec/05 R159, R160; spec/04 R121 to R128) -/

/-- The lanes of an indexed operation pass their checks. -/
def LanesOk (s : State) (c : Nat) (as : List (Nat × W64)) (n : Nat) : Prop := ∀ p ∈ as, ∃ r, AccessTo s c p.2 n n r

/-- R160: the lanes of a scatter: those in the scratchpad wait at their banks, the others are posted as one operation. -/
def scattered (s : State) (c : Nat) (as : List (Nat × W64)) (sp : Nat → SpadAct) (far : Nat → MemAct) : State :=
  let k := coreNext s c; let th := thrOf s c; let out := lanesOut as
  issuedOut s c
    (addPosted (pushSpad k ((laneWords (lanesIn as)).map fun wd => spadReq k th wd (sp wd))) th (laneClass (ctxNow s c) k out)
      (firstIn out ((laneWords out).headD 0)) false)
    ((laneWords out).zipIdx.map fun p => .mem true p.2 (firstIn out p.1) (regionWord (regionAt (ctxNow s c) (firstIn out p.1) 4)) (far p.1))

/-! ### DMA, synchronisation, the fabric (spec/05 R161 to R166) -/

/-- The destination register is free, and the sources are. -/
def ThreeRegs (s : State) (c : Nat) (w : OpWord) : Prop := RegsFree s c [.s w.dst.toNat, .s w.sa.toNat, .s w.sb.toNat, .s w.sc.toNat]
/-- R98: a window that a request opens has a place. -/
def WindowRoom (s : State) (c : Nat) (r : Region) : Prop := isSpad r = true → windowRoom (coreNext s c) = true
/-- A local range of an operation of the fabric (R162): in the scratchpad or in cluster memory, aligned to 8. -/
def LocalRange (s : State) (c : Nat) (a : W64) (n : Nat) (r : Region) : Prop :=
  a.toNat % 8 = 0 ∧ n % 8 = 0 ∧ 8 ≤ n ∧ n ≤ 16384 ∧ regionOf (ctxNow s c) a n = some r ∧ isHost r = false ∧ isTenant r = false
/-- A gated request of class `cls` whose result goes into sD, and what it asks for. -/
def gatedOut (s : State) (c : Nat) (k : Core) (cls : AccClass) (w : OpWord) (rq : OutReq) : State :=
  issuedOut s c (addGated k (thrOf s c) cls (.scalar w.dst.toNat)) [rq]

structure AtomRow where
  cmd : Nat → OpWord → Instr
  md : Nat
  kind : AtomKind

def atomRows : List AtomRow := [⟨.fatomAdd64, 0, .add64⟩, ⟨.fatomSwap64, 1, .swap64⟩, ⟨.fatomCas64, 2, .cas64⟩, ⟨.fatomMin64, 3, .min64⟩, ⟨.fatomMax64, 4, .max64⟩]

structure CollRow where
  cmd : Nat → OpWord → Instr
  md : Nat
  kind : CollKind

def collRows : List CollRow := [⟨.collAllreduce, 0, .allreduce⟩, ⟨.collReduce, 1, .reduce⟩, ⟨.collReducescatter, 2, .reduceScatter⟩,
  ⟨.collBroadcast, 3, .broadcast⟩, ⟨.collAllgather, 4, .allgather⟩, ⟨.collAlltoall, 6, .alltoall⟩]

/-! ### What an issue leaves, and what raises (spec/05 R170, R171; spec/04 R90) -/

/-! ### Between issues (spec/02 R44, R45; spec/04 R90 to R116; spec/05 R139, R147, R174; spec/13 R408, R415) -/

/-- The gated request `g` has its result. -/
def withResult (k : Core) (g : Gated) (r : GResult) : Core :=
  { k with gated := k.gated.map fun (x : Gated) => if x = g then { x with result := some r, arrived := true } else x }

/-- Core `c` and the words around it are in a step. -/
def InStep (s : State) (c : Nat) : Prop := coreOn s c = true ∧ (getCore s c).wedged = false

/-- The head of engine `e`'s queue dispatches in this step. -/
def Dispatching (s : State) (c e : Nat) (o : EngOp) : Prop :=
  coreOn s c = true ∧ e < 4 ∧ (getEng (getCore s c) e).mayDispatch = true ∧ dispatchHead (getEng (getCore s c) e) = some o
/-- Engine `e` of core `c` becomes `x`; of the core and of the module nothing else changes. -/
def withEng (s : State) (c e : Nat) (x : Engine) : State := setCore s c (setEng (getCore s c) e x)

/-! ### Translation, DRAM and cluster memory (spec/06 R182 to R203; spec/04 R129; spec/13 R414 to R419) -/

/-- Access `id` waits for its translation at its die's MMU. -/
def Translating (s : State) (id : Nat) (a : Access) (va : Nat) : Prop :=
  getAcc s id = some a ∧ a.loc = .tenant va ∧ isWaiting a = true ∧ a.core < 131072 ∧ dieUp s (dieOf a.core) = true

/-- The controller of pseudo-channel `pc` of a stack works in the present slot. -/
def SlotOpen (s : State) (stack pc : Nat) : Prop :=
  stack < 32 ∧ pc < 32 ∧ dieUp s (stack / 2) = true ∧ stackInService s stack = true ∧ slotFree s stack pc = true

/-! ### Streams (spec/07 R215 to R242, R252; spec/16 R485, R486) -/

/-! ### Pre-emption, resets of functions, start-up and pins (spec/06 R204 to R211, R600; spec/20 R574 to R590; spec/21 R593) -/

/-! ### The lock, the recorder, the replay engine, snuffs, the timebase (spec/08 R253 to R276; spec/15 R462 to R465; spec/02 R51 to R58) -/

/-! ### Links, cells, messages, sync objects, collectives (spec/09 R277 to R306; spec/10 R308 to R333; spec/11 R339 to R359) -/

/-- The oldest operation on object `i` of die `d` is `o`, and the object is bound to its saggar. -/
def SyncReady (s : State) (d i op : Nat) (o : SyncOp) : Prop :=
  dieUp s d = true ∧ syncHead s d i op = some o ∧ o.idx < 16384 ∧ syncOwner (getSync s d) o.idx = some o.sg
/-- The operation has left the die's queue. -/
def syncTaken (s : State) (d : Nat) (o : SyncOp) : State := modSync s d fun x => { x with queue := x.queue.erase o }

/-! ### The kiln, its pair and its wicks (spec/12 R363 to R402; spec/10 R325 to R328; spec/20 R584) -/

/-- A command of FMSEQ `seq` and term `term` reaches wick `ep` at its turn. -/
def WickTurn (s : State) (ep seq term : Nat) : Prop :=
  ep < 21 ∧ (getWick s ep).lit = true ∧ (getWick s ep).expect = seq ∧ (getWick s ep).term = term ∧ (getWick s ep).busy = none
/-- The wick is performing it. -/
def wickAt (s : State) (ep seq term op : Nat) : State := modWick s ep fun w => { w with expect := (seq + 1) % 2 ^ 32, busy := some (seq, term, op) }

/-! ### The lantern (spec/17 R510 to R534; spec/20 R588) -/

/-- R518: a request with operation `op` waits at the lantern in channel `c`, from the physical function, and the lantern may take it. -/
def LanternTurn (s : State) (c op : Nat) : Prop :=
  chanBound s c = true ∧ chanB s c = 0x5000 ∧ c ≠ 3 ∧ chanBusy s c = true ∧ lanternUp s = true ∧ chanA s c = 0 ∧ payByte s c 0 = op
    ∧ (op = 4 ∨ lanternBusy s = false)

/-! ### Mailboxes, sherds and field tests (spec/18 R536 to R548; spec/13 R420 to R428) -/

/-! ### Pilots, the ladder, resets and time-sharing (spec/15 R453 to R476; spec/12 R364, R400) -/

/-! ### The journal and its twin (spec/16 R487 to R508) -/

/-! ### Power (spec/19 R549 to R569) -/

/-! ### Faults, the halt input and the management port (spec/14 R429 to R452) -/

/-! ### Registers as a whole and the I3C port (spec/00 R8 to R14; spec/12 R399; spec/20 R587, R588) -/

end Sys2Proof.Machine
end

