-- ==== Sys2Proof/Certificates/Slice0/Obligations.lean ====
section
/-! DEFINITION. Certificates/Slice0/Obligations.lean: what is claimed of the module. -/

open Sys2Proof Sys2Proof.Machine

/-! ### The block as a whole -/

/-- The command at the front of the queue is performed by a step, on the state whose queue is the rest. -/
def Obligations.AStepPerformsTheFrontCommand : Prop :=
  ∀ (i : Instr) (s : State) (rest : List Instr), s.pending = i :: rest → step s = exec i { s with pending := rest }

/-- DESIGN CHOICE (log 17): on an empty queue one nanosecond passes. The slot counter advances by one slot, the timebase by one nanosecond when nothing is to be
slewed; cores, streams, the kiln, keys, saggars, what has left the module, host memory and DRAM stand as before. -/
def Obligations.AnEmptyQueueLetsANanosecondPass : Prop :=
  ∀ (s : State), s.pending = [] → ∃ t, step s = .next t ∧ t.mem.slotCtr = s.mem.slotCtr + 1 ∧ (s.tb.slew = 0 → t.tb.tb = s.tb.tb + 1) ∧ t.pending = []
    ∧ t.cores = s.cores ∧ t.stm = s.stm ∧ t.kln = s.kln ∧ t.keys = s.keys ∧ t.sgs = s.sgs ∧ t.sent = s.sent ∧ t.mem.host = s.mem.host ∧ t.mem.dram = s.mem.dram

/-- R13, R253, R517, R525: what module reset leaves: no command waits, no register stands away from its reset value, LOCK is set, every saggar is FREE, streams 0 and
65,535 are OFF, there are service keys (DESIGN CHOICE, log 16: start-up makes them) and no tenant keys, no core has a context, and host memory is in canonical form. -/
def Obligations.ModuleResetLeaves : Prop :=
  let s := State.reset
  s.pending = [] ∧ s.regs = [] ∧ Fused s ∧ lockSet s = true ∧ (∀ n, n < 128 → sgState s n = 0) ∧ stState s 0 = 0 ∧ stState s 65535 = 0
    ∧ (∀ n, n < 256 → slotKey s n = none) ∧ (∀ n, n < 16 → slotKey s (256 + n) = some n) ∧ s.mem.host.wf = true ∧ s.cores = []

/-- Every command answers a next state, whatever the state and the operands: none faults, none is refused. -/
def Obligations.EveryCommandAnswersANextState : Prop := ∀ (i : Instr) (s : State), ∃ t, exec i s = .next t

/-- R13: no step moves an identity register away from its fused value. -/
def Obligations.EveryStepKeepsTheFusedRegisters : Prop := ∀ (s t : State), Fused s → step s = .next t → Fused t

/-- A command leaves the queue of waiting commands, and the identity registers, as they were. -/
def Obligations.CommandsLeaveTheQueue : Prop := ∀ (i : Instr) (s t : State), Fused s → exec i s = .next t → t.pending = s.pending ∧ Fused t

/-- R13: while no identity register is listed away from its fused value, each reads as that value, and a write of BAR0 in their block changes nothing. -/
def Obligations.IdentityRegistersShowTheirFuses : Prop :=
  ∀ (s : State) (off : Nat), Fused s → off < 0x10000 → rget s off = rget State.reset off ∧ ∀ v, exec (.registerWrite (.bar0 off) v) s = .next s

/-- R65: adding into a long register adds the finite parts modulo 2^640 and ORs the class flags; whatever the order of additions, the same bits result. -/
def Obligations.LongRegisterSumsDoNotDependOnOrder : Prop :=
  (∀ (a b : LongReg), (lrAdd a b).v.toNat = (a.v.toNat + b.v.toNat) % 2 ^ 640 ∧ (lrAdd a b).pinf = (a.pinf || b.pinf) ∧ (lrAdd a b).ninf = (a.ninf || b.ninf)
    ∧ (lrAdd a b).nan = (a.nan || b.nan) ∧ lrAdd a b = lrAdd b a)
  ∧ (∀ (a b c : LongReg), lrAdd (lrAdd a b) c = lrAdd a (lrAdd b c))
  ∧ (∀ (l m : List LongReg) (a : LongReg), l.Perm m → l.foldl lrAdd a = m.foldl lrAdd a)

/-- R253: LOCK reads 1 after module reset; a write that changes it is taken only while every saggar is FREE; one that would change it otherwise is discarded and sets LOCKERR; one
that would not change it changes nothing. -/
def Obligations.LockChangesOnlyWhileSaggarsAreFree : Prop :=
  lockSet State.reset = true
  ∧ ∀ (s : State) (v : W32),
    (v.getLsbD 0 = lockSet s → exec (.detCtlLockWrite v) s = .next s)
    ∧ (v.getLsbD 0 ≠ lockSet s → (∀ n, n < 128 → sgState s n = 0) →
      exec (.detCtlLockWrite v) s = .next (fput s r_DET_CTL f_DET_CTL_LOCK (b2n (v.getLsbD 0))) ∧ lockSet (fput s r_DET_CTL f_DET_CTL_LOCK (b2n (v.getLsbD 0))) = v.getLsbD 0)
    ∧ (v.getLsbD 0 ≠ lockSet s → (∃ n, n < 128 ∧ sgState s n ≠ 0) → exec (.detCtlLockWrite v) s = .next (fput s r_DET_STAT f_DET_STAT_LOCKERR 1))

/-- R465: a write of RST_SNUFF with GO asks for a snuff of the slice with reason HOST (0x0B); when no saggar is bound to the slice, nothing is sent and ERR is set. -/
def Obligations.HostSnuffsNeedABoundSlice : Prop :=
  ∀ (s : State) (x : Nat), x < 1024 → let t := fput s r_RST_SNUFF f_RST_SNUFF_SLICE x
    ((∃ g, sgOfSlice s x = some g) → exec (.rstSnuffGo x) s = .next (addAct t (.snuff x 0x0B)))
    ∧ (sgOfSlice s x = none → exec (.rstSnuffGo x) s = .next (fput t r_RST_SNUFF_STAT f_RST_SNUFF_STAT_ERR 1))
/-! ### Scalar operations (spec/05 R141, R142) -/

/-- R142: scalar arithmetic wraps modulo 2^64 and raises no exception: each operation with two sources has a result, those of ADD, SUB and MUL
are taken modulo 2^64. Division by zero: DIV and DIVU give all ones, REM and REMU give sA. DIV of -2^63 by -1 gives -2^63, REM 0. -/
def Obligations.ScalarArithmeticWrapsAndDividesByZero : Prop :=
  ∀ (s : State) (c : Nat) (w : OpWord), badB w = false → RegsFree s c ([.s w.dst.toNat, .s w.sa.toNat] ++ (if w.md.getLsbD 0 then [] else [.s w.sb.toNat])) →
    let a := readS (thrNext s c) w.sa
    let b := operandB (thrNext s c) w
    let gives (lat : Nat) (r : W64) := Host.Outcome.next (issuedResult s c lat (.s w.dst.toNat r))
    (∀ r ∈ scalarRows, OpAt r.op c w s → ∃ v, exec (r.cmd c w) s = gives r.lat v)
    ∧ (OpAt 0x01 c w s → exec (.add c w) s = gives 2 (BitVec.ofNat 64 ((a.toNat + b.toNat) % 2 ^ 64)))
    ∧ (OpAt 0x02 c w s → exec (.sub c w) s = gives 2 (BitVec.ofInt 64 ((a.toInt - b.toInt) % 2 ^ 64)))
    ∧ (OpAt 0x10 c w s → exec (.mul c w) s = gives 6 (BitVec.ofNat 64 (a.toNat * b.toNat % 2 ^ 64)))
    ∧ (OpAt 0x13 c w s → (b = 0 → exec (.div c w) s = gives 40 (BitVec.ofInt 64 (-1)))
        ∧ (a.toInt = -2 ^ 63 → b.toInt = -1 → exec (.div c w) s = gives 40 (BitVec.ofInt 64 (-2 ^ 63))))
    ∧ (OpAt 0x14 c w s → b = 0 → exec (.divu c w) s = gives 40 0xFFFFFFFFFFFFFFFF#64)
    ∧ (OpAt 0x15 c w s → (b = 0 → exec (.rem c w) s = gives 40 a) ∧ (a.toInt = -2 ^ 63 → b.toInt = -1 → exec (.rem c w) s = gives 40 0))
    ∧ (OpAt 0x16 c w s → b = 0 → exec (.remu c w) s = gives 40 a)

/-- R141, R142, R137: a scalar operation with two sources writes its result into sD at step i + L and goes on at PC + 8. Nothing else of the
module changes (`issuedResult`). R141: NOP, MOVI, MOVH, POPC and CTZ. POPC counts the ones of sA, CTZ its trailing zeros, 64 for 0. -/
def Obligations.ScalarOperationsWriteTheirResult : Prop :=
  (∀ r ∈ scalarRows, ∀ (s : State) (c : Nat) (w : OpWord),
      OpAt r.op c w s → badB w = false →
      RegsFree s c ([.s w.dst.toNat, .s w.sa.toNat] ++ (if w.md.getLsbD 0 then [] else [.s w.sb.toNat])) →
      exec (r.cmd c w) s = .next (issuedResult s c r.lat (.s w.dst.toNat (r.f (readS (thrNext s c) w.sa) (operandB (thrNext s c) w)))))
  ∧ (∀ (s : State) (c : Nat) (w : OpWord), let t := thrNext s c
      (OpAt 0x00 c w s → badUnused {} w = false → exec (.nop c w) s = .next (issued s c (coreNext s c) (t.pc + 8)))
      ∧ (OpAt 0x0E c w s → badUnused { dst := true, imm := true } w = false → RegsFree s c [.s w.dst.toNat] →
          exec (.movi c w) s = .next (issuedResult s c 2 (.s w.dst.toNat (BitVec.ofInt 64 w.imm.toInt))))
      ∧ (OpAt 0x0F c w s → badUnused { dst := true, sa := true, imm := true } w = false → RegsFree s c [.s w.dst.toNat, .s w.sa.toNat] →
          exec (.movh c w) s = .next (issuedResult s c 2 (.s w.dst.toNat (BitVec.ofNat 64 (w.imm.toNat * 2 ^ 32 + (readS t w.sa).toNat % 2 ^ 32)))))
      ∧ (OpAt 0x17 c w s → badUnused { dst := true, sa := true } w = false → RegsFree s c [.s w.dst.toNat, .s w.sa.toNat] →
          exec (.popc c w) s = .next (issuedResult s c 2 (.s w.dst.toNat (BitVec.ofNat 64 ((List.range 64).countP fun i => (readS t w.sa).getLsbD i)))))
      ∧ (OpAt 0x18 c w s → badUnused { dst := true, sa := true } w = false → RegsFree s c [.s w.dst.toNat, .s w.sa.toNat] →
          exec (.ctz c w) s = .next (issuedResult s c 2
            (.s w.dst.toNat (BitVec.ofNat 64 (((List.range 64).find? fun i => (readS t w.sa).getLsbD i).getD 64))))))

/-! ### Control flow and threads (spec/05 R143, R144) -/

/-- R143, R92: a branch goes to PC + 8 × IMM when its comparison holds, to PC + 8 when not; no register changes. R143: JAL saves PC + 8 in sD
and goes to PC + 8 × IMM; JR goes to sA + IMM, a multiple of 8; HALT puts its thread in HALT; STEPW lets the thread wait for step sA + IMM;
BRK takes exception BREAK with IMM in XINFO, and the PC stays. R144 Table 6: RESUME and STOP take effect two steps on and answer the
thread's state; READ answers state, XOVF and XCAUSE, XPC and XINFO answer those registers, and change nothing of the other thread. -/
def Obligations.ControlOperationsMoveThePc : Prop :=
  (∀ r ∈ branchRows, ∀ (s : State) (c : Nat) (w : OpWord), let t := thrNext s c
      OpAt r.op c w s → badUnused { sa := true, sb := true, imm := true } w = false → RegsFree s c [.s w.sa.toNat, .s w.sb.toNat] →
      exec (r.cmd c w) s = .next (issued s c (branched s c)
        (if r.f (readS t w.sa) (readS t w.sb) then t.pc + BitVec.ofInt 64 (8 * w.imm.toInt) else t.pc + 8)))
  ∧ (∀ (s : State) (c : Nat) (w : OpWord), let t := thrNext s c
      (OpAt 0x26 c w s → badUnused { dst := true, imm := true } w = false → RegsFree s c [.s w.dst.toNat] →
          exec (.jal c w) s = .next (issued s c (result (branched s c) (thrOf s c) 2 (.s w.dst.toNat (t.pc + 8))) (t.pc + BitVec.ofInt 64 (8 * w.imm.toInt))))
      ∧ (OpAt 0x27 c w s → badUnused { sa := true, imm := true } w = false → RegsFree s c [.s w.sa.toNat] →
          (readS t w.sa + w.imm.signExtend 64).toNat % 8 = 0 →
          exec (.jr c w) s = .next (issued s c (branched s c) (readS t w.sa + w.imm.signExtend 64)))
      ∧ (OpAt 0x28 c w s → badUnused {} w = false →
          exec (.halt c w) s = .next (issued s c (modThread (coreNext s c) (thrOf s c) fun t => { t with st := .halt }) (t.pc + 8)))
      ∧ (OpAt 0x2B c w s → badUnused { sa := true, imm := true } w = false → RegsFree s c [.s w.sa.toNat] →
          exec (.stepw c w) s = .next (issuedBy s c (coreNext s c) fun t =>
            { t with pc := t.pc + 8, waitStep := some (readS t w.sa + w.imm.zeroExtend 64) }))
      ∧ (OpAt 0x29 c w s → badUnused { imm := true } w = false →
          exec (.brk c w) s = .next (raised s c 8 (w.imm.zeroExtend 64))))
  ∧ (∀ (s : State) (c : Nat) (w : OpWord), let t := thrNext s c
      let state : Thread → W64 := fun x => match x.st with | .run => 0 | .halt => 1 | .exc => 2
      let plain := badUnused { dst := true, sa := true, md := true } w = false ∧ otherThread s c w ∧ RegsFree s c [.s w.dst.toNat, .s w.sa.toNat]
      (OpAt 0x2A c w s → w.md = 0 → badUnused { dst := true, sa := true, sb := true, md := true } w = false → otherThread s c w →
          RegsFree s c [.s w.dst.toNat, .s w.sa.toNat, .s w.sb.toNat] →
          exec (.tctlResume c w) s = .next (controlled s c w state
            [{ due := (coreNext s c).step + 2, target := (readS t w.sa).toNat, resume := some (readS t w.sb) }]))
      ∧ (OpAt 0x2A c w s → w.md = 1 → plain →
          exec (.tctlStop c w) s = .next (controlled s c w state [{ due := (coreNext s c).step + 2, target := (readS t w.sa).toNat, resume := none }]))
      ∧ (OpAt 0x2A c w s → w.md = 2 → plain →
          exec (.tctlRead c w) s = .next (controlled s c w
            (fun x => state x + BitVec.ofNat 64 (4 * b2n x.xovf) + BitVec.ofNat 64 (256 * x.xcause.toNat)) []))
      ∧ (OpAt 0x2A c w s → w.md = 3 → plain → exec (.tctlReadXpc c w) s = .next (controlled s c w Thread.xpc []))
      ∧ (OpAt 0x2A c w s → w.md = 4 → plain → exec (.tctlReadXinfo c w) s = .next (controlled s c w Thread.xinfo [])))

/-! ### Loads, stores, FENCE (spec/05 R145 to R147) -/

/-- R145, R96, R44: a load from the scratchpad queues its words at their banks, to reach them two steps on; one from elsewhere becomes a gated
request of its access class, due after the class's latency, and its words are asked for. R145, R96, R139: a store to the scratchpad queues
its words at their banks; one to elsewhere takes an entry of the posted queue and hands its words out. No register changes. LNST (R146,
R93): the wide word of a long register goes to the scratchpad; it takes a step of the LAU thread port. FENCE (R147): with nothing to wait
for it writes 0 into sD; else it becomes a gated request over the thread's posted operations that no FENCE has covered. -/
def Obligations.LoadsStoresAndFencesAreIssued : Prop :=
  (∀ r ∈ loadRows, ∀ (s : State) (c : Nat) (w : OpWord), let a := effAddr (thrNext s c) w; let n := r.size w
      OpAt r.op c w s → r.legal w = true → RegsFree s c [r.dest w, .s w.sa.toNat] →
      (∀ off, SpadAccess s c a n (r.align w) off →
        exec (r.cmd c w) s = .next (issuedOut s c (addLoad (coreNext s c) (thrOf s c) (r.kind w a) (wordsOf off n)) []))
      ∧ (∀ g, r.spadOnly = false → FarLoad s c a n (r.align w) g →
        exec (r.cmd c w) s = .next (issuedOut s c (addGated (coreNext s c) (thrOf s c) (classOf (ctxNow s c) g) (.load (r.kind w a))) (loadReqs a n g))))
  ∧ (∀ r ∈ storeRows, ∀ (s : State) (c : Nat) (w : OpWord), let a := effAddr (thrNext s c) w
      let bs := r.bytes (coreNext s c) (thrNext s c) w
      OpAt r.op c w s → r.legal w = true → RegsFree s c (r.srcs w) →
      (∀ off, SpadAccess s c a bs.length (r.align w) off →
        exec (r.cmd c w) s = .next (issuedOut s c (pushSpad (coreNext s c) (storeWords (coreNext s c) (thrOf s c) off bs)) []))
      ∧ (∀ g, FarStore s c a bs.length (r.align w) g →
        exec (r.cmd c w) s = .next (issuedOut s c (addPosted (coreNext s c) (thrOf s c) (classOf (ctxNow s c) g) a false) (storeReqs a bs g))))
  ∧ (∀ (s : State) (c : Nat) (w : OpWord), let t := thrNext s c; let k := coreNext s c; let th := thrOf s c
      let a := effAddr t w
      let cover := k.posted.filter fun p => p.thread == th && !p.fenced
      (∀ off, OpAt 0x36 c w s → badUnused { sa := true, sb := true, imm := true } w = false → w.sb.toNat < 16 →
          RegsFree s c [.s w.sa.toNat, .ln w.sb.toNat] → portFree k = true → SpadAccess s c a 128 64 off →
          exec (.lnst c w) s = .next (issuedOut s c (pushSpad { k with portLeft := 1 } (storeWords k th off
            ((wordBytes (wideEncode (readLn k w.sb.toNat)).1 ++ wordBytes (wideEncode (readLn k w.sb.toNat)).2).map mOn))) []))
      ∧ (OpAt 0x37 c w s → badUnused { dst := true } w = false → RegsFree s c [.s w.dst.toNat] → cover = [] →
          exec (.fence c w) s = .next (issuedResult s c 2 (.s w.dst.toNat 0)))
      ∧ (OpAt 0x37 c w s → badUnused { dst := true } w = false → RegsFree s c [.s w.dst.toNat] → cover ≠ [] → gatedRoom k th = true →
          exec (.fence c w) s = .next (issuedOut s c
            { addGated k th (maxClass k cover) (.fence w.dst.toNat (cover.map Posted.issue)) with
              posted := k.posted.map fun p => if p.thread = th then { p with fenced := true } else p } [])))

/-! ### Matrix engines, long registers (spec/05 R151 to R155) -/

/-- R101, R151 Table 9, R153: MMA, WFLUSH, RSTORE, XSTORE, SPGET, SPADD and MCLR take a place in their engine's queue with what they read
at issue: the descriptors, the addresses, the long register. -/
def Obligations.EngineOperationsQueue : Prop :=
  ∀ (s : State) (c : Nat) (w : OpWord), let t := thrNext s c; let k := coreNext s c
    let e := w.dst.toNat % 4; let set := w.dst.toNat / 4 % 2
    let x := getSet (getEng k e) set
    let da := tileOf (readT t w.sb); let db := tileOf (readT t w.sc)
    let ie := w.imm.toNat % 4; let iset := w.imm.toNat / 4 % 2; let el := w.imm.toNat / 16 % 512
    let y := getSet (getEng k ie) iset
    (OpAt 0x70 c w s → bodyMma.illegal (ctxNow s c) k (thrOf s c) w = false → RegsFree s c [.t w.sb.toNat, .t w.sc.toNat] →
        descriptorCheck (readT t w.sb) (readT t w.sc) = [] → pairOk (tileFmt da) (tileFmt db) = true →
        mmaWindows (ctxNow s c) k da db = [] → QueueRoom s c e →
        exec (.mma c w) s = .next (queuedOn s c e set
          (.mma da db (if w.md.getLsbD 0 then some (w.imm.extractLsb' 0 16).toInt else none)) false false))
    ∧ (OpAt 0x71 c w s → badUnused { dst := true } w = false → w.dst.toNat < 8 → QueueRoom s c e →
        exec (.wflush c w) s = .next (queuedOn s c e set .wflush true true))
    ∧ (OpAt 0x72 c w s → bodyRstore.illegal (ctxNow s c) k (thrOf s c) w = false →
        RegsFree s c (.s w.sa.toNat :: (if immMx w then [.s w.sb.toNat] else [])) →
        storeRegion (ctxNow s c) k (readS t w.sa) (64 * fmtWidth (immFmtOf w)) 64 = [] →
        (immMx w = true → storeRegion (ctxNow s c) k (readS t w.sb) 16 16 = []) → QueueRoom s c e →
        exec (.rstore c w) s = .next (queuedOn s c e set
          (.rstore (readS t w.sa).toNat (if immMx w then (readS t w.sb).toNat else 0) (w.imm.toNat % 16) (immModeOf w) (immScale w)
            (w.md.getLsbD 0) (genKey k (thrOf s c))) (w.md.getLsbD 0) (w.md.getLsbD 0 && x.flushed)))
    ∧ (OpAt 0x73 c w s → bodyXstore.illegal (ctxNow s c) k (thrOf s c) w = false → RegsFree s c [.s w.sa.toNat] →
        storeRegion (ctxNow s c) k (readS t w.sa) 65536 64 = [] → QueueRoom s c e →
        exec (.xstore c w) s = .next (queuedOn s c e set (.xstore (readS t w.sa).toNat (w.md.getLsbD 0)) (w.md.getLsbD 0) (w.md.getLsbD 0 && x.flushed)))
    ∧ (OpAt 0x74 c w s → badUnused { dst := true, imm := true } w = false → w.dst.toNat < 16 → badSpImm w = false → RegsFree s c [.ln w.dst.toNat] →
        QueueRoom s c ie → exec (.spget c w) s = .next (queuedOn s c ie iset (.spget w.dst.toNat el) y.flushed y.flushed))
    ∧ (OpAt 0x75 c w s → badUnused { sb := true, imm := true } w = false → w.sb.toNat < 16 → badSpImm w = false → RegsFree s c [.ln w.sb.toNat] →
        QueueRoom s c ie → exec (.spadd c w) s = .next (queuedOn s c ie iset (.spadd (readLn k w.sb.toNat) el) y.flushed y.flushed))
    ∧ (OpAt 0x76 c w s → badUnused { dst := true } w = false → w.dst.toNat < 8 → QueueRoom s c e →
        exec (.mclr c w) s = .next (queuedOn s c e set .mclr true false))

/-- R155 Table 10: LNADD, LNMOV, LNCLR, LNNEG write LNd after 4 steps; LNLANE adds the selected lanes, LNRND rounds a long register into
sD, and sets NV where the rounding is out of range. -/
def Obligations.LongRegisterOperations : Prop :=
  ∀ (s : State) (c : Nat) (w : OpWord), portFree (coreNext s c) = true → let k := coreNext s c
    let d := w.dst.toNat; let a := w.sa.toNat
    (OpAt 0x80 c w s → badUnused { dst := true, sa := true, sb := true } w = false → d < 16 → a < 16 → w.sb.toNat < 16 →
        RegsFree s c [.ln d, .ln a, .ln w.sb.toNat] →
        exec (.lnadd c w) s = .next (lauResult s c 1 4 (.ln d (lrAdd (readLn k a) (readLn k w.sb.toNat)))))
    ∧ (OpAt 0x81 c w s → badUnused { dst := true, sa := true } w = false → d < 16 → a < 16 → RegsFree s c [.ln d, .ln a] →
        exec (.lnmov c w) s = .next (lauResult s c 1 4 (.ln d (readLn k a))))
    ∧ (OpAt 0x82 c w s → badUnused { dst := true } w = false → d < 16 → RegsFree s c [.ln d] →
        exec (.lnclr c w) s = .next (lauResult s c 1 4 (.ln d lrZero)))
    ∧ (OpAt 0x83 c w s → badUnused { dst := true, sa := true } w = false → d < 16 → a < 16 → RegsFree s c [.ln d, .ln a] →
        exec (.lnneg c w) s = .next (lauResult s c 1 4 (.ln d (lrNeg (readLn k a)))))
    ∧ (OpAt 0x84 c w s → badUnused { dst := true, sa := true, sc := w.md.getLsbD 0, md := true } w = false → d < 16 → a < 8 → w.md.toNat < 4 →
        RegsFree s c ([.ln d, .v a] ++ if w.md.getLsbD 0 then [.s w.sc.toNat] else []) →
        exec (.lnlane c w) s = .next (lauResult s c 4 6 (.ln d (lrAdd (readLn k d) (lrSum
          ((laneIdx.filter fun l => !w.md.getLsbD 0 || (readS (thrNext s c) w.sc).getLsbD l).map fun l =>
            lrOfVal (laneVal (w.md.getLsbD 1) (lane (readV (thrNext s c) w.sa) l))))))))
    ∧ (OpAt 0x85 c w s → bodyLnrnd.illegal (ctxNow s c) k (thrOf s c) w = false → RegsFree s c [.s d, .ln a] →
        let x := roundOutK (immFmtOf w) (immModeOf w) (srDraw (immModeOf w) (genKey k (thrOf s c)) 0) (immScale w) (lrVal (readLn k a))
        exec (.lnrnd c w) s = .next (issued s c
          (scheduleNv (result { k with portLeft := 1 } (thrOf s c) 4 (.s d (BitVec.ofNat 64 x.1))) (k.step + 4) (thrOf s c) x.2) ((thrNext s c).pc + 8)))

/-! ### Vectors (spec/05 R156 to R158, spec/03 R87, R88) -/

/-- R156, R87: a vector operation writes all 64 lanes of vD after its latency, each lane as the operation computes it from the same lane
of its sources. -/
def Obligations.VectorOperationsWorkLaneByLane : Prop :=
  ∀ r ∈ vecRows, ∀ (s : State) (c : Nat) (w : OpWord),
    OpAt r.op c w s → badUnused r.uses w = false → w.dst.toNat < 8 → vecRegs (r.srcs w) = true → (r.mode = true → badMode w = false) →
    RegsFree s c (.v w.dst.toNat :: r.srcs w) → (coreNext s c).veLeft = 0 →
    ∃ x : BitVec 2048, exec (r.cmd c w) s = .next (veResult s c 1 r.lat (.v w.dst.toNat x))
      ∧ ∀ l < 64, lane x l = r.f (coreNext s c) (thrOf s c) (thrNext s c) w l

/-- R157, R88, R158, R156: VCVT converts each lane from the format IMM[3:0] to IMM[7:4] and sets NV where a lane is out of range; VFN
evaluates a function; VCMP writes the 64-bit mask of its condition into sD; VLANE reads lane IMM. -/
def Obligations.VectorConversionsFunctionsAndMasks : Prop :=
  ∀ (s : State) (c : Nat) (w : OpWord), (coreNext s c).veLeft = 0 → let k := coreNext s c; let t := thrNext s c; let th := thrOf s c
    (OpAt 0x56 c w s → bodyVcvt.illegal (ctxNow s c) k th w = false → RegsFree s c [.v w.dst.toNat, .v w.sa.toNat] →
        let f := fun l => convertLane (immFmtOf w) ((fmtOfCode (w.imm.toNat / 16 % 16)).getD .fp32) (modMode w) (srDraw (modMode w) (genKey k th) l) (immScale w) (va t w l)
        ∃ x : BitVec 2048, exec (.vcvt c w) s = .next (issued s c
            (scheduleNv (result { k with veLeft := 1 } th 8 (.v w.dst.toNat x)) (k.step + 8) th (laneIdx.any fun l => (f l).2)) (t.pc + 8))
          ∧ ∀ l < 64, lane x l = (f l).1)
    ∧ (OpAt 0x60 c w s → bodyVfn.illegal (ctxNow s c) k th w = false → RegsFree s c [.v w.dst.toNat, .v w.sa.toNat] →
        let f := (vfunOf (w.imm.toNat % 16)).getD .exp
        let arg := fun l => vfnArg ((fmtOfCode (w.imm.toNat / 16 % 16)).getD .fp32) (va t w l)
        let time := vfunTime f (laneIdx.any fun l => bigLane (arg l))
        ∃ x : BitVec 2048, exec (.vfn c w) s = .next (veResult s c time.2 time.1 (.v w.dst.toNat x))
          ∧ ∀ l < 64, lane x l = vfunLane f (modMode w) (arg l))
    ∧ (OpAt 0x61 c w s → badUnused { dst := true, sa := true, sb := true, md := true } w = false → w.sa.toNat < 8 → w.sb.toNat < 8 →
        RegsFree s c [.s w.dst.toNat, .v w.sa.toNat, .v w.sb.toNat] →
        ∃ m : W64, exec (.vcmp c w) s = .next (veResult s c 1 4 (.s w.dst.toNat m))
          ∧ ∀ l < 64, m.getLsbD l = laneCmp (w.md.toNat % 8) (w.md.getLsbD 3) (va t w l) (vb t w l))
    ∧ (OpAt 0x5A c w s → badUnused { dst := true, sa := true, imm := true } w = false → w.sa.toNat < 8 → w.imm.toNat < 64 →
        RegsFree s c [.s w.dst.toNat, .v w.sa.toNat] →
        exec (.vlane c w) s = .next (veResult s c 1 4 (.s w.dst.toNat ((va t w w.imm.toNat).zeroExtend 64))))

/-! ### Indexed operations (spec/05 R159, R160; spec/04 R121 to R128) -/

/-- R121 to R128, R159, R160: a gather whose selected lanes lie in the scratchpad queues its distinct words; with a lane elsewhere it is a
gated request. VSCAT and VSCADD queue their scratchpad words and post the others as one operation. XSCADD adds a long register, or with
MOD[1] the wide word at sB: the read is queued, and for a target in the scratchpad the addition behind it, which keeps its place in its
banks (the model's reading, log 252). -/
def Obligations.GatherScatterAndExactAdd : Prop :=
  ∀ (s : State) (c : Nat) (w : OpWord), let k := coreNext s c; let t := thrNext s c; let th := thrOf s c; let x := ctxNow s c
    let ga := laneAddrs t false w; let sa := laneAddrs t true w
    let gk : LoadKind := .gather w.dst.toNat (laneIdx.map fun l => (ga.find? fun p => p.1 == l).map Prod.snd) (readV t w.dst)
    let a := effAddr t w
    (OpAt 0x40 c w s → bodyVgath.illegal x k th w = false → RegsFree s c (bodyVgath.reads w) → LanesOk s c ga 4 → ga ≠ [] →
        lanesOut ga = [] → banksFree k (laneWords ga) = true → exec (.vgath c w) s = .next (issuedOut s c (addLoad k th gk (laneWords ga)) []))
    ∧ (OpAt 0x40 c w s → bodyVgath.illegal x k th w = false → RegsFree s c (bodyVgath.reads w) → ga = [] →
        exec (.vgath c w) s = .next (issuedResult s c 8 (.v w.dst.toNat (readV t w.dst))))
    ∧ (OpAt 0x40 c w s → bodyVgath.illegal x k th w = false → RegsFree s c (bodyVgath.reads w) → LanesOk s c ga 4 →
        lanesOut ga ≠ [] → gatedRoom k th = true →
        exec (.vgath c w) s = .next (issuedOut s c (addGated k th (laneClass x k ga) (.load gk))
          ((laneWords (lanesOut ga)).map fun wd => .mem false (wd / 64) (firstIn (lanesOut ga) wd) (regionWord (regionAt x (firstIn (lanesOut ga) wd) 4)) .read)))
    ∧ (OpAt 0x41 c w s → bodyVscat.illegal x k th w = false → RegsFree s c (scatterReads w) → LanesOk s c sa 4 →
        banksFree k (laneWords (lanesIn sa)) = true → lanesOut sa = [] →
        exec (.vscat c w) s = .next (issuedOut s c
          (pushSpad k ((laneWords (lanesIn sa)).map fun wd => spadReq k th wd (.write (scatterWord sa (lane (readV t w.sc)) wd)))) []))
    ∧ (OpAt 0x41 c w s → bodyVscat.illegal x k th w = false → RegsFree s c (scatterReads w) → LanesOk s c sa 4 →
        banksFree k (laneWords (lanesIn sa)) = true → lanesOut sa ≠ [] → PostRoom s c →
        exec (.vscat c w) s = .next (scattered s c sa (fun wd => .write (scatterWord sa (lane (readV t w.sc)) wd)) fun wd => .write (scatterWord sa (lane (readV t w.sc)) wd)))
    ∧ (OpAt 0x42 c w s → bodyVscadd.illegal x k th w = false → RegsFree s c (scatterReads w) → LanesOk s c sa 64 →
        banksFree k (laneWords (lanesIn sa)) = true → lanesOut sa = [] →
        exec (.vscadd c w) s = .next (issuedOut s c
          (pushSpad k ((laneWords (lanesIn sa)).map fun wd => spadReq k th wd (.narrowAdd (scaddSum (w.md.getLsbD 1) sa (lane (readV t w.sc)) wd)))) []))
    ∧ (OpAt 0x42 c w s → bodyVscadd.illegal x k th w = false → RegsFree s c (scatterReads w) → LanesOk s c sa 64 →
        banksFree k (laneWords (lanesIn sa)) = true → lanesOut sa ≠ [] → PostRoom s c →
        exec (.vscadd c w) s = .next (scattered s c sa (fun wd => .narrowAdd (scaddSum (w.md.getLsbD 1) sa (lane (readV t w.sc)) wd)) fun wd => .narrowAdd (scaddSum (w.md.getLsbD 1) sa (lane (readV t w.sc)) wd)))
    ∧ (∀ off, OpAt 0x43 c w s → bodyXscadd.illegal x k th w = false → w.md.getLsbD 1 = false → RegsFree s c [.s w.sa.toNat, .ln w.sb.toNat] →
        xaddLen a = 128 → SpadAccess s c a 128 64 off →
        exec (.xscadd c w) s = .next (issuedOut s c (pushSpad k [spadReq k th off (.wideAdd (readLn k w.sb.toNat))]) []))
    ∧ (∀ g, OpAt 0x43 c w s → bodyXscadd.illegal x k th w = false → w.md.getLsbD 1 = false → RegsFree s c [.s w.sa.toNat, .ln w.sb.toNat] →
        FarStore s c a (xaddLen a) 64 g →
        exec (.xscadd c w) s = .next (issuedOut s c (addPosted k th (classOf x g) a false)
          [.mem true 0 a g (if isTenant g then .narrowAdd (readLn k w.sb.toNat) else .wideAdd (readLn k w.sb.toNat))]))
    ∧ (∀ g off, OpAt 0x43 c w s → bodyXscadd.illegal x k th w = false → w.md.getLsbD 1 = true → RegsFree s c [.s w.sa.toNat, .s w.sb.toNat] →
        SpadAccess s c (readS t w.sb) 128 64 off → AccessTo s c a (xaddLen a) 64 g → PostRoom s c →
        (∀ o, g = .spad o → banksFree k (wordsOf o (xaddLen a)) = true) →
        exec (.xscadd c w) s = .next (issuedOut s c
          (pushSpad (if isSpad g then k else addPosted k th (classOf x g) a false) (spadReq k th off (.wideRead g a) :: waitingAdd k th g)) []))

/-! ### DMA, synchronisation, the fabric (spec/05 R161 to R166) -/

/-- R161, R164, R201, R52: DMA, WAIT, SPOLL and TBRD become gated requests of their classes; SIGNAL and SRESET take a posted entry. -/
def Obligations.DmaSignalsAndTimebase : Prop :=
  ∀ (s : State) (c : Nat) (w : OpWord), let k := coreNext s c; let t := thrNext s c; let th := thrOf s c
    (∀ src dst n, OpAt 0x90 c w s → badUnused { dst := true, sa := true, sb := true, sc := true } w = false → ThreeRegs s c w →
        n = (readS t w.sc).toNat → 0 < n → n ≤ 2 ^ 30 → regionOf (ctxNow s c) (readS t w.sa) n = some src → regionOf (ctxNow s c) (readS t w.sb) n = some dst →
        openCheck (ctxNow s c) k dst n (readS t w.sb) = [] → gatedRoom k th = true → (ctxNow s c).dmaFree = true → WindowRoom s c dst →
        exec (.dma c w) s = .next (issuedOut s c (openWindow (addGated k th .dmaDone (.scalar w.dst.toNat)) th dst n) [.dma src dst n]))
    ∧ (OpAt 0x91 c w s → badUnused { sa := true, sb := !w.md.getLsbD 0, md := true, imm := w.md.getLsbD 0 } w = false → w.md.toNat < 2 →
        RegsFree s c (.s w.sa.toNat :: if w.md.getLsbD 0 then [] else [.s w.sb.toNat]) → PostRoom s c →
        exec (.signal c w) s = .next (issuedOut s c (addPosted k th .syncWait (readS t w.sa) true)
          [.signal (readS t w.sa) (if w.md.getLsbD 0 then w.imm.zeroExtend 64 else readS t w.sb)]))
    ∧ (OpAt 0x92 c w s → badUnused { dst := true, sa := true, sb := true } w = false → RegsFree s c [.s w.dst.toNat, .s w.sa.toNat, .s w.sb.toNat] →
        gatedRoom k th = true → exec (.wait c w) s = .next (gatedOut s c k .syncWait w (.wait (readS t w.sa) (readS t w.sb))))
    ∧ (OpAt 0x93 c w s → badUnused { sa := true } w = false → RegsFree s c [.s w.sa.toNat] → PostRoom s c →
        exec (.sreset c w) s = .next (issuedOut s c (addPosted k th .syncWait (readS t w.sa) false) [.sreset (readS t w.sa)]))
    ∧ (OpAt 0x94 c w s → badUnused { dst := true, sa := true } w = false → (ctxNow s c).lock = false → RegsFree s c [.s w.dst.toNat, .s w.sa.toNat] →
        gatedRoom k th = true → exec (.spoll c w) s = .next (gatedOut s c k .syncWait w (.spoll (readS t w.sa))))
    ∧ (OpAt 0xC3 c w s → badUnused { dst := true } w = false → RegsFree s c [.s w.dst.toNat] → gatedRoom k th = true →
        exec (.tbrd c w) s = .next (gatedOut s c k .timebase w .timebase))

/-- R161 Table 15: the atomics on 8 bytes hand out the operand sA, the compare value sD, the rank sB and the address sC. R161, R162, R165: FRD,
FWR, SEND, RECV and PROBE become gated requests of the fabric class; FRD and RECV open a window over a scratchpad destination (R98). -/
def Obligations.FabricOperationsAreSent : Prop :=
  ((∀ r ∈ atomRows, ∀ (s : State) (c : Nat) (w : OpWord), let t := thrNext s c
      OpAt 0xA2 c w s → w.md.toNat = r.md → badUnused { dst := true, sa := true, sb := true, sc := true, md := true } w = false → ThreeRegs s c w →
      (readS t w.sc).toNat % 8 = 0 → gatedRoom (coreNext s c) (thrOf s c) = true →
      exec (r.cmd c w) s = .next (gatedOut s c (coreNext s c) .fabric w (.fatom r.kind (readS t w.sa) (readS t w.dst) none (readS t w.sb) (readS t w.sc))))
    ∧ (∀ (s : State) (c : Nat) (w : OpWord) (g : Region), let t := thrNext s c
      OpAt 0xA2 c w s → w.md.toNat = 5 → badUnused { dst := true, sa := true, sb := true, sc := true, md := true } w = false → ThreeRegs s c w →
      (readS t w.sc).toNat % 64 = 0 → AccessTo s c (readS t w.sa) 128 64 g → isTenant g = false → gatedRoom (coreNext s c) (thrOf s c) = true →
      exec (.fatomXadd c w) s = .next (gatedOut s c (coreNext s c) .fabric w (.fatom .xadd 0 0 (some g) (readS t w.sb) (readS t w.sc)))))
  ∧ (∀ (s : State) (c : Nat) (w : OpWord) (g : Region), let k := coreNext s c; let t := thrNext s c; let th := thrOf s c
      gatedRoom k th = true →
      let all : Uses := { dst := true, sa := true, sb := true, sc := true, imm := true }
      let n := (readS t w.sc).toNat; let tag := w.imm.toNat % 65536
      (OpAt 0xA0 c w s → badUnused all w = false → ThreeRegs s c w → (readS t w.sc).toNat % 8 = 0 → LocalRange s c (readS t w.sa) w.imm.toNat g →
          openCheck (ctxNow s c) k g w.imm.toNat (readS t w.sa) = [] → WindowRoom s c g →
          exec (.frd c w) s = .next (issuedOut s c (openWindow (addGated k th .fabric (.scalar w.dst.toNat)) th g w.imm.toNat)
            [.frd g (readS t w.sb) (readS t w.sc) w.imm.toNat]))
      ∧ (OpAt 0xA1 c w s → badUnused all w = false → ThreeRegs s c w → (readS t w.sc).toNat % 8 = 0 → LocalRange s c (readS t w.sa) w.imm.toNat g →
          windowCheck (ctxNow s c) k g w.imm.toNat (readS t w.sa) = [] →
          exec (.fwr c w) s = .next (gatedOut s c k .fabric w (.fwr g (readS t w.sb) (readS t w.sc) w.imm.toNat)))
      ∧ (OpAt 0xA3 c w s → badUnused all w = false → w.imm.toNat < 65536 → ThreeRegs s c w → LocalRange s c (readS t w.sa) n g →
          windowCheck (ctxNow s c) k g n (readS t w.sa) = [] →
          exec (.send c w) s = .next (gatedOut s c k .fabric w (.send g (readS t w.sb) n tag)))
      ∧ (OpAt 0xA4 c w s → badUnused { all with md := true } w = false → w.md.toNat < 2 → ((ctxNow s c).lock = true → w.md.getLsbD 0 = false) →
          w.imm.toNat < 65536 → ThreeRegs s c w → LocalRange s c (readS t w.sa) n g → openCheck (ctxNow s c) k g n (readS t w.sa) = [] → WindowRoom s c g →
          exec (.recv c w) s = .next (issuedOut s c (openWindow (addGated k th .fabric (.scalar w.dst.toNat)) th g n)
            [.recv g (w.md.getLsbD 0) (readS t w.sb) n tag]))
      ∧ (OpAt 0xA5 c w s → badUnused { dst := true, sb := true, md := true, imm := true } w = false → w.md.toNat < 2 → (ctxNow s c).lock = false →
          w.imm.toNat < 65536 → RegsFree s c [.s w.dst.toNat, .s w.sb.toNat] →
          exec (.probe c w) s = .next (gatedOut s c k .fabric w (.probe (w.md.getLsbD 0) (readS t w.sb) tag))))

/-- R161 Table 16, R348, R354: a collective becomes a gated request with its group, its extents and its count, and opens a window over a
scratchpad destination; a BARRIER has neither, and on the fence group it advances the atomic phase (R356). -/
def Obligations.Collectives : Prop :=
  (∀ r ∈ collRows, ∀ (s : State) (c : Nat) (w : OpWord), let k := coreNext s c; let t := thrNext s c; let th := thrOf s c; let x := ctxNow s c
    let n := w.imm.toNat % 2 ^ 24; let grp := readS t w.sa
    OpAt 0xB0 c w s → w.md.toNat = r.md → badUnused { dst := true, sa := true, sb := true, sc := true, md := true, imm := true } w = false →
    w.imm.toNat < 2 ^ 24 → ThreeRegs s c w → (collBody r.kind).checks x k th w = [] → gatedRoom k th = true →
    (collWindow x r.kind (collUnit r.kind) n grp (readS t w.sc) = none ∨ windowRoom k = true) →
    exec (r.cmd c w) s = .next (issuedOut s c
      (match collWindow x r.kind (collUnit r.kind) n grp (readS t w.sc) with
        | some p => openWindow (addGated k th .fabric (.scalar w.dst.toNat)) th p.1 p.2
        | none => addGated k th .fabric (.scalar w.dst.toNat))
      [.coll r.kind grp
        (match x.group grp with | some (m, root, _) => (collSpans r.kind n m root).1.bind fun b => regionOf x (readS t w.sb) b | none => none)
        (match x.group grp with | some (m, root, _) => (collSpans r.kind n m root).2.bind fun b => regionOf x (readS t w.sc) b | none => none) n]))
  ∧ (∀ (s : State) (c : Nat) (w : OpWord), let k := coreNext s c; let grp := readS (thrNext s c) w.sa
    OpAt 0xB0 c w s → w.md.toNat = 5 → badUnused { dst := true, sa := true, md := true } w = false → RegsFree s c [.s w.dst.toNat, .s w.sa.toNat] →
    gatedRoom k (thrOf s c) = true →
    exec (.collBarrier c w) s = .next (gatedOut s c
      (match (ctxNow s c).group grp with | some (_, _, true) => { k with aphase := k.aphase + 1 } | _ => k) .fabric w (.coll .barrier grp none none 0)))

/-- R167 to R169: RAND draws 64 bits, VRAND a lane each; STEPRD reads the step counter or the thread's count; FLAGS reads NV and clears
it when MOD[0] is set; TDW writes half a tile register, TDR reads one. -/
def Obligations.DrawsCountersAndTileRegisters : Prop :=
  ∀ (s : State) (c : Nat) (w : OpWord), let k := coreNext s c; let t := thrNext s c; let th := thrOf s c; let g := genKey k th
    (OpAt 0xC0 c w s → badUnused { dst := true, sa := true, md := true, imm := true } w = false → w.md.toNat < 2 → RegsFree s c [.s w.dst.toNat, .s w.sa.toNat] →
        let e := (effAddr t w).toNat % 2 ^ 32
        exec (.rand c w) s = .next (issuedResult s c 10 (.s w.dst.toNat
          (if w.md.getLsbD 0 then draw g 3 e ++ draw g 2 e else draw g 1 e ++ draw g 0 e))))
    ∧ (OpAt 0xC1 c w s → badUnused { dst := true, sa := true, md := true } w = false → w.dst.toNat < 8 → w.md.toNat < 8 →
        RegsFree s c [.v w.dst.toNat, .s w.sa.toNat] → k.veLeft = 0 →
        ∃ x : BitVec 2048, exec (.vrand c w) s = .next (veResult s c 1 10 (.v w.dst.toNat x))
          ∧ ∀ l < 64, let y := draw g (w.md.toNat % 4) (((readS t w.sa).toNat + l) % 2 ^ 32)
            lane x l = if w.md.getLsbD 2 then unitFloat y else y)
    ∧ (OpAt 0xC2 c w s → badUnused { dst := true, md := true } w = false → w.md.toNat < 2 → RegsFree s c [.s w.dst.toNat] →
        exec (.steprd c w) s = .next (issuedResult s c 2 (.s w.dst.toNat (if w.md.getLsbD 0 then t.count else k.step))))
    ∧ (OpAt 0xC4 c w s → badUnused { dst := true, md := true } w = false → w.md.toNat < 2 → RegsFree s c [.s w.dst.toNat] →
        let k1 := result k th 2 (.s w.dst.toNat (if t.nv then 1 else 0))
        exec (.flags c w) s = .next (issued s c (if w.md.getLsbD 0 then modThread k1 th fun t => { t with nv := false } else k1) (t.pc + 8)))
    ∧ (OpAt 0xC5 c w s → badUnused { dst := true, sa := true, md := true } w = false → w.dst.toNat < 8 → w.md.toNat < 2 →
        RegsFree s c [.t w.dst.toNat, .s w.sa.toNat] →
        exec (.tdw c w) s = .next (issuedResult s c 2 (.t w.dst.toNat (w.md.getLsbD 0) (readS t w.sa))))
    ∧ (OpAt 0xC6 c w s → badUnused { dst := true, sa := true, md := true } w = false → w.sa.toNat < 8 → w.md.toNat < 2 →
        RegsFree s c [.s w.dst.toNat, .t w.sa.toNat] →
        exec (.tdr c w) s = .next (issuedResult s c 2 (.s w.dst.toNat
          (BitVec.ofNat 64 ((readT t w.sa).toNat / (if w.md.getLsbD 0 then 2 ^ 64 else 1))))))

/-! ### What an issue leaves, and what raises (spec/05 R170, R171; spec/04 R90) -/

/-- R35, R83, R90: whatever an operation of a core does to its core, its issue changes only that core and the count of stalled time: the
other cores, memories, saggars, keys, units and events stand as before, and the core's step counter advances by one, its thread's step
count by one. -/
def Obligations.IssueFrame : Prop :=
  ∀ (s : State) (c : Nat) (k : Core) (f : Thread → Thread), let t := issuedBy s c k f
    (∀ d, d ≠ c → getCore t d = getCore s d)
    ∧ (getCore t c).step = k.step + 1 ∧ (getThread (getCore t c) (thrOf s c)).count = (f (getThread k (thrOf s c))).count + 1
    ∧ (getCore t c).spad = k.spad ∧ (getCore t c).ln = k.ln ∧ (getCore t c).writes = k.writes ∧ (getCore t c).gated = k.gated
    ∧ (getCore t c).posted = k.posted ∧ (getCore t c).spadQ = k.spadQ ∧ (getCore t c).code = k.code
    ∧ (∀ th, th ≠ thrOf s c → getThread (getCore t c) th = getThread k th)
    ∧ t.mem = s.mem ∧ t.fab = s.fab ∧ t.stm = s.stm ∧ t.sgs = s.sgs ∧ t.keys = s.keys ∧ t.kln = s.kln ∧ t.lnt = s.lnt ∧ t.flt = s.flt
    ∧ t.rst = s.rst ∧ t.tst = s.tst ∧ t.pwr = s.pwr ∧ t.pin = s.pin ∧ t.evq = s.evq ∧ t.lines = s.lines ∧ t.sent = s.sent ∧ t.pending = s.pending
    ∧ t.tb.tb = s.tb.tb ∧ (∀ off, off ≠ r_DET_GSTALL_US → rget t off = rget s off)

/-- R135, R170: a scalar operation with a non-zero field that its form leaves unused takes ILLEGAL with its word in XINFO; its destination is
not written. R170, R172: a thread in EXC keeps its record and sets XOVF. R145, R170, Table 19: LD at an address that is no multiple of its
width takes MISALIGNED with the address in XINFO. -/
def Obligations.ReservedFieldsAndMisalignmentRaise : Prop :=
  ((∀ r ∈ scalarRows, ∀ (s : State) (c : Nat) (w : OpWord), OpAt r.op c w s → badB w = true →
      RegsFree s c (.s w.sa.toNat :: (if w.md.getLsbD 0 then [] else [.s w.sb.toNat])) →
      exec (r.cmd c w) s = .next (raised s c 1 (opEncode r.op w)))
    ∧ (∀ (t : Thread) (cause : Nat) (pc x : W64), t.st ≠ .exc → takeException t cause pc x = { t with st := .exc, xcause := BitVec.ofNat 8 cause, xpc := pc, xinfo := x })
    ∧ (∀ (t : Thread) (cause : Nat) (pc x : W64), t.st = .exc → takeException t cause pc x = { t with xovf := true }))
  ∧ (∀ (s : State) (c : Nat) (w : OpWord), let a := effAddr (thrNext s c) w
      OpAt 0x30 c w s → badUnused { dst := true, sa := true, md := true, imm := true } w = false → w.md.getLsbD 3 = false →
      RegsFree s c [.s w.sa.toNat] → a.toNat % 2 ^ (w.md.toNat % 4) ≠ 0 →
      exec (.ld c w) s = .next (raised s c 2 a))

/-! ### Between issues (spec/02 R44, R45; spec/04 R90 to R116; spec/05 R139, R147, R174; spec/13 R408, R415) -/

/-- R90: a core may take its step and its thread issues nothing: it stands in HALT or EXC, waits for a step, or a register that the operation at
its PC reads is still to be written. The step counter advances; of the core's context nothing changes. R147, R139, R174: POSTED_PERFORMED
notes how the words of a posted operation ended, and its signals that waited are released; LOGICAL_CORE_END ends a core whose threads have
all stopped and of which nothing is outstanding. -/
def Obligations.BubblesPassAndPostedOperationsEnd : Prop :=
  (∀ (s : State) (c : Nat), let k := coreNext s c
      (coreReady s c (getCore s c) = true ∧ threadOffered k (thrOf s c) = false)
        ∨ (∃ r ∈ scalarRows, ∃ w, OpAt r.op c w s ∧ regBusy k (thrOf s c) (.s w.sa.toNat) = true) →
      ∃ t, exec (.bubble c) s = .next t ∧ (getCore t c).step = k.step + 1
        ∧ (∀ th, getThread (getCore t c) th = getThread k th) ∧ (getCore t c).spad = k.spad ∧ (getCore t c).ln = k.ln
        ∧ (getCore t c).gated = k.gated ∧ (getCore t c).posted = k.posted ∧ (getCore t c).writes = k.writes
        ∧ (∀ d, d ≠ c → getCore t d = getCore s d) ∧ t.mem = s.mem ∧ t.evq = s.evq ∧ t.lines = s.lines)
  ∧ ((∀ (s : State) (c : Nat) (p : Posted), let k := getCore s c
      k.posted.find? (fun q => q.issue == p.issue) = some p → postedOver s c k p = true →
      exec (.postedPerformed c p.issue) s = .next (releaseSignals (modCore (dropAccs s c p.issue) c fun k =>
        { k with posted := k.posted.map fun (q : Posted) => if q = p then
            { q with status := match accFailed (accsOf s c p.issue) with
                      | some a => .failed a
                      | none => .performed } else q }) c))
    ∧ (∀ (s : State) (c : Nat), let k := getCore s c
      k.mode = .live → dieUp s (dieOf c) = true → stepEventsDue k = false → (∀ th < k.rl, (getThread k th).st ≠ .run) → nothingOutstanding k = true →
      exec (.logicalCoreEnd c) s = .next (setCore s c { k with mode := .over, ended := true })))

/-- R44, R45, R170: RESULT_ARRIVAL marks the request with what its words make; GATED_DELIVERY delivers the first request that falls due:
a scalar result goes into its register, a failure raises ACCESS in its thread, the request leaves its list, and the thread's windows of
that operation close. -/
def Obligations.GatedResultsArriveAndAreDelivered : Prop :=
  (∀ (s : State) (c : Nat) (g : Gated), let k := getCore s c
    k.gated.find? (fun x => x.issue == g.issue && !x.arrived) = some g → k.extQ.any (fun e => e.issue == g.issue) = false →
    (∀ dst l, g.kind ≠ .fence dst l) →
    (∀ r, g.result = some r → exec (.resultArrival c g.issue) s = .next (modCore s c fun k => withResult k g r))
    ∧ (∀ lk, g.kind = .load lk → g.result = none → (accsOf s c g.issue).all (fun p => accEnded p.2) = true →
        exec (.resultArrival c g.issue) s =
          .next (modCore (dropAccs s c g.issue) c fun k => withResult k g (loadResult (accsOf s c g.issue)))))
  ∧ (∀ (s : State) (c : Nat) (g : Gated) (rest : List Gated), let k := getCore s c
    coreMoves s c k = true → dueGated (coreLock s k) k = g :: rest → gatedHere k g = true → logActive s k.sg = false →
    exec (.gatedDelivery c) s = .next (setCore (endStall s c) c { deliver k g with active := s.tb.tb, stallAt := none }))
  ∧ (∀ (k : Core) (g : Gated) (dst : Nat), g.kind = .scalar dst →
    (deliver k g).gated = k.gated.erase g ∧ (deliver k g).step = k.step ∧ (deliver k g).spad = k.spad ∧ (deliver k g).posted = k.posted
    ∧ (deliver k g).wins = k.wins.filter (fun w => w.issue != g.issue)
    ∧ (∀ v, g.result = some (.value v) → 0 < dst → dst < 32 → readS (getThread (deliver k g) g.thread) (BitVec.ofNat 5 dst) = v)
    ∧ (∀ x, g.result = some (.fail x) → (getThread k g.thread).st ≠ .exc →
        getThread (deliver k g) g.thread = { getThread k g.thread with st := .exc, xcause := 7, xpc := g.pc, xinfo := x }))

/-- R96 to R98, R112, R415: a bank grants the oldest word that waits for it: a write stores its bytes, a read gives the load its word; the
bank then has served this step. EXTERNAL_WRITE and RESULT_WORD_WRITE write theirs in the slots of their classes; SRAM_WRITEBACK
writes the corrected word back. Every byte outside the word written reads as before. -/
def Obligations.BanksServeTheirClasses : Prop :=
  (∀ (s : State) (c b : Nat) (r : SpadReq) (bs : List MByte), let k := getCore s c
    InStep s c → grantNext k b (nowOf k) = some r → r.act = .write bs → ∀ ecc,
    exec (.scratchpadGrant c b ecc) s = .next (setCore s c
      { k with spadQ := k.spadQ.erase r, served := bankOf r.addr :: k.served, spad := memWriteEn k.spad r.addr bs }))
  ∧ (∀ (s : State) (c b : Nat) (r : SpadReq) (l : SpadLoad), let k := getCore s c; let got := tblPut l.got (r.addr / 64) (spadWord k.spad r.addr)
    InStep s c → grantNext k b (nowOf k) = some r → r.act = .read → k.loads.find? (fun x => x.issue == r.issue) = some l →
    armedAt s [srcDie (dieOf c) 3, srcDie (dieOf c) 4] (some (clOf c, slotOf c)) = none → (∀ d, l.kind ≠ .long d) →
    l.need.all (fun n => (tblFind got n).isSome) = true →
    exec (.scratchpadGrant c b .clean) s = .next (setCore s c
      { k with spadQ := k.spadQ.erase r, served := bankOf r.addr :: k.served, loads := k.loads.filter (fun q => q.issue != l.issue),
               writes := k.writes ++ [{ due := nowOf k + 6, thread := l.thread, val := loadValue l.kind got }] }))
  ∧ (∀ (s : State) (c b : Nat) (r : ExtReq), let k := getCore s c
    coreOn s c = true → extNext k b (nowOf k) = some r →
    exec (.externalWrite c b) s = .next (setCore s c
      { k with extQ := k.extQ.erase r, spad := memWriteEn k.spad r.addr r.bytes, served := b :: k.served }))
  ∧ (∀ (s : State) (c b e : Nat) (r : ResWord), let k := getCore s c
    coreOn s c = true → slotClass b (nowOf k) = .result → b ∉ k.served → resultNext k b (nowOf k) = some (e, r) →
    ∃ t, exec (.resultWordWrite c b) s = .next t ∧ (getCore t c).spad = memWriteEn k.spad r.addr r.bytes
      ∧ (getCore t c).served = b :: k.served ∧ (getCore t c).threads = k.threads ∧ (∀ d, d ≠ c → getCore t d = getCore s d) ∧ t.mem = s.mem)
  ∧ (∀ (s : State) (c b : Nat), let k := getCore s c
    coreOn s c = true → b ∈ k.writebacks → slotClass b (nowOf k) = .thread → b ∉ k.served →
    exec (.sramWriteback c b) s = .next (setCore s c { k with writebacks := k.writebacks.filter (· != b), served := b :: k.served }))
  ∧ (∀ (m : Memory) (a x : Nat) (bs : List MByte), (x < a ∨ a + bs.length ≤ x) → memRead (memWriteEn m a bs) x = memRead m x)

/-- R101, R105, R112, R113, R404: an operation that dispatches. MMA and WFLUSH note their dispatch step, an MMA enters the span log; the words
of an RSTORE or XSTORE wait for their result slots; SPGET reads its element into a long register after 4 steps, SPADD adds to the element
and to both checkers, MCLR empties the set, and these three leave the queue. R106, R102 to R104, R110: the feeder brings the next listed
word of its bank into the operand buffer; an array step adds the products of its values of k to the 512 windows and to the checkers, and its
spills enter the spill queue; up to 16 spills retire in a step. -/
def Obligations.EnginesDispatchFeedStepAndRetire : Prop :=
  (∀ (s : State) (c e : Nat) (o : EngOp), Dispatching s c e o → let k := getCore s c; let n := nowOf k
      let x := getEng k e; let x0 : Engine := { x with mayDispatch := false }; let set := getSet x o.set
      let out := dropOp x0 o.issue
      (∀ a b fx, o.kind = .mma a b fx → set.log.length < 64 → set.logovf = false →
        exec (.mmaDispatch c e) s = .next (withEng s c e (updOp (putSet x0 o.set { set with log := set.log ++ [.mma a b fx [] 0] }) o.issue fun o =>
          { o with disp := some n, log := some set.log.length })))
      ∧ (o.kind = .wflush → exec (.wflushDispatch c e) s = .next (withEng s c e (updOp x0 o.issue fun o => { o with disp := some n })))
      ∧ (∀ a sa f m i kp key, o.kind = .rstore a sa f m i kp key → let ws := rstoreWords set o.issue a sa f m i key n; ws.2 = [] →
          exec (.rstoreDispatch c e) s = .next (withEng s c e (updOp { x0 with results := x.results ++ ws.1 } o.issue fun o => { o with disp := some n })))
      ∧ (∀ a kp, o.kind = .xstore a kp →
          exec (.xstoreDispatch c e) s = .next (withEng s c e
            (updOp { x0 with results := x.results ++ xstoreWords set o.issue a n } o.issue fun o => { o with disp := some n })))
      ∧ (∀ ln el, o.kind = .spget ln el → exec (.engineOpDispatch c e) s = .next (setCore s c
          { setEng k e out with writes := k.writes ++ [{ due := n + 4, thread := o.thread, val := .ln ln (setSpill set el) }], portLeft := max k.portLeft 1 }))
      ∧ (∀ v el, o.kind = .spadd v el → exec (.engineOpDispatch c e) s = .next (setCore s c
          { setEng k e (putSet out o.set (appendSpan (addRow (addCol (addSpill set el v) (el % 32) v) (el / 32) v) (.spadd el v))) with
            portLeft := max k.portLeft 1 }))
      ∧ (o.kind = .mclr → exec (.engineOpDispatch c e) s = .next (withEng s c e (putSet out o.set (emptySet set)))))
  ∧ (∀ (s : State) (c e : Nat), coreOn s c = true → e < 4 → let k := getCore s c; let n := nowOf k; let x := getEng k e
      (∀ o a, x.fetched = false → feedNext x e n = some (o, a) → let w := spadWord k.spad a
        exec (.feederFetch c e) s = .next (withEng s c e { putSet x o.set (logFetch (getSet x o.set) o.log a w) with
          fetched := true, fresh := some { issue := o.issue, addr := a, data := w } }))
      ∧ (∀ o a b fx, x.mayArray = true → activeMma x = some o → o.kind = .mma a b fx → o.done + 1 ≠ arraySteps a b →
          slabOf (pairRate a b) (o.done + 1) = slabOf (pairRate a b) o.done →
          let r := arrayProducts o.set (getSet x o.set) fx ((stepKs (pairRate a b) o.done).map (kOperands (bufLook x o.issue) a b))
          exec (.arrayStep c e) s = .next (withEng s c e
            (updOp (pushSpills (putSet { x with mayArray := false } o.set r.1) r.2) o.issue fun p => { p with done := o.done + 1 })))
      ∧ (x.mayRetire = true → x.mayArray = false → x.latch = [] → x.spillQ ≠ [] → x.spillQ.length ≤ 64 →
          exec (.spillRetire c e) s = .next (withEng s c e
            ((x.spillQ.take 16).foldl (fun x p => putSet x p.set (addSpill (getSet x p.set) p.elem (lrOfFin p.m p.e)))
              { x with spillQ := x.spillQ.drop 16, used := (x.spillQ.take 16).length, mayRetire := false }))))

/-- R111, R116 to R118: a WFLUSH ends with its last elements flushed and the set checked. A set with a class flag is only counted, one whose
sums agree is released; one that fails the check is held and waits for its classification, under LOCK with the core stalled. R407 to R410:
the repeat of the oldest classification ends. Where the first repeat's own check fails, the second follows on a sibling; where the span log
had overflowed, the set's values are discarded and the class is 7. -/
def Obligations.FlushesAndRepeatsDecide : Prop :=
  (∀ (s : State) (c e : Nat) (o : EngOp), let k := getCore s c; let x := getEng k e
      let set := flushElems (getSet x o.set) o.done (512 - o.done)
      let dropped := dropOp { x with used := 16 } o.issue
      coreOn s c = true → e < 4 → activeFlush x = some o → 512 ≤ o.done + flushRoom x → armedFlush s c e o.set = 0 →
      (∀ q ∈ k.classify, q.engine = e → q.set = o.set → q.since = s.tb.tb) →
      (setFlagged set = true →
        exec (.wflushComplete c e) s = .next (setCore s c { setEng k e (putSet dropped o.set set) with special := k.special + 1 }))
      ∧ (setFlagged set = false → checkSet (setSpill set) (setCol set) (setRow set) = none →
          exec (.wflushComplete c e) s = .next (withEng s c e (putSet dropped o.set set)))
      ∧ (∀ syn, setFlagged set = false → checkSet (setSpill set) (setCol set) (setRow set) = some syn → k.mode = .live → coreLock s k = false →
          exec (.wflushComplete c e) s = .next (setCore s c { setEng k e (putSet dropped o.set { set with held := true }) with
            classify := k.classify ++ [{ engine := e, set := o.set, syn := syn, second := x.suspect, began := nowOf k, since := s.tb.tb }] })))
  ∧ (∀ (s : State) (c : Nat) (q : Classify) (rest : List Classify), let k := getCore s c; let x := getEng k q.engine; let set := getSet x q.set
      k.classify = q :: rest → (k.mode = .live ∨ k.mode = .stopped) → dieUp s (dieOf c) = true → k.wedged = false →
      (set.logovf = true → let k' := { setEng k q.engine (putSet x q.set { emptySet set with held := false }) with classify := rest }
        exec (.repeatComplete c) s = .next (markSuspects (classEnd (setCore s c k') c 7 k q) c q.engine))
      ∧ (∀ r, r = repeatRun k.spad set.log (armedRepeat s c q.engine) → set.logovf = false → q.second = false → r.crcOk = true →
          (repeatPass r = false → exec (.repeatComplete c) s = .next (setCore s c { k with classify := { q with second := true } :: rest }))
          ∧ (repeatPass r = true → sameValues r.set set = false →
              exec (.repeatComplete c) s = .next (markSuspects (classEnd (setCore s c
                { setEng k q.engine (putSet x q.set (settleSet set r.set r.set)) with classify := rest }) c 1 k q) c q.engine))))

/-! ### Translation, DRAM and cluster memory (spec/06 R182 to R203; spec/04 R129; spec/13 R414 to R419) -/

/-- R192, R193: an access whose page the translation buffer holds, with the permission it needs, is ready at its controller with the word that
the leaf gives; one that is walked takes the leaf that the walk ends with. R195, R198: a fault makes a record and holds it. R199: RETRY lets
everything that record `tag` holds walk again and frees the record; REFUSE and the timeout of MMU_CTL.FTMO ms fail it. -/
def Obligations.AccessesAreTranslatedAndFaultsResolved : Prop :=
  (∀ (s : State) (id va : Nat) (a : Access), Translating s id a va → let d := dieOf a.core; let n := needOf a.act
      (∀ e, tbLook s d a.sg va = some e → (n.rd = true → pteRd e.leaf = true) → (n.wr = true → pteWr e.leaf = true) →
        exec (.translateAccess id true) s = .next (setStage s id (.ready
          { word := frameWord e.leaf (va % pageSize (tbLevel e)),
            tail := if pteAcc e.leaf then some (frameWord e.leaf (va % pageSize (tbLevel e) + pageSize (tbLevel e))) else none,
            tag := tagOfSg s a.sg })))
      ∧ (∀ p l, let w := fadd s r_MMU_WCNT f_MMU_WCNT_CNT 1
          walk w a.sg va = .leaf p l → (n.rd = true → pteRd p = true) → (n.wr = true → pteWr p = true) →
          exec (.translateAccess id false) s = .next (setStage
            (tbInsert w d { sg := a.sg, va := va / pageSize l * pageSize l, size := pageSize l, leaf := p }) id (.ready
              { word := frameWord p (va % pageSize l), tail := if pteAcc p then some (frameWord p (va % pageSize l + pageSize l)) else none,
                tag := tagOfSg s a.sg })))
      ∧ (∀ l, let w := fadd s r_MMU_WCNT f_MMU_WCNT_CNT 1
          walk w a.sg va = .absent l → replaying s a.sg = false →
          let f := faultRecord w d a.sg 1 l (midCore a.core) 0 n.acct va
          exec (.translateAccess id false) s = .next (let t := setStage f.1 id (.faulted f.2); if lockSet t then beginStall t a.core else t)))
  ∧ (∀ (s : State) (tag : Nat) (r : FaultRec), tblFind s.mem.faults tag = some r →
      (∃ t, exec (.faultRetry tag) s = .next t ∧ tblFind t.mem.faults tag = none
        ∧ (∀ id a, getAcc s id = some a → a.stage = .faulted (some tag) → getAcc t id = some { a with stage := .waiting })
        ∧ (∀ id a, getAcc s id = some a → a.stage ≠ .faulted (some tag) → getAcc t id = some a)
        ∧ t.cores = s.cores ∧ t.mem.dram = s.mem.dram ∧ t.mem.cl = s.mem.cl ∧ t.mem.host = s.mem.host)
      ∧ exec (.faultRefuse tag) s = .next (resolveFault (logRefusal s tag r) tag false)
      ∧ (fget s r_MMU_CTL f_MMU_CTL_FTMO * 1000000 ≤ (s.tb.tb - r.tb).toNat →
          exec (.faultTimeout tag) s = .next (resolveFault (logRefusal s tag r) tag false))
      ∧ (∀ id a, getAcc s id = some a → a.stage = .faulted (some tag) → getAcc (resolveFault s tag false) id = some { a with stage := .failed false }))

/-- R184, R182: with LOCK clear the controller reads or writes the oldest request that may be served, or is idle; each pseudo-channel performs
one action in a slot. R187, R188, R601: the second half of an exact add or of a merge writes the tail and then the word. R523, R524, R419: a
word written under the tag of a live key reads back as written; other words read as before; poison of the word is gone. -/
def Obligations.DramSlotsServeAndKeepWords : Prop :=
  (∀ (s : State) (stack pc : Nat), SlotOpen s stack pc →
      (∀ ecc, lockSet s = false → exec (.dramSlot stack pc .idle ecc) s = .next (useSlot s stack pc))
      ∧ (∀ id a p ecc, lockSet s = false → oldestReady s stack pc false = some (id, a, p) → tagLive s p.tag = true →
          exec (.dramSlot stack pc .write ecc) s = .next (useSlot (setStage (dramWrite s p.tag p.word (storedWord a.act)) id (.done 0)) stack pc))
      ∧ (∀ id a p w, lockSet s = false → oldestReady s stack pc true = some (id, a, p) → dramRead s p.tag p.word = some w → a.act = .read →
          armedAt s [srcDie (stack / 2) (12 + stack % 2), srcDie (stack / 2) (14 + stack % 2)] none = none →
          exec (.dramSlot stack pc .read .clean) s = .next (useSlot (setStage s id (.done w)) stack pc))
      ∧ (∀ (adds : Bool) id a p d e, (lockSet s = true → slotNow s = .write) → halfReady s stack pc adds = some (id, a, p, d, e, false) →
          tagLive s p.tag = true → p.tail = none →
          exec (if adds then .dramExactAddWrite stack pc else .rmwWrite stack pc) s =
            .next (useSlot (setStage (dramWrite s p.tag p.word d) id (.done 0)) stack pc)))
  ∧ (∀ (s : State) (t : KeyTag) (word : Nat) (x : BitVec 512), tagLive s t = true →
      dramRead (dramWrite s t word x) t word = some x
      ∧ (∀ w u, w ≠ word → dramRead (dramWrite s t word x) u w = dramRead s u w)
      ∧ (∀ i, i ≠ stackOf word → tblGet (fun _ => []) (dramWrite s t word x).mem.poison i = tblGet (fun _ => []) s.mem.poison i)
      ∧ (dramWrite s t word x).mem.cl = s.mem.cl ∧ (dramWrite s t word x).mem.host = s.mem.host ∧ (dramWrite s t word x).cores = s.cores
      ∧ (dramWrite s t word x).keys = s.keys ∧ (dramWrite s t word x).regs = s.regs)

/-- R129, R130: a bank of a cluster memory serves its oldest waiting request: a read answers the word, a write stores its bytes. R414: a
new window of the transient counts begins; R94: bytes outside the served word read as before. -/
def Obligations.ClusterMemoryServesInOrder : Prop :=
  (∀ (s : State) (d cl b id off : Nat) (a : Access), dieUp s d = true → clOldest s d cl b = some (id, a) → a.loc = .cluster d cl off → clBank off = b →
    clBanks a = [b] → armedAt s [srcDie d 5, srcDie d 6] none = none →
    let r := clEffect (clMem s d cl) off a.act
    r.2.2 = false →
    exec (.clusterMemoryServe d cl b .clean) s = .next (setStage (setClMem s d cl r.1) id (.done r.2.1)))
  ∧ (∀ (m : Memory) (off : Nat) (bs : List MByte) (x : Nat), (x < off ∨ off + bs.length ≤ x) →
      memRead (clEffect m off (.write bs)).1 x = memRead m x)
  ∧ (∀ (m : Memory) (off : Nat), (clEffect m off .read).1 = m ∧ (clEffect m off .read).2.1 = spadWord m off)
  ∧ (∀ (s : State), s.tb.tb.toNat % (fget s r_TST_TW_CFG f_TST_TW_CFG_WIN * 1000000000) = 0 →
    exec .transientWindow s = .next { s with tst := { s.tst with
      trans := s.tst.trans.filterMap fun p => if p.2.1 = 0 then none else some (p.1, (0, p.2.1)) } })

/-- R202: a unit of the transfer in progress is read and then written. R194:
GO starts the table writer with what its registers hold, and a single entry goes to its place in the tables. -/
def Obligations.DmaAndTableWriterMoveData : Prop :=
  (∀ (s : State) (i : Nat) (x : Xfer) (hit : Bool) (s1 s2 : State) (bs ds : List Byte) (p q : Bool), let s' := modDma s i dmaChoose
    let at' := xferCore x
    i < 128 → dieUp s (i / 8) = true → dmaCur (getDma s' i) = some x → dmaGoes s' x = true →
    agentRead s' (xferAsker i x) at'.1 (regionAdd x.src x.done) (unitLen x) hit = .ok s1 bs p →
    agentWrite s1 (xferAsker i x) at'.1 at'.2.1 at'.2.2 (regionAdd x.dst x.done) (bs.map mOn) hit = .ok s2 ds q →
    exec (.dmaUnitWrite i hit false) s = .next (crcItem (modDma s2 i fun g => dmaSetCur g { x with done := x.done + unitLen x }) x bs))
  ∧ (∀ (s : State) (v : W32), v.getLsbD 31 = true → twBusy s = false → v.toNat / 2 ^ 24 % 128 = 0 →
    ∃ t, exec (.mmuTwGo v) s = .next t ∧ twBusy t = true
      ∧ t.mem.tw = some { dst := twDst s, src := twSrc s, data := BitVec.ofNat 64 (pairGet s r_MMU_TW_DATA_LO r_MMU_TW_DATA_HI),
                          cnt := fldGet v f_MMU_TW_CTL_CNT, sg := fldGet v f_MMU_TW_CTL_SG }
      ∧ t.cores = s.cores ∧ t.mem.dram = s.mem.dram)
  ∧ (∀ (s : State) (j : TwJob) (ok : Bool), s.mem.tw = some j → j.cnt = 0 → j.dst % 2 ^ 36 + 8 ≤ serviceBase → stackInService s (j.dst / 2 ^ 36) = true →
    ∀ w, dramRead s (serviceTag s 0) (j.dst / 64) = some w →
    ∃ t, exec (.tableWriterDone ok) s = .next t ∧ twBusy t = false ∧ t.mem.tw = none
      ∧ dramRead t (serviceTag s 0) (j.dst / 64) = some (mergeWord w (j.dst % 64) ((leBytes 8 j.data.toNat).map mOn))
      ∧ (∀ d, tblGet (fun _ => []) t.mem.tbuf d = (tblGet (fun _ => []) s.mem.tbuf d).filter fun e => e.sg != j.sg))

/-! ### Streams (spec/07 R215 to R242, R252; spec/16 R485, R486) -/

/-- R219: a doorbell for a running stream moves its tail, or its completion head with what waited for the room, when it stays in range; one out
of range only sets DBERR. R221: EN = 1 starts a stream that passes the checks, EN = 0 ends a still one; R225: RESUME, R241: FLUSH, R486: the
sequence number. R217, R252: a function's range and port are set while its streams are off; else ERR is set and nothing moves. R239: TMO µs
after the first counted completion the stream asks for its interrupt; 1 µs after a vector's last message one message goes for the requests
that merged. R240: a new window of a function starts its counts at 0. R216: a port that is down holds what leaves the module; up again, what
waited goes. -/
def Obligations.StreamsInterruptsAndPorts : Prop :=
  (∀ (s : State) (n : Nat), n < 65536 → let st := getStrm s n; let h := sqHead s n; let z := sqSize s n; let cz := cqSize s n
      (∀ v : W32, let x := v.toNat % 65536
        let fits := dbTaken s n = true ∧ x < z ∧ (st.tail + z - h) % z ≤ (x + z - h) % z
        (fits → exec (.dbSqTail n v) s = .next (modStrm s n fun t => { t with tail := x }))
        ∧ (¬ fits → exec (.dbSqTail n v) s = .next (fput s (r_STM_STAT n) f_STM_STAT_DBERR 1)))
      ∧ (∀ v : W32, let x := v.toNat % 65536
          let fits := dbTaken s n = true ∧ x < cz ∧ (x + cz - st.cqHead) % cz ≤ cqUsed s n
          (fits → exec (.dbCqHead n v) s = .next (flushPosts (modStrm s n fun t => { t with cqHead := x }) n))
          ∧ (¬ fits → exec (.dbCqHead n v) s = .next (fput s (r_STM_STAT n) f_STM_STAT_DBERR 1)))
      ∧ (strmsUp s = true → (stState s n = stOff ∨ stState s n = stRecover) → replayHolds s n = false →
          (enRefused s n = 0 → exec (.stmEnSet n) s = .next (startStrm s n))
          ∧ (enRefused s n ≠ 0 → exec (.stmEnSet n) s = .next (fput s (r_STM_STAT n) f_STM_STAT_ECODE (enRefused s n))))
      ∧ (strmsUp s = true → (stState s n = stStopped ∨ stState s n = stHalted) →
          (inflight s n = 0 → exec (.stmEnClear n) s = .next
            (sendState (modJStrm (setStState (fput s (r_STM_CTL n) f_STM_CTL_EN 0) n stOff) n fun j => { j with used := false }) n))
          ∧ (st.flush = .none → exec (.stmResume n) s = .next (flushPosts (setStState s n stRun) n))
          ∧ (st.flush = .none → exec (.stmFlush n) s = .next (flushTaken s n)))
      ∧ (strmsUp s = true → stState s n = stRun → st.flush = .none →
          exec (.stmFlush n) s = .next (modStrm (fput s (r_STM_STAT n) f_STM_STAT_PHWAIT 0) n fun t => { t with flush := .taking 0 }))
      ∧ (strmsUp s = true → fbit s (r_STM_CTL n) f_STM_CTL_EN = false → ∀ q : BitVec 48,
          exec (.stmSeqWrite n q) s = .next (sendState (retireDones (modJStrm (setStSeq s n q.toNat) n fun j => { j with seqbase := q.toNat }) n) n))
      ∧ (∀ (f : Nat) (v : W32), f < 256 → let b := 64 * fldGet v f_TNT_FN_STRM_SBASE; let k := 64 * fldGet v f_TNT_FN_STRM_SCNT
          rangeBusy s (fnBase s f) (fnCount s f) = false → rangeBusy s b k = false → b + k ≤ 65536 →
          (∀ g < 256, g ≠ f → fnCount s g ≠ 0 → b + k ≤ fnBase s g ∨ fnBase s g + fnCount s g ≤ b) →
          exec (.tntFnStrmWrite f v) s = .next (fput (fput s (r_TNT_FN_STRM f) f_TNT_FN_STRM_SBASE (fldGet v f_TNT_FN_STRM_SBASE))
            (r_TNT_FN_STRM f) f_TNT_FN_STRM_SCNT (fldGet v f_TNT_FN_STRM_SCNT)))
      ∧ (∀ (f : Nat) (v : W32), f < 256 →
          exec (.tntFnPortWrite f v) s = .next
            (if (sgOfFn s f).isSome ∨ rangeBusy s (fnBase s f) (fnCount s f) = true then fput s (r_TNT_FN_STAT f) f_TNT_FN_STAT_ERR 1
             else fput s (r_TNT_FN_PORT f) f_TNT_FN_PORT_PORT (fldGet v f_TNT_FN_PORT_PORT))))
  ∧ ((∀ (s : State) (n : Nat) (t : W64), (getStrm s n).first = some t → fget s (r_STM_COAL n) f_STM_COAL_TMO * 1000 ≤ (s.tb.tb - t).toNat →
      exec (.coalesceTimeout n) s = .next (strmIrq s n))
    ∧ (∀ (s : State) (f v : Nat) (t : W64), (getVec s f v).lastMsg = some t → (getVec s f v).merged = true → 1000 ≤ (s.tb.tb - t).toNat →
      (getFn s f).msixEn = true → (getFn s f).msixMask = false → (getVec s f v).mask = false → hostUp s f = true → fget s (r_TNT_FN_BUDGET f) f_TNT_FN_BUDGET_IRQ = 0 →
      ∃ u, exec (.msixMergedSend f v) s = .next u ∧ u.sent = s.sent ++ [.msix f v] ∧ (getVec u f v).merged = false
        ∧ (getVec u f v).lastMsg = some s.tb.tb ∧ u.regs = s.regs ∧ u.cores = s.cores ∧ u.mem = s.mem)
    ∧ (∀ (s : State) (f : Nat), f < 256 → (getFn s f).win < s.tb.tb.toNat / 100000 →
      exec (.budgetWindow f) s = .next (releaseFn (fput (fput
        (modFn s f fun x => { x with win := s.tb.tb.toNat / 100000, cpl := 0, irq := 0, deferred := false })
        (r_TNT_FN_STAT f) f_TNT_FN_STAT_CPLDEF 0) (r_TNT_FN_STAT f) f_TNT_FN_STAT_IRQDEF 0) f))
    ∧ (∀ (s : State) (hp1 : Bool),
      exec (.hostPortLinkDown hp1) s = .next (modStm s fun t => { t with ports := if hp1 then (t.ports.1, false) else (false, t.ports.2) })
      ∧ ((if hp1 then s.pin.perst.2 else s.pin.perst.1) = false →
        exec (.hostPortLinkUp hp1) s = .next (each ((List.range 256).filter fun f => fbit s (r_TNT_FN_PORT f) f_TNT_FN_PORT_PORT == hp1) releaseFn
          (setPort s hp1 true)))))

/-- R224, R242: the front end takes the descriptor of a slot whose phase is valid; a slot of the wrong phase is looked at again after 1 µs.
R482, R227: a LOCAL item is written to its journal record, committed and accepted. R222, R230, R243, R251, R174, R201: the item at the head
of a stream begins: NOP is over, RUN and LOAD start, UNLOAD frees its handle. A copy that is done lets the item go on, a thread's finished
transfer gives its core status 0; a step limit ends it with status 2; when its cores have ended its outputs are copied. R485: DONE is
committed, and the next item may begin. -/
def Obligations.ItemsAreFetchedRunAndEnd : Prop :=
  (∀ (s : State) (n : Nat), let bs := hostRead s (sqBase s n + 64 * sqHead s n) 64
      let phase := fget s (r_STM_STAT n) f_STM_STAT_SQPH
      (fetchGoes s n = true →
        (∀ bad, exec (.descriptorFetch n true bad) s = .next (haltStrm s n 4))
        ∧ (∀ bad, imgN bs 63 1 / 128 = phase → exec (.descriptorFetch n false bad) s = .next (takeDesc s n bs bad))
        ∧ (∀ bad, imgN bs 63 1 / 128 ≠ phase → taking (getStrm s n) = none →
            exec (.descriptorFetch n false bad) s = .next (modStrm (fput s (r_STM_STAT n) f_STM_STAT_PHWAIT 1) n fun t => { t with looked := s.tb.tb })))
      ∧ (n < 65536 → stState s n = stRun → fbit s (r_STM_STAT n) f_STM_STAT_PHWAIT = true → 1000 ≤ (s.tb.tb - (getStrm s n).looked).toNat →
          let b := (memRead s.mem.host (sqBase s n + 64 * sqHead s n + 63)).toNat / 128
          exec (.phaseRecheck n) s = .next
            (if b = phase then fput s (r_STM_STAT n) f_STM_STAT_PHWAIT 0 else modStrm s n fun t => { t with looked := s.tb.tb }))
      ∧ (∀ r d rest lat, (getStrm s n).fetched = (r, d) :: rest → n < 65536 → s.stm.jnl.failAt = none → twinned s n = false →
          fbit s r_JNL_STAT f_JNL_STAT_NOSPARE = false → acceptFits s n r d = true → s.stm.jnl.failed.contains (blockOf r.stream r.seq) = false →
          s.stm.jnl.failed.contains (blockOf n r.seq) = false →
          exec (.acceptCommit n 0 lat) s = .next (acceptItem (commitRec (notePeak (modStrm (putRec s r) n fun t => { t with fetched := rest })
            r_JNL_LAT f_JNL_LAT_LOCNS lat) r) n r d)))
  ∧ ((∀ (s : State) (n : Nat) (a : Accepted) (sg : Nat) (bad : Option Nat), let r := runReset a.rcd sg (ranBefore s n a) s.tb.tb
      let w := reach s bad (recSegs a.rcd)
      (itemGoes s n 0 = some (a, sg) → exec (.nopItem n) s = .next (modStrm s n fun t => { t with run := some r }))
      ∧ (itemGoes s n 1 = some (a, sg) → exec (.runItem n bad) s = .next (startRun s n r (itemSeed s sg a.rcd) w hostDirect hostDirect))
      ∧ (itemGoes s n 2 = some (a, sg) → exec (.loadItem n bad) s = .next (startLoad s n r w hostDirect))
      ∧ (itemGoes s n 3 = some (a, sg) →
          exec (.unloadItem n) s = .next (modStm (modStrm s n fun t => { t with run := some r }) fun t => { t with images := tblErase t.images (imageKey sg a.rcd.img) })))
    ∧ (∀ (s : State) (n : Nat) (r : RunSt), (getStrm s n).run = some r → r.phase = .cores →
      (∀ c, (itemCores s n).find? (fun c => atLimit (getCore s c) && !stepEventsDue (getCore s c)) = some c →
        exec (.stepLimitReached n) s = .next (finishItem (modRun (dropItemCores s n true) n fun r => { r with steps := (getCore s c).step }) n 2 0))
      ∧ (sgState s r.sg = 1 → (∀ c ∈ itemCores s n, (getCore s c).mode = .over) → itemException s n = none →
        exec (.itemCoresEnded n) s = .next (itemNext n r.sg 4 (modRun (dropItemCores
          (modRun s n fun r => { r with steps := BitVec.ofNat 64 (itemSteps s n) }) n true) n fun r => { r with phase := .copyOut, pieces := r.outs }))))
    ∧ (∀ (s : State) (n : Nat) (r : RunSt), (getStrm s n).run = some r → n < 65536 → r.phase = .finished → mramOn s = true → stState s n ≠ stRecover →
      ((getStrm s n).posts.any fun p => p.1.ty == 2) = false → logActive s r.sg = false →
      exec (.doneCommit n) s = .next (commitDone s n r false))
    ∧ (∀ (s : State) (i : Nat) (x : Xfer), dmaCur (getDma s i) = some x → x.st = .running → x.len ≤ x.done → dieUp s (i / 8) = true →
      (∀ c t iss, x.who = .thread c t iss →
        exec (.dmaTransferComplete i) s = .next (gatedResult (modDma s i dmaPop) c iss (.value (statusWord 0 0 x.done))))
      ∧ (∀ n e, x.who = .item n e →
        exec (.dmaTransferComplete i) s = .next (itemNext n x.sg 4 (modRun (modDma s i dmaPop) n fun r => { r with pieces := r.pieces.drop 1 })))))

/-! ### Pre-emption, resets of functions, start-up and pins (spec/06 R204 to R211, R600; spec/20 R574 to R590; spec/21 R593) -/

/-- R204, R208: a GO for an ACTIVE saggar starts a save, one for a SAVED saggar a restore; one while BUSY, or for a saggar in another state, is
refused with its code; what is saved and read back is the saggar's. R211: a reset of a function leaves it as after module reset, stopped. -/
def Obligations.SaggarsAreSavedAndRestored : Prop :=
  (∀ (s : State) (sg : Nat), let a := preWrite s sg 0; let b := preWrite s sg 1
    (preBusy s = true → exec (.tntPreemptSave sg) s = .next (preRefuse a 3) ∧ exec (.tntPreemptRestore sg) s = .next (preRefuse b 3))
    ∧ (preBusy s = false → sg < 128 → sgState s sg = 1 →
        exec (.tntPreemptSave sg) s = .next (each (coresOfSg a sg) (fun s c => modCore (endStall s c) c fun k =>
          { k with mode := if k.mode = .live then .stopped else k.mode, stallAt := none }) (preStart a sg 2)))
    ∧ (preBusy s = false → (128 ≤ sg ∨ sgState s sg ≠ 1) → exec (.tntPreemptSave sg) s = .next (preRefuse a 1))
    ∧ (∀ x m, preBusy s = false → sg < 128 → sgState s sg = 3 → (getSag s sg).saved = some x → restoreClusters b x.last = some m →
        exec (.tntPreemptRestore sg) s = .next (each m stopTests (preStart (modSag b sg fun g => { g with clmap := m }) sg 4))))
  ∧ (∀ (s : State), let sg := preSg s; let g := getSag s sg; let d := (g.clmap.head?.map (·.1)).getD 0
    preBusy s = true → (∀ p ∈ g.clmap, dieUp s p.1 = true) → g.refused = false → g.fault = none →
    (sgState s sg = 2 → saveReady s sg = true → saveFault s d sg g.clmap.length needAdd = none →
      exec .preemptSaveComplete s = .next (savedNow sg s))
    ∧ (sgState s sg = 4 → saveFault s d sg g.clmap.length needRead = none → exec .restoreComplete s = .next (restoredNow sg s)))
  ∧ (∀ (s : State) (f : Nat), f < 256 → ∃ t, exec (.flr f) s = .next t ∧ getFn t f = { funcReset with stopped := true })

/-- R593 Table 1, R597: a step of start-up ends when what it waits for is done. R600: a filled stack reads as written by the fill. R574, R582,
R589, R590: the pins. A module reset leaves host memory, what has left the module, and MRAM; the queue of commands stands. -/
def Obligations.StartUpAndPins : Prop :=
  (∀ (s : State) (n : Nat), n ∉ s.boot.steps → bootReady s n = true → s.stm.jnl.failAt = none →
    (n ∈ [2, 6, 11, 12, 14, 15, 17, 18, 19] → bootHolds s n = true → exec (.startUp n [] []) s = .next (bootDone s n))
    ∧ (n = 3 → let pick := fun x : Bool => if x then s.lnt.bundleB else s.lnt.bundleA; let sel := hdrPick s.lnt
        let ok := fun x => Config.bundleOk (pick x) && decide (fusedSvn s ≤ Config.bundleSvn (pick x))
        ∃ t, exec (.startUp n [] []) s = .next t ∧ t.lnt.running = (if ok sel then pick sel else if ok (!sel) then pick (!sel) else s.lnt.running)
          ∧ (3 ∈ t.boot.steps ↔ (ok sel || ok (!sel)) = true))
    ∧ (n = 10 → exec (.startUp n [] []) s = .next (bootBind s)))
  ∧ (∀ (s : State) (k : Nat), k ∈ s.boot.fill → 5 ∈ s.boot.steps → ∃ t, exec (.initFill k) s = .next t ∧ k ∉ t.boot.fill
    ∧ (∀ w, stackOf w = k → tblFind t.mem.dram w = none) ∧ (∀ w, stackOf w ≠ k → tblFind t.mem.dram w = tblFind s.mem.dram w)
    ∧ t.cores = s.cores ∧ t.regs = s.regs ∧ t.mem.cl = s.mem.cl)
  ∧ (∀ (s : State) (hp1 : Bool),
    exec (.perstAssert hp1) s = .next (each (portFns s hp1) flrNow (setPort
      (modPin s fun p => { p with perst := if hp1 then (p.perst.1, true) else (true, p.perst.2) }) hp1 false))
    ∧ exec (.perstDeassert hp1) s = .next (modPin s fun p => { p with perst := if hp1 then (p.perst.1, false) else (false, p.perst.2) }))
  ∧ (∀ (s : State), exec (.mrstN false) s = .next (modPin s fun p => { p with mrstLow := false })
    ∧ (s.pin.mrst = none → pwrState s ≠ 4 →
        exec (.mrstN true) s = .next (modPin (pwrfail s) fun p => { p with mrst := some s.tb.tb, mrstLow := true })))
  ∧ (∀ (s : State) (t : W64), s.pin.mrst = some t → s.pin.mrstLow = false → 2000000 ≤ (s.tb.tb - t).toNat →
    ∃ u, exec .mrstNReset s = .next u ∧ u.mem.host = s.mem.host ∧ u.sent = s.sent ∧ u.pending = s.pending ∧ u.stm.jnl.recs = s.stm.jnl.recs
      ∧ u.rst.embers = s.rst.embers ∧ u.lnt.bundleA = s.lnt.bundleA ∧ u.cores = [] ∧ u.mem.dram = [] ∧ u.pin.mrst = none)
  ∧ (∀ (s : State) (on full : Bool) (speed : Nat),
    exec (.sgmiiAutoneg speed full) s = .next (modPin s fun p => { p with sgmii := speed == 1000 && full })
    ∧ exec (.refclkLoss on) s = .next (levelSrc (modPin s fun p => { p with noRef := on }) 13 on 0))

/-! ### The lock, the recorder, the replay engine, snuffs, the timebase (spec/08 R253 to R276; spec/15 R462 to R465; spec/02 R51 to R58) -/

/-- R259: EN opens a log with its START and MAP records. R262: the
log's head moves inside the written range; a staged record goes to the ring at the tail and takes the next LSN. R265, R267, R270, R272: GO starts
the replay engine, which takes the log's items in turn, stops at its stop point with a dump, and is IDLE after an abort. -/
def Obligations.LogAndReplay : Prop :=
  (∀ (s : State) (sg : Nat) (v : W32), sg < 128 → v.getLsbD 8 = true → lockSet s = true → 16 ≤ fldGet v f_DET_LOG_CFG_SZLOG →
    logActive s sg = false → fldGet (rget s (r_DET_LOG_CFG sg)) f_DET_LOG_CFG_EN = 0 →
    ∃ t, exec (.detLogCfgWrite sg v) s = .next t ∧ logActive t sg = true ∧ logSize t sg = 2 ^ fldGet v f_DET_LOG_CFG_SZLOG
      ∧ (∃ a b, (getLog t sg).buf = (getLog s sg).buf ++ [(1, a), (6, b)]) ∧ t.cores = s.cores ∧ t.mem = s.mem)
  ∧ (∀ (s : State) (sg : Nat) (v : W32), sg < 128 → let h := 16 * fldGet v f_DET_LOG_HEAD_HEAD; let z := logSize s sg
    exec (.detLogHeadWrite sg v) s = .next
      (if h < z ∧ (h + z - logHead s sg) % z ≤ (logTail s sg + z - logHead s sg) % z then fput s (r_DET_LOG_HEAD sg) f_DET_LOG_HEAD_HEAD (h / 16)
       else fput s (r_DET_LOG_STAT sg) f_DET_LOG_STAT_HEADERR 1))
  ∧ (∀ (s : State) (sg ty : Nat) (body : List Byte) (rest : List (Nat × List Byte)), let z := logSize s sg; let len := 16 + (padTo16 body).length
    (getLog s sg).buf = (ty, body) :: rest → sg < 128 → (getLog s sg).dead = false → hostUp s (fnOf s sg) = true → logTail s sg + len ≤ z →
    (logTail s sg + z - logHead s sg) % z + len < z →
    exec (.logTailAdvance sg false) s = .next (fput (ringPut (modLog s sg fun l => { l with buf := rest }) sg ty body) (r_DET_LOG_STAT sg) f_DET_LOG_STAT_BLOCK 0))
  ∧ (∀ (s : State) (v : W32), v.getLsbD 8 = true → v.getLsbD 9 = false → rplState s ≠ 1 → rplState s ≠ 2 → let s' := rput s r_DET_RPL_CTL (v &&& 0x00000CFF#32)
    (lockSet s' = false → exec (.detRplGo v) s = .next (rplFail s' 1))
    ∧ (lockSet s' = true → sgState s' (rplSg s') = 1 → fnBusy s' (fnOf s' (rplSg s')) = false →
      ∃ t, exec (.detRplGo v) s = .next t ∧ rplState t = 1 ∧ t.stm.rpl = replayReset ∧ rget t r_DET_RPL_ITEMS = 0 ∧ rget t r_DET_RPL_MISCNT = 0))
  ∧ (∀ (s : State), rplState s = 1 → sgState s (rplSg s) = 1 → sgHeld s (rplSg s) = false → hostUp s (fnOf s (rplSg s)) = true →
    (∀ r, (getStrm s 65536).run = some r → r.phase = .finished → exec (.replayItem false) s = .next (replayEnd s r))
    ∧ ((getStrm s 65536).run = none → (getStrm s 65536).accepted = [] → exec (.replayItem false) s = .next (replayAdvance (rplLen s / 16 + 2) s)))
  ∧ (∀ (s s1 : State) (x : Nat × Option Nat × W64 × W64 × Nat) (run : RunSt) (c : Nat) (g : Region) (bs : List Byte) (bad : Bool) (hit : Bool),
    let cs := itemCores s 65536
    s.stm.rpl.stop = some x → (getStrm s 65536).run = some run → cs.find? (fun c => (getCore s c).lcore == x.1) = some c → rplState s = 1 → stopReached s x = true →
    (∀ c ∈ cs, stepEventsDue (getCore s c) = false) → hostUp s (fnOf s run.sg) = true →
    let s' := each (cs.filter fun c => (getCore s c).mode == .live) (fun s c => modCore s c fun k => { k with mode := .stopped }) s
    regionOf (ctxOf s' c (getCore s c)) x.2.2.2.1 x.2.2.2.2 = some g →
    agentRead s' { die := dieOf c, sg := run.sg, mid := midSfe, src := 2 } c g x.2.2.2.2 hit = .ok s1 bs bad →
    exec (.stopPointReached hit false) s = .next (setRplState (modRpl (hostWrite s1 (hostAt s1 r_DET_RPL_DUMP_LO r_DET_RPL_DUMP_HI)
      (dumpBytes s1 run (getCore s c) x bs)) fun r => { r with stop := none }) 2 0))
  ∧ (∀ (s : State), rplState s = 2 →
    ∃ t, exec .detRplAbort s = .next t ∧ rplState t = 0 ∧ fget t r_DET_RPL_STAT f_DET_RPL_STAT_ECODE = 10 ∧ (getStrm t 65536).accepted = [])

/-- R462 to R465: a snuff is applied once to its job on this module and told to the slice's other packages; inside the settle it only counts
as MERGED; a snuff number seen before does nothing; when the settle's conditions hold it ends. -/
def Obligations.SnuffsApplyAndSettle : Prop :=
  (∀ (s : State) (pkg slice o n reason : Nat), let key := o * 2 ^ 32 + n; let s' := modRst s fun r => { r with seen := tblPut r.seen key reason }
    (sgOfSlice s slice).isSome = true → memberPkg s slice pkg = true →
    (tblFind s.rst.seen key = none → exec (.mSnuff pkg slice o n reason) s = .next
      (if settling s' slice then fadd s' r_RST_SNUFF_STAT f_RST_SNUFF_STAT_MERGED 1 else snuffApply s' slice reason))
    ∧ ((tblFind s.rst.seen key).isSome = true → exec (.mSnuff pkg slice o n reason) s = .next s))
  ∧ (∀ (s : State) (j r : Nat), s.rst.acts.head? = some (.snuff j r) → s.rst.restarting = false →
    exec .snuffOrigin s = .next (snuffJob (dropAct s (.snuff j r)) j r))
  ∧ (∀ (s : State) (job : Nat), (tblFind s.rst.settle job).isSome = true → settling s job = false → job ∉ s.rst.broken →
    (∀ g ∈ s.fab.groups, g.2.slice = job → g.2.st ≠ 2) → (∀ sg ∈ sgsOfJob s job, ∀ p ∈ (getSag s sg).clmap, dieHeld s p.1 = false) →
    exec (.settleEnd job) s = .next (modRst s fun r => { r with settle := tblErase r.settle job }))

/-- R51 to R58, R391: a read of the low word latches the timebase; a module asks its parent for the time every millisecond, answers a request with its
own stamps, and takes the offset that an answer gives; 10 ms without one lose the synchronisation; a 1PPS edge latches the timebase, and
its loss is an event. -/
def Obligations.TimebaseCommands : Prop :=
  (∀ (s : State), exec .detTbLoRead s = .next (rput (rput s r_DET_TB_LO (s.tb.tb.truncate 32)) r_DET_TB_HI (s.tb.tb.extractLsb' 32 32))
    ∧ pairGet (rput (rput s r_DET_TB_LO (s.tb.tb.truncate 32)) r_DET_TB_HI (s.tb.tb.extractLsb' 32 32)) r_DET_TB_LO r_DET_TB_HI = s.tb.tb.toNat)
  ∧ (∀ (s : State) (k : Nat), s.tb.parent = some k → kilnOn s = true → 1000000 ≤ nsSince s s.tb.exchAt → let n := (s.tb.exch + 1) % 65536
    exec .mTimeExchange s = .next (sendLocal (modTb s fun t => { t with exch := n, exchAt := s.tb.tb, t1 := some s.tb.tb })
      16 0x1C 0xFFF 16 (k / 12) (k % 12) [n * 2 ^ 16, s.tb.tb.toNat]))
  ∧ (∀ (s : State) (w l e : Nat) (t1 t2 t3 : W64) (mpkg hops : Nat), kilnOn s = true → w < 4 → l < 12 → linkLive s w l = true →
    exec (.mTime w l 0 e t1 t2 t3 mpkg hops) s = .next (sendLocal s 16 0x1C 0xFFF 16 w l
      [1 + e * 2 ^ 16, t1.toNat, s.tb.tb.toNat, s.tb.tb.toNat, 0,
       (if fbit s r_DET_TB_STAT f_DET_TB_STAT_MASTER then myPkg s else s.tb.mpkg) + fget s r_DET_TB_STAT f_DET_TB_STAT_HOPS * 2 ^ 12])
    ∧ (s.tb.t1 = some t1 → s.tb.parent = some (linkKey w l) → e = s.tb.exch →
      exec (.mTime w l 1 e t1 t2 t3 mpkg hops) s = .next (takeOffset (fput (modTb s fun t => { t with t1 := none, lastTime := s.tb.tb, mpkg := mpkg })
        r_DET_TB_STAT f_DET_TB_STAT_HOPS (min 255 (hops + 1))) ((((t2.toNat : Int) - t1.toNat) - ((s.tb.tb.toNat : Int) - t3.toNat)) / 2))))
  ∧ (∀ (s : State), s.tb.parent.isSome = true → 10000000 ≤ nsSince s s.tb.lastTime →
    ∃ t, exec .tbSyncTimeout s = .next t ∧ fbit t r_DET_TB_STAT f_DET_TB_STAT_SYNCED = false ∧ fbit t r_DET_TB_STAT f_DET_TB_STAT_LOST = true
      ∧ (fbit s r_DET_TB_STAT f_DET_TB_STAT_SYNCED = true → ∃ e, e.src = 751 ∧ t.evq = s.evq ++ [e]))
  ∧ (∀ (s : State) (rising : Bool), fbit s r_DET_TB_CFG f_DET_TB_CFG_PPS_EN = true → (rising = true ↔ fget s r_DET_TB_CFG f_DET_TB_CFG_PPS_EDGE = 0) →
    (s.tb.lastPps = none ∨ ∃ t, s.tb.lastPps = some t ∧ 999999000 ≤ (s.tb.tb - t).toNat ∧ (s.tb.tb - t).toNat ≤ 1000001000) →
    ∃ t, exec (.ppsEdge rising) s = .next t ∧ pairGet t r_DET_TB_PPS_LO r_DET_TB_PPS_HI = s.tb.tb.toNat ∧ fbit t r_DET_TB_STAT f_DET_TB_STAT_PPS_SEEN = true
      ∧ t.tb.tb = s.tb.tb ∧ t.tb.lastPps = some s.tb.tb ∧ t.cores = s.cores)
  ∧ (∀ (s : State) (t : W64), s.tb.lastPps = some t → fbit s r_DET_TB_CFG f_DET_TB_CFG_PPS_EN = true → fbit s r_DET_TB_STAT f_DET_TB_STAT_PPS_SEEN = true →
    1000001000 < nsSince s t →
    ∃ u, exec .ppsLost s = .next u ∧ fbit u r_DET_TB_STAT f_DET_TB_STAT_PPS_SEEN = false ∧ ∃ e, e.src = 752 ∧ u.evq = s.evq ++ [e])

/-! ### Links, cells, messages, sync objects, collectives (spec/09 R277 to R306; spec/10 R308 to R333; spec/11 R339 to R359) -/

/-- R277 to R280, R286, R306: writes of EN, RETRAIN and HWMCLR act as writes of FAB_LNK_CTL; a signal on four lanes leads from DETECT to TRAIN;
a state past its limit counts and pauses for 1 ms, then DETECT follows; a cause of R280 takes an ACTIVE link to DETECT with its bit in
FAB_LNK_ERR and DOWNCNT counted. R279, R281, R285, R286, R287: a training frame moves the equaliser of its lane, a block brings its
acknowledgements and credits and then its cells in sequence; 64 good blocks lead from ALIGN to CONFIG, four configuration records to ACTIVE;
a timeout sends every unacknowledged cell again; a panel transfer whose CRC fails moves nothing. -/
def Obligations.LinksCarryBlocksAndChangeState : Prop :=
  (∀ (s : State) (w l : Nat), w < 4 → l < 12 → let st := linkState s w l; let k := linkKey w l
      (∀ v, exec (.fabLnkEnWrite w l v) s = .next (writeLnkCtl s w l v))
      ∧ exec (.retrain w l) s = .next (writeLnkCtl s w l (fldSet (rget s (r_FAB_LNK_CTL w l)) f_FAB_LNK_CTL_RETRAIN 1))
      ∧ exec (.hwmclr w l) s = .next (writeLnkCtl s w l (fldSet (rget s (r_FAB_LNK_CTL w l)) f_FAB_LNK_CTL_HWMCLR 1))
      ∧ (∀ lanes, st = 1 → lanes % 16 = 15 →
          ∃ t, exec (.signalDetect w l lanes) s = .next t ∧ linkState t w l = 2 ∧ (getLink t k).since = s.tb.tb ∧ (getLink t k).pause = false
            ∧ t.cores = s.cores ∧ t.mem = s.mem)
      ∧ (∀ n, 2 ≤ st → st ≤ 4 → stateLimit st = some n → n < linkUs s w l → (getLink s k).pause = false →
          ∃ t, exec (.linkTimeLimit w l) s = .next t ∧ fbit t (r_FAB_LNK_ERR w l) f_FAB_LNK_ERR_TRAINFAIL = true
            ∧ (getLink t k).pause = true ∧ (getLink t k).since = s.tb.tb ∧ linkState t w l = st)
      ∧ ((getLink s k).pause = true → 1000 ≤ linkUs s w l →
          ∃ t, exec (.linkRestartDelay w l) s = .next t ∧ linkState t w l = 1 ∧ (getLink t k).pause = false ∧ (getLink t k).since = s.tb.tb)
      ∧ (st ≠ 5 → fget s (r_FAB_LNK_CTL w l) f_FAB_LNK_CTL_HOLD ≤ linkUs s w l →
          exec (.holdExpiry w l) s = .next (modLink s k fun x => { x with fresh := true }))
      ∧ (st = 5 → 8 ≤ (getLink s k).rx.uncRun → exec (.linkLoss w l .unc) s = .next (linkDown (fput s (r_FAB_LNK_ERR w l) f_FAB_LNK_ERR_UNC 1) w l 1))
      ∧ (st = 5 → fget s (r_FAB_LNK_CTL w l) f_FAB_LNK_CTL_RPLIM ≤ (getLink s k).tx.replays →
          exec (.linkLoss w l .rplim) s = .next (linkDown (fput s (r_FAB_LNK_ERR w l) f_FAB_LNK_ERR_RPLIM 1) w l 1)))
  ∧ ((∀ (s : State) (w l : Nat), w < 4 → l < 12 → let st := linkState s w l; let k := linkKey w l; let x := getLink s k
      (∀ (ctl : W32), (st = 1 ∨ st = 2) → let lane := bits ctl.toNat 9 8; let r := tapsFrame (x.taps.getD lane (-2, 34, -4)) ctl
        let n := if ctl.getLsbD 7 then x.ready.getD lane 0 + 1 else 0
        exec (.trainingFrame w l ctl false) s = .next (modLink s k fun x =>
          { x with taps := x.taps.set lane r.1, answers := x.answers.set lane r.2, ready := x.ready.set lane n }))
      ∧ (∀ b : Block, b.uncA = false → b.uncB = false →
          let c := fadd (cadd (cadd s (r_FAB_FEC_CW_LO w l) (r_FAB_FEC_CW_HI w l) 2) (r_FAB_FEC_SYM_LO w l) (r_FAB_FEC_SYM_HI w l) b.sym)
            (r_FAB_FEC_UNC w l) f_FAB_FEC_UNC_CNT 0
          (st = 3 → 63 ≤ x.good → ∃ t, exec (.blockReceive w l b) s = .next t ∧ linkState t w l = 4 ∧ (getLink t k).recs = 0)
          ∧ (st = 5 → b.align = false → exec (.blockReceive w l b) s = .next
              (let d := modLink c k fun x => { x with rx := { x.rx with uncRun := 0 } }; blockCells w l (blockControl d w l b) b.fseq b.cells)))
      ∧ (∀ r : CfgRec, st = 4 → x.recs = 3 → x.fresh = false → r.fresh = false → (r.tEcho - x.tSent).toNat ≤ ((s.tb.tb.truncate 32 : W32) - x.tSent).toNat →
          ∃ t, exec (.configRecord w l r) s = .next t ∧ linkState t w l = 5)
      ∧ (st = 5 → x.tx.buf ≠ [] → fget s (r_FAB_LNK_RTMO w l) f_FAB_LNK_RTMO_TMO * 1000 ≤ (s.tb.tb - x.tx.since).toNat →
          ∃ t, exec (.replayTimeout false w l) s = .next t ∧ t.sent = s.sent ++ x.tx.buf.map (fun p => Sent.cell w l p.2)
            ∧ (getLink t k).tx.buf = x.tx.buf ∧ (getLink t k).tx.replays = x.tx.replays + 1))
    ∧ (∀ (s : State) (a b c : Nat), panelAdj a b = true →
      exec (.panelTransfer a b true c) s = .next (modPanel s a b fun l => { l with tx := { l.tx with cur := min (l.tx.cur + 1) l.tx.buf.length } })
      ∧ ((getPanel s a b).tx.buf[(getPanel s a b).tx.cur]? = none → (getPanel s a b).rx.nakDue = false →
          ∃ t, exec (.panelTransfer a b false c) s = .next t ∧ (getPanel t a b).rx.buf = (getPanel s a b).rx.buf ∧ t.cores = s.cores ∧ t.mem = s.mem)))

/-- R293, R311, R315, R329, R332: a cell is routed to an output or dropped, an output takes the cell that arbitration names, a cell 4 ms old is
discarded and counted as lost, and the rate toward a package falls by its ECE and rises with time. -/
def Obligations.CellsAreRoutedAndRated : Prop :=
  (∀ (s : State) (w port pos : Nat) (c : LCell), w < 4 → (wheelIn s w port)[pos]? = some c → port < 33 →
    (∀ ch, routeCell s w port c.cell none = .choose ch → exec (.wheelRoute w port pos) s = .next (modWheel s w fun x => setChoice x port pos ch))
    ∧ (routeCell s w port c.cell none = .drop → exec (.wheelRoute w port pos) s = .next (wheelDropHdr (wheelTake s w port pos c) w port c)))
  ∧ (∀ (s : State) (w out : Nat) (r : Ready), w < 4 → arbitrate s.tb.tb (lastOf s (16 + w) out) (lastPortOf s (16 + w) out) (wheelReady s w out) = some r →
    exec (.outputArbitrate (16 + w) out) s = .next (wheelSend s w out r))
  ∧ (∀ (s : State) (w port pos : Nat) (c : LCell), w < 4 → (wheelIn s w port)[pos]? = some c → tooOld c s.tb.tb = true → 12 ≤ port →
    exec (.cellAgeDiscard (16 + w) port pos) s = .next (cellLoss (wheelTake s w port pos c) (srcWheel w 6) c))
  ∧ (∀ (s : State) (d pkg : Nat), let n := getNi s d; let r := getRate s d pkg
    (pkg ∈ n.ece → fbit s r_FAB_CC_CTL f_FAB_CC_CTL_EN = true → r.lastDec = 0 →
      ∃ t, exec (.eceDecrease d pkg) s = .next t ∧ pkg ∉ (getNi t d).ece ∧ t.regs = s.regs
        ∧ (getRate t d pkg).rate = max (fget s r_FAB_CC_CTL f_FAB_CC_CTL_RMIN) (r.rate - r.rate >>> fget s r_FAB_CC_CTL f_FAB_CC_CTL_MD)
        ∧ (∀ q, q ≠ pkg → getRate t d q = getRate s d q))
    ∧ (fbit s r_FAB_CC_CTL f_FAB_CC_CTL_EN = true → r.rate < 1024 →
      fget s r_FAB_CC_TIME f_FAB_CC_TIME_AIINT * 1000 ≤ (s.tb.tb - laterTb r.lastDec r.lastInc).toNat →
      ∃ t, exec (.rateIncrease d pkg) s = .next t ∧ (getRate t d pkg).rate = min 1024 (r.rate + fget s r_FAB_CC_AI f_FAB_CC_AI_AI)
        ∧ (∀ q, q ≠ pkg → getRate t d q = getRate s d q) ∧ t.regs = s.regs))

/-- R339 to R343: ADD adds modulo 2^64, is answered, and wakes the waits it satisfies; RESET sets the counter to 0; WAIT is answered when the
counter has reached its threshold (with the threshold under LOCK) and else recorded; POLL answers the counter. R296, R298, R299, R358, R359:
a whole request is performed at its endpoint; a response goes to the request with its MSEQ and GEN, and one that matches none is only
counted; a CLOSE is answered when its atomics are held; a held atomic is performed in key order once its phase has closed. -/
def Obligations.SyncObjectsCountAndMessagesArePerformed : Prop :=
  (∀ (s : State) (d i : Nat) (o : SyncOp), let t := syncTaken s d o; let v := syncCnt (getSync s d) i
      (SyncReady s d i 0 o → exec (.sigAdd d i) s = .next (wakeWaits (syncAnswer (modSync t d fun x => setCnt x i (v + o.operand)) d o 0 0) d i))
      ∧ (SyncReady s d i 1 o → exec (.sigReset d i) s = .next (syncAnswer (modSync t d fun x => setCnt x i 0) d o 0 0))
      ∧ (SyncReady s d i 2 o → o.operand.toNat ≤ v.toNat → exec (.sigWait d i) s = .next (syncAnswer t d o 0 (if lockSet s then o.operand else v)))
      ∧ (SyncReady s d i 2 o → v.toNat < o.operand.toNat →
          exec (.sigWait d i) s = .next (modSync t d fun x => { x with waits := x.waits ++ [o] }))
      ∧ (SyncReady s d i 3 o → exec (.sigPoll d i) s = .next (syncAnswer t d o 0 v)))
  ∧ ((∀ (s s1 : State) (d i : Nat) (r : Reasm) (hit : Bool), let n := getNi s d; let s' := setNi s d { n with reasm := n.reasm.eraseIdx i }
      n.reasm[i]? = some r → reasmWhole r = true →
      ((cellClass r.first.ty = some 0 ∨ cellClass r.first.ty = some 1) → dieState s d ≠ 1 → r.refused = false → r.hold = none →
        performWhole s' d (reasmMsg r) hit = .done s1 → exec (.messageReassembled d i hit) s = .next s1)
      ∧ (cellClass r.first.ty = some 2 → (reasmMsg r).ece = false →
        (∀ o, tblFind n.out (reasmMsg r).mseq = some o → o.gen = (reasmMsg r).gen → (reasmMsg r).gen = genOf s d →
          exec (.responseMatch d i) s = .next (niRetry (takeResponse s' d (reasmMsg r).mseq o (reasmMsg r)) d))
        ∧ (tblFind n.out (reasmMsg r).mseq = none → exec (.responseMatch d i) s = .next (modNi s' d fun n => { n with late := n.late + 1 }))))
    ∧ (∀ (s : State) (d ph cnt : Nat) (m : Msg) (rest : List (Msg × Nat × Nat)), let n := getNi s d
      n.closes = (m, ph, cnt) :: rest →
      cnt ≤ (n.atoms.filter fun a => a.phase == ph && a.msg.spkg == m.spkg && a.msg.sep == m.sep && a.msg.slice == m.slice).length →
      exec (.sigClose d) s = .next (answerMsg (setNi s d { n with closes := rest }) d m 0x0A [statusWord 0 0 0] []))
    ∧ (∀ (s s1 : State) (d sg : Nat) (a : HeldAtom) (hit : Bool), let n := getNi s d
      heldFirst (n.atoms.filter fun a => decide (a.phase < tblGet (fun _ => 0) n.phaseGone sg) && sgOfSlice s a.msg.slice == some sg) = some a →
      performAtom (modNi s d fun n => { n with atoms := n.atoms.erase a }) d sg a.msg hit = .done s1 →
      exec (.orderedAtomicPerform d sg hit) s = .next s1))

/-- R352 to R354: at a die whose members have all issued, the START goes up; a wheel below the root merges its children's and passes
it up; the value of an index goes up once, summed exactly, when there are slots for its cells (R351); GO goes down from a root whose members agree, and lets a die write; DONE ends the operation. -/
def Obligations.CollectivesGoUpAndDown : Prop :=
  ∀ (s : State) (node gn : Nat), let g := getGroup s gn; let x := getNode g node; g.st = 1 →
    (node < 16 → exec (.colStartMerge node gn) s = .next (dieStart s gn node))
    ∧ (∀ k n b, node = 16 + g.plane → g.plane < 4 → x.merged = false → mergedStart g x = some (k, n, b) → g.parent ≠ 7 →
        exec (.colStartMerge node gn) s = .next (let t := modNode s gn node fun y => { y with merged := true }
          colUp t gn node (colCellOf t gn node 0x0F 0 (colWord 0 k n 0 b) 1)))
    ∧ (∀ k n i v, node < 16 → i ∉ x.sent → nodeOp x = some (k, n) → i < opIndices g k n →
        (localMembers g node).all (fun m => x.locals.any fun o => o.member == m.index) = true → dieValue s g x i = some (v, false) →
        upSlots s g node + valueCells v ≤ g.slots →
        exec (.colDataReduce node gn i) s = .next
          (let t := modNode s gn node fun y => { y with sent := i :: y.sent }; colValue (fun s c => colUp s gn node c) t gn node i v))
    ∧ (node < 16 → x.go = false → x.goIn = true → exec (.colGo node gn) s = .next (dieGo s gn node))
    ∧ (∀ m, node = 16 + g.plane → g.plane < 4 → x.go = false → g.parent = 7 → x.merged = true → mergedStart g x = some m → rootAgrees g m = true →
        exec (.colGo node gn) s = .next (let t := modNode s gn node fun y => { y with go := true }
          each (childKeys g) (fun s k => colDown s node k (colCellOf s gn node 0x0F 0 (colWord 1 m.1 m.2.1 0 0) 1)) t))
    ∧ (∀ st k n, node = 16 + g.plane → g.parent ≠ 7 → x.doneIn = some st → nodeOp x = some (k, n) →
        exec (.colDone node gn) s = .next (nodeFinish
          (each (childKeys g) (fun s c => colDown s node c (colCellOf s gn node 0x10 0 (colWord 2 k n st 0) 1)) s) gn node))

/-! ### The kiln, its pair and its wicks (spec/12 R363 to R402; spec/10 R325 to R328; spec/20 R584) -/

/-- R371, R387, R388, R391, R393, R396, R398, R399, R325, R327: a wick performs the command of its turn and answers it: TERM adopts the pair, DOWN darkens
the wick and stops its die's sources, M_ROUTE writes entries of a bank, M_EPOCH takes the epoch and sets the READY bank CURRENT, MLIST
takes members, GRPW writes a group, SPMRD reads the spare map, TPARENT sets the time parent; a wheel reports once that no old cell
is left, and LIGHT lights a dark wick under the role's term. -/
def Obligations.WicksPerformCommands : Prop :=
  (∀ (s : State) (ep seq term : Nat), WickTurn s ep seq term →
    (∀ act stby, ep ≠ 16 → exec (.term ep seq term act stby) s = .next (wickAnswer (modFab
        (modWick (wickAt s ep seq term 3) ep fun w => { w with term := term, act := act, stby := stby })
        fun f => { f with reports := f.reports.map fun r => if r.ep = ep then { r with sent := none } else r }) ep seq term 3 0 []))
    ∧ (ep < 16 → exec (.down ep seq term) s = .next (wickAnswer (modWick (modNi (wickAt s ep seq term 4) ep fun x => { x with stopped := true })
        ep fun w => { w with lit := false }) ep seq term 4 0 []))
    ∧ (∀ cl, ep < 16 → exec (.spmrd ep seq term cl) s = .next (wickAnswer (wickAt s ep seq term 5) ep seq term 5 0 (spmWords s ep (cl % 16))))
    ∧ (∀ n, ep < 16 → exec (.mEpoch ep seq term n) s = .next (wickAnswer (modNi (wickAt s ep seq term 0) ep fun x => { x with epoch := BitVec.ofNat 32 n })
        ep seq term 0 0 []))
    ∧ (∀ w n, ep = 17 + w → w < 4 → bankState s w (n % 2) = 1 → bankState s w (1 - n % 2) ≠ 2 →
        ∃ t, exec (.mEpoch ep seq term n) s = .next t ∧ bankState t w (n % 2) = 2 ∧ (getWheel t w).epoch = BitVec.ofNat 32 n)
    ∧ (∀ ws, let h := ws.headD 0; 0 < bits h 11 0 → bits h 13 12 = 0 → bits h 62 45 = 0 →
        exec (.grpw ep seq term ws) s = .next (wickAnswer (modFab (wickAt s ep seq term 7)
          fun f => { f with groups := tblErase f.groups (bits h 11 0) }) ep seq term 7 0 [])))
  ∧ (∀ (s : State) (w seq term : Nat) (ws : List Nat), w < 4 → WickTurn s (17 + w) seq term →
    let h := ws.headD 0; let first := bits h 11 0; let count := bits h 16 12; let b := bits h 17 17
    0 < count → count ≤ 24 → first + count ≤ 4096 → bits h 31 18 = 0 → bits h 63 32 = 0 → bankState s w b < 2 →
    let put := fun t : Tbl (BitVec 16) => (List.range count).foldl (fun t j => tblSet (fun _ => 0#16) t (first + j) (routeArg ws j)) t
    exec (.mRoute w seq term ws) s = .next (wickAnswer (modWheel (setBank (wickAt s (17 + w) seq term 0) w b 0) w fun x =>
      if b = 0 then { x with bank0 := put x.bank0 } else { x with bank1 := put x.bank1 }) (17 + w) seq term 0 0 []))
  ∧ (∀ (s : State) (seq term : Nat), WickTurn s 16 seq term →
    (∀ ws, let h := ws.headD 0; let mem := fun j => ws.getD (1 + j / 2) 0 / 2 ^ (32 * (j % 2)) % 2 ^ 32
        0 < bits h 25 22 → bits h 25 22 ≤ 12 → bits h 63 28 = 0 → (∀ j < bits h 25 22, memWordOk (mem j) = true) → bitAt h 27 = true → bitAt h 26 = false →
        let new := (List.range (bits h 25 22)).foldl (fun t j => tblPut t (bits h 21 10 + j) (mem j)) []
        exec (.mlist seq term ws) s = .next (wickAnswer
          (modKln (wickAt s 16 seq term 6) fun k => { k with mlist := tblPut k.mlist (bits h 9 0) new }) 16 seq term 6 0 []))
    ∧ (∀ wheel link hops mpkg, ∃ t, exec (.tparent seq term wheel link false hops mpkg) s = .next t ∧ t.tb.parent = some (linkKey wheel link)
        ∧ t.tb.mpkg = mpkg ∧ t.tb.tb = s.tb.tb ∧ fbit t r_DET_TB_STAT f_DET_TB_STAT_MASTER = false))
  ∧ (∀ (s : State) (w : Nat), w < 4 → (bankState s w 0 = 3 ∨ bankState s w 1 = 3) → fbit s (r_FAB_RT_STAT w) f_FAB_RT_STAT_DRAINED = false → oldCells s w = 0 →
    exec (.drained w) s = .next (addReport (fput s (r_FAB_RT_STAT w) f_FAB_RT_STAT_DRAINED 1) (17 + w) 3 w 0 0))
  ∧ (∀ (s : State) (ep first term act period epoch : Nat) (stby : Option Nat), fbit s r_KLN_ENUM f_KLN_ENUM_PKGV = true → ep < 16 → (getWick s ep).lit = false →
    ∃ t, exec (.light (myPkg s) ep first term act stby period epoch) s = .next t ∧ (getWick t ep).lit = true ∧ (getWick t ep).term = term
      ∧ (getWick t ep).act = act ∧ (getWick t ep).expect = first ∧ (getNi t ep).epoch = BitVec.ofNat 32 epoch)

/-- R365 to R367, R584: two identical frames give a position and a package ID; a module passes its own frame on; the head takes position 0 of the
chain that is written to it. R374 to R376: hellos and link state parts are taken, sent again and become quiet. -/
def Obligations.PackageNumbersAndDiscovery : Prop :=
  (∀ (s : State) (f : Nat), let e := rget s r_KLN_ENUM; fldGet e f_KLN_ENUM_HEAD = 0 → fldGet e f_KLN_ENUM_POSV = 0 → frameOk f = true →
    (s.kln.enumLast ≠ some f → exec (.enumFrameReceive f) s = .next (modKln s fun k => { k with enumLast := some f }))
    ∧ (s.kln.enumLast = some f → fldGet e f_KLN_ENUM_CHAINV = 0 → exec (.enumFrameReceive f) s = .next
        (takePkg (fput (takePos s (bits f 15 10) (bits f 9 4)) r_KLN_ENUM f_KLN_ENUM_CHAIN (bits f 15 10)) (bits f 15 10) (bits f 9 4))))
  ∧ (∀ (s : State) (c p : Nat), s.kln.enumOut = some (c, p) → (s.kln.enumSent = none ∨ ∃ t, s.kln.enumSent = some t ∧ 32000 ≤ nsSince s t) →
    let body := c * 2 ^ 10 + p * 2 ^ 4
    exec .enumFrameSend s = .next (modKln (emitSent s (.enum (0xA5 * 2 ^ 16 + body + bitCount (body / 16) 12 % 16))) fun k => { k with enumSent := some s.tb.tb }))
  ∧ (∀ (s : State) (c : BitVec 6), let e := rget s r_KLN_ENUM; fldGet e f_KLN_ENUM_PKGV = 0 → fldGet e f_KLN_ENUM_HEAD = 1 →
    exec (.klnEnumChainWrite c) s = .next (takePkg (takePos (fput (fput s r_KLN_ENUM f_KLN_ENUM_CHAIN c.toNat) r_KLN_ENUM f_KLN_ENUM_CHAINV 1) c.toNat 0) c.toNat 0))
  ∧ (∀ (s : State), let e := rget s r_KLN_ENUM; fldGet e f_KLN_ENUM_POSV = 0 → fldGet e f_KLN_ENUM_CHAINV = 0 →
    exec .headStrap s = .next (fput s r_KLN_ENUM f_KLN_ENUM_HEAD 1))
  ∧ (∀ (s : State) (w l : Nat), w < 4 → l < 12 → linkLive s w l = true →
    (1000000 ≤ nsSince s (tblGet (fun _ => (0, 0#64)) s.kln.helloSent (linkKey w l)).2 → exec (.helloTimer w l) s = .next (sendHello s w l))
    ∧ (∀ ws, bits (ws.getD 0 0) 7 0 = 0x10 → kilnOn s = false →
        ∃ t h, exec (.mHelloLink w l ws) s = .next t ∧ tblFind t.kln.hello (linkKey w l) = some h ∧ h.pkg = bits (ws.getD 0 0) 19 8 ∧ h.serial = ws.getD 1 0
          ∧ (getLink t (linkKey w l)).peer = some (h.pkg, h.wheel, h.link)))
  ∧ (∀ (s : State) (k o part : Nat) (p : LsrPart), kilnOn s = true → part < 2 → o ≠ myPkg s → o ∉ s.kln.role.lost →
    (∀ q, tblFind s.kln.lsr (2 * o + part) = some q → newer32 p.seq q.seq = true → samePart q { p with heard := s.tb.tb } = true →
      exec (.lsr k o part p) s = .next (floodPart (modRole (modKln s fun x => { x with lsr := tblPut x.lsr (2 * o + part) { p with heard := s.tb.tb } })
        fun r => { r with lost := r.lost.filter (· != o) }) o part (some k)))
    ∧ (∀ q, tblFind s.kln.lsr (2 * o + part) = some q → newer32 p.seq q.seq = false → exec (.lsr k o part p) s = .next s))
  ∧ (∀ (s : State), kilnOn s = true →
    (100000000 ≤ nsSince s s.kln.flooded → exec .lsrRefresh s = .next (sendOwn (putOwn s)))
    ∧ (2000000 ≤ nsSince s s.kln.changed → exec .quiet s = .next (fput s r_KLN_STAT f_KLN_STAT_QUIET 1)))
  ∧ (∀ (s : State) (pkg w l : Nat) (j : JoinSt), kilnOn s = true → pkg ≠ myPkg s → issuing s = true → inTopo (topoOf s) pkg = true →
    exec (.join pkg w l j) s = .next (joinTp s pkg l j))

/-- R378 to R384: a kiln without a witness and alone takes a term of its own; one that the election names asks its witness; a witness grants the next
term to who names the last one and denies others; a grant gives the role, a denial withdraws. The pair sends and hears BEATs, the standby
asks for the role when they stop, takes MIRRORs and acknowledges them; SYNC makes a pair of a lone kiln; the role is offered to the partner
in time or on request, and resumed when the partner gives it up. -/
def Obligations.RolesAreElectedAndHandedOver : Prop :=
  (∀ (s : State), kilnOn s = true →
    (kilnRole s = 0 → fbit s r_KLN_STAT f_KLN_STAT_QUIET = true → fbit s r_KLN_FMPKG f_KLN_FMPKG_ACTV = false → (∀ h ∈ s.kln.hello, h.2.act = none) →
      s.kln.ask = none → fget s r_KLN_PAIR f_KLN_PAIR_WITK = 0 → packages (topoOf s) = [myPkg s] → (∃ c ∈ candidates s, c.1 = myPkg s) →
      let n := (s.kln.witTerm + 1) % 2 ^ 24
      exec .election s = .next (beginRole (modKln s fun k => { k with witTerm := n, witGranted := true }) 3 n none))
    ∧ (∀ t p, (t = s.kln.witTerm ∨ (t = 0 ∧ s.kln.witGranted = false)) → let n := (s.kln.witTerm + 1) % 2 ^ 24
      exec (.termreq t p) s = .next (sendMgt (modKln s fun k => { k with witTerm := n, witGranted := true }) 16 0x1F p 16 [0x35 * 2 ^ 56, n]))
    ∧ (∀ t p, t ≠ s.kln.witTerm → t ≠ 0 → exec (.termreq t p) s = .next (sendMgt s 16 0x1F p 16 [0x36 * 2 ^ 56, s.kln.witTerm]))
    ∧ (∀ p t, fromWitness s p = true → exec (.grant p t) s = .next (grantTerm s t) ∧ exec (.deny p) s = .next (denyTerm s))
    ∧ (∀ a t0 t1, s.kln.ask = some (a, t0, t1) → 1000000 ≤ nsSince s t1 →
      exec .witnessRetry s = .next (sendTermreq (modKln (fput s r_KLN_STAT f_KLN_STAT_WITLOST 1) fun k => { k with ask := some (a, t0, s.tb.tb) })))
    ∧ (isPair s = true → exec (.beat true (kilnPeer s)) s = .next (beatHeard s)
      ∧ (100000 ≤ nsSince s s.kln.beatOut → exec (.beat false 0) s = .next
          (sendMgt (modKln s fun k => { k with beatOut := s.tb.tb }) 16 0x1F (kilnPeer s) 16 [kilnTerm s * 2 ^ 32 + 0x31 * 2 ^ 56]))
      ∧ (s.kln.ask = none → fget s r_KLN_TIMING f_KLN_TIMING_FMTMO * 1000000 ≤ nsSince s s.kln.beatIn →
          exec .beatTimeout s = .next (ask (fput (modKln s fun k => { k with stopped := true }) r_KLN_STAT f_KLN_STAT_PEERLOST 1) .failover)))
    ∧ (roleHeld s = true → s.kln.ask = none →
      exec .swapnow s = .next (offerSwap s)
      ∧ (fget s r_KLN_TIMING f_KLN_TIMING_SWAP * 60000000000 ≤ nsSince s s.kln.swapAt → exec .swapTimer s = .next (offerSwap s))
      ∧ (fbit s r_KLN_STAT f_KLN_STAT_SWAPDEF = true → 1000000000 ≤ nsSince s s.kln.deferAt → exec .swapDeferRetry s = .next (offerSwap s)))
    ∧ (kilnRole s = 2 → s.kln.ask = none → exec (.handover (kilnPeer s)) s = .next (ask (beatHeard s) .swap))
    ∧ (∀ t0 t1, s.kln.ask = some (.swap, t0, t1) → 10000000 ≤ nsSince s t0 → exec .handoverTimeout s = .next (abortSwap s))
    ∧ (kilnRole s = 1 → s.kln.stopped = true → s.kln.ask = none →
      exec (.abort (kilnPeer s)) s = .next (roleGoesOn (modKln s fun k => { k with stopped := false })))
    ∧ (kilnRole s = 3 → fbit s r_KLN_PAIR f_KLN_PAIR_PEERV = true → inTopo (topoOf s) (kilnPeer s) = true →
      ∃ t, exec (.sync none) s = .next t ∧ kilnRole t = 1 ∧ t.kln.role = s.kln.role)
    ∧ (∀ term r, (kilnRole s = 0 ∨ kilnRole s = 4) → fbit s r_KLN_PAIR f_KLN_PAIR_PEERV = true →
      ∃ t, exec (.sync (some (term, r))) s = .next t ∧ kilnRole t = 2 ∧ t.kln.role = r ∧ t.kln.held = term))
  ∧ (∀ (s : State) (num term : Nat) (r : RoleSt), kilnOn s = true → fbit s r_KLN_PAIR f_KLN_PAIR_PEERV = true → newerTerm (kilnTerm s) term = false →
    roleHeld s = false → s.kln.passed = none →
    ∃ t, exec (.mirror (kilnPeer s) num term (.state r none none)) s = .next t ∧ kilnRole t = 2 ∧ t.kln.role = r ∧ t.kln.held = term ∧ t.kln.taken = num)
  ∧ (∀ (s : State) (num : Nat), kilnOn s = true → kilnRole s = 1 → s.kln.mirrors.any (fun m => m.num == num && m.sent) = true →
    let n := ((s.kln.mirrors.findIdx? fun m => m.num == num).getD 0) + 1
    exec (.mack (kilnPeer s) num) s = .next (roleGoesOn (mirrorPump (each (s.kln.mirrors.take n) releaseMirror
      (modKln (beatHeard s) fun k => { k with mirrors := k.mirrors.drop n })))))

/-- R371 to R373, R385, R391, R392, R398, R399, R327: the role sends a command again after 500 µs, takes a silent wick or a lost package down, takes LIT, answers and
reports, each with its MIRROR; RECOMP asks for new tables; a change ends when all its answers and reports are in. A kiln without a role answers a
request with 0x000B. -/
def Obligations.RoleTakesAnswersAndReports : Prop :=
  (∀ (s : State) (pkg ep : Nat), let k := wickKey pkg ep; issuing s = true →
    (∀ q x c t, getLit s k = some x → x.out.find? (fun c => c.seq == q) = some c → c.sent = some t → 500000 ≤ nsSince s t →
      exec (.commandResend pkg ep q) s = .next (sendCmd s k q))
    ∧ (∀ x, getLit s k = some x → x.lit = true → (∃ c ∈ x.out, c.sent.isSome = true) → 10000000 ≤ nsSince s x.heard →
      exec (.wickTimeout pkg ep) s = .next (roleGoesOn (mirrorPush (takeDown s k) none none none)))
    ∧ (∀ kind ser fw x, getLit s k = some x → kind ≠ 1 → kind ≠ 3 → exec (.lit pkg ep kind ser (kilnTerm s) fw) s = .next (roleGoesOn (mirrorPush
      (modLit s k fun x => { x with lit := true, kind := kind, serial := ser, fw := fw, heard := s.tb.tb }) none none none)))
    ∧ (packageGone s pkg = true → exec (.packageLost pkg) s = .next (let t := modRole s fun r => { r with lost := r.lost ++ [pkg] }
        roleGoesOn (mirrorPush (trigger (syncTopo (each ((t.kln.role.lit.map Prod.fst).filter fun k => k / 32 == pkg) takeDown t))) none none none))))
  ∧ (∀ (s : State) (pkg ep : Nat), let k := wickKey pkg ep; roleHeld s = true → kilnOn s = true →
    exec .recomp s = .next (trigger s)
    ∧ (∀ x c ws, getLit s k = some x → x.out.find? (fun c => c.seq == bits (ws.headD 0) 31 0) = some c → c.sent.isSome = true →
      exec (.rsp pkg ep ws) s = .next (roleGoesOn (mirrorPush (answered (modLit s k fun x =>
        { x with out := x.out.filter (fun c => c.seq != bits (ws.headD 0) 31 0), heard := s.tb.tb }) k c ws) none none none)))
    ∧ (∀ x num kind w l, getLit s k = some x → x.lit = true → tblFind s.kln.role.reps k ≠ some num →
      exec (.report (.take pkg ep num kind w l)) s = .next (roleGoesOn (mirrorPush
        (reported (modRole s fun r => { r with reps := tblPut r.reps k num }) k kind w l) none (some (k, num)) none))))
  ∧ (∀ (s : State) (ep num : Nat), exec (.rack ep num) s = .next (modFab s fun f => { f with reports := f.reports.filter fun r => !(r.ep == ep && r.num == num) }))
  ∧ (∀ (s : State) (t : W64) (us : Nat) (pps : List Nat), s.kln.role.trig = some t → issuing s = true → s.kln.role.change = none →
    fget s r_KLN_TIMING f_KLN_TIMING_RCHOLD * 100000 ≤ nsSince s t →
    exec (.recompute us pps) s = .next (recomputeNow s us pps))
  ∧ (∀ (s : State) (c : ChangeSt), s.kln.role.change = some c → issuing s = true → c.step = 6 → c.drain = [] → 4100000 ≤ nsSince s c.lastAck →
    exec (.epochRetire false) s = .next (roleGoesOn (mirrorPush (modRole (each ((litKeys s).filter isWheelAgent) (fun s k =>
      if k / 32 = myPkg s then retireBank s (k % 32 - 17) else emitSent s (.retire (k / 32) (k % 32 - 17))) s)
      fun r => { r with change := none, epoch := c.epoch }) none none none)))
  ∧ (∀ (s : State) (c : Nat), chanBound s c = true → chanB s c = 0x4000 → chanBusy s c = true → kilnOn s = true →
    let r := reqOf s c; let es := if r.op = 2 ∨ r.op = 4 then some [] else some (reqEntries s r)
    let cmd : Nat → Option Instr := fun op => [(1, Instr.sliceCreate c false), (2, .sliceDestroy c), (3, .groupCreate c false), (4, .groupDestroy c),
      (5, .sliceRecarve c false)].lookup op
    ∀ i, cmd r.op = some i →
      (roleHeld s = true → s.kln.role.req = none → issuing s = true → exec i s = .next (roleGoesOn (reqStart s (some c) r es)))
      ∧ (roleHeld s = false → kilnRole s = 2 → s.kln.passed = none →
          exec i s = .next (emitSent (modKln s fun k => { k with passed := some c }) (.mirror (kilnPeer s) 0 (kilnTerm s) (.request r es))))
      ∧ (roleHeld s = false → kilnRole s ≠ 2 → exec i s = .next (mbxAck s c 0x000B)))

/-! ### The lantern (spec/17 R510 to R534; spec/20 R588) -/

/-- R517, R519, R521, R526, R527, R393: SG_CREATE and SGREQ carve a saggar and answer with the code of the carving; SG_DESTROY and SGREL begin a
release, which ends when its keys are drained; REKEY makes a new version at once, or after the old one is drained; KEY_DRAIN_ERASE removes
the drained key; ZEROISE destroys what a saggar holds, or what every saggar holds; TNT_SG_BIND writes FN and PREP of a FREE saggar. R511,
R512, R529, R530: a signed key bank of a higher version goes into the bank not in use; a firmware bundle that verifies and is not older than
the fused number goes into the slot not selected, one that does not verify is refused with BADSIG, a failed host read with 0x0C; SVN_COMMIT
raises the fused number; in RECOVERY a good bundle becomes bundle A. -/
def Obligations.LanternCommandsTakeEffect : Prop :=
  (∀ (s : State) (c : Nat), let sg := payByte s c 1
      (LanternTurn s c 1 → sg < 128 → payByte s c 2 = 0 → 0 < payNat s c 4 2 → payNat s c 4 2 ≤ 256 → payZero s c 3 4 = true → payZero s c 8 256 = true →
        let r := carve s sg (payNat s c 4 2) (payNat s c 6 2) none
        exec (.sgCreate c) s = .next (mbxAck r.1 c r.2))
      ∧ (LanternTurn s c 2 → sg < 128 → payZero s c 2 256 = true → (sgState s sg = 1 ∨ sgState s sg = 3) → sliceOf s sg = none → sgDiesStill s sg = true →
        sgInUse s sg = false → exec (.sgDestroy c) s = .next (releaseSg s sg (.chan c)))
      ∧ (LanternTurn s c 3 → sg < 128 → payZero s c 2 256 = true → sgState s sg = 1 → sgDiesStill s sg = true → sgInUse s sg = false →
        exec (.rekey c) s = .next (if (getSag s sg).drain = none then rekeyNow s c sg else modLnt s fun l => { l with rekeyWait := some (c, sg) }))
      ∧ (LanternTurn s c 4 → payZero s c 2 256 = true →
        (sg < 128 → sgState s sg ≠ 0 → exec (.zeroise c) s = .next (mbxAck (fadd (zeroiseSg s sg) r_TNT_ZCNT f_TNT_ZCNT_CNT 1) c 0))
        ∧ (sg = 0xFE → exec (.zeroise c) s = .next (mbxAck (fadd (newServiceKeys (each (allSaggars s) zeroiseSg s)) r_TNT_ZCNT f_TNT_ZCNT_CNT 1) c 0)))
      ∧ (∀ seq term ws, WickTurn s 16 seq term → lanternUp s = true → lanternBusy s = false → let h := ws.headD 0
        (∀ n, bits h 63 27 = 0 → 0 < bits h 26 18 → bits h 26 18 ≤ 256 → sgOfSlice s (bits h 9 0) = none → preparedFor s (bits h 17 10) = some n →
          let r := carve (wickAt s 16 seq term 8) n (bits h 26 18) 0 (some (bits h 9 0))
          r.2 = 0 → exec (.sgreq seq term ws) s = .next (wickAnswer r.1 16 seq term 8 0 [n, fget r.1 (r_TNT_SG_SOB n) f_TNT_SG_SOB_DIES]))
        ∧ (∀ n, bits h 63 10 = 0 → sgOfSlice s (bits h 9 0) = some n → sgDiesStill s n = true → (sgState s n = 1 ∨ sgState s n = 3) → sgInUse s n = false →
          exec (.sgrel seq term ws) s = .next (releaseSg (wickAt s 16 seq term 9) n .wick)))
      ∧ (∀ n k, (getSag s n).drain = some k → (∀ p ∈ s.mem.acc, boundTo k.slot p.2 = false) → sgDiesStill s n = true → s.lnt.rekeyWait = none →
        (∀ p ∈ s.lnt.release, p.1 ≠ n) →
        ∃ t, exec (.keyDrainErase n) s = .next t ∧ t.keys = tblErase s.keys k.slot ∧ (getSag t n).drain = none)
      ∧ (∀ n v, n < 128 → sgState s n = 0 → exec (.tntSgBindWrite n v) s = .next (fput (fput s (r_TNT_SG_BIND n) f_TNT_SG_BIND_FN
          (fldGet v f_TNT_SG_BIND_FN)) (r_TNT_SG_BIND n) f_TNT_SG_BIND_PREP (fldGet v f_TNT_SG_BIND_PREP))))
  ∧ ((∀ (s : State) (c a : Nat), LanternTurn s c 5 → objectOf s c = some (a, 65640) → let b := hostRead s a 65640
      exec (.pkeyUpdate c true) s = .next (mbxAck s c 0x0C)
      ∧ exec (.pkeyUpdate c false) s = .next (if signedBy s b 65536 1 = false then mbxAck s c 8
          else if leAt b 4 4 ≤ ((keyBank s).map (·.version)).getD 0 then mbxAck s c 9
          else match parseBank (b.take 65536) with
            | none => mbxAck (modLnt s fun l => if bankB s then { l with pkA := none } else { l with pkB := none }) c 1
            | some k => mbxAck (showBank (modLnt s fun l => if bankB s then { l with pkA := some k } else { l with pkB := some k })) c 0))
    ∧ (∀ (s : State) (c a len : Nat), LanternTurn s c 6 → objectOf s c = some (a, len) → 0 < len → len ≤ 2 ^ 27 → let b := hostRead s a len
      exec (.fwUpdate c true) s = .next (mbxAck s c 0x0C)
      ∧ exec (.fwUpdate c false) s = .next (if Config.bundleOk b = false then mbxAck s c 8
          else if Config.bundleSvn b < fusedSvn s then mbxAck s c 9 else mbxAck (modLnt s fun l => putBundle l b) c 0))
    ∧ (∀ (s : State) (c : Nat), LanternTurn s c 7 → payZero s c 1 256 = true → let v := Config.bundleSvn s.lnt.running
      exec (.svnCommit c) s = .next (if v ≤ fusedSvn s then mbxAck s c 9 else mbxAck (fput s r_TNT_LAN_STAT f_TNT_LAN_STAT_SVN v) c 0))
    ∧ (∀ (s : State) (b : List Byte), fget s r_TNT_LAN_STAT f_TNT_LAN_STAT_BOOT = 2 →
      exec (.recoveryBundle b) s = .next (if Config.bundleOk b = true ∧ fusedSvn s ≤ Config.bundleSvn b then modLnt s fun l => { l with bundleA := b } else s)))

/-- R513 to R515, R533, R588: SPDM answers. The version restarts the negotiation; capabilities and algorithms carry it on; digests, certificates, challenges
and measurements need it complete, else the answer is an error. KEY_EXCHANGE opens one of two sessions of a function, FINISH completes it, requests
of a session need it open, END_SESSION drops it, IDE_KM enables keys of a port's stream in one of the physical function. A whole MCTP message waits
for the lantern. -/
def Obligations.AttestationAnswers : Prop :=
  (∀ (s : State) (f : Nat), lanternUp s = true → f < 256 → let st := spdmStage s f
    exec (.getVersion f) s = .next (spdmReply (setSpdm s f 1) 0x04 [0x13#8])
    ∧ (1 ≤ st → exec (.getCapabilities f) s = .next (spdmReply (setSpdm s f (max 2 st)) 0x61 []))
    ∧ (2 ≤ st → exec (.negotiateAlgorithms f) s = .next (spdmReply (setSpdm s f 3) 0x63 []))
    ∧ (st < 3 → ∀ slot off len, exec (.getCertificate f slot off len) s = .next (spdmError s 4))
    ∧ (3 ≤ st →
      exec (.getDigests f) s = .next (spdmReply s 0x01 (1#8 :: Config.sha384 (certs s)))
      ∧ (∀ off len, exec (.getCertificate f 0 off len) s = .next (if off < (certs s).length then spdmReply s 0x02 (((certs s).drop off).take len) else spdmError s 1))
      ∧ (∀ nonce, exec (.challenge f 0 nonce) s = .next (spdmReply s 0x03 (Config.sha384 (certs s) ++ Config.aliasAnswer s.lnt.running nonce)))
      ∧ (∀ op ∈ indices f, exec (.getMeasurements f op) s = .next (spdmReply s 0x60 (1#8 :: measureBlock s f op)))
      ∧ (∀ req, (s.lnt.sess.filter fun x => x.fn == f).length < 2 → exec (.keyExchange f req) s = .next (spdmReply
          (modLnt s fun l => { l with sess := l.sess ++ [{ fn := f, id := l.nextSess, open_ := false }], nextSess := l.nextSess + 1 }) 0x64
          (leBytes 2 s.lnt.nextSess ++ Config.aliasAnswer s.lnt.running req)))
      ∧ (∀ id x, sessOf s f id = some x → x.open_ = false → exec (.finish f id true) s = .next (spdmReply
          (modLnt s fun l => { l with sess := l.sess.map fun y => if y = x then { y with open_ := true } else y }) 0x65 []))
      ∧ (∀ id, inSession s f id = true →
        exec (.heartbeat f id) s = .next (spdmReply s 0x68 [])
        ∧ (∀ op, 1 ≤ op → op ≤ 3 → exec (.keyUpdate f id op) s = .next (spdmReply s 0x69 (leBytes 1 op)))
        ∧ (∃ t, exec (.endSession f id) s = .next t ∧ inSession t f id = false)
        ∧ (∀ port strm set1, f = 0 → port < 2 → strm < 16 → ∃ t p, exec (.ideKm f id port strm set1) s = .next t
            ∧ p = tblGet (fun _ => (false, false)) t.lnt.ide (port * 16 + strm) ∧ (if set1 then p.2 else p.1) = true))))
  ∧ (∀ (s : State) (b : List Byte), s.pin.dyn.isSome = true → 5 ≤ b.length → 1 ≤ leAt b 0 1 → leAt b 0 1 ≤ 15 → leAt b 3 1 / 64 = 3 →
    exec (.mctpPacket b true) s = .next (modPin s fun p => { p with mctpPart := none, mctp := p.mctp ++ [b.drop 4] }))

/-! ### Mailboxes, sherds and field tests (spec/18 R536 to R548; spec/13 R420 to R428) -/

/-- R537 to R545: a bind of two known parties, or an unbind, zeroes an unlocked idle channel, a locked channel keeps its pair; lock bits are
only added; the side whose turn it is writes the payload, the other sets PWERR; A's doorbell makes the channel BUSY; B clears pending bits
and writes its mask, and its code ends BUSY; A clears VALID; an access by neither is counted as a violation and changes nothing else. When a
party is lost, what it had begun is dropped and what waits for it is answered 0xFFFE. R420 to R422, R426 to R428, R547: a due position is
tested with the first pattern of the set in use; a pattern that ends right is followed by the next, the last one ends the test; a wrong one
writes a sherd of kind 5 and raises the event. A bind of the cluster stops a test; FTNOW makes every position due; TST_INJ arms an injection
at a bound core. SHERD_EXPORT writes the records that fit and says how many are left. -/
def Obligations.MailboxesAndFieldTests : Prop :=
  ((∀ (s : State) (c : Nat) (v : W32), c < 64 →
      (chanLocked s c = false → chanBusy s c = false → chanPend s c = 0#32 →
        (exec (.mbxBind c 0#32) s = .next (rput (mbxZero s c) (r_MBX_BIND c) 0#32))
        ∧ (let a := v.toNat % 65536; let b := v.toNat / 65536
           mbxMid a = true → mbxMid b = true → a ≠ b → nineth s c a = false → nineth s c b = false →
            exec (.mbxBind c v) s = .next (rput (mbxZero s c) (r_MBX_BIND c) v)))
      ∧ (chanLocked s c = true → exec (.mbxBind c v) s = .next (fput s r_MBX_STAT f_MBX_STAT_BINDERR 1)))
    ∧ (∀ (s : State) (hi : Bool) (v : W32), ∃ t, exec (.mbxLock hi v) s = .next t
        ∧ rget t (if hi then r_MBX_LOCK_HI else r_MBX_LOCK_LO) = rget s (if hi then r_MBX_LOCK_HI else r_MBX_LOCK_LO) ||| v)
    ∧ (∀ (s : State) (c k mid : Nat) (v : W32), c < 64 →
      (k < 64 → (isA s c mid = true ∧ chanBusy s c = false ∨ isB s c mid = true ∧ chanBusy s c = true) →
        exec (.mbxPayWrite c k mid v) s = .next (rput s (r_MBX_PAY c k) v))
      ∧ (k < 64 → isA s c mid = true → isB s c mid = false → chanBusy s c = true →
        exec (.mbxPayWrite c k mid v) s = .next (fput s (r_MBX_ACK c) f_MBX_ACK_PWERR 1))
      ∧ (isA s c mid = false → isB s c mid = false → ∀ i ∈ [Instr.mbxPayWrite c k mid v, .mbxDbSet c mid v, .mbxDbPend c mid v, .mbxDbMask c mid v,
          .mbxAckCode c mid k, .mbxAckValidClear c mid], exec i s = .next (mbxViolation s c mid)))
    ∧ (∀ (s : State) (c mid : Nat) (v : W32), c < 64 → isA s c mid = true → isB s c mid = false →
      (mid ≠ kilnLocal → exec (.mbxDbSet c mid v) s = .next (mbxSet s c v))
      ∧ (mid = kilnLocal → exec (.mbxDbSet c mid v) s = .next (faultMessage s c v))
      ∧ exec (.mbxAckValidClear c mid) s = .next (fput s (r_MBX_ACK c) f_MBX_ACK_VALID 0))
    ∧ (∀ (s : State) (c mid : Nat) (v : W32), c < 64 → isB s c mid = true → chanA s c ≠ kilnLocal →
      exec (.mbxDbPend c mid v) s = .next (rput s (r_MBX_DB_PEND c) (chanPend s c &&& ~~~ v))
      ∧ (rget s (r_MBX_DB_MASK c) &&& ~~~ v &&& chanPend s c = 0#32 → exec (.mbxDbMask c mid v) s = .next (rput s (r_MBX_DB_MASK c) v))
      ∧ (∀ code, code < 65536 → chanBusy s c = true → exec (.mbxAckCode c mid code) s = .next (mbxCode s c code))
      ∧ (∀ code, chanBusy s c = false → exec (.mbxAckCode c mid code) s = .next (fput s (r_MBX_ACK c) f_MBX_ACK_ACKERR 1)))
    ∧ (∀ (s : State) (mid : Nat), exec (.partyLost mid) s = .next (partyLost s mid)))
  ∧ ((∀ (s : State) (d cl pos : Nat) (set : Nat × Memory) (p : List Byte), nextTest s d = some (cl, pos) → patSet s = some set → patternAt set.2 0 = some p → d < 16 →
      fbit s r_TST_CTL f_TST_CTL_FTEN = true → dieUp s d = true → testsDie s d = false → (∀ q < d, testsDie s q = true ∨ dieUp s q = false ∨ nextTest s q = none) →
      fget s r_PWR_STAT f_PWR_STAT_STATE = 0 → s.tst.tests.length < fget s r_TST_CFG f_TST_CFG_MAXDIE →
      let c := testCore s d cl pos
      exec (.fieldTestStart d) s = .next (loadPattern (fadd (modTst s fun x => { x with
        tests := x.tests ++ [{ die := d, cl := cl, pos := pos, core := c, pattern := 0, began := s.tb.tb, fails := 0, set := set }],
        tested := tblPut x.tested (posKey d cl pos) s.tb.tb }) r_TST_STAT f_TST_STAT_RUNNING 1) c p))
    ∧ (∀ (s : State) (d : Nat) (t : FieldTest) (p : List Byte), s.tst.tests.find? (fun t => t.die == d) = some t → patternAt t.set.2 t.pattern = some p →
      let k := getCore s t.core
      (allStopped k = true → nothingOutstanding k = true → stepEventsDue k = false → nsSince s t.began ≤ fget s r_TST_CFG f_TST_CFG_TMO * 1000000 →
        (patternCrc k p).toNat = leAt p 24 8 → k.step.toNat = leAt p 32 8 → t.fails = leAt p 40 4 →
        (∀ q, patternAt t.set.2 (t.pattern + 1) = some q → exec (.fieldTestEnd d) s = .next (loadPattern (modTst s fun x => { x with tests := x.tests.map fun y =>
          if y.die = d then { y with pattern := t.pattern + 1, began := s.tb.tb, fails := 0 } else y }) t.core q))
        ∧ (patternAt t.set.2 (t.pattern + 1) = none → exec (.fieldTestEnd d) s = .next (testOver s t true)))
      ∧ (fget s r_TST_CFG f_TST_CFG_TMO * 1000000 < nsSince s t.began → ∃ u, exec (.fieldTestEnd d) s = .next u ∧ u.tst.formed = s.tst.formed + 1))
    ∧ (∀ (s : State) (d cl pos : Nat), (sgOfCluster s d cl).isSome = true → exec (.fieldTestAbort d cl pos) s = .next (stopTest s d cl pos))
    ∧ (∀ (s : State), exec .ftnow s = .next (modTst s fun t => { t with tested := [] }))
    ∧ (∀ (s : State) (v : W32), let c := coreId (fldGet v f_TST_INJ_DIE) (fldGet v f_TST_INJ_CL) (fldGet v f_TST_INJ_SLOT)
      ((sgOfCluster s (dieOf c) (clOf c)).isSome = true ∨ (getCore s c).mode = .test) → (fldGet v f_TST_INJ_KIND = 1 ∨ fldGet v f_TST_INJ_KIND = 2) →
      let inj : InjArm := { core := c, engine := fldGet v f_TST_INJ_ENG, set := fldGet v f_TST_INJ_SET, kind := fldGet v f_TST_INJ_KIND, persist := fldGet v f_TST_INJ_PERSIST == 1, fired := false }
      ∃ t, exec (.tstInjGo v) s = .next t ∧ t.tst.arm = some inj)
    ∧ (∀ (s : State) (w : Nat), chanBound s 3 = true → chanBusy s 3 = true → chanB s 3 = 0x5000 →
      ((payByte s 3 0 ≠ 1 ∨ 1 < payByte s 3 1 ∨ payZero s 3 2 8 = false ∨ payNat s 3 8 8 % 64 ≠ 0) → exec (.sherdExport 3 (some w)) s = .next (mbxAck s 3 1))
      ∧ (payByte s 3 0 = 1 → payByte s 3 1 = 0 → payZero s 3 2 8 = true → payNat s 3 8 8 % 64 = 0 →
        let all := s.tst.sherds.reverse; let fit := all.take (payNat s 3 16 4 / 328); let left := all.length - fit.length
        exec (.sherdExport 3 none) s = .next (mbxAck (rput (rput (modTst (hostWrite s (payNat s 3 8 8) (fit.flatMap cperRecord)) fun t => { t with fresh := left })
          (r_MBX_PAY 3 6) (BitVec.ofNat 32 (fit.flatMap cperRecord).length)) (r_MBX_PAY 3 7) (BitVec.ofNat 32 (fit.length + left * 65536))) 3
          (if left = 0 then 0 else 2)))))

/-! ### Pilots, the ladder, resets and time-sharing (spec/15 R453 to R476; spec/12 R364, R400) -/

/-- R453 to R461, R364: a lit wick whose pilot period is over sends M_PILOT; a good pilot ends the endpoint's ladder, a sick one or a period without one counts as missed;
the rungs follow each other at their times: contexts are aborted and snuffed, engines are idled, saggars flushed, and the die asks for its reset. A
lockstep fault takes the module out of its role until the kilns have restarted. -/
def Obligations.PilotsAndTheLadder : Prop :=
  (∀ (s : State) (ep : Nat), 16 ≤ ep → ep < 21 → (getWick s ep).lit = true → (getWick s ep).period * 1000 ≤ nsSince s (getWick s ep).lastPilot →
    let up := dieState s (watchIdx ep) == 0
    exec (.pilotSend ep) s = .next (sendMgt (modWick s ep fun w => { w with pilots := (w.pilots + 1) % 2 ^ 32, lastPilot := s.tb.tb }) ep 0x1D (myPkg s) 16
      [(getWick s ep).pilots, 1 + 2 * b2n up, 0, 0, 0, 0, 0]))
  ∧ (∀ (s : State) (ep : Nat), watched s ep = true → let i := watchIdx ep
    (∀ m, i ≤ 20 → exec (.mPilot ep true false m) s = .next (setRung (setMissed (beginWatch (fput s (r_RST_DIE_STAT i) f_RST_DIE_STAT_SICK 0) ep) i 0) i 0))
    ∧ (∀ m, exec (.mPilot ep true true m) s = .next (missPilot (modWatch (if i ≤ 20 then fput s (r_RST_DIE_STAT i) f_RST_DIE_STAT_SICK 1 else s) i fun w =>
        { w with heard := true, sick := (List.range 256).filter fun c => m.getLsbD c }) ep))
    ∧ (watchPeriod s ep * 1000 ≤ nsSince s (dieWatch s i).seen → exec (.pilotPeriodMiss ep) s = .next (missPilot s ep)))
  ∧ (∀ (s : State) (d : Nat), d < 16 → let t := fun k => setRung s d k
    (rungDue s d 1 = true → exec (.rungContextAbort d) s = .next (abortContexts (t 1) d))
    ∧ (rungDue s d 2 = true → exec (.engineReset d) s = .next (each (namedCores (t 2) d) (fun s c => modCore (dropXfers s (xferOfCore c)) c idleEngines) (t 2)))
    ∧ (rungDue s d 3 = true → (dieWatch s d).cores = none → exec (.saggarFlush d) s = .next (each
        ((List.range 128).filter fun g => sgState (t 3) g == 1 && (getSag (t 3) g).clmap.any fun p => p.1 == d && (List.range 16).contains p.2) (flushSaggar d) (t 3)))
    ∧ (rungDue s d 4 = true → exec (.rungDieReset d) s = .next (requestReset (t 4) d 0 false)))
  ∧ (∀ (s : State), rungDue s 16 4 = true → exec (.rungDieReset 16) s = .next (addAct (setRung (setRung s 20 4) 20 5) .cycle))
  ∧ (∀ (s : State),
    (s.rst.restarting = false → ∃ t, exec .kilnLockstepFault s = .next t ∧ t.rst.restarting = true ∧ kilnRole t = 0 ∧ t.kln.ask = none ∧ t.kln.role = roleReset)
    ∧ (s.rst.restarting = true → ∃ t, exec .kilnRestart s = .next t ∧ t.rst.restarting = false
        ∧ kilnRole t = (if fbit s r_KLN_FMPKG f_KLN_FMPKG_ACTV then 4 else kilnRole s)))

/-- R460, R466 to R474, R594, R595, R431: a waiting reset or fence begins when its die is UP and the hold-off is over; the ember is written
within 5 ms, or abandoned; then the die's jobs are snuffed and its contexts dropped; after 100 µs GEN advances; a die that passes its
self-test is UP, a failed one is fenced; a fence holds the die in reset and takes its stacks, sync objects and slots from service. RST_DIE
asks for these; a late die, or CTL, asks for a power cycle, which snuffs every job. A fenced core's position is retired; a fenced wheel's
links go OFF and slices across packages break. R466, R467, R472, R475, R476: an ember slot that holds one is copied to host memory, an empty
one or a failed copy sets ERR; clearing a retirement by fence makes the position untested; a context that has used its quantum, or has
stalled for YIELD, gives its core to the next one. -/
def Obligations.DiesResetAndAreFenced : Prop :=
  ((∀ (s : State) (d : Nat), let w := dieWatch s d
      (∀ trig fence, w.waiting = some (trig, fence) → w.phase = 0 → dieState s d = 0 →
        (∀ t, w.step1 = some t → fget s r_RST_LAD_B f_RST_LAD_B_HOLDOFF * 1000000 ≤ (s.tb.tb - t).toNat) →
        exec (.dieReset d) s = .next (modWatch (setDieState (fadd s (r_RST_DIE_STAT d) f_RST_DIE_STAT_RCNT (b2n !fence)) d 1) d fun w =>
          { w with waiting := none, phase := 2, trig := trig, fence := fence, step1 := some s.tb.tb, since := s.tb.tb, ember := false }))
      ∧ (w.phase = 2 → (s.tb.tb - w.since).toNat < 5000000 → exec (.emberDone d) s = .next (stepsFourToSix (writeEmber s d false) d))
      ∧ (w.phase = 2 → 5000000 ≤ (s.tb.tb - w.since).toNat → exec (.emberAbandon d) s = .next (stepsFourToSix (writeEmber s d true) d))
      ∧ (w.phase = 6 → w.fence = false → 100000 ≤ (s.tb.tb - w.since).toNat → exec (.resetHoldRelease d) s = .next
          (modWatch (faddw (dieBlank s d) (r_RST_DIE_STAT d) f_RST_DIE_STAT_GEN 1) d fun w => { w with phase := 8, since := s.tb.tb }))
      ∧ (w.phase = 8 → d < 16 →
        exec (.dieSelfTest d [] false) s = .next (modWatch (setDieState s d 0) d fun w => { w with phase := 0, since := s.tb.tb, heard := false, missed := 0 })
        ∧ (∀ bad, ∃ t, exec (.dieSelfTest d bad true) s = .next t ∧ (dieWatch t d).phase = 6 ∧ (dieWatch t d).fence = true))
      ∧ (w.phase = 6 → w.fence = true → d < 16 → ∃ t, exec (.dieFence d) s = .next t ∧ getSync t d = syncReset)
      ∧ (d < 16 → (∃ t, w.step1 = some t ∧ fget s r_RST_LAD_B f_RST_LAD_B_CYC * 1000000 ≤ (s.tb.tb - t).toNat) → w.fence = false → dieState s d = 1 →
        exec (.dieResetTimeout d) s = .next (addAct (setRung s d 5) .cycle)))
    ∧ (∀ (s : State) (d : Nat), let t := fun a => fput (fput s r_RST_DIE f_RST_DIE_DIE d) r_RST_DIE f_RST_DIE_ACT a
      (d < 16 → exec (.rstDieReset d) s = .next (requestReset (t 0) d 2 false) ∧ exec (.rstDieFence d) s = .next (requestReset (t 1) d 3 true))
      ∧ (16 ≤ d → d < 20 → exec (.rstDieReset d) s = .next (wheelRestart (t 0) (d - 16)) ∧ exec (.rstDieFence d) s = .next (addAct (t 1) (.fenceWheel (d - 16))))
      ∧ (d = 20 → exec (.rstDieReset d) s = .next (addAct (t 0) .cycle) ∧ exec (.rstDieFence d) s = .next (addAct (t 1) .cycle)))
    ∧ (∀ (s : State) (c cause : Nat), s.rst.acts = [.fenceCore c cause] → posOf s c ≠ 99 → (∀ q ∈ coreKeys s, physOf q ≠ c) →
      exec (.coreFence c) s = .next (retirePos (dropAct s (.fenceCore c cause)) (dieOf c) (clOf c) (posOf s c) cause))
    ∧ (∀ (s : State) (w : Nat), RstAct.fenceWheel w ∈ s.rst.acts → w < 4 → let t := setDieState (wheelLinksOff (dropAct s (.fenceWheel w)) w) (16 + w) 2
      exec (.wheelFence w) s = .next (each ((slicesOf t fun _ => true).filter fun x => !(memberPkgs t x).isEmpty) breakSlice t))
    ∧ (∀ (s : State), RstAct.cycle ∈ s.rst.acts → ∃ t, exec .powerCycle s = .next t ∧ dieState t 20 = 4))
  ∧ ((∀ (s : State), let busy := fbit s r_RST_EMB_CTL f_RST_EMB_CTL_BUSY
      (busy = false → exec .rstEmbCtlGo s = .next (if (emberSel s).isSome then fput s r_RST_EMB_CTL f_RST_EMB_CTL_BUSY 1 else fput s r_RST_EMB_CTL f_RST_EMB_CTL_ERR 1))
      ∧ (busy = true → exec (.emberCopyDone true) s = .next (fput (fput s r_RST_EMB_CTL f_RST_EMB_CTL_BUSY 0) r_RST_EMB_CTL f_RST_EMB_CTL_ERR 1))
      ∧ (∀ e, busy = true → emberSel s = some e → exec (.emberCopyDone false) s = .next
          (let t := fput s r_RST_EMB_CTL f_RST_EMB_CTL_BUSY 0; hostWrite t (emberDst t) (emberIndex t e ++ emberBytes e)))
      ∧ (tblFind s.rst.retired (retSel s) = some 1 → exec .rstRetValClr s = .next
          (modRst s fun r => { r with retired := tblErase r.retired (retSel s), untested := addOnce r.untested (retSel s) })))
    ∧ (∀ (s : State) (c q : Nat), nextShared s c = some q → dieUp s (dieOf c) = true → (getCore s c).mode = .live →
      (quantumOf s (getCore s c).strm ≤ (getCore s c).quantum → stepEventsDue (getCore s c) = false → exec (.quantumSwitch c) s = .next (switchCtx s c q))
      ∧ (∀ t, (getCore s c).stallAt = some t → fget s r_RST_RUN f_RST_RUN_YIELD * 1000 ≤ (s.tb.tb - t).toNat → exec (.yieldSwitch c) s = .next (switchCtx s c q))))

/-! ### The journal and its twin (spec/16 R487 to R508) -/

/-- R490 to R508: an error-prone block moves to a spare; recovery runs once; BEATs go out every 100 µs and form the pair; the holder commits a REC
and answers 0, a stream that does not run answers 2; DONE is taken and answered; STATE of the twin is kept; QUERY is answered by what is held; a cell
without an answer is sent again after 1 ms. A silent twin is lost; SOLO settles what was prepared; REJOIN begins the transfer, SYNCREQ takes it and SYNCEND
makes a pair again. -/
def Obligations.TwinsKeepTheJournal : Prop :=
  (∀ (s : State), mramOn s = true → ∀ blk cnt, blk < 30720 → 16 < cnt → blk ∉ s.stm.jnl.failed → exec (.spareMove blk cnt) s = .next (spareMove s blk))
  ∧ (∀ (s : State), s.stm.jnl.recovered = false → s.stm.jnl.streams = [] → ∀ bad, exec (.journalRecovery bad) s = .next (modJnl (rput
      (fput s r_JNL_STAT f_JNL_STAT_CLEAN (if s.stm.jnl.clean then 1 else 0)) r_JNL_RECOV 0) fun j => { j with recovered := true, clean := false, asked := [] }))
  ∧ (∀ (s : State), jnlPeerV s = true →
    (100000 ≤ (s.tb.tb - s.stm.jnl.beatOut).toNat → exec .jrnlBeat s = .next (jrnlSend (modJnl s fun j => { j with beatOut := s.tb.tb }) false 0x13
      (jrnlBytes 0 0 0x13 (leBytes 7 0 ++ leBytes 1 (pstate s) ++ leBytes 1 ((if isRunner s then 1 else 0) + (if soloed s then 2 else 0)) ++ leBytes 2 (jnlPeer s)))))
    ∧ (∀ pst run so, pstate s = 0 → pst = 0 → ∃ t, exec (.jrnlBeatReceive (jnlPeer s) pst run so (myPkg s)) s = .next t ∧ pstate t = 1
        ∧ t.stm.jnl.twin = (pst, run, so) ∧ t.stm.jnl.lastHeard = s.tb.tb)
    ∧ (∀ p, soloed s = false → p = jnlPeer s → mramOn s = true →
      (∀ r, pstate s ≠ 4 → (∀ x ∈ s.stm.jnl.answered, ¬ (x.1 = r.stream ∧ x.2.1 = r.seq)) →
        (stState s r.stream ≠ stRun → stMode s r.stream = 1 → exec (.recCell p r) s = .next (sendAck (heardTwin s) r.stream r.seq r.mark 2 0))
        ∧ (stState s r.stream = stRun → stMode s r.stream = 1 → isHolder s r.stream = true → getRec s r.stream r.seq = none → getDone s r.stream r.seq = none →
            exec (.recCell p r) s = .next (sendAck (holdRec (heardTwin s) r) r.stream r.seq r.mark 0 0)))
      ∧ (∀ n c, pstate s ≠ 4 → stMode s n = 1 → isHolder s n = true → getDone s n c.seq = none →
          exec (.jrnlDone p n c) s = .next (sendAck (holdDone (heardTwin s) n c) n c.seq 0x11 0 0))
      ∧ (∀ n seq mode st, pstate s ≠ 4 → twinned s n = false →
          exec (.jrnlState p n seq mode st) s = .next (sendAck (modJnl (heardTwin s) fun j => { j with peer := tblPut j.peer n (seq, mode, st) }) n 0 0x12 0 0))
      ∧ (∀ n seq, (getDone s n seq).isSome = true → exec (.query p n seq) s = .next (sendAck (heardTwin s) n seq 0x14 5 0))
      ∧ (∀ n seq r, getDone s n seq = none → getRec s n seq = some r → exec (.query p n seq) s = .next (sendAck (heardTwin s) n seq 0x14 (if r.commit = 1 then 3 else 4) 0))
      ∧ (∀ n seq, ((getStrm s n).prepared.any fun q => q.1.seq == seq) = true →
          exec (.jrnlAck p n seq 1 0) s = .next (drainTodo (settle (modJnl (heardTwin s) fun j => { j with acked := addOnce j.acked (n, seq) }) n))
          ∧ exec (.jrnlAck p n seq 1 1) s = .next (drainTodo (twinDiff (heardTwin s) n seq)))
      ∧ (∃ t, exec (.syncreq p) s = .next t ∧ pstate t = 4)
      ∧ (∀ cnt, pstate s = 4 → cnt ≤ s.stm.jnl.synced → ∃ t, exec (.syncend p cnt) s = .next t ∧ pstate t = 2 ∧ isRunner t = false)))
  ∧ (∀ (s : State) (i : Nat) (c : JCell), s.stm.jnl.unacked[i]? = some c → 1000000 ≤ (s.tb.tb - c.sent).toNat →
    exec (.jrnlResend i) s = .next (fadd (jrnlCell (modJnl s fun j => { j with unacked := j.unacked.set i { c with sent := s.tb.tb } }) c.words) r_JNL_TWIN_RTX f_JNL_TWIN_RTX_CNT 1))
  ∧ (∀ (s : State), soloed s = false →
    exec .solo s = .next (enterSolo s)
    ∧ (jnlPeerV s = true → fget s r_JNL_PAIR f_JNL_PAIR_TMO * 1000000 ≤ (s.tb.tb - s.stm.jnl.lastHeard).toNat →
      exec .twinlost s = .next (let t := fput s r_JNL_STAT f_JNL_STAT_TWINLOST 1
        if fbit t r_JNL_PAIR f_JNL_PAIR_AUTOSOLO then enterSolo t else modJnl (setPstate t 0) fun j => { j with named := false, peer := [] })))
  ∧ (∀ (s : State), soloed s = true → twinStrms s = [] → ∃ t, exec .rejoin s = .next t ∧ pstate t = 4 ∧ isRunner t = true)

/-! ### Power (spec/19 R549 to R569) -/

/-- R551, R552, R487: a failing input sets PFAIL and starts the MRAM's last time; its return sets PFREL, and 10 ms later the module asks for a
power cycle. Overvoltage and rails out of limits raise RAIL and hold it LIVE. R554 to R556: VSET from 10 to 80 is set and followed; the cap
loop lowers every rail by one while the input power is above the cap, and raises lowered rails while it is 3 % below; a hot die is lowered
and shown THROT; a die at 100 °C raises THERM. -/
def Obligations.InputRailsCapAndTemperature : Prop :=
  ((∀ (s : State), (s.pin.mrst = none → fbit s r_PWR_STAT f_PWR_STAT_PFAIL = false → ∀ i ∈ [Instr.pwrfailAssert, .inputUndervolt],
        ∃ t, exec i s = .next t ∧ fbit t r_PWR_STAT f_PWR_STAT_PFAIL = true ∧ srcLive t (srcCtl 12) = true
          ∧ t.stm.jnl.failAt = (if s.stm.jnl.failAt.isSome then s.stm.jnl.failAt else some s.tb.tb))
      ∧ (fbit s r_PWR_STAT f_PWR_STAT_PFAIL = true → ∃ t, exec .pwrfailRelease s = .next t ∧ fbit t r_PWR_STAT f_PWR_STAT_PFAIL = false
          ∧ fbit t r_PWR_STAT f_PWR_STAT_PFREL = true ∧ t.pwr.relAt = some s.tb.tb)
      ∧ (∀ t, s.pwr.relAt = some t → 10000000 ≤ (s.tb.tb - t).toNat → exec .pfrelCycle s = .next (addAct (modPwr s fun p => { p with relAt := none }) .cycle))
      ∧ (exec (.inputOvervolt true) s = .next (setLive (raise s (eventOf s (srcCtl 13))) (srcCtl 13) true))
      ∧ (exec (.inputOvervolt false) s = .next (setLive s (srcCtl 13) false))
      ∧ (∀ r, exec (.railOutOfLimits r true) s = .next (setLive (raise s { eventOf s (srcCtl 13) with sub := r }) (srcCtl 13) true))))
  ∧ ((∀ (s : State) (d v : Nat), d < 16 → 10 ≤ v → v ≤ 80 → dieServed s d = true → lowered s d = false →
      exec (.pwrRailVsetWrite d v) s = .next (showCapped (setVeff (fput s (r_PWR_RAIL d) f_PWR_RAIL_VSET v) d v)))
    ∧ (∀ (s : State) (d v : Nat), (16 ≤ d ∨ v < 10 ∨ 80 < v) → exec (.pwrRailVsetWrite d v) s = .next s)
    ∧ (∀ (s : State) (pin vin : Nat), 100000 ≤ (s.tb.tb - s.pwr.loopAt).toNat →
      let t := modPwr (fput (fput s r_PWR_IN f_PWR_IN_PIN pin) r_PWR_IN f_PWR_IN_VIN vin) fun p => { p with loopAt := s.tb.tb }
      let cap := fget t r_PWR_CAP f_PWR_CAP_CAPW
      (cap ≠ 0 → cap < pin → (∃ d ∈ servedDies t, veff t d ≠ 10) → exec (.capLoop pin vin) s = .next (showCapped (each (servedDies t) capDown t)))
      ∧ (cap ≠ 0 → cap < pin → (∀ d ∈ servedDies t, veff t d = 10) → exec (.capLoop pin vin) s = .next (showCapped (fput t r_PWR_STAT f_PWR_STAT_CAPLIM 1)))
      ∧ (cap ≠ 0 → pin * 100 < cap * 97 → 1000000 ≤ (s.tb.tb - s.pwr.raisedAt).toNat →
          exec (.capLoop pin vin) s = .next (showCapped (each (servedDies t) railUp (modPwr t fun p => { p with raisedAt := s.tb.tb })))))
    ∧ (∀ (s : State) (d tj : Nat), d < 16 → 95 ≤ tj → tj < 256 → ∃ t, exec (.thermalThrottle d tj) s = .next t ∧ fget t r_PWR_STAT f_PWR_STAT_THROT = 1
      ∧ d ∈ t.pwr.hot ∧ fget t (r_PWR_RAIL d) f_PWR_RAIL_TJ = tj)
    ∧ (∀ (s : State) (d : Nat), d < 16 → 100 ≤ fget s (r_PWR_RAIL d) f_PWR_RAIL_TJ → exec (.therm d) s = .next (levelSrc s 14 true d)))

/-- R558 to R566: an idle module takes the deepest state whose exit latency the tolerances allow; a wake event, WAKE or HOLD returns it to L0 and counts; a
tolerance that no longer allows the state wakes it. -/
def Obligations.PowerStatesAreSelectedAndLeft : Prop :=
  (∀ (s : State) (a : W64), let t := showTol s; pwrState t = 0 → t.pwr.idleAt = some a → idleNow t = true → fget t r_PWR_CFG f_PWR_CFG_IDLE * 1000 ≤ (t.tb.tb - a).toNat →
    powerTarget t ≠ 0 → exec .powerStateSelect s = .next (enterState t (powerTarget t)))
  ∧ (∀ (s : State), pwrState (showTol s) ≠ 0 → idleNow (showTol s) = false → exec .powerStateSelect s = .next (toL0 (showTol s)))
  ∧ (∀ (s : State), pwrState s ≠ 0 →
    exec .pwrCtlWake s = .next (fadd (toL0 s) r_PWR_STAT f_PWR_STAT_WAKECNT 1)
    ∧ (∀ w, wakes s w = true → exec (.wakeEvent w) s = .next (fadd (toL0 s) r_PWR_STAT f_PWR_STAT_WAKECNT 1)))
  ∧ (∀ (s : State), exec (.pwrCtlHold false) s = .next (fput s r_PWR_CTL f_PWR_CTL_HOLD 0) ∧ exec (.pwrCtlHold true) s = .next (wake (fput s r_PWR_CTL f_PWR_CTL_HOLD 1)))
  ∧ (∀ (s : State) (v : Nat), (∀ f, f < 256 → exec (.pwrLtrWrite f v) s = .next (retol (modFn s f fun x => { x with ltr := v % 2 ^ 24 })))
    ∧ exec (.pwrPeerTolWrite v) s = .next (retol (fput s r_PWR_PEER_TOL f_PWR_PEER_TOL_TOL v)))

/-! ### Faults, the halt input and the management port (spec/14 R429 to R452) -/

/-- R430 to R439: a good frame brings its event to the collector, a bad one is a line fault; the collector records an event, captures the first,
reports it and acts by its severity; a detail that stays away 1 ms leaves NODETAIL; software clears bits whose condition is over, and the
capture; an injection needs INJEN and a mode of the source. R440 to R443: the first disagreement of the channels starts its time, TDISC
later it is raised; both asserted halt the module and snuff the running jobs; both deasserted release it, and 10 ms later streams fetch
again. -/
def Obligations.FaultsAreCollectedAndTheHaltHalts : Prop :=
  ((∀ (s : State) (die : Nat) (fr : BitVec 16), die < 20 → fr.getLsbD 15 = true →
      let n := tblGet (fun _ => 0) s.flt.frameSeq die
      let next := fun (k : Nat) => modFlt s fun f => { f with frameSeq := tblSet (fun _ => 0) f.frameSeq die (k % 16) }
      s.flt.arm = none →
      (crc4 fr = bits fr.toNat 3 0 → bits fr.toNat 8 5 = n → exec (.errorLineFrame die fr) s = .next (takeFrame (setBitOf (next (n + 1)) r_FLT_LINE_STAT die) die fr))
      ∧ (crc4 fr ≠ bits fr.toNat 3 0 → exec (.errorLineFrame die fr) s = .next (lineFault (next (n + 1)) die false)))
    ∧ (∀ (s : State) (die : Nat), die < 20 →
      exec (.lineFault die true true) s = .next (setLive (setBitOf (lineFault s die false) r_FLT_LINE_LIVE die) (lineSrc die) true)
      ∧ exec (.lineFault die true false) s = .next (setLive (dropBitOf s r_FLT_LINE_LIVE die) (lineSrc die) false))
    ∧ (∀ (s : State) (e : Event) (es : List Event) (detail : Bool), s.evq = e :: es →
      exec (.faultEvent none detail) s = .next (faultEvent { s with evq := es } e (detail || decide (736 ≤ e.src))))
    ∧ (∀ (s : State) (e : Event) (t : W64), s.flt.detail = some (e, t) → 1000000 ≤ nsSince s t →
      ∃ u, exec .detailTimeout s = .next u ∧ fbit u r_FLT_CAP_STAT f_FLT_CAP_STAT_NODETAIL = true ∧ u.flt.detail = none)
    ∧ (∀ (s : State) (w : Nat) (v : W32), w < 24 → exec (.fltSrcStatClear w v) s = .next (refreshFault (each (List.range 32) (clearSrc v w) s)))
    ∧ (∀ (s : State), ∃ u, exec .capvClear s = .next u ∧ fbit u r_FLT_CAP_STAT f_FLT_CAP_STAT_CAPV = false ∧ fbit u r_FLT_CAP_STAT f_FLT_CAP_STAT_MULTI = false
      ∧ fget u r_FLT_CAP_STAT f_FLT_CAP_STAT_MORE = 0 ∧ u.flt.detail = none)
    ∧ (∀ (s : State) (v : W32), let src := fldGet v f_FLT_INJ_SRC; let mode := fldGet v f_FLT_INJ_MODE; mode ≠ 0 →
      (fbit s r_FLT_CFG f_FLT_CFG_INJEN = true → mode ∈ injModes src → injHeld src = true → exec (.fltInjGo v) s = .next (modFlt
        (fput (rput s r_FLT_INJ (v &&& 0x800FFFFF#32)) r_FLT_INJ f_FLT_INJ_GO 1) fun f => { f with arm := some (src, mode, fldGet v f_FLT_INJ_CL, fldGet v f_FLT_INJ_SLOT) }))
      ∧ ((fbit s r_FLT_CFG f_FLT_CFG_INJEN = false ∨ mode ∉ injModes src) → exec (.fltInjGo v) s = .next (fput s r_FLT_STAT f_FLT_STAT_INJERR 1))))
  ∧ (∀ (s : State),
      (∀ b, haltA s = false → haltB s = false → ∃ t, exec (.haltChannelChange b true) s = .next t ∧ (if b then haltB t else haltA t) = true ∧ t.flt.discSince = some s.tb.tb)
      ∧ (∀ t0, s.flt.discSince = some t0 → s.flt.discRaised = false → fget s r_FLT_HALT_CFG f_FLT_HALT_CFG_TDISC * 1000000 ≤ nsSince s t0 →
        ∃ t, exec .haltDisc s = .next t ∧ fbit t r_FLT_HALT_STAT f_FLT_HALT_STAT_DISC = true ∧ t.flt.discRaised = true ∧ srcLive t (srcCtl 0) = true)
      ∧ (haltA s = true → haltB s = true → fbit s r_FLT_STAT f_FLT_STAT_HALTED = false → exec .haltAssert s = .next
          (let t := raiseSrc (fput (modFlt s fun f => { f with released := none }) r_FLT_STAT f_FLT_STAT_HALTED 1) (srcCtl 1)
           each (runningJobs t) (fun s j => snuffJob s j 7) t))
      ∧ (haltA s = false → haltB s = false → fbit s r_FLT_STAT f_FLT_STAT_HALTED = true →
        exec .haltRelease s = .next (modFlt (fput s r_FLT_STAT f_FLT_STAT_HALTED 0) fun f => { f with released := some s.tb.tb }))
      ∧ (∀ t, s.flt.released = some t → 10000000 ≤ nsSince s t → exec .haltResume s = .next (modFlt s fun f => { f with released := none })))

/-- R444 to R450, R423: a frame that fails a check is counted under the first one it fails; a KMP message of a type the device takes waits for its step; ACK releases a held
message, which is else sent again after 100 ms; telemetry goes at its period; pattern chunks are staged, and dropped after 10 minutes; the kiln asks the tray
controller for a term and takes its grant or denial. -/
def Obligations.ManagementMessagesAreTakenAndSent : Prop :=
  (∀ (s : State) (b : List Byte) (ok : Bool), mgpOn s = true →
    (∀ r, dropReason s b ok = some r → exec (.mgpFrameReceive b ok) s = .next (dropFrame s r))
    ∧ (let k := l4Of s b + 8
       dropReason s b ok = none → etOf s b ≠ 0x0806 → isSolicit s b = false → beAt b (k + 3) 1 ∈ [4, 0x10, 0x21, 0x22] → exec (.mgpFrameReceive b ok) s = .next
        (modFlt s fun f => { f with inbox := f.inbox ++ [{ ty := beAt b (k + 3) 1, body := (b.drop (k + 16)).take (beAt b (k + 4) 2), fromDst := fromDst s b }] })))
  ∧ (∀ (s : State) (m : KmpIn) (ms : List KmpIn), s.flt.inbox = m :: ms → let t := modFlt s fun f => { f with inbox := ms }
    (m.ty = 4 → m.fromDst = true → m.body.length = 4 → (∃ u ∈ s.flt.unacked, u.seq = beAt m.body 0 4) →
      exec .kmpAck s = .next (frameTaken (modFlt t fun f => { f with unacked := f.unacked.filter fun u => u.seq != beAt m.body 0 4 })))
    ∧ (m.ty = 0x10 → ∀ n, n = beAt m.body 12 2 → m.body.length = 16 + n → beAt m.body 14 2 = 0 → beAt m.body 8 4 % 1024 = 0 → n = 1024 →
      let r := chunk t (beAt m.body 0 4) (beAt m.body 4 4) (beAt m.body 8 4) (m.body.drop 16)
      exec .patchunk s = .next (frameTaken (kmpSend r.1 0x11 (beBytes 4 (beAt m.body 0 4) ++ beBytes 4 (beAt m.body 8 4) ++ beBytes 1 r.2))))
    ∧ (m.fromDst = true → trayWitness s = true → s.flt.termreq.isSome = true → kilnOn s = true → 4 ≤ m.body.length → let u := modFlt t fun f => { f with termreq := none }
      (m.ty = 0x21 → exec .kmpGrant s = .next (frameTaken (grantTerm u (beAt m.body 0 4 % 2 ^ 24)))) ∧ (m.ty = 0x22 → exec .kmpDeny s = .next (frameTaken (denyTerm u)))))
  ∧ (∀ (s : State), mgpOn s = true →
    (∀ q u, s.flt.unacked.find? (fun u => u.seq == q) = some u → 100000000 ≤ nsSince s u.sent → exec (.kmpResend q) s = .next
      (kmpFrame (modFlt s fun f => { f with unacked := f.unacked.map fun x => if x.seq = q then { x with sent := s.tb.tb } else x }) u.ty u.seq true u.body))
    ∧ (let p := fget s r_FLT_MGP_CTL f_FLT_MGP_CTL_TPER
       p ≠ 0 → p * 1000000000 ≤ nsSince s s.flt.telem → exec .telem s = .next (kmpSend (modFlt s fun f => { f with telem := s.tb.tb }) 3 (telemBody s)))
    ∧ (kilnOn s = true → trayWitness s = true → s.kln.ask.isSome = true → s.flt.termreq = none → exec .kmpTermreq s = .next
      (kmpSend (modFlt s fun f => { f with termreq := some s.kln.held }) 0x20 (beBytes 4 s.kln.held ++ beBytes 2 (myPkg s) ++ beBytes 2 (kilnPeer s)))))
  ∧ (∀ (s : State) (g : PatStage), s.tst.stage = some g → 600000000000 ≤ nsSince s g.last → exec .patternStageTimeout s = .next (modTst s fun t => { t with stage := none }))

/-! ### Registers as a whole and the I3C port (spec/00 R8 to R14; spec/12 R399; spec/20 R587, R588) -/

/-- R8 to R12, R399, R587, R588: host software's write reaches the register at its offset; a write where no register is assigned is discarded; the CTL wick reads and
writes the whole of BAR0, a wheel agent the window of its wheel; the I3C port gives its identity, takes, changes and forgets its dynamic address, reads registers below
0xC0000 and writes those of Table 9. -/
def Obligations.RegistersAreReadAndWritten : Prop :=
  (∀ (s : State) (off : Nat) (v : W32), exec (.registerWrite (.bar0 off) v) s = regWrite 0 off v s
    ∧ (regRow off = none → exec (.registerWrite (.bar0 off) v) s = .next s)
    ∧ (exec (.registerWrite (.host off) v) s = .next (hostWrite s off (leBytes 4 v.toNat)))
    ∧ (off < 256 → v.getLsbD 0 = true → exec (.registerWrite (.fnEnable off) v) s = .next (modFn s off fun x => { x with stopped := false })))
  ∧ (∀ (s : State) (off : Nat), regRow off = none → regRead s off = 0#32)
  ∧ (∀ (s : State) (ep seq term off : Nat), WickTurn s ep seq term →
    (∀ v, ep < 16 → exec (.rd32 ep seq term off) s = .next (wickAnswer (wickAt s ep seq term 1) ep seq term 1 0 [0])
      ∧ exec (.wr32 ep seq term off v) s = .next (wickAnswer (wickAt s ep seq term 2) ep seq term 2 0 []))
    ∧ (∀ a, wickReg ep off = some a → let r := readBy (wickAt s ep seq term 1) (midWick ep) a
        exec (.rd32 ep seq term off) s = .next (wickAnswer r.1 ep seq term 1 0 [r.2.toNat]))
    ∧ (∀ a v t, wickReg ep off = some a → regWrite (midWick ep) a v (wickAt s ep seq term 2) = .next t → exec (.wr32 ep seq term off v) s = .next (wickAnswer t ep seq term 2 0 [])))
  ∧ (∀ (s : State) (a : BitVec 7),
    exec .rstdaa s = .next (modPin s fun p => { p with dyn := none })
    ∧ (s.pin.dyn = none → exec (.entdaa a) s = .next (modPin (i3cSay s 0x107 (pidBytes s ++ [0#8, 0#8])) fun p => { p with dyn := some a.toNat }))
    ∧ (s.pin.dyn.isSome = true →
      exec (.setnewda a) s = .next (modPin s fun p => { p with dyn := some a.toNat })
      ∧ exec .getpid s = .next (i3cSay s 0x18D (pidBytes s)) ∧ exec .getbcr s = .next (i3cSay s 0x18E [0#8]) ∧ exec .getdcr s = .next (i3cSay s 0x18F [0#8])
      ∧ exec .getstatus s = .next (i3cSay s 0x190 ((leBytes 2 (Config.i3cStatus s.tb.tb).toNat).reverse))
      ∧ (∀ off, off < 0xC0000 → exec (.i3cRegisterRead off true) s = .next (i3cSay (readBy s 0 off).1 0x1A0 (leBytes 4 (readBy s 0 off).2.toNat)))
      ∧ (∀ off, exec (.i3cRegisterRead off false) s = .next (i3cSay s 0x1A0 [0xFF#8, 0xFF#8, 0xFF#8, 0xFF#8]))
      ∧ (∀ off v t, i3cAllowed off = true → regWrite 0 off v s = .next t → exec (.i3cRegisterWrite off v true) s = .next t)
      ∧ (∀ off v, i3cAllowed off = false → exec (.i3cRegisterWrite off v true) s = .next s)))
end

