-- ==== Sys2Proof/Laws/Exec.lean ====
section
/-! SUPPORT. Laws/Exec.lean: what `exec` is of each command: its meaning. -/

namespace Sys2Proof.Machine

variable (s : State)

theorem exec_nop (c : Nat) (w : OpWord) : exec (.nop c w) s = execNop c w s := rfl
theorem exec_add (c : Nat) (w : OpWord) : exec (.add c w) s = execAdd c w s := rfl
theorem exec_sub (c : Nat) (w : OpWord) : exec (.sub c w) s = execSub c w s := rfl
theorem exec_and (c : Nat) (w : OpWord) : exec (.and c w) s = execAnd c w s := rfl
theorem exec_or (c : Nat) (w : OpWord) : exec (.or c w) s = execOr c w s := rfl
theorem exec_xor (c : Nat) (w : OpWord) : exec (.xor c w) s = execXor c w s := rfl
theorem exec_shl (c : Nat) (w : OpWord) : exec (.shl c w) s = execShl c w s := rfl
theorem exec_shr (c : Nat) (w : OpWord) : exec (.shr c w) s = execShr c w s := rfl
theorem exec_sra (c : Nat) (w : OpWord) : exec (.sra c w) s = execSra c w s := rfl
theorem exec_slt (c : Nat) (w : OpWord) : exec (.slt c w) s = execSlt c w s := rfl
theorem exec_sltu (c : Nat) (w : OpWord) : exec (.sltu c w) s = execSltu c w s := rfl
theorem exec_seq (c : Nat) (w : OpWord) : exec (.seq c w) s = execSeq c w s := rfl
theorem exec_min (c : Nat) (w : OpWord) : exec (.min c w) s = execMin c w s := rfl
theorem exec_max (c : Nat) (w : OpWord) : exec (.max c w) s = execMax c w s := rfl
theorem exec_movi (c : Nat) (w : OpWord) : exec (.movi c w) s = execMovi c w s := rfl
theorem exec_movh (c : Nat) (w : OpWord) : exec (.movh c w) s = execMovh c w s := rfl
theorem exec_mul (c : Nat) (w : OpWord) : exec (.mul c w) s = execMul c w s := rfl
theorem exec_mulh (c : Nat) (w : OpWord) : exec (.mulh c w) s = execMulh c w s := rfl
theorem exec_mulhu (c : Nat) (w : OpWord) : exec (.mulhu c w) s = execMulhu c w s := rfl
theorem exec_div (c : Nat) (w : OpWord) : exec (.div c w) s = execDiv c w s := rfl
theorem exec_divu (c : Nat) (w : OpWord) : exec (.divu c w) s = execDivu c w s := rfl
theorem exec_rem (c : Nat) (w : OpWord) : exec (.rem c w) s = execRem c w s := rfl
theorem exec_remu (c : Nat) (w : OpWord) : exec (.remu c w) s = execRemu c w s := rfl
theorem exec_popc (c : Nat) (w : OpWord) : exec (.popc c w) s = execPopc c w s := rfl
theorem exec_ctz (c : Nat) (w : OpWord) : exec (.ctz c w) s = execCtz c w s := rfl
theorem exec_beq (c : Nat) (w : OpWord) : exec (.beq c w) s = execBeq c w s := rfl
theorem exec_bne (c : Nat) (w : OpWord) : exec (.bne c w) s = execBne c w s := rfl
theorem exec_blt (c : Nat) (w : OpWord) : exec (.blt c w) s = execBlt c w s := rfl
theorem exec_bge (c : Nat) (w : OpWord) : exec (.bge c w) s = execBge c w s := rfl
theorem exec_bltu (c : Nat) (w : OpWord) : exec (.bltu c w) s = execBltu c w s := rfl
theorem exec_bgeu (c : Nat) (w : OpWord) : exec (.bgeu c w) s = execBgeu c w s := rfl
theorem exec_jal (c : Nat) (w : OpWord) : exec (.jal c w) s = execJal c w s := rfl
theorem exec_jr (c : Nat) (w : OpWord) : exec (.jr c w) s = execJr c w s := rfl
theorem exec_halt (c : Nat) (w : OpWord) : exec (.halt c w) s = execHalt c w s := rfl
theorem exec_brk (c : Nat) (w : OpWord) : exec (.brk c w) s = execBrk c w s := rfl
theorem exec_stepw (c : Nat) (w : OpWord) : exec (.stepw c w) s = execStepw c w s := rfl
theorem exec_tctlResume (c : Nat) (w : OpWord) : exec (.tctlResume c w) s = execTctlResume c w s := rfl
theorem exec_tctlStop (c : Nat) (w : OpWord) : exec (.tctlStop c w) s = execTctlStop c w s := rfl
theorem exec_tctlRead (c : Nat) (w : OpWord) : exec (.tctlRead c w) s = execTctlRead c w s := rfl
theorem exec_tctlReadXpc (c : Nat) (w : OpWord) : exec (.tctlReadXpc c w) s = execTctlReadXpc c w s := rfl
theorem exec_tctlReadXinfo (c : Nat) (w : OpWord) : exec (.tctlReadXinfo c w) s = execTctlReadXinfo c w s := rfl
theorem exec_ld (c : Nat) (w : OpWord) : exec (.ld c w) s = execLd c w s := rfl
theorem exec_st (c : Nat) (w : OpWord) : exec (.st c w) s = execSt c w s := rfl
theorem exec_vld (c : Nat) (w : OpWord) : exec (.vld c w) s = execVld c w s := rfl
theorem exec_vst (c : Nat) (w : OpWord) : exec (.vst c w) s = execVst c w s := rfl
theorem exec_vstm (c : Nat) (w : OpWord) : exec (.vstm c w) s = execVstm c w s := rfl
theorem exec_lnld (c : Nat) (w : OpWord) : exec (.lnld c w) s = execLnld c w s := rfl
theorem exec_lnst (c : Nat) (w : OpWord) : exec (.lnst c w) s = execLnst c w s := rfl
theorem exec_fence (c : Nat) (w : OpWord) : exec (.fence c w) s = execFence c w s := rfl
theorem exec_mma (c : Nat) (w : OpWord) : exec (.mma c w) s = execMma c w s := rfl
theorem exec_wflush (c : Nat) (w : OpWord) : exec (.wflush c w) s = execWflush c w s := rfl
theorem exec_rstore (c : Nat) (w : OpWord) : exec (.rstore c w) s = execRstore c w s := rfl
theorem exec_xstore (c : Nat) (w : OpWord) : exec (.xstore c w) s = execXstore c w s := rfl
theorem exec_spget (c : Nat) (w : OpWord) : exec (.spget c w) s = execSpget c w s := rfl
theorem exec_spadd (c : Nat) (w : OpWord) : exec (.spadd c w) s = execSpadd c w s := rfl
theorem exec_mclr (c : Nat) (w : OpWord) : exec (.mclr c w) s = execMclr c w s := rfl
theorem exec_lnadd (c : Nat) (w : OpWord) : exec (.lnadd c w) s = execLnadd c w s := rfl
theorem exec_lnmov (c : Nat) (w : OpWord) : exec (.lnmov c w) s = execLnmov c w s := rfl
theorem exec_lnclr (c : Nat) (w : OpWord) : exec (.lnclr c w) s = execLnclr c w s := rfl
theorem exec_lnneg (c : Nat) (w : OpWord) : exec (.lnneg c w) s = execLnneg c w s := rfl
theorem exec_lnlane (c : Nat) (w : OpWord) : exec (.lnlane c w) s = execLnlane c w s := rfl
theorem exec_lnrnd (c : Nat) (w : OpWord) : exec (.lnrnd c w) s = execLnrnd c w s := rfl
theorem exec_vadd (c : Nat) (w : OpWord) : exec (.vadd c w) s = execVadd c w s := rfl
theorem exec_vsub (c : Nat) (w : OpWord) : exec (.vsub c w) s = execVsub c w s := rfl
theorem exec_vmul (c : Nat) (w : OpWord) : exec (.vmul c w) s = execVmul c w s := rfl
theorem exec_vfma (c : Nat) (w : OpWord) : exec (.vfma c w) s = execVfma c w s := rfl
theorem exec_vmin (c : Nat) (w : OpWord) : exec (.vmin c w) s = execVmin c w s := rfl
theorem exec_vmax (c : Nat) (w : OpWord) : exec (.vmax c w) s = execVmax c w s := rfl
theorem exec_vcvt (c : Nat) (w : OpWord) : exec (.vcvt c w) s = execVcvt c w s := rfl
theorem exec_viadd (c : Nat) (w : OpWord) : exec (.viadd c w) s = execViadd c w s := rfl
theorem exec_vimul (c : Nat) (w : OpWord) : exec (.vimul c w) s = execVimul c w s := rfl
theorem exec_vbcast (c : Nat) (w : OpWord) : exec (.vbcast c w) s = execVbcast c w s := rfl
theorem exec_vlane (c : Nat) (w : OpWord) : exec (.vlane c w) s = execVlane c w s := rfl
theorem exec_vidx (c : Nat) (w : OpWord) : exec (.vidx c w) s = execVidx c w s := rfl
theorem exec_vfn (c : Nat) (w : OpWord) : exec (.vfn c w) s = execVfn c w s := rfl
theorem exec_vcmp (c : Nat) (w : OpWord) : exec (.vcmp c w) s = execVcmp c w s := rfl
theorem exec_vsel (c : Nat) (w : OpWord) : exec (.vsel c w) s = execVsel c w s := rfl
theorem exec_vgath (c : Nat) (w : OpWord) : exec (.vgath c w) s = execVgath c w s := rfl
theorem exec_vscat (c : Nat) (w : OpWord) : exec (.vscat c w) s = execVscat c w s := rfl
theorem exec_vscadd (c : Nat) (w : OpWord) : exec (.vscadd c w) s = execVscadd c w s := rfl
theorem exec_xscadd (c : Nat) (w : OpWord) : exec (.xscadd c w) s = execXscadd c w s := rfl
theorem exec_dma (c : Nat) (w : OpWord) : exec (.dma c w) s = execDma c w s := rfl
theorem exec_signal (c : Nat) (w : OpWord) : exec (.signal c w) s = execSignal c w s := rfl
theorem exec_wait (c : Nat) (w : OpWord) : exec (.wait c w) s = execWait c w s := rfl
theorem exec_sreset (c : Nat) (w : OpWord) : exec (.sreset c w) s = execSreset c w s := rfl
theorem exec_spoll (c : Nat) (w : OpWord) : exec (.spoll c w) s = execSpoll c w s := rfl
theorem exec_frd (c : Nat) (w : OpWord) : exec (.frd c w) s = execFrd c w s := rfl
theorem exec_fwr (c : Nat) (w : OpWord) : exec (.fwr c w) s = execFwr c w s := rfl
theorem exec_fatomAdd64 (c : Nat) (w : OpWord) : exec (.fatomAdd64 c w) s = execFatomAdd64 c w s := rfl
theorem exec_fatomSwap64 (c : Nat) (w : OpWord) : exec (.fatomSwap64 c w) s = execFatomSwap64 c w s := rfl
theorem exec_fatomCas64 (c : Nat) (w : OpWord) : exec (.fatomCas64 c w) s = execFatomCas64 c w s := rfl
theorem exec_fatomMin64 (c : Nat) (w : OpWord) : exec (.fatomMin64 c w) s = execFatomMin64 c w s := rfl
theorem exec_fatomMax64 (c : Nat) (w : OpWord) : exec (.fatomMax64 c w) s = execFatomMax64 c w s := rfl
theorem exec_fatomXadd (c : Nat) (w : OpWord) : exec (.fatomXadd c w) s = execFatomXadd c w s := rfl
theorem exec_send (c : Nat) (w : OpWord) : exec (.send c w) s = execSend c w s := rfl
theorem exec_recv (c : Nat) (w : OpWord) : exec (.recv c w) s = execRecv c w s := rfl
theorem exec_probe (c : Nat) (w : OpWord) : exec (.probe c w) s = execProbe c w s := rfl
theorem exec_collAllreduce (c : Nat) (w : OpWord) : exec (.collAllreduce c w) s = execCollAllreduce c w s := rfl
theorem exec_collReduce (c : Nat) (w : OpWord) : exec (.collReduce c w) s = execCollReduce c w s := rfl
theorem exec_collReducescatter (c : Nat) (w : OpWord) : exec (.collReducescatter c w) s = execCollReducescatter c w s := rfl
theorem exec_collBroadcast (c : Nat) (w : OpWord) : exec (.collBroadcast c w) s = execCollBroadcast c w s := rfl
theorem exec_collAllgather (c : Nat) (w : OpWord) : exec (.collAllgather c w) s = execCollAllgather c w s := rfl
theorem exec_collBarrier (c : Nat) (w : OpWord) : exec (.collBarrier c w) s = execCollBarrier c w s := rfl
theorem exec_collAlltoall (c : Nat) (w : OpWord) : exec (.collAlltoall c w) s = execCollAlltoall c w s := rfl
theorem exec_rand (c : Nat) (w : OpWord) : exec (.rand c w) s = execRand c w s := rfl
theorem exec_vrand (c : Nat) (w : OpWord) : exec (.vrand c w) s = execVrand c w s := rfl
theorem exec_steprd (c : Nat) (w : OpWord) : exec (.steprd c w) s = execSteprd c w s := rfl
theorem exec_tbrd (c : Nat) (w : OpWord) : exec (.tbrd c w) s = execTbrd c w s := rfl
theorem exec_flags (c : Nat) (w : OpWord) : exec (.flags c w) s = execFlags c w s := rfl
theorem exec_tdw (c : Nat) (w : OpWord) : exec (.tdw c w) s = execTdw c w s := rfl
theorem exec_tdr (c : Nat) (w : OpWord) : exec (.tdr c w) s = execTdr c w s := rfl
theorem exec_bubble (c : Nat) : exec (.bubble c) s = execBubble c s := rfl
theorem exec_resultArrival (c : Nat) (issue : W64) : exec (.resultArrival c issue) s = execResultArrival c issue s := rfl
theorem exec_gatedDelivery (c : Nat) : exec (.gatedDelivery c) s = execGatedDelivery c s := rfl
theorem exec_scratchpadGrant (c : Nat) (b : Nat) (ecc : Ecc) : exec (.scratchpadGrant c b ecc) s = execScratchpadGrant c b ecc s := rfl
theorem exec_externalWrite (c : Nat) (b : Nat) : exec (.externalWrite c b) s = execExternalWrite c b s := rfl
theorem exec_postedPerformed (c : Nat) (issue : W64) : exec (.postedPerformed c issue) s = execPostedPerformed c issue s := rfl
theorem exec_mmaDispatch (c : Nat) (e : Nat) : exec (.mmaDispatch c e) s = execMmaDispatch c e s := rfl
theorem exec_feederFetch (c : Nat) (e : Nat) : exec (.feederFetch c e) s = execFeederFetch c e s := rfl
theorem exec_arrayStep (c : Nat) (e : Nat) : exec (.arrayStep c e) s = execArrayStep c e s := rfl
theorem exec_spillRetire (c : Nat) (e : Nat) : exec (.spillRetire c e) s = execSpillRetire c e s := rfl
theorem exec_wflushDispatch (c : Nat) (e : Nat) : exec (.wflushDispatch c e) s = execWflushDispatch c e s := rfl
theorem exec_wflushComplete (c : Nat) (e : Nat) : exec (.wflushComplete c e) s = execWflushComplete c e s := rfl
theorem exec_rstoreDispatch (c : Nat) (e : Nat) : exec (.rstoreDispatch c e) s = execRstoreDispatch c e s := rfl
theorem exec_xstoreDispatch (c : Nat) (e : Nat) : exec (.xstoreDispatch c e) s = execXstoreDispatch c e s := rfl
theorem exec_resultWordWrite (c : Nat) (b : Nat) : exec (.resultWordWrite c b) s = execResultWordWrite c b s := rfl
theorem exec_engineOpDispatch (c : Nat) (e : Nat) : exec (.engineOpDispatch c e) s = execEngineOpDispatch c e s := rfl
theorem exec_logicalCoreEnd (c : Nat) : exec (.logicalCoreEnd c) s = execLogicalCoreEnd c s := rfl
theorem exec_repeatComplete (c : Nat) : exec (.repeatComplete c) s = execRepeatComplete c s := rfl
theorem exec_translateAccess (id : Nat) (hit : Bool) : exec (.translateAccess id hit) s = execTranslateAccess id hit s := rfl
theorem exec_faultRetry (tag : Nat) : exec (.faultRetry tag) s = execFaultRetry tag s := rfl
theorem exec_faultRefuse (tag : Nat) : exec (.faultRefuse tag) s = execFaultRefuse tag s := rfl
theorem exec_faultTimeout (tag : Nat) : exec (.faultTimeout tag) s = execFaultTimeout tag s := rfl
theorem exec_mmuTwGo (v : W32) : exec (.mmuTwGo v) s = execMmuTwGo v s := rfl
theorem exec_tableWriterDone (readOk : Bool) : exec (.tableWriterDone readOk) s = execTableWriterDone readOk s := rfl
theorem exec_dmaUnitWrite (i : Nat) (hit : Bool) (hostErr : Bool) : exec (.dmaUnitWrite i hit hostErr) s = execDmaUnitWrite i hit hostErr s := rfl
theorem exec_dmaTransferComplete (i : Nat) : exec (.dmaTransferComplete i) s = execDmaTransferComplete i s := rfl
theorem exec_dramSlot (stack : Nat) (pc : Nat) (code : SlotCode) (ecc : Ecc) : exec (.dramSlot stack pc code ecc) s = execDramSlot stack pc code ecc s := rfl
theorem exec_dramExactAddWrite (stack : Nat) (pc : Nat) : exec (.dramExactAddWrite stack pc) s = execDramExactAddWrite stack pc s := rfl
theorem exec_rmwWrite (stack : Nat) (pc : Nat) : exec (.rmwWrite stack pc) s = execRmwWrite stack pc s := rfl
theorem exec_initFill (k : Nat) : exec (.initFill k) s = execInitFill k s := rfl
theorem exec_tntPreemptSave (sg : Nat) : exec (.tntPreemptSave sg) s = execTntPreemptSave sg s := rfl
theorem exec_preemptSaveComplete : exec (.preemptSaveComplete) s = execPreemptSaveComplete s := rfl
theorem exec_tntPreemptRestore (sg : Nat) : exec (.tntPreemptRestore sg) s = execTntPreemptRestore sg s := rfl
theorem exec_restoreComplete : exec (.restoreComplete) s = execRestoreComplete s := rfl
theorem exec_flr (f : Nat) : exec (.flr f) s = execFlr f s := rfl
theorem exec_dbSqTail (n : Nat) (v : W32) : exec (.dbSqTail n v) s = execDbSqTail n v s := rfl
theorem exec_dbCqHead (n : Nat) (v : W32) : exec (.dbCqHead n v) s = execDbCqHead n v s := rfl
theorem exec_stmEnSet (n : Nat) : exec (.stmEnSet n) s = execStmEnSet n s := rfl
theorem exec_stmEnClear (n : Nat) : exec (.stmEnClear n) s = execStmEnClear n s := rfl
theorem exec_stmFlush (n : Nat) : exec (.stmFlush n) s = execStmFlush n s := rfl
theorem exec_stmResume (n : Nat) : exec (.stmResume n) s = execStmResume n s := rfl
theorem exec_stmSeqWrite (n : Nat) (seq : BitVec 48) : exec (.stmSeqWrite n seq) s = execStmSeqWrite n seq s := rfl
theorem exec_tntFnStrmWrite (f : Nat) (v : W32) : exec (.tntFnStrmWrite f v) s = execTntFnStrmWrite f v s := rfl
theorem exec_tntFnPortWrite (f : Nat) (v : W32) : exec (.tntFnPortWrite f v) s = execTntFnPortWrite f v s := rfl
theorem exec_descriptorFetch (n : Nat) (hostErr : Bool) (badList : Option Nat) : exec (.descriptorFetch n hostErr badList) s = execDescriptorFetch n hostErr badList s := rfl
theorem exec_phaseRecheck (n : Nat) : exec (.phaseRecheck n) s = execPhaseRecheck n s := rfl
theorem exec_acceptCommit (n : Nat) (bad : Nat) (lat : Nat) : exec (.acceptCommit n bad lat) s = execAcceptCommit n bad lat s := rfl
theorem exec_nopItem (n : Nat) : exec (.nopItem n) s = execNopItem n s := rfl
theorem exec_runItem (n : Nat) (badList : Option Nat) : exec (.runItem n badList) s = execRunItem n badList s := rfl
theorem exec_loadItem (n : Nat) (badList : Option Nat) : exec (.loadItem n badList) s = execLoadItem n badList s := rfl
theorem exec_unloadItem (n : Nat) : exec (.unloadItem n) s = execUnloadItem n s := rfl
theorem exec_stepLimitReached (n : Nat) : exec (.stepLimitReached n) s = execStepLimitReached n s := rfl
theorem exec_itemCoresEnded (n : Nat) : exec (.itemCoresEnded n) s = execItemCoresEnded n s := rfl
theorem exec_doneCommit (n : Nat) : exec (.doneCommit n) s = execDoneCommit n s := rfl
theorem exec_coalesceTimeout (n : Nat) : exec (.coalesceTimeout n) s = execCoalesceTimeout n s := rfl
theorem exec_msixMergedSend (f : Nat) (v : Nat) : exec (.msixMergedSend f v) s = execMsixMergedSend f v s := rfl
theorem exec_budgetWindow (f : Nat) : exec (.budgetWindow f) s = execBudgetWindow f s := rfl
theorem exec_detCtlLockWrite (v : W32) : exec (.detCtlLockWrite v) s = execDetCtlLockWrite v s := rfl
theorem exec_detLogCfgWrite (sg : Nat) (v : W32) : exec (.detLogCfgWrite sg v) s = execDetLogCfgWrite sg v s := rfl
theorem exec_detLogHeadWrite (sg : Nat) (v : W32) : exec (.detLogHeadWrite sg v) s = execDetLogHeadWrite sg v s := rfl
theorem exec_logTailAdvance (sg : Nat) (hostErr : Bool) : exec (.logTailAdvance sg hostErr) s = execLogTailAdvance sg hostErr s := rfl
theorem exec_detRplGo (v : W32) : exec (.detRplGo v) s = execDetRplGo v s := rfl
theorem exec_detRplAbort : exec (.detRplAbort) s = execDetRplAbort s := rfl
theorem exec_replayItem (hostErr : Bool) : exec (.replayItem hostErr) s = execReplayItem hostErr s := rfl
theorem exec_stopPointReached (hit : Bool) (hostErr : Bool) : exec (.stopPointReached hit hostErr) s = execStopPointReached hit hostErr s := rfl
theorem exec_detTbLoRead : exec (.detTbLoRead) s = execDetTbLoRead s := rfl
theorem exec_mTimeExchange : exec (.mTimeExchange) s = execMTimeExchange s := rfl
theorem exec_mTime (w : Nat) (l : Nat) (sub : Nat) (exch : Nat) (t1 : W64) (t2 : W64) (t3 : W64) (mpkg : Nat) (hops : Nat) : exec (.mTime w l sub exch t1 t2 t3 mpkg hops) s = execMTime w l sub exch t1 t2 t3 mpkg hops s := rfl
theorem exec_tbSyncTimeout : exec (.tbSyncTimeout) s = execTbSyncTimeout s := rfl
theorem exec_ppsEdge (rising : Bool) : exec (.ppsEdge rising) s = execPpsEdge rising s := rfl
theorem exec_fabLnkEnWrite (w : Nat) (l : Nat) (v : W32) : exec (.fabLnkEnWrite w l v) s = execFabLnkEnWrite w l v s := rfl
theorem exec_retrain (w : Nat) (l : Nat) : exec (.retrain w l) s = execRetrain w l s := rfl
theorem exec_hwmclr (w : Nat) (l : Nat) : exec (.hwmclr w l) s = execHwmclr w l s := rfl
theorem exec_signalDetect (w : Nat) (l : Nat) (lanes : Nat) : exec (.signalDetect w l lanes) s = execSignalDetect w l lanes s := rfl
theorem exec_trainingFrame (w : Nat) (l : Nat) (ctl : W32) (far : Bool) : exec (.trainingFrame w l ctl far) s = execTrainingFrame w l ctl far s := rfl
theorem exec_linkTimeLimit (w : Nat) (l : Nat) : exec (.linkTimeLimit w l) s = execLinkTimeLimit w l s := rfl
theorem exec_linkRestartDelay (w : Nat) (l : Nat) : exec (.linkRestartDelay w l) s = execLinkRestartDelay w l s := rfl
theorem exec_blockReceive (w : Nat) (l : Nat) (b : Block) : exec (.blockReceive w l b) s = execBlockReceive w l b s := rfl
theorem exec_replayTimeout (panel : Bool) (a : Nat) (b : Nat) : exec (.replayTimeout panel a b) s = execReplayTimeout panel a b s := rfl
theorem exec_configRecord (w : Nat) (l : Nat) (r : CfgRec) : exec (.configRecord w l r) s = execConfigRecord w l r s := rfl
theorem exec_linkLoss (w : Nat) (l : Nat) (why : LossCause) : exec (.linkLoss w l why) s = execLinkLoss w l why s := rfl
theorem exec_holdExpiry (w : Nat) (l : Nat) : exec (.holdExpiry w l) s = execHoldExpiry w l s := rfl
theorem exec_panelTransfer (a : Nat) (b : Nat) (bad : Bool) (cvc : Nat) : exec (.panelTransfer a b bad cvc) s = execPanelTransfer a b bad cvc s := rfl
theorem exec_cellAgeDiscard (node : Nat) (port : Nat) (pos : Nat) : exec (.cellAgeDiscard node port pos) s = execCellAgeDiscard node port pos s := rfl
theorem exec_messageReassembled (d : Nat) (i : Nat) (hit : Bool) : exec (.messageReassembled d i hit) s = execMessageReassembled d i hit s := rfl
theorem exec_responseMatch (d : Nat) (i : Nat) : exec (.responseMatch d i) s = execResponseMatch d i s := rfl
theorem exec_wheelRoute (w : Nat) (port : Nat) (pos : Nat) : exec (.wheelRoute w port pos) s = execWheelRoute w port pos s := rfl
theorem exec_outputArbitrate (node : Nat) (out : Nat) : exec (.outputArbitrate node out) s = execOutputArbitrate node out s := rfl
theorem exec_eceDecrease (d : Nat) (pkg : Nat) : exec (.eceDecrease d pkg) s = execEceDecrease d pkg s := rfl
theorem exec_rateIncrease (d : Nat) (pkg : Nat) : exec (.rateIncrease d pkg) s = execRateIncrease d pkg s := rfl
theorem exec_mRoute (w : Nat) (seq : Nat) (term : Nat) (ws : List Nat) : exec (.mRoute w seq term ws) s = execMRoute w seq term ws s := rfl
theorem exec_mEpoch (ep : Nat) (seq : Nat) (term : Nat) (n : Nat) : exec (.mEpoch ep seq term n) s = execMEpoch ep seq term n s := rfl
theorem exec_drained (w : Nat) : exec (.drained w) s = execDrained w s := rfl
theorem exec_epochRetire (told : Bool) : exec (.epochRetire told) s = execEpochRetire told s := rfl
theorem exec_colStartMerge (node : Nat) (gn : Nat) : exec (.colStartMerge node gn) s = execColStartMerge node gn s := rfl
theorem exec_colDataReduce (node : Nat) (gn : Nat) (i : Nat) : exec (.colDataReduce node gn i) s = execColDataReduce node gn i s := rfl
theorem exec_colGo (node : Nat) (gn : Nat) : exec (.colGo node gn) s = execColGo node gn s := rfl
theorem exec_colDone (node : Nat) (gn : Nat) : exec (.colDone node gn) s = execColDone node gn s := rfl
theorem exec_sigAdd (d : Nat) (i : Nat) : exec (.sigAdd d i) s = execSigAdd d i s := rfl
theorem exec_sigReset (d : Nat) (i : Nat) : exec (.sigReset d i) s = execSigReset d i s := rfl
theorem exec_sigWait (d : Nat) (i : Nat) : exec (.sigWait d i) s = execSigWait d i s := rfl
theorem exec_sigPoll (d : Nat) (i : Nat) : exec (.sigPoll d i) s = execSigPoll d i s := rfl
theorem exec_sigClose (d : Nat) : exec (.sigClose d) s = execSigClose d s := rfl
theorem exec_orderedAtomicPerform (d : Nat) (sg : Nat) (hit : Bool) : exec (.orderedAtomicPerform d sg hit) s = execOrderedAtomicPerform d sg hit s := rfl
theorem exec_enumFrameReceive (f : Nat) : exec (.enumFrameReceive f) s = execEnumFrameReceive f s := rfl
theorem exec_enumFrameSend : exec (.enumFrameSend) s = execEnumFrameSend s := rfl
theorem exec_klnEnumChainWrite (c : BitVec 6) : exec (.klnEnumChainWrite c) s = execKlnEnumChainWrite c s := rfl
theorem exec_headStrap : exec (.headStrap) s = execHeadStrap s := rfl
theorem exec_mHelloLink (w : Nat) (l : Nat) (ws : List Nat) : exec (.mHelloLink w l ws) s = execMHelloLink w l ws s := rfl
theorem exec_helloTimer (w : Nat) (l : Nat) : exec (.helloTimer w l) s = execHelloTimer w l s := rfl
theorem exec_light (pkg : Nat) (ep : Nat) (first : Nat) (term : Nat) (act : Nat) (stby : Option Nat) (period : Nat) (epoch : Nat) : exec (.light pkg ep first term act stby period epoch) s = execLight pkg ep first term act stby period epoch s := rfl
theorem exec_lit (pkg : Nat) (ep : Nat) (kind : Nat) (serial : Nat) (term : Nat) (fw : Nat) : exec (.lit pkg ep kind serial term fw) s = execLit pkg ep kind serial term fw s := rfl
theorem exec_join (pkg : Nat) (w : Nat) (l : Nat) (j : JoinSt) : exec (.join pkg w l j) s = execJoin pkg w l j s := rfl
theorem exec_lsr (spkg : Nat) (origin : Nat) (part : Nat) (p : LsrPart) : exec (.lsr spkg origin part p) s = execLsr spkg origin part p s := rfl
theorem exec_lsrRefresh : exec (.lsrRefresh) s = execLsrRefresh s := rfl
theorem exec_quiet : exec (.quiet) s = execQuiet s := rfl
theorem exec_election : exec (.election) s = execElection s := rfl
theorem exec_termreq (t : Nat) (requester : Nat) : exec (.termreq t requester) s = execTermreq t requester s := rfl
theorem exec_grant (spkg : Nat) (term : Nat) : exec (.grant spkg term) s = execGrant spkg term s := rfl
theorem exec_deny (spkg : Nat) : exec (.deny spkg) s = execDeny spkg s := rfl
theorem exec_witnessRetry : exec (.witnessRetry) s = execWitnessRetry s := rfl
theorem exec_beat (recv : Bool) (spkg : Nat) : exec (.beat recv spkg) s = execBeat recv spkg s := rfl
theorem exec_beatTimeout : exec (.beatTimeout) s = execBeatTimeout s := rfl
theorem exec_mirror (spkg : Nat) (num : Nat) (term : Nat) (m : MirrorIn) : exec (.mirror spkg num term m) s = execMirror spkg num term m s := rfl
theorem exec_mack (spkg : Nat) (num : Nat) : exec (.mack spkg num) s = execMack spkg num s := rfl
theorem exec_sync (copy : Option (Nat × RoleSt)) : exec (.sync copy) s = execSync copy s := rfl
theorem exec_swapTimer : exec (.swapTimer) s = execSwapTimer s := rfl
theorem exec_swapnow : exec (.swapnow) s = execSwapnow s := rfl
theorem exec_handover (spkg : Nat) : exec (.handover spkg) s = execHandover spkg s := rfl
theorem exec_abort (spkg : Nat) : exec (.abort spkg) s = execAbort spkg s := rfl
theorem exec_commandResend (pkg : Nat) (ep : Nat) (seq : Nat) : exec (.commandResend pkg ep seq) s = execCommandResend pkg ep seq s := rfl
theorem exec_wickTimeout (pkg : Nat) (ep : Nat) : exec (.wickTimeout pkg ep) s = execWickTimeout pkg ep s := rfl
theorem exec_packageLost (pkg : Nat) : exec (.packageLost pkg) s = execPackageLost pkg s := rfl
theorem exec_recomp : exec (.recomp) s = execRecomp s := rfl
theorem exec_recompute (us : Nat) (pps : List Nat) : exec (.recompute us pps) s = execRecompute us pps s := rfl
theorem exec_rd32 (ep : Nat) (seq : Nat) (term : Nat) (off : Nat) : exec (.rd32 ep seq term off) s = execRd32 ep seq term off s := rfl
theorem exec_wr32 (ep : Nat) (seq : Nat) (term : Nat) (off : Nat) (v : W32) : exec (.wr32 ep seq term off v) s = execWr32 ep seq term off v s := rfl
theorem exec_term (ep : Nat) (seq : Nat) (term : Nat) (act : Nat) (stby : Option Nat) : exec (.term ep seq term act stby) s = execTerm ep seq term act stby s := rfl
theorem exec_down (ep : Nat) (seq : Nat) (term : Nat) : exec (.down ep seq term) s = execDown ep seq term s := rfl
theorem exec_spmrd (ep : Nat) (seq : Nat) (term : Nat) (cl : Nat) : exec (.spmrd ep seq term cl) s = execSpmrd ep seq term cl s := rfl
theorem exec_mlist (seq : Nat) (term : Nat) (ws : List Nat) : exec (.mlist seq term ws) s = execMlist seq term ws s := rfl
theorem exec_grpw (ep : Nat) (seq : Nat) (term : Nat) (ws : List Nat) : exec (.grpw ep seq term ws) s = execGrpw ep seq term ws s := rfl
theorem exec_sgreq (seq : Nat) (term : Nat) (ws : List Nat) : exec (.sgreq seq term ws) s = execSgreq seq term ws s := rfl
theorem exec_sgrel (seq : Nat) (term : Nat) (ws : List Nat) : exec (.sgrel seq term ws) s = execSgrel seq term ws s := rfl
theorem exec_tparent (seq : Nat) (term : Nat) (wheel : Nat) (link : Nat) (master : Bool) (hops : Nat) (mpkg : Nat) : exec (.tparent seq term wheel link master hops mpkg) s = execTparent seq term wheel link master hops mpkg s := rfl
theorem exec_rsp (pkg : Nat) (ep : Nat) (ws : List Nat) : exec (.rsp pkg ep ws) s = execRsp pkg ep ws s := rfl
theorem exec_report (e : ReportEv) : exec (.report e) s = execReport e s := rfl
theorem exec_rack (ep : Nat) (num : Nat) : exec (.rack ep num) s = execRack ep num s := rfl
theorem exec_sliceCreate (c : Nat) (hostErr : Bool) : exec (.sliceCreate c hostErr) s = execSliceCreate c hostErr s := rfl
theorem exec_sliceDestroy (c : Nat) : exec (.sliceDestroy c) s = execSliceDestroy c s := rfl
theorem exec_sliceRecarve (c : Nat) (hostErr : Bool) : exec (.sliceRecarve c hostErr) s = execSliceRecarve c hostErr s := rfl
theorem exec_groupCreate (c : Nat) (hostErr : Bool) : exec (.groupCreate c hostErr) s = execGroupCreate c hostErr s := rfl
theorem exec_groupDestroy (c : Nat) : exec (.groupDestroy c) s = execGroupDestroy c s := rfl
theorem exec_mSnuff (spkg : Nat) (slice : Nat) (origin : Nat) (number : Nat) (reason : Nat) : exec (.mSnuff spkg slice origin number reason) s = execMSnuff spkg slice origin number reason s := rfl
theorem exec_snuffOrigin : exec (.snuffOrigin) s = execSnuffOrigin s := rfl
theorem exec_rstSnuffGo (slice : Nat) : exec (.rstSnuffGo slice) s = execRstSnuffGo slice s := rfl
theorem exec_settleEnd (job : Nat) : exec (.settleEnd job) s = execSettleEnd job s := rfl
theorem exec_pilotSend (ep : Nat) : exec (.pilotSend ep) s = execPilotSend ep s := rfl
theorem exec_mPilot (ep : Nat) (lit : Bool) (sick : Bool) (mask : BitVec 256) : exec (.mPilot ep lit sick mask) s = execMPilot ep lit sick mask s := rfl
theorem exec_pilotPeriodMiss (ep : Nat) : exec (.pilotPeriodMiss ep) s = execPilotPeriodMiss ep s := rfl
theorem exec_rungContextAbort (ep : Nat) : exec (.rungContextAbort ep) s = execRungContextAbort ep s := rfl
theorem exec_engineReset (ep : Nat) : exec (.engineReset ep) s = execEngineReset ep s := rfl
theorem exec_saggarFlush (ep : Nat) : exec (.saggarFlush ep) s = execSaggarFlush ep s := rfl
theorem exec_rungDieReset (ep : Nat) : exec (.rungDieReset ep) s = execRungDieReset ep s := rfl
theorem exec_powerCycle : exec (.powerCycle) s = execPowerCycle s := rfl
theorem exec_dieReset (d : Nat) : exec (.dieReset d) s = execDieReset d s := rfl
theorem exec_emberDone (d : Nat) : exec (.emberDone d) s = execEmberDone d s := rfl
theorem exec_emberAbandon (d : Nat) : exec (.emberAbandon d) s = execEmberAbandon d s := rfl
theorem exec_resetHoldRelease (d : Nat) : exec (.resetHoldRelease d) s = execResetHoldRelease d s := rfl
theorem exec_dieSelfTest (d : Nat) (bad : List (Nat × Nat)) (dieBad : Bool) : exec (.dieSelfTest d bad dieBad) s = execDieSelfTest d bad dieBad s := rfl
theorem exec_dieResetTimeout (d : Nat) : exec (.dieResetTimeout d) s = execDieResetTimeout d s := rfl
theorem exec_rstDieReset (d : Nat) : exec (.rstDieReset d) s = execRstDieReset d s := rfl
theorem exec_rstDieFence (d : Nat) : exec (.rstDieFence d) s = execRstDieFence d s := rfl
theorem exec_coreFence (c : Nat) : exec (.coreFence c) s = execCoreFence c s := rfl
theorem exec_dieFence (d : Nat) : exec (.dieFence d) s = execDieFence d s := rfl
theorem exec_wheelFence (w : Nat) : exec (.wheelFence w) s = execWheelFence w s := rfl
theorem exec_quantumSwitch (c : Nat) : exec (.quantumSwitch c) s = execQuantumSwitch c s := rfl
theorem exec_yieldSwitch (c : Nat) : exec (.yieldSwitch c) s = execYieldSwitch c s := rfl
theorem exec_rstRetValClr : exec (.rstRetValClr) s = execRstRetValClr s := rfl
theorem exec_rstEmbCtlGo : exec (.rstEmbCtlGo) s = execRstEmbCtlGo s := rfl
theorem exec_kilnLockstepFault : exec (.kilnLockstepFault) s = execKilnLockstepFault s := rfl
theorem exec_kilnRestart : exec (.kilnRestart) s = execKilnRestart s := rfl
theorem exec_spareMove (blk : Nat) (count : Nat) : exec (.spareMove blk count) s = execSpareMove blk count s := rfl
theorem exec_pwrfailAssert : exec (.pwrfailAssert) s = execPwrfailAssert s := rfl
theorem exec_pwrfailRelease : exec (.pwrfailRelease) s = execPwrfailRelease s := rfl
theorem exec_pfrelCycle : exec (.pfrelCycle) s = execPfrelCycle s := rfl
theorem exec_inputUndervolt : exec (.inputUndervolt) s = execInputUndervolt s := rfl
theorem exec_inputOvervolt (on : Bool) : exec (.inputOvervolt on) s = execInputOvervolt on s := rfl
theorem exec_railOutOfLimits (rail : Nat) (on : Bool) : exec (.railOutOfLimits rail on) s = execRailOutOfLimits rail on s := rfl
theorem exec_journalRecovery (bad : List Nat) : exec (.journalRecovery bad) s = execJournalRecovery bad s := rfl
theorem exec_recCell (spkg : Nat) (r : JRec) : exec (.recCell spkg r) s = execRec spkg r s := rfl
theorem exec_jrnlAck (spkg : Nat) (n : Nat) (seq : Nat) (kind : Nat) (status : Nat) : exec (.jrnlAck spkg n seq kind status) s = execJrnlAck spkg n seq kind status s := rfl
theorem exec_jrnlDone (spkg : Nat) (n : Nat) (c : Cpl) : exec (.jrnlDone spkg n c) s = execJrnlDone spkg n c s := rfl
theorem exec_jrnlState (spkg : Nat) (n : Nat) (seq : Nat) (mode : Nat) (state : Nat) : exec (.jrnlState spkg n seq mode state) s = execJrnlState spkg n seq mode state s := rfl
theorem exec_jrnlBeat : exec (.jrnlBeat) s = execJrnlBeat s := rfl
theorem exec_query (spkg : Nat) (n : Nat) (seq : Nat) : exec (.query spkg n seq) s = execQuery spkg n seq s := rfl
theorem exec_syncreq (spkg : Nat) : exec (.syncreq spkg) s = execSyncreq spkg s := rfl
theorem exec_syncend (spkg : Nat) (count : Nat) : exec (.syncend spkg count) s = execSyncend spkg count s := rfl
theorem exec_jrnlResend (i : Nat) : exec (.jrnlResend i) s = execJrnlResend i s := rfl
theorem exec_twinlost : exec (.twinlost) s = execTwinlost s := rfl
theorem exec_solo : exec (.solo) s = execSolo s := rfl
theorem exec_rejoin : exec (.rejoin) s = execRejoin s := rfl
theorem exec_sgCreate (c : Nat) : exec (.sgCreate c) s = execSgCreate c s := rfl
theorem exec_sgDestroy (c : Nat) : exec (.sgDestroy c) s = execSgDestroy c s := rfl
theorem exec_rekey (c : Nat) : exec (.rekey c) s = execRekey c s := rfl
theorem exec_zeroise (c : Nat) : exec (.zeroise c) s = execZeroise c s := rfl
theorem exec_pkeyUpdate (c : Nat) (hostErr : Bool) : exec (.pkeyUpdate c hostErr) s = execPkeyUpdate c hostErr s := rfl
theorem exec_fwUpdate (c : Nat) (hostErr : Bool) : exec (.fwUpdate c hostErr) s = execFwUpdate c hostErr s := rfl
theorem exec_svnCommit (c : Nat) : exec (.svnCommit c) s = execSvnCommit c s := rfl
theorem exec_keyDrainErase (sg : Nat) : exec (.keyDrainErase sg) s = execKeyDrainErase sg s := rfl
theorem exec_tntSgBindWrite (n : Nat) (v : W32) : exec (.tntSgBindWrite n v) s = execTntSgBindWrite n v s := rfl
theorem exec_getVersion (f : Nat) : exec (.getVersion f) s = execGetVersion f s := rfl
theorem exec_getCapabilities (f : Nat) : exec (.getCapabilities f) s = execGetCapabilities f s := rfl
theorem exec_negotiateAlgorithms (f : Nat) : exec (.negotiateAlgorithms f) s = execNegotiateAlgorithms f s := rfl
theorem exec_getDigests (f : Nat) : exec (.getDigests f) s = execGetDigests f s := rfl
theorem exec_getCertificate (f : Nat) (slot : Nat) (off : Nat) (len : Nat) : exec (.getCertificate f slot off len) s = execGetCertificate f slot off len s := rfl
theorem exec_challenge (f : Nat) (slot : Nat) (nonce : List Byte) : exec (.challenge f slot nonce) s = execChallenge f slot nonce s := rfl
theorem exec_getMeasurements (f : Nat) (op : Nat) : exec (.getMeasurements f op) s = execGetMeasurements f op s := rfl
theorem exec_keyExchange (f : Nat) (req : List Byte) : exec (.keyExchange f req) s = execKeyExchange f req s := rfl
theorem exec_finish (f : Nat) (id : Nat) (macOk : Bool) : exec (.finish f id macOk) s = execFinish f id macOk s := rfl
theorem exec_heartbeat (f : Nat) (id : Nat) : exec (.heartbeat f id) s = execHeartbeat f id s := rfl
theorem exec_keyUpdate (f : Nat) (id : Nat) (op : Nat) : exec (.keyUpdate f id op) s = execKeyUpdate f id op s := rfl
theorem exec_endSession (f : Nat) (id : Nat) : exec (.endSession f id) s = execEndSession f id s := rfl
theorem exec_ideKm (f : Nat) (id : Nat) (port : Nat) (strm : Nat) (set1 : Bool) : exec (.ideKm f id port strm set1) s = execIdeKm f id port strm set1 s := rfl
theorem exec_recoveryBundle (b : List Byte) : exec (.recoveryBundle b) s = execRecoveryBundle b s := rfl
theorem exec_mbxBind (c : Nat) (v : W32) : exec (.mbxBind c v) s = execMbxBind c v s := rfl
theorem exec_mbxLock (hi : Bool) (v : W32) : exec (.mbxLock hi v) s = execMbxLock hi v s := rfl
theorem exec_mbxPayWrite (c : Nat) (k : Nat) (mid : Nat) (v : W32) : exec (.mbxPayWrite c k mid v) s = execMbxPayWrite c k mid v s := rfl
theorem exec_mbxDbSet (c : Nat) (mid : Nat) (v : W32) : exec (.mbxDbSet c mid v) s = execMbxDbSet c mid v s := rfl
theorem exec_mbxDbPend (c : Nat) (mid : Nat) (v : W32) : exec (.mbxDbPend c mid v) s = execMbxDbPend c mid v s := rfl
theorem exec_mbxDbMask (c : Nat) (mid : Nat) (v : W32) : exec (.mbxDbMask c mid v) s = execMbxDbMask c mid v s := rfl
theorem exec_mbxAckCode (c : Nat) (mid : Nat) (code : Nat) : exec (.mbxAckCode c mid code) s = execMbxAckCode c mid code s := rfl
theorem exec_mbxAckValidClear (c : Nat) (mid : Nat) : exec (.mbxAckValidClear c mid) s = execMbxAckValidClear c mid s := rfl
theorem exec_partyLost (mid : Nat) : exec (.partyLost mid) s = execPartyLost mid s := rfl
theorem exec_sherdExport (c : Nat) (hostErr : Option Nat) : exec (.sherdExport c hostErr) s = execSherdExport c hostErr s := rfl
theorem exec_errorLineFrame (die : Nat) (frame : BitVec 16) : exec (.errorLineFrame die frame) s = execErrorLineFrame die frame s := rfl
theorem exec_lineFault (die : Nat) (stuck : Bool) (present : Bool) : exec (.lineFault die stuck present) s = execLineFault die stuck present s := rfl
theorem exec_faultEvent (ctl : Option Nat) (detail : Bool) : exec (.faultEvent ctl detail) s = execFaultEvent ctl detail s := rfl
theorem exec_sramWriteback (c : Nat) (b : Nat) : exec (.sramWriteback c b) s = execSramWriteback c b s := rfl
theorem exec_detailTimeout : exec (.detailTimeout) s = execDetailTimeout s := rfl
theorem exec_fltSrcStatClear (w : Nat) (v : W32) : exec (.fltSrcStatClear w v) s = execFltSrcStatClear w v s := rfl
theorem exec_capvClear : exec (.capvClear) s = execCapvClear s := rfl
theorem exec_fltInjGo (v : W32) : exec (.fltInjGo v) s = execFltInjGo v s := rfl
theorem exec_haltChannelChange (b : Bool) (on : Bool) : exec (.haltChannelChange b on) s = execHaltChannelChange b on s := rfl
theorem exec_haltDisc : exec (.haltDisc) s = execHaltDisc s := rfl
theorem exec_haltAssert : exec (.haltAssert) s = execHaltAssert s := rfl
theorem exec_haltRelease : exec (.haltRelease) s = execHaltRelease s := rfl
theorem exec_haltResume : exec (.haltResume) s = execHaltResume s := rfl
theorem exec_mgpFrameReceive (b : List Byte) (fcsOk : Bool) : exec (.mgpFrameReceive b fcsOk) s = execMgpFrameReceive b fcsOk s := rfl
theorem exec_kmpAck : exec (.kmpAck) s = execKmpAck s := rfl
theorem exec_kmpResend (seq : Nat) : exec (.kmpResend seq) s = execKmpResend seq s := rfl
theorem exec_telem : exec (.telem) s = execTelem s := rfl
theorem exec_patchunk : exec (.patchunk) s = execPatchunk s := rfl
theorem exec_patternStageTimeout : exec (.patternStageTimeout) s = execPatternStageTimeout s := rfl
theorem exec_kmpTermreq : exec (.kmpTermreq) s = execKmpTermreq s := rfl
theorem exec_kmpGrant : exec (.kmpGrant) s = execKmpGrant s := rfl
theorem exec_kmpDeny : exec (.kmpDeny) s = execKmpDeny s := rfl
theorem exec_transientWindow : exec (.transientWindow) s = execTransientWindow s := rfl
theorem exec_fieldTestStart (d : Nat) : exec (.fieldTestStart d) s = execFieldTestStart d s := rfl
theorem exec_fieldTestEnd (d : Nat) : exec (.fieldTestEnd d) s = execFieldTestEnd d s := rfl
theorem exec_fieldTestAbort (d : Nat) (cl : Nat) (pos : Nat) : exec (.fieldTestAbort d cl pos) s = execFieldTestAbort d cl pos s := rfl
theorem exec_ftnow : exec (.ftnow) s = execFtnow s := rfl
theorem exec_tstInjGo (v : W32) : exec (.tstInjGo v) s = execTstInjGo v s := rfl
theorem exec_capLoop (pin : Nat) (vin : Nat) : exec (.capLoop pin vin) s = execCapLoop pin vin s := rfl
theorem exec_thermalThrottle (d : Nat) (tj : Nat) : exec (.thermalThrottle d tj) s = execThermalThrottle d tj s := rfl
theorem exec_therm (d : Nat) : exec (.therm d) s = execTherm d s := rfl
theorem exec_pwrRailVsetWrite (d : Nat) (v : Nat) : exec (.pwrRailVsetWrite d v) s = execPwrRailVsetWrite d v s := rfl
theorem exec_powerStateSelect : exec (.powerStateSelect) s = execPowerStateSelect s := rfl
theorem exec_wakeEvent (w : Wake) : exec (.wakeEvent w) s = execWakeEvent w s := rfl
theorem exec_pwrLtrWrite (f : Nat) (v : Nat) : exec (.pwrLtrWrite f v) s = execPwrLtrWrite f v s := rfl
theorem exec_pwrPeerTolWrite (v : Nat) : exec (.pwrPeerTolWrite v) s = execPwrPeerTolWrite v s := rfl
theorem exec_pwrCtlWake : exec (.pwrCtlWake) s = execPwrCtlWake s := rfl
theorem exec_pwrCtlHold (on : Bool) : exec (.pwrCtlHold on) s = execPwrCtlHold on s := rfl
theorem exec_perstAssert (hp1 : Bool) : exec (.perstAssert hp1) s = execPerstAssert hp1 s := rfl
theorem exec_perstDeassert (hp1 : Bool) : exec (.perstDeassert hp1) s = execPerstDeassert hp1 s := rfl
theorem exec_mrstN (low : Bool) : exec (.mrstN low) s = execMrstN low s := rfl
theorem exec_refclkLoss (on : Bool) : exec (.refclkLoss on) s = execRefclkLoss on s := rfl
theorem exec_entdaa (a : BitVec 7) : exec (.entdaa a) s = execEntdaa a s := rfl
theorem exec_setnewda (a : BitVec 7) : exec (.setnewda a) s = execSetnewda a s := rfl
theorem exec_rstdaa : exec (.rstdaa) s = execRstdaa s := rfl
theorem exec_getpid : exec (.getpid) s = execGetpid s := rfl
theorem exec_getbcr : exec (.getbcr) s = execGetbcr s := rfl
theorem exec_getdcr : exec (.getdcr) s = execGetdcr s := rfl
theorem exec_getstatus : exec (.getstatus) s = execGetstatus s := rfl
theorem exec_i3cRegisterRead (off : Nat) (pecOk : Bool) : exec (.i3cRegisterRead off pecOk) s = execI3cRegisterRead off pecOk s := rfl
theorem exec_i3cRegisterWrite (off : Nat) (v : W32) (pecOk : Bool) : exec (.i3cRegisterWrite off v pecOk) s = execI3cRegisterWrite off v pecOk s := rfl
theorem exec_mctpPacket (b : List Byte) (pecOk : Bool) : exec (.mctpPacket b pecOk) s = execMctpPacket b pecOk s := rfl
theorem exec_sgmiiAutoneg (speed : Nat) (full : Bool) : exec (.sgmiiAutoneg speed full) s = execSgmiiAutoneg speed full s := rfl
theorem exec_startUp (n : Nat) (bad : List Nat) (badPos : List (Nat × Nat × Nat)) : exec (.startUp n bad badPos) s = execStartUp n bad badPos s := rfl
theorem exec_registerWrite (t : WriteTo) (v : W32) : exec (.registerWrite t v) s = execRegisterWrite t v s := rfl
theorem exec_clusterMemoryServe (d : Nat) (cl : Nat) (b : Nat) (ecc : Ecc) : exec (.clusterMemoryServe d cl b ecc) s = execClusterMemoryServe d cl b ecc s := rfl
theorem exec_hostPortLinkDown (hp1 : Bool) : exec (.hostPortLinkDown hp1) s = execHostPortLinkDown hp1 s := rfl
theorem exec_hostPortLinkUp (hp1 : Bool) : exec (.hostPortLinkUp hp1) s = execHostPortLinkUp hp1 s := rfl
theorem exec_ppsLost : exec (.ppsLost) s = execPpsLost s := rfl
theorem exec_swapDeferRetry : exec (.swapDeferRetry) s = execSwapDeferRetry s := rfl
theorem exec_handoverTimeout : exec (.handoverTimeout) s = execHandoverTimeout s := rfl
theorem exec_jrnlBeatReceive (spkg : Nat) (pst : Nat) (runner : Bool) (solo : Bool) (named : Nat) : exec (.jrnlBeatReceive spkg pst runner solo named) s = execJrnlBeatReceive spkg pst runner solo named s := rfl
theorem exec_emberCopyDone (hostErr : Bool) : exec (.emberCopyDone hostErr) s = execEmberCopyDone hostErr s := rfl
theorem exec_mrstNReset : exec (.mrstNReset) s = execMrstNReset s := rfl

end Sys2Proof.Machine
end

