-- ==== Sys2Proof/Laws/State.lean ====
section
/-! SUPPORT. Laws/State.lean: each named update of the state, field by field. -/

namespace Sys2Proof.Machine

variable (s : State)

/-! ### rput -/

@[simp] theorem rput_regs (off : Nat) (v : W32) : (rput s off v).regs = tblSet regReset s.regs off v := rfl
@[simp] theorem rput_cores (off : Nat) (v : W32) : (rput s off v).cores = s.cores := rfl
@[simp] theorem rput_mem (off : Nat) (v : W32) : (rput s off v).mem = s.mem := rfl
@[simp] theorem rput_fab (off : Nat) (v : W32) : (rput s off v).fab = s.fab := rfl
@[simp] theorem rput_tb (off : Nat) (v : W32) : (rput s off v).tb = s.tb := rfl
@[simp] theorem rput_tst (off : Nat) (v : W32) : (rput s off v).tst = s.tst := rfl
@[simp] theorem rput_stm (off : Nat) (v : W32) : (rput s off v).stm = s.stm := rfl
@[simp] theorem rput_flt (off : Nat) (v : W32) : (rput s off v).flt = s.flt := rfl
@[simp] theorem rput_rst (off : Nat) (v : W32) : (rput s off v).rst = s.rst := rfl
@[simp] theorem rput_kln (off : Nat) (v : W32) : (rput s off v).kln = s.kln := rfl
@[simp] theorem rput_lnt (off : Nat) (v : W32) : (rput s off v).lnt = s.lnt := rfl
@[simp] theorem rput_pwr (off : Nat) (v : W32) : (rput s off v).pwr = s.pwr := rfl
@[simp] theorem rput_pin (off : Nat) (v : W32) : (rput s off v).pin = s.pin := rfl
@[simp] theorem rput_boot (off : Nat) (v : W32) : (rput s off v).boot = s.boot := rfl
@[simp] theorem rput_sgs (off : Nat) (v : W32) : (rput s off v).sgs = s.sgs := rfl
@[simp] theorem rput_keys (off : Nat) (v : W32) : (rput s off v).keys = s.keys := rfl
@[simp] theorem rput_nextKey (off : Nat) (v : W32) : (rput s off v).nextKey = s.nextKey := rfl
@[simp] theorem rput_evq (off : Nat) (v : W32) : (rput s off v).evq = s.evq := rfl
@[simp] theorem rput_lines (off : Nat) (v : W32) : (rput s off v).lines = s.lines := rfl
@[simp] theorem rput_sent (off : Nat) (v : W32) : (rput s off v).sent = s.sent := rfl
@[simp] theorem rput_pending (off : Nat) (v : W32) : (rput s off v).pending = s.pending := rfl

/-! ### fput -/

@[simp] theorem fput_regs (off : Nat) (f : Fld) (x : Nat) : (fput s off f x).regs = tblSet regReset s.regs off (fldSet (rget s off) f x) := rfl
@[simp] theorem fput_cores (off : Nat) (f : Fld) (x : Nat) : (fput s off f x).cores = s.cores := rfl
@[simp] theorem fput_mem (off : Nat) (f : Fld) (x : Nat) : (fput s off f x).mem = s.mem := rfl
@[simp] theorem fput_fab (off : Nat) (f : Fld) (x : Nat) : (fput s off f x).fab = s.fab := rfl
@[simp] theorem fput_tb (off : Nat) (f : Fld) (x : Nat) : (fput s off f x).tb = s.tb := rfl
@[simp] theorem fput_tst (off : Nat) (f : Fld) (x : Nat) : (fput s off f x).tst = s.tst := rfl
@[simp] theorem fput_stm (off : Nat) (f : Fld) (x : Nat) : (fput s off f x).stm = s.stm := rfl
@[simp] theorem fput_flt (off : Nat) (f : Fld) (x : Nat) : (fput s off f x).flt = s.flt := rfl
@[simp] theorem fput_rst (off : Nat) (f : Fld) (x : Nat) : (fput s off f x).rst = s.rst := rfl
@[simp] theorem fput_kln (off : Nat) (f : Fld) (x : Nat) : (fput s off f x).kln = s.kln := rfl
@[simp] theorem fput_lnt (off : Nat) (f : Fld) (x : Nat) : (fput s off f x).lnt = s.lnt := rfl
@[simp] theorem fput_pwr (off : Nat) (f : Fld) (x : Nat) : (fput s off f x).pwr = s.pwr := rfl
@[simp] theorem fput_pin (off : Nat) (f : Fld) (x : Nat) : (fput s off f x).pin = s.pin := rfl
@[simp] theorem fput_boot (off : Nat) (f : Fld) (x : Nat) : (fput s off f x).boot = s.boot := rfl
@[simp] theorem fput_sgs (off : Nat) (f : Fld) (x : Nat) : (fput s off f x).sgs = s.sgs := rfl
@[simp] theorem fput_keys (off : Nat) (f : Fld) (x : Nat) : (fput s off f x).keys = s.keys := rfl
@[simp] theorem fput_nextKey (off : Nat) (f : Fld) (x : Nat) : (fput s off f x).nextKey = s.nextKey := rfl
@[simp] theorem fput_evq (off : Nat) (f : Fld) (x : Nat) : (fput s off f x).evq = s.evq := rfl
@[simp] theorem fput_lines (off : Nat) (f : Fld) (x : Nat) : (fput s off f x).lines = s.lines := rfl
@[simp] theorem fput_sent (off : Nat) (f : Fld) (x : Nat) : (fput s off f x).sent = s.sent := rfl
@[simp] theorem fput_pending (off : Nat) (f : Fld) (x : Nat) : (fput s off f x).pending = s.pending := rfl

/-! ### fadd -/

@[simp] theorem fadd_cores (off : Nat) (f : Fld) (x : Nat) : (fadd s off f x).cores = s.cores := rfl
@[simp] theorem fadd_mem (off : Nat) (f : Fld) (x : Nat) : (fadd s off f x).mem = s.mem := rfl
@[simp] theorem fadd_fab (off : Nat) (f : Fld) (x : Nat) : (fadd s off f x).fab = s.fab := rfl
@[simp] theorem fadd_tb (off : Nat) (f : Fld) (x : Nat) : (fadd s off f x).tb = s.tb := rfl
@[simp] theorem fadd_tst (off : Nat) (f : Fld) (x : Nat) : (fadd s off f x).tst = s.tst := rfl
@[simp] theorem fadd_stm (off : Nat) (f : Fld) (x : Nat) : (fadd s off f x).stm = s.stm := rfl
@[simp] theorem fadd_flt (off : Nat) (f : Fld) (x : Nat) : (fadd s off f x).flt = s.flt := rfl
@[simp] theorem fadd_rst (off : Nat) (f : Fld) (x : Nat) : (fadd s off f x).rst = s.rst := rfl
@[simp] theorem fadd_kln (off : Nat) (f : Fld) (x : Nat) : (fadd s off f x).kln = s.kln := rfl
@[simp] theorem fadd_lnt (off : Nat) (f : Fld) (x : Nat) : (fadd s off f x).lnt = s.lnt := rfl
@[simp] theorem fadd_pwr (off : Nat) (f : Fld) (x : Nat) : (fadd s off f x).pwr = s.pwr := rfl
@[simp] theorem fadd_pin (off : Nat) (f : Fld) (x : Nat) : (fadd s off f x).pin = s.pin := rfl
@[simp] theorem fadd_boot (off : Nat) (f : Fld) (x : Nat) : (fadd s off f x).boot = s.boot := rfl
@[simp] theorem fadd_sgs (off : Nat) (f : Fld) (x : Nat) : (fadd s off f x).sgs = s.sgs := rfl
@[simp] theorem fadd_keys (off : Nat) (f : Fld) (x : Nat) : (fadd s off f x).keys = s.keys := rfl
@[simp] theorem fadd_nextKey (off : Nat) (f : Fld) (x : Nat) : (fadd s off f x).nextKey = s.nextKey := rfl
@[simp] theorem fadd_evq (off : Nat) (f : Fld) (x : Nat) : (fadd s off f x).evq = s.evq := rfl
@[simp] theorem fadd_lines (off : Nat) (f : Fld) (x : Nat) : (fadd s off f x).lines = s.lines := rfl
@[simp] theorem fadd_sent (off : Nat) (f : Fld) (x : Nat) : (fadd s off f x).sent = s.sent := rfl
@[simp] theorem fadd_pending (off : Nat) (f : Fld) (x : Nat) : (fadd s off f x).pending = s.pending := rfl

/-! ### setCore -/

@[simp] theorem setCore_regs (c : Nat) (x : Core) : (setCore s c x).regs = s.regs := rfl
@[simp] theorem setCore_cores (c : Nat) (x : Core) : (setCore s c x).cores = tblSet (fun _ => coreReset) s.cores c x := rfl
@[simp] theorem setCore_mem (c : Nat) (x : Core) : (setCore s c x).mem = s.mem := rfl
@[simp] theorem setCore_fab (c : Nat) (x : Core) : (setCore s c x).fab = s.fab := rfl
@[simp] theorem setCore_tb (c : Nat) (x : Core) : (setCore s c x).tb = s.tb := rfl
@[simp] theorem setCore_tst (c : Nat) (x : Core) : (setCore s c x).tst = s.tst := rfl
@[simp] theorem setCore_stm (c : Nat) (x : Core) : (setCore s c x).stm = s.stm := rfl
@[simp] theorem setCore_flt (c : Nat) (x : Core) : (setCore s c x).flt = s.flt := rfl
@[simp] theorem setCore_rst (c : Nat) (x : Core) : (setCore s c x).rst = s.rst := rfl
@[simp] theorem setCore_kln (c : Nat) (x : Core) : (setCore s c x).kln = s.kln := rfl
@[simp] theorem setCore_lnt (c : Nat) (x : Core) : (setCore s c x).lnt = s.lnt := rfl
@[simp] theorem setCore_pwr (c : Nat) (x : Core) : (setCore s c x).pwr = s.pwr := rfl
@[simp] theorem setCore_pin (c : Nat) (x : Core) : (setCore s c x).pin = s.pin := rfl
@[simp] theorem setCore_boot (c : Nat) (x : Core) : (setCore s c x).boot = s.boot := rfl
@[simp] theorem setCore_sgs (c : Nat) (x : Core) : (setCore s c x).sgs = s.sgs := rfl
@[simp] theorem setCore_keys (c : Nat) (x : Core) : (setCore s c x).keys = s.keys := rfl
@[simp] theorem setCore_nextKey (c : Nat) (x : Core) : (setCore s c x).nextKey = s.nextKey := rfl
@[simp] theorem setCore_evq (c : Nat) (x : Core) : (setCore s c x).evq = s.evq := rfl
@[simp] theorem setCore_lines (c : Nat) (x : Core) : (setCore s c x).lines = s.lines := rfl
@[simp] theorem setCore_sent (c : Nat) (x : Core) : (setCore s c x).sent = s.sent := rfl
@[simp] theorem setCore_pending (c : Nat) (x : Core) : (setCore s c x).pending = s.pending := rfl

/-! ### modCore -/

@[simp] theorem modCore_regs (c : Nat) (f : Core → Core) : (modCore s c f).regs = s.regs := rfl
@[simp] theorem modCore_cores (c : Nat) (f : Core → Core) : (modCore s c f).cores = tblSet (fun _ => coreReset) s.cores c (f (getCore s c)) := rfl
@[simp] theorem modCore_mem (c : Nat) (f : Core → Core) : (modCore s c f).mem = s.mem := rfl
@[simp] theorem modCore_fab (c : Nat) (f : Core → Core) : (modCore s c f).fab = s.fab := rfl
@[simp] theorem modCore_tb (c : Nat) (f : Core → Core) : (modCore s c f).tb = s.tb := rfl
@[simp] theorem modCore_tst (c : Nat) (f : Core → Core) : (modCore s c f).tst = s.tst := rfl
@[simp] theorem modCore_stm (c : Nat) (f : Core → Core) : (modCore s c f).stm = s.stm := rfl
@[simp] theorem modCore_flt (c : Nat) (f : Core → Core) : (modCore s c f).flt = s.flt := rfl
@[simp] theorem modCore_rst (c : Nat) (f : Core → Core) : (modCore s c f).rst = s.rst := rfl
@[simp] theorem modCore_kln (c : Nat) (f : Core → Core) : (modCore s c f).kln = s.kln := rfl
@[simp] theorem modCore_lnt (c : Nat) (f : Core → Core) : (modCore s c f).lnt = s.lnt := rfl
@[simp] theorem modCore_pwr (c : Nat) (f : Core → Core) : (modCore s c f).pwr = s.pwr := rfl
@[simp] theorem modCore_pin (c : Nat) (f : Core → Core) : (modCore s c f).pin = s.pin := rfl
@[simp] theorem modCore_boot (c : Nat) (f : Core → Core) : (modCore s c f).boot = s.boot := rfl
@[simp] theorem modCore_sgs (c : Nat) (f : Core → Core) : (modCore s c f).sgs = s.sgs := rfl
@[simp] theorem modCore_keys (c : Nat) (f : Core → Core) : (modCore s c f).keys = s.keys := rfl
@[simp] theorem modCore_nextKey (c : Nat) (f : Core → Core) : (modCore s c f).nextKey = s.nextKey := rfl
@[simp] theorem modCore_evq (c : Nat) (f : Core → Core) : (modCore s c f).evq = s.evq := rfl
@[simp] theorem modCore_lines (c : Nat) (f : Core → Core) : (modCore s c f).lines = s.lines := rfl
@[simp] theorem modCore_sent (c : Nat) (f : Core → Core) : (modCore s c f).sent = s.sent := rfl
@[simp] theorem modCore_pending (c : Nat) (f : Core → Core) : (modCore s c f).pending = s.pending := rfl

/-! ### setSag -/

@[simp] theorem setSag_regs (n : Nat) (x : Sag) : (setSag s n x).regs = s.regs := rfl
@[simp] theorem setSag_cores (n : Nat) (x : Sag) : (setSag s n x).cores = s.cores := rfl
@[simp] theorem setSag_mem (n : Nat) (x : Sag) : (setSag s n x).mem = s.mem := rfl
@[simp] theorem setSag_fab (n : Nat) (x : Sag) : (setSag s n x).fab = s.fab := rfl
@[simp] theorem setSag_tb (n : Nat) (x : Sag) : (setSag s n x).tb = s.tb := rfl
@[simp] theorem setSag_tst (n : Nat) (x : Sag) : (setSag s n x).tst = s.tst := rfl
@[simp] theorem setSag_stm (n : Nat) (x : Sag) : (setSag s n x).stm = s.stm := rfl
@[simp] theorem setSag_flt (n : Nat) (x : Sag) : (setSag s n x).flt = s.flt := rfl
@[simp] theorem setSag_rst (n : Nat) (x : Sag) : (setSag s n x).rst = s.rst := rfl
@[simp] theorem setSag_kln (n : Nat) (x : Sag) : (setSag s n x).kln = s.kln := rfl
@[simp] theorem setSag_lnt (n : Nat) (x : Sag) : (setSag s n x).lnt = s.lnt := rfl
@[simp] theorem setSag_pwr (n : Nat) (x : Sag) : (setSag s n x).pwr = s.pwr := rfl
@[simp] theorem setSag_pin (n : Nat) (x : Sag) : (setSag s n x).pin = s.pin := rfl
@[simp] theorem setSag_boot (n : Nat) (x : Sag) : (setSag s n x).boot = s.boot := rfl
@[simp] theorem setSag_sgs (n : Nat) (x : Sag) : (setSag s n x).sgs = tblSet (fun _ => sagReset) s.sgs n x := rfl
@[simp] theorem setSag_keys (n : Nat) (x : Sag) : (setSag s n x).keys = s.keys := rfl
@[simp] theorem setSag_nextKey (n : Nat) (x : Sag) : (setSag s n x).nextKey = s.nextKey := rfl
@[simp] theorem setSag_evq (n : Nat) (x : Sag) : (setSag s n x).evq = s.evq := rfl
@[simp] theorem setSag_lines (n : Nat) (x : Sag) : (setSag s n x).lines = s.lines := rfl
@[simp] theorem setSag_sent (n : Nat) (x : Sag) : (setSag s n x).sent = s.sent := rfl
@[simp] theorem setSag_pending (n : Nat) (x : Sag) : (setSag s n x).pending = s.pending := rfl

/-! ### modSag -/

@[simp] theorem modSag_regs (n : Nat) (f : Sag → Sag) : (modSag s n f).regs = s.regs := rfl
@[simp] theorem modSag_cores (n : Nat) (f : Sag → Sag) : (modSag s n f).cores = s.cores := rfl
@[simp] theorem modSag_mem (n : Nat) (f : Sag → Sag) : (modSag s n f).mem = s.mem := rfl
@[simp] theorem modSag_fab (n : Nat) (f : Sag → Sag) : (modSag s n f).fab = s.fab := rfl
@[simp] theorem modSag_tb (n : Nat) (f : Sag → Sag) : (modSag s n f).tb = s.tb := rfl
@[simp] theorem modSag_tst (n : Nat) (f : Sag → Sag) : (modSag s n f).tst = s.tst := rfl
@[simp] theorem modSag_stm (n : Nat) (f : Sag → Sag) : (modSag s n f).stm = s.stm := rfl
@[simp] theorem modSag_flt (n : Nat) (f : Sag → Sag) : (modSag s n f).flt = s.flt := rfl
@[simp] theorem modSag_rst (n : Nat) (f : Sag → Sag) : (modSag s n f).rst = s.rst := rfl
@[simp] theorem modSag_kln (n : Nat) (f : Sag → Sag) : (modSag s n f).kln = s.kln := rfl
@[simp] theorem modSag_lnt (n : Nat) (f : Sag → Sag) : (modSag s n f).lnt = s.lnt := rfl
@[simp] theorem modSag_pwr (n : Nat) (f : Sag → Sag) : (modSag s n f).pwr = s.pwr := rfl
@[simp] theorem modSag_pin (n : Nat) (f : Sag → Sag) : (modSag s n f).pin = s.pin := rfl
@[simp] theorem modSag_boot (n : Nat) (f : Sag → Sag) : (modSag s n f).boot = s.boot := rfl
@[simp] theorem modSag_sgs (n : Nat) (f : Sag → Sag) : (modSag s n f).sgs = tblSet (fun _ => sagReset) s.sgs n (f (getSag s n)) := rfl
@[simp] theorem modSag_keys (n : Nat) (f : Sag → Sag) : (modSag s n f).keys = s.keys := rfl
@[simp] theorem modSag_nextKey (n : Nat) (f : Sag → Sag) : (modSag s n f).nextKey = s.nextKey := rfl
@[simp] theorem modSag_evq (n : Nat) (f : Sag → Sag) : (modSag s n f).evq = s.evq := rfl
@[simp] theorem modSag_lines (n : Nat) (f : Sag → Sag) : (modSag s n f).lines = s.lines := rfl
@[simp] theorem modSag_sent (n : Nat) (f : Sag → Sag) : (modSag s n f).sent = s.sent := rfl
@[simp] theorem modSag_pending (n : Nat) (f : Sag → Sag) : (modSag s n f).pending = s.pending := rfl

/-! ### emitSent -/

@[simp] theorem emitSent_regs (x : Sent) : (emitSent s x).regs = s.regs := rfl
@[simp] theorem emitSent_cores (x : Sent) : (emitSent s x).cores = s.cores := rfl
@[simp] theorem emitSent_mem (x : Sent) : (emitSent s x).mem = s.mem := rfl
@[simp] theorem emitSent_fab (x : Sent) : (emitSent s x).fab = s.fab := rfl
@[simp] theorem emitSent_tb (x : Sent) : (emitSent s x).tb = s.tb := rfl
@[simp] theorem emitSent_tst (x : Sent) : (emitSent s x).tst = s.tst := rfl
@[simp] theorem emitSent_stm (x : Sent) : (emitSent s x).stm = s.stm := rfl
@[simp] theorem emitSent_flt (x : Sent) : (emitSent s x).flt = s.flt := rfl
@[simp] theorem emitSent_rst (x : Sent) : (emitSent s x).rst = s.rst := rfl
@[simp] theorem emitSent_kln (x : Sent) : (emitSent s x).kln = s.kln := rfl
@[simp] theorem emitSent_lnt (x : Sent) : (emitSent s x).lnt = s.lnt := rfl
@[simp] theorem emitSent_pwr (x : Sent) : (emitSent s x).pwr = s.pwr := rfl
@[simp] theorem emitSent_pin (x : Sent) : (emitSent s x).pin = s.pin := rfl
@[simp] theorem emitSent_boot (x : Sent) : (emitSent s x).boot = s.boot := rfl
@[simp] theorem emitSent_sgs (x : Sent) : (emitSent s x).sgs = s.sgs := rfl
@[simp] theorem emitSent_keys (x : Sent) : (emitSent s x).keys = s.keys := rfl
@[simp] theorem emitSent_nextKey (x : Sent) : (emitSent s x).nextKey = s.nextKey := rfl
@[simp] theorem emitSent_evq (x : Sent) : (emitSent s x).evq = s.evq := rfl
@[simp] theorem emitSent_lines (x : Sent) : (emitSent s x).lines = s.lines := rfl
@[simp] theorem emitSent_sent (x : Sent) : (emitSent s x).sent = s.sent ++ [x] := rfl
@[simp] theorem emitSent_pending (x : Sent) : (emitSent s x).pending = s.pending := rfl

/-! ### setClMem -/

@[simp] theorem setClMem_regs (d cl : Nat) (m : Memory) : (setClMem s d cl m).regs = s.regs := rfl
@[simp] theorem setClMem_cores (d cl : Nat) (m : Memory) : (setClMem s d cl m).cores = s.cores := rfl
@[simp] theorem setClMem_fab (d cl : Nat) (m : Memory) : (setClMem s d cl m).fab = s.fab := rfl
@[simp] theorem setClMem_tb (d cl : Nat) (m : Memory) : (setClMem s d cl m).tb = s.tb := rfl
@[simp] theorem setClMem_tst (d cl : Nat) (m : Memory) : (setClMem s d cl m).tst = s.tst := rfl
@[simp] theorem setClMem_stm (d cl : Nat) (m : Memory) : (setClMem s d cl m).stm = s.stm := rfl
@[simp] theorem setClMem_flt (d cl : Nat) (m : Memory) : (setClMem s d cl m).flt = s.flt := rfl
@[simp] theorem setClMem_rst (d cl : Nat) (m : Memory) : (setClMem s d cl m).rst = s.rst := rfl
@[simp] theorem setClMem_kln (d cl : Nat) (m : Memory) : (setClMem s d cl m).kln = s.kln := rfl
@[simp] theorem setClMem_lnt (d cl : Nat) (m : Memory) : (setClMem s d cl m).lnt = s.lnt := rfl
@[simp] theorem setClMem_pwr (d cl : Nat) (m : Memory) : (setClMem s d cl m).pwr = s.pwr := rfl
@[simp] theorem setClMem_pin (d cl : Nat) (m : Memory) : (setClMem s d cl m).pin = s.pin := rfl
@[simp] theorem setClMem_boot (d cl : Nat) (m : Memory) : (setClMem s d cl m).boot = s.boot := rfl
@[simp] theorem setClMem_sgs (d cl : Nat) (m : Memory) : (setClMem s d cl m).sgs = s.sgs := rfl
@[simp] theorem setClMem_keys (d cl : Nat) (m : Memory) : (setClMem s d cl m).keys = s.keys := rfl
@[simp] theorem setClMem_nextKey (d cl : Nat) (m : Memory) : (setClMem s d cl m).nextKey = s.nextKey := rfl
@[simp] theorem setClMem_evq (d cl : Nat) (m : Memory) : (setClMem s d cl m).evq = s.evq := rfl
@[simp] theorem setClMem_lines (d cl : Nat) (m : Memory) : (setClMem s d cl m).lines = s.lines := rfl
@[simp] theorem setClMem_sent (d cl : Nat) (m : Memory) : (setClMem s d cl m).sent = s.sent := rfl
@[simp] theorem setClMem_pending (d cl : Nat) (m : Memory) : (setClMem s d cl m).pending = s.pending := rfl

/-! ### hostWrite -/

@[simp] theorem hostWrite_regs (a : Nat) (bs : List Byte) : (hostWrite s a bs).regs = s.regs := rfl
@[simp] theorem hostWrite_cores (a : Nat) (bs : List Byte) : (hostWrite s a bs).cores = s.cores := rfl
@[simp] theorem hostWrite_fab (a : Nat) (bs : List Byte) : (hostWrite s a bs).fab = s.fab := rfl
@[simp] theorem hostWrite_tb (a : Nat) (bs : List Byte) : (hostWrite s a bs).tb = s.tb := rfl
@[simp] theorem hostWrite_tst (a : Nat) (bs : List Byte) : (hostWrite s a bs).tst = s.tst := rfl
@[simp] theorem hostWrite_stm (a : Nat) (bs : List Byte) : (hostWrite s a bs).stm = s.stm := rfl
@[simp] theorem hostWrite_flt (a : Nat) (bs : List Byte) : (hostWrite s a bs).flt = s.flt := rfl
@[simp] theorem hostWrite_rst (a : Nat) (bs : List Byte) : (hostWrite s a bs).rst = s.rst := rfl
@[simp] theorem hostWrite_kln (a : Nat) (bs : List Byte) : (hostWrite s a bs).kln = s.kln := rfl
@[simp] theorem hostWrite_lnt (a : Nat) (bs : List Byte) : (hostWrite s a bs).lnt = s.lnt := rfl
@[simp] theorem hostWrite_pwr (a : Nat) (bs : List Byte) : (hostWrite s a bs).pwr = s.pwr := rfl
@[simp] theorem hostWrite_pin (a : Nat) (bs : List Byte) : (hostWrite s a bs).pin = s.pin := rfl
@[simp] theorem hostWrite_boot (a : Nat) (bs : List Byte) : (hostWrite s a bs).boot = s.boot := rfl
@[simp] theorem hostWrite_sgs (a : Nat) (bs : List Byte) : (hostWrite s a bs).sgs = s.sgs := rfl
@[simp] theorem hostWrite_keys (a : Nat) (bs : List Byte) : (hostWrite s a bs).keys = s.keys := rfl
@[simp] theorem hostWrite_nextKey (a : Nat) (bs : List Byte) : (hostWrite s a bs).nextKey = s.nextKey := rfl
@[simp] theorem hostWrite_evq (a : Nat) (bs : List Byte) : (hostWrite s a bs).evq = s.evq := rfl
@[simp] theorem hostWrite_lines (a : Nat) (bs : List Byte) : (hostWrite s a bs).lines = s.lines := rfl
@[simp] theorem hostWrite_sent (a : Nat) (bs : List Byte) : (hostWrite s a bs).sent = s.sent := rfl
@[simp] theorem hostWrite_pending (a : Nat) (bs : List Byte) : (hostWrite s a bs).pending = s.pending := rfl

/-! ### modMem -/

@[simp] theorem modMem_regs (f : MemSt → MemSt) : (modMem s f).regs = s.regs := rfl
@[simp] theorem modMem_cores (f : MemSt → MemSt) : (modMem s f).cores = s.cores := rfl
@[simp] theorem modMem_mem (f : MemSt → MemSt) : (modMem s f).mem = f s.mem := rfl
@[simp] theorem modMem_fab (f : MemSt → MemSt) : (modMem s f).fab = s.fab := rfl
@[simp] theorem modMem_tb (f : MemSt → MemSt) : (modMem s f).tb = s.tb := rfl
@[simp] theorem modMem_tst (f : MemSt → MemSt) : (modMem s f).tst = s.tst := rfl
@[simp] theorem modMem_stm (f : MemSt → MemSt) : (modMem s f).stm = s.stm := rfl
@[simp] theorem modMem_flt (f : MemSt → MemSt) : (modMem s f).flt = s.flt := rfl
@[simp] theorem modMem_rst (f : MemSt → MemSt) : (modMem s f).rst = s.rst := rfl
@[simp] theorem modMem_kln (f : MemSt → MemSt) : (modMem s f).kln = s.kln := rfl
@[simp] theorem modMem_lnt (f : MemSt → MemSt) : (modMem s f).lnt = s.lnt := rfl
@[simp] theorem modMem_pwr (f : MemSt → MemSt) : (modMem s f).pwr = s.pwr := rfl
@[simp] theorem modMem_pin (f : MemSt → MemSt) : (modMem s f).pin = s.pin := rfl
@[simp] theorem modMem_boot (f : MemSt → MemSt) : (modMem s f).boot = s.boot := rfl
@[simp] theorem modMem_sgs (f : MemSt → MemSt) : (modMem s f).sgs = s.sgs := rfl
@[simp] theorem modMem_keys (f : MemSt → MemSt) : (modMem s f).keys = s.keys := rfl
@[simp] theorem modMem_nextKey (f : MemSt → MemSt) : (modMem s f).nextKey = s.nextKey := rfl
@[simp] theorem modMem_evq (f : MemSt → MemSt) : (modMem s f).evq = s.evq := rfl
@[simp] theorem modMem_lines (f : MemSt → MemSt) : (modMem s f).lines = s.lines := rfl
@[simp] theorem modMem_sent (f : MemSt → MemSt) : (modMem s f).sent = s.sent := rfl
@[simp] theorem modMem_pending (f : MemSt → MemSt) : (modMem s f).pending = s.pending := rfl

/-! ### modFab -/

@[simp] theorem modFab_regs (f : FabSt → FabSt) : (modFab s f).regs = s.regs := rfl
@[simp] theorem modFab_cores (f : FabSt → FabSt) : (modFab s f).cores = s.cores := rfl
@[simp] theorem modFab_mem (f : FabSt → FabSt) : (modFab s f).mem = s.mem := rfl
@[simp] theorem modFab_fab (f : FabSt → FabSt) : (modFab s f).fab = f s.fab := rfl
@[simp] theorem modFab_tb (f : FabSt → FabSt) : (modFab s f).tb = s.tb := rfl
@[simp] theorem modFab_tst (f : FabSt → FabSt) : (modFab s f).tst = s.tst := rfl
@[simp] theorem modFab_stm (f : FabSt → FabSt) : (modFab s f).stm = s.stm := rfl
@[simp] theorem modFab_flt (f : FabSt → FabSt) : (modFab s f).flt = s.flt := rfl
@[simp] theorem modFab_rst (f : FabSt → FabSt) : (modFab s f).rst = s.rst := rfl
@[simp] theorem modFab_kln (f : FabSt → FabSt) : (modFab s f).kln = s.kln := rfl
@[simp] theorem modFab_lnt (f : FabSt → FabSt) : (modFab s f).lnt = s.lnt := rfl
@[simp] theorem modFab_pwr (f : FabSt → FabSt) : (modFab s f).pwr = s.pwr := rfl
@[simp] theorem modFab_pin (f : FabSt → FabSt) : (modFab s f).pin = s.pin := rfl
@[simp] theorem modFab_boot (f : FabSt → FabSt) : (modFab s f).boot = s.boot := rfl
@[simp] theorem modFab_sgs (f : FabSt → FabSt) : (modFab s f).sgs = s.sgs := rfl
@[simp] theorem modFab_keys (f : FabSt → FabSt) : (modFab s f).keys = s.keys := rfl
@[simp] theorem modFab_nextKey (f : FabSt → FabSt) : (modFab s f).nextKey = s.nextKey := rfl
@[simp] theorem modFab_evq (f : FabSt → FabSt) : (modFab s f).evq = s.evq := rfl
@[simp] theorem modFab_lines (f : FabSt → FabSt) : (modFab s f).lines = s.lines := rfl
@[simp] theorem modFab_sent (f : FabSt → FabSt) : (modFab s f).sent = s.sent := rfl
@[simp] theorem modFab_pending (f : FabSt → FabSt) : (modFab s f).pending = s.pending := rfl

/-! ### modTb -/

@[simp] theorem modTb_regs (f : TbSt → TbSt) : (modTb s f).regs = s.regs := rfl
@[simp] theorem modTb_cores (f : TbSt → TbSt) : (modTb s f).cores = s.cores := rfl
@[simp] theorem modTb_mem (f : TbSt → TbSt) : (modTb s f).mem = s.mem := rfl
@[simp] theorem modTb_fab (f : TbSt → TbSt) : (modTb s f).fab = s.fab := rfl
@[simp] theorem modTb_tb (f : TbSt → TbSt) : (modTb s f).tb = f s.tb := rfl
@[simp] theorem modTb_tst (f : TbSt → TbSt) : (modTb s f).tst = s.tst := rfl
@[simp] theorem modTb_stm (f : TbSt → TbSt) : (modTb s f).stm = s.stm := rfl
@[simp] theorem modTb_flt (f : TbSt → TbSt) : (modTb s f).flt = s.flt := rfl
@[simp] theorem modTb_rst (f : TbSt → TbSt) : (modTb s f).rst = s.rst := rfl
@[simp] theorem modTb_kln (f : TbSt → TbSt) : (modTb s f).kln = s.kln := rfl
@[simp] theorem modTb_lnt (f : TbSt → TbSt) : (modTb s f).lnt = s.lnt := rfl
@[simp] theorem modTb_pwr (f : TbSt → TbSt) : (modTb s f).pwr = s.pwr := rfl
@[simp] theorem modTb_pin (f : TbSt → TbSt) : (modTb s f).pin = s.pin := rfl
@[simp] theorem modTb_boot (f : TbSt → TbSt) : (modTb s f).boot = s.boot := rfl
@[simp] theorem modTb_sgs (f : TbSt → TbSt) : (modTb s f).sgs = s.sgs := rfl
@[simp] theorem modTb_keys (f : TbSt → TbSt) : (modTb s f).keys = s.keys := rfl
@[simp] theorem modTb_nextKey (f : TbSt → TbSt) : (modTb s f).nextKey = s.nextKey := rfl
@[simp] theorem modTb_evq (f : TbSt → TbSt) : (modTb s f).evq = s.evq := rfl
@[simp] theorem modTb_lines (f : TbSt → TbSt) : (modTb s f).lines = s.lines := rfl
@[simp] theorem modTb_sent (f : TbSt → TbSt) : (modTb s f).sent = s.sent := rfl
@[simp] theorem modTb_pending (f : TbSt → TbSt) : (modTb s f).pending = s.pending := rfl

/-! ### modTst -/

@[simp] theorem modTst_regs (f : TstSt → TstSt) : (modTst s f).regs = s.regs := rfl
@[simp] theorem modTst_cores (f : TstSt → TstSt) : (modTst s f).cores = s.cores := rfl
@[simp] theorem modTst_mem (f : TstSt → TstSt) : (modTst s f).mem = s.mem := rfl
@[simp] theorem modTst_fab (f : TstSt → TstSt) : (modTst s f).fab = s.fab := rfl
@[simp] theorem modTst_tb (f : TstSt → TstSt) : (modTst s f).tb = s.tb := rfl
@[simp] theorem modTst_tst (f : TstSt → TstSt) : (modTst s f).tst = f s.tst := rfl
@[simp] theorem modTst_stm (f : TstSt → TstSt) : (modTst s f).stm = s.stm := rfl
@[simp] theorem modTst_flt (f : TstSt → TstSt) : (modTst s f).flt = s.flt := rfl
@[simp] theorem modTst_rst (f : TstSt → TstSt) : (modTst s f).rst = s.rst := rfl
@[simp] theorem modTst_kln (f : TstSt → TstSt) : (modTst s f).kln = s.kln := rfl
@[simp] theorem modTst_lnt (f : TstSt → TstSt) : (modTst s f).lnt = s.lnt := rfl
@[simp] theorem modTst_pwr (f : TstSt → TstSt) : (modTst s f).pwr = s.pwr := rfl
@[simp] theorem modTst_pin (f : TstSt → TstSt) : (modTst s f).pin = s.pin := rfl
@[simp] theorem modTst_boot (f : TstSt → TstSt) : (modTst s f).boot = s.boot := rfl
@[simp] theorem modTst_sgs (f : TstSt → TstSt) : (modTst s f).sgs = s.sgs := rfl
@[simp] theorem modTst_keys (f : TstSt → TstSt) : (modTst s f).keys = s.keys := rfl
@[simp] theorem modTst_nextKey (f : TstSt → TstSt) : (modTst s f).nextKey = s.nextKey := rfl
@[simp] theorem modTst_evq (f : TstSt → TstSt) : (modTst s f).evq = s.evq := rfl
@[simp] theorem modTst_lines (f : TstSt → TstSt) : (modTst s f).lines = s.lines := rfl
@[simp] theorem modTst_sent (f : TstSt → TstSt) : (modTst s f).sent = s.sent := rfl
@[simp] theorem modTst_pending (f : TstSt → TstSt) : (modTst s f).pending = s.pending := rfl

/-! ### modStm -/

@[simp] theorem modStm_regs (f : StmSt → StmSt) : (modStm s f).regs = s.regs := rfl
@[simp] theorem modStm_cores (f : StmSt → StmSt) : (modStm s f).cores = s.cores := rfl
@[simp] theorem modStm_mem (f : StmSt → StmSt) : (modStm s f).mem = s.mem := rfl
@[simp] theorem modStm_fab (f : StmSt → StmSt) : (modStm s f).fab = s.fab := rfl
@[simp] theorem modStm_tb (f : StmSt → StmSt) : (modStm s f).tb = s.tb := rfl
@[simp] theorem modStm_tst (f : StmSt → StmSt) : (modStm s f).tst = s.tst := rfl
@[simp] theorem modStm_stm (f : StmSt → StmSt) : (modStm s f).stm = f s.stm := rfl
@[simp] theorem modStm_flt (f : StmSt → StmSt) : (modStm s f).flt = s.flt := rfl
@[simp] theorem modStm_rst (f : StmSt → StmSt) : (modStm s f).rst = s.rst := rfl
@[simp] theorem modStm_kln (f : StmSt → StmSt) : (modStm s f).kln = s.kln := rfl
@[simp] theorem modStm_lnt (f : StmSt → StmSt) : (modStm s f).lnt = s.lnt := rfl
@[simp] theorem modStm_pwr (f : StmSt → StmSt) : (modStm s f).pwr = s.pwr := rfl
@[simp] theorem modStm_pin (f : StmSt → StmSt) : (modStm s f).pin = s.pin := rfl
@[simp] theorem modStm_boot (f : StmSt → StmSt) : (modStm s f).boot = s.boot := rfl
@[simp] theorem modStm_sgs (f : StmSt → StmSt) : (modStm s f).sgs = s.sgs := rfl
@[simp] theorem modStm_keys (f : StmSt → StmSt) : (modStm s f).keys = s.keys := rfl
@[simp] theorem modStm_nextKey (f : StmSt → StmSt) : (modStm s f).nextKey = s.nextKey := rfl
@[simp] theorem modStm_evq (f : StmSt → StmSt) : (modStm s f).evq = s.evq := rfl
@[simp] theorem modStm_lines (f : StmSt → StmSt) : (modStm s f).lines = s.lines := rfl
@[simp] theorem modStm_sent (f : StmSt → StmSt) : (modStm s f).sent = s.sent := rfl
@[simp] theorem modStm_pending (f : StmSt → StmSt) : (modStm s f).pending = s.pending := rfl

/-! ### modFlt -/

@[simp] theorem modFlt_regs (f : FltSt → FltSt) : (modFlt s f).regs = s.regs := rfl
@[simp] theorem modFlt_cores (f : FltSt → FltSt) : (modFlt s f).cores = s.cores := rfl
@[simp] theorem modFlt_mem (f : FltSt → FltSt) : (modFlt s f).mem = s.mem := rfl
@[simp] theorem modFlt_fab (f : FltSt → FltSt) : (modFlt s f).fab = s.fab := rfl
@[simp] theorem modFlt_tb (f : FltSt → FltSt) : (modFlt s f).tb = s.tb := rfl
@[simp] theorem modFlt_tst (f : FltSt → FltSt) : (modFlt s f).tst = s.tst := rfl
@[simp] theorem modFlt_stm (f : FltSt → FltSt) : (modFlt s f).stm = s.stm := rfl
@[simp] theorem modFlt_flt (f : FltSt → FltSt) : (modFlt s f).flt = f s.flt := rfl
@[simp] theorem modFlt_rst (f : FltSt → FltSt) : (modFlt s f).rst = s.rst := rfl
@[simp] theorem modFlt_kln (f : FltSt → FltSt) : (modFlt s f).kln = s.kln := rfl
@[simp] theorem modFlt_lnt (f : FltSt → FltSt) : (modFlt s f).lnt = s.lnt := rfl
@[simp] theorem modFlt_pwr (f : FltSt → FltSt) : (modFlt s f).pwr = s.pwr := rfl
@[simp] theorem modFlt_pin (f : FltSt → FltSt) : (modFlt s f).pin = s.pin := rfl
@[simp] theorem modFlt_boot (f : FltSt → FltSt) : (modFlt s f).boot = s.boot := rfl
@[simp] theorem modFlt_sgs (f : FltSt → FltSt) : (modFlt s f).sgs = s.sgs := rfl
@[simp] theorem modFlt_keys (f : FltSt → FltSt) : (modFlt s f).keys = s.keys := rfl
@[simp] theorem modFlt_nextKey (f : FltSt → FltSt) : (modFlt s f).nextKey = s.nextKey := rfl
@[simp] theorem modFlt_evq (f : FltSt → FltSt) : (modFlt s f).evq = s.evq := rfl
@[simp] theorem modFlt_lines (f : FltSt → FltSt) : (modFlt s f).lines = s.lines := rfl
@[simp] theorem modFlt_sent (f : FltSt → FltSt) : (modFlt s f).sent = s.sent := rfl
@[simp] theorem modFlt_pending (f : FltSt → FltSt) : (modFlt s f).pending = s.pending := rfl

/-! ### modRst -/

@[simp] theorem modRst_regs (f : RstSt → RstSt) : (modRst s f).regs = s.regs := rfl
@[simp] theorem modRst_cores (f : RstSt → RstSt) : (modRst s f).cores = s.cores := rfl
@[simp] theorem modRst_mem (f : RstSt → RstSt) : (modRst s f).mem = s.mem := rfl
@[simp] theorem modRst_fab (f : RstSt → RstSt) : (modRst s f).fab = s.fab := rfl
@[simp] theorem modRst_tb (f : RstSt → RstSt) : (modRst s f).tb = s.tb := rfl
@[simp] theorem modRst_tst (f : RstSt → RstSt) : (modRst s f).tst = s.tst := rfl
@[simp] theorem modRst_stm (f : RstSt → RstSt) : (modRst s f).stm = s.stm := rfl
@[simp] theorem modRst_flt (f : RstSt → RstSt) : (modRst s f).flt = s.flt := rfl
@[simp] theorem modRst_rst (f : RstSt → RstSt) : (modRst s f).rst = f s.rst := rfl
@[simp] theorem modRst_kln (f : RstSt → RstSt) : (modRst s f).kln = s.kln := rfl
@[simp] theorem modRst_lnt (f : RstSt → RstSt) : (modRst s f).lnt = s.lnt := rfl
@[simp] theorem modRst_pwr (f : RstSt → RstSt) : (modRst s f).pwr = s.pwr := rfl
@[simp] theorem modRst_pin (f : RstSt → RstSt) : (modRst s f).pin = s.pin := rfl
@[simp] theorem modRst_boot (f : RstSt → RstSt) : (modRst s f).boot = s.boot := rfl
@[simp] theorem modRst_sgs (f : RstSt → RstSt) : (modRst s f).sgs = s.sgs := rfl
@[simp] theorem modRst_keys (f : RstSt → RstSt) : (modRst s f).keys = s.keys := rfl
@[simp] theorem modRst_nextKey (f : RstSt → RstSt) : (modRst s f).nextKey = s.nextKey := rfl
@[simp] theorem modRst_evq (f : RstSt → RstSt) : (modRst s f).evq = s.evq := rfl
@[simp] theorem modRst_lines (f : RstSt → RstSt) : (modRst s f).lines = s.lines := rfl
@[simp] theorem modRst_sent (f : RstSt → RstSt) : (modRst s f).sent = s.sent := rfl
@[simp] theorem modRst_pending (f : RstSt → RstSt) : (modRst s f).pending = s.pending := rfl

/-! ### modKln -/

@[simp] theorem modKln_regs (f : KilnSt → KilnSt) : (modKln s f).regs = s.regs := rfl
@[simp] theorem modKln_cores (f : KilnSt → KilnSt) : (modKln s f).cores = s.cores := rfl
@[simp] theorem modKln_mem (f : KilnSt → KilnSt) : (modKln s f).mem = s.mem := rfl
@[simp] theorem modKln_fab (f : KilnSt → KilnSt) : (modKln s f).fab = s.fab := rfl
@[simp] theorem modKln_tb (f : KilnSt → KilnSt) : (modKln s f).tb = s.tb := rfl
@[simp] theorem modKln_tst (f : KilnSt → KilnSt) : (modKln s f).tst = s.tst := rfl
@[simp] theorem modKln_stm (f : KilnSt → KilnSt) : (modKln s f).stm = s.stm := rfl
@[simp] theorem modKln_flt (f : KilnSt → KilnSt) : (modKln s f).flt = s.flt := rfl
@[simp] theorem modKln_rst (f : KilnSt → KilnSt) : (modKln s f).rst = s.rst := rfl
@[simp] theorem modKln_kln (f : KilnSt → KilnSt) : (modKln s f).kln = f s.kln := rfl
@[simp] theorem modKln_lnt (f : KilnSt → KilnSt) : (modKln s f).lnt = s.lnt := rfl
@[simp] theorem modKln_pwr (f : KilnSt → KilnSt) : (modKln s f).pwr = s.pwr := rfl
@[simp] theorem modKln_pin (f : KilnSt → KilnSt) : (modKln s f).pin = s.pin := rfl
@[simp] theorem modKln_boot (f : KilnSt → KilnSt) : (modKln s f).boot = s.boot := rfl
@[simp] theorem modKln_sgs (f : KilnSt → KilnSt) : (modKln s f).sgs = s.sgs := rfl
@[simp] theorem modKln_keys (f : KilnSt → KilnSt) : (modKln s f).keys = s.keys := rfl
@[simp] theorem modKln_nextKey (f : KilnSt → KilnSt) : (modKln s f).nextKey = s.nextKey := rfl
@[simp] theorem modKln_evq (f : KilnSt → KilnSt) : (modKln s f).evq = s.evq := rfl
@[simp] theorem modKln_lines (f : KilnSt → KilnSt) : (modKln s f).lines = s.lines := rfl
@[simp] theorem modKln_sent (f : KilnSt → KilnSt) : (modKln s f).sent = s.sent := rfl
@[simp] theorem modKln_pending (f : KilnSt → KilnSt) : (modKln s f).pending = s.pending := rfl

/-! ### modLnt -/

@[simp] theorem modLnt_regs (f : LntSt → LntSt) : (modLnt s f).regs = s.regs := rfl
@[simp] theorem modLnt_cores (f : LntSt → LntSt) : (modLnt s f).cores = s.cores := rfl
@[simp] theorem modLnt_mem (f : LntSt → LntSt) : (modLnt s f).mem = s.mem := rfl
@[simp] theorem modLnt_fab (f : LntSt → LntSt) : (modLnt s f).fab = s.fab := rfl
@[simp] theorem modLnt_tb (f : LntSt → LntSt) : (modLnt s f).tb = s.tb := rfl
@[simp] theorem modLnt_tst (f : LntSt → LntSt) : (modLnt s f).tst = s.tst := rfl
@[simp] theorem modLnt_stm (f : LntSt → LntSt) : (modLnt s f).stm = s.stm := rfl
@[simp] theorem modLnt_flt (f : LntSt → LntSt) : (modLnt s f).flt = s.flt := rfl
@[simp] theorem modLnt_rst (f : LntSt → LntSt) : (modLnt s f).rst = s.rst := rfl
@[simp] theorem modLnt_kln (f : LntSt → LntSt) : (modLnt s f).kln = s.kln := rfl
@[simp] theorem modLnt_lnt (f : LntSt → LntSt) : (modLnt s f).lnt = f s.lnt := rfl
@[simp] theorem modLnt_pwr (f : LntSt → LntSt) : (modLnt s f).pwr = s.pwr := rfl
@[simp] theorem modLnt_pin (f : LntSt → LntSt) : (modLnt s f).pin = s.pin := rfl
@[simp] theorem modLnt_boot (f : LntSt → LntSt) : (modLnt s f).boot = s.boot := rfl
@[simp] theorem modLnt_sgs (f : LntSt → LntSt) : (modLnt s f).sgs = s.sgs := rfl
@[simp] theorem modLnt_keys (f : LntSt → LntSt) : (modLnt s f).keys = s.keys := rfl
@[simp] theorem modLnt_nextKey (f : LntSt → LntSt) : (modLnt s f).nextKey = s.nextKey := rfl
@[simp] theorem modLnt_evq (f : LntSt → LntSt) : (modLnt s f).evq = s.evq := rfl
@[simp] theorem modLnt_lines (f : LntSt → LntSt) : (modLnt s f).lines = s.lines := rfl
@[simp] theorem modLnt_sent (f : LntSt → LntSt) : (modLnt s f).sent = s.sent := rfl
@[simp] theorem modLnt_pending (f : LntSt → LntSt) : (modLnt s f).pending = s.pending := rfl

/-! ### modPwr -/

@[simp] theorem modPwr_regs (f : PwrSt → PwrSt) : (modPwr s f).regs = s.regs := rfl
@[simp] theorem modPwr_cores (f : PwrSt → PwrSt) : (modPwr s f).cores = s.cores := rfl
@[simp] theorem modPwr_mem (f : PwrSt → PwrSt) : (modPwr s f).mem = s.mem := rfl
@[simp] theorem modPwr_fab (f : PwrSt → PwrSt) : (modPwr s f).fab = s.fab := rfl
@[simp] theorem modPwr_tb (f : PwrSt → PwrSt) : (modPwr s f).tb = s.tb := rfl
@[simp] theorem modPwr_tst (f : PwrSt → PwrSt) : (modPwr s f).tst = s.tst := rfl
@[simp] theorem modPwr_stm (f : PwrSt → PwrSt) : (modPwr s f).stm = s.stm := rfl
@[simp] theorem modPwr_flt (f : PwrSt → PwrSt) : (modPwr s f).flt = s.flt := rfl
@[simp] theorem modPwr_rst (f : PwrSt → PwrSt) : (modPwr s f).rst = s.rst := rfl
@[simp] theorem modPwr_kln (f : PwrSt → PwrSt) : (modPwr s f).kln = s.kln := rfl
@[simp] theorem modPwr_lnt (f : PwrSt → PwrSt) : (modPwr s f).lnt = s.lnt := rfl
@[simp] theorem modPwr_pwr (f : PwrSt → PwrSt) : (modPwr s f).pwr = f s.pwr := rfl
@[simp] theorem modPwr_pin (f : PwrSt → PwrSt) : (modPwr s f).pin = s.pin := rfl
@[simp] theorem modPwr_boot (f : PwrSt → PwrSt) : (modPwr s f).boot = s.boot := rfl
@[simp] theorem modPwr_sgs (f : PwrSt → PwrSt) : (modPwr s f).sgs = s.sgs := rfl
@[simp] theorem modPwr_keys (f : PwrSt → PwrSt) : (modPwr s f).keys = s.keys := rfl
@[simp] theorem modPwr_nextKey (f : PwrSt → PwrSt) : (modPwr s f).nextKey = s.nextKey := rfl
@[simp] theorem modPwr_evq (f : PwrSt → PwrSt) : (modPwr s f).evq = s.evq := rfl
@[simp] theorem modPwr_lines (f : PwrSt → PwrSt) : (modPwr s f).lines = s.lines := rfl
@[simp] theorem modPwr_sent (f : PwrSt → PwrSt) : (modPwr s f).sent = s.sent := rfl
@[simp] theorem modPwr_pending (f : PwrSt → PwrSt) : (modPwr s f).pending = s.pending := rfl

/-! ### modPin -/

@[simp] theorem modPin_regs (f : PinSt → PinSt) : (modPin s f).regs = s.regs := rfl
@[simp] theorem modPin_cores (f : PinSt → PinSt) : (modPin s f).cores = s.cores := rfl
@[simp] theorem modPin_mem (f : PinSt → PinSt) : (modPin s f).mem = s.mem := rfl
@[simp] theorem modPin_fab (f : PinSt → PinSt) : (modPin s f).fab = s.fab := rfl
@[simp] theorem modPin_tb (f : PinSt → PinSt) : (modPin s f).tb = s.tb := rfl
@[simp] theorem modPin_tst (f : PinSt → PinSt) : (modPin s f).tst = s.tst := rfl
@[simp] theorem modPin_stm (f : PinSt → PinSt) : (modPin s f).stm = s.stm := rfl
@[simp] theorem modPin_flt (f : PinSt → PinSt) : (modPin s f).flt = s.flt := rfl
@[simp] theorem modPin_rst (f : PinSt → PinSt) : (modPin s f).rst = s.rst := rfl
@[simp] theorem modPin_kln (f : PinSt → PinSt) : (modPin s f).kln = s.kln := rfl
@[simp] theorem modPin_lnt (f : PinSt → PinSt) : (modPin s f).lnt = s.lnt := rfl
@[simp] theorem modPin_pwr (f : PinSt → PinSt) : (modPin s f).pwr = s.pwr := rfl
@[simp] theorem modPin_pin (f : PinSt → PinSt) : (modPin s f).pin = f s.pin := rfl
@[simp] theorem modPin_boot (f : PinSt → PinSt) : (modPin s f).boot = s.boot := rfl
@[simp] theorem modPin_sgs (f : PinSt → PinSt) : (modPin s f).sgs = s.sgs := rfl
@[simp] theorem modPin_keys (f : PinSt → PinSt) : (modPin s f).keys = s.keys := rfl
@[simp] theorem modPin_nextKey (f : PinSt → PinSt) : (modPin s f).nextKey = s.nextKey := rfl
@[simp] theorem modPin_evq (f : PinSt → PinSt) : (modPin s f).evq = s.evq := rfl
@[simp] theorem modPin_lines (f : PinSt → PinSt) : (modPin s f).lines = s.lines := rfl
@[simp] theorem modPin_sent (f : PinSt → PinSt) : (modPin s f).sent = s.sent := rfl
@[simp] theorem modPin_pending (f : PinSt → PinSt) : (modPin s f).pending = s.pending := rfl

end Sys2Proof.Machine
end

