-- ==== Sys2Proof/Laws/Store.lean ====
section
/-! SUPPORT. Laws/Store.lean: reads after writes of tables and byte memories, and that every memory operation keeps the canonical form. -/

namespace Sys2Proof.Machine

variable {α : Type}

@[simp] theorem tblFind_put_eq (t : Tbl α) (k : Nat) (v : α) : tblFind (tblPut t k v) k = some v := by
  induction t with
  | nil => simp [tblPut, tblFind]
  | cons p t ih =>
    obtain ⟨a, w⟩ := p
    unfold tblPut
    split
    · simp [tblFind]
    · split
      · simp [tblFind]
      · rename_i h1 h2
        simp [tblFind, h1, ih]

theorem tblFind_put_ne (t : Tbl α) (k j : Nat) (v : α) (h : j ≠ k) : tblFind (tblPut t k v) j = tblFind t j := by
  have hs : k ≠ j := fun e => h e.symm
  induction t with
  | nil => simp [tblPut, tblFind, hs]
  | cons p t ih =>
    obtain ⟨a, w⟩ := p
    unfold tblPut
    split
    · rename_i h1
      subst h1
      simp only [tblFind, if_neg hs]
    · split
      · simp only [tblFind, if_neg hs]
      · simp only [tblFind, ih]

@[simp] theorem tblFind_erase_eq (t : Tbl α) (k : Nat) : tblFind (tblErase t k) k = none := by
  induction t with
  | nil => rfl
  | cons p t ih =>
    obtain ⟨a, w⟩ := p
    unfold tblErase
    split
    · exact ih
    · rename_i h1
      simp only [tblFind, if_neg h1, ih]

theorem tblFind_erase_ne (t : Tbl α) (k j : Nat) (h : j ≠ k) : tblFind (tblErase t k) j = tblFind t j := by
  induction t with
  | nil => rfl
  | cons p t ih =>
    obtain ⟨a, w⟩ := p
    unfold tblErase
    split
    · rename_i h1
      simp only [tblFind, ih]
      rw [if_neg (fun e => h (e.symm.trans h1))]
    · simp only [tblFind, ih]

/-- What was written is read. -/
@[simp] theorem tblGet_set_eq (d : Nat → α) [DecidableEq α] (t : Tbl α) (k : Nat) (v : α) : tblGet d (tblSet d t k v) k = v := by
  unfold tblGet tblSet
  split
  · rename_i hv
    rw [tblFind_erase_eq, hv]; rfl
  · rw [tblFind_put_eq]; rfl

/-- Another key reads as before. -/
theorem tblGet_set_ne (d : Nat → α) [DecidableEq α] (t : Tbl α) (k j : Nat) (v : α) (hj : j ≠ k) :
    tblGet d (tblSet d t k v) j = tblGet d t j := by
  unfold tblGet tblSet
  split
  · rw [tblFind_erase_ne t k j hj]
  · rw [tblFind_put_ne t k j v hj]

/-! ### The canonical form -/

theorem tblWfFrom_mono (d : Nat → α) [DecidableEq α] (t : Tbl α) (lo lo' : Nat) (h : tblWfFrom d lo t = true) (hl : lo' ≤ lo) : tblWfFrom d lo' t = true := by
  cases t with
  | nil => rfl
  | cons p t =>
    obtain ⟨a, w⟩ := p
    simp only [tblWfFrom, Bool.and_eq_true, decide_eq_true_eq] at h ⊢
    exact ⟨⟨by omega, h.1.2⟩, h.2⟩

theorem tblPut_wf (d : Nat → α) [DecidableEq α] (t : Tbl α) (lo k : Nat) (v : α) (h : tblWfFrom d lo t = true) (hl : lo ≤ k) (hv : v ≠ d k) :
    tblWfFrom d lo (tblPut t k v) = true := by
  induction t generalizing lo with
  | nil => simp [tblPut, tblWfFrom, hl, hv]
  | cons p t ih =>
    obtain ⟨a, w⟩ := p
    simp only [tblWfFrom, Bool.and_eq_true, decide_eq_true_eq] at h
    unfold tblPut
    split
    · rename_i h1
      subst h1
      simp [tblWfFrom, hl, hv, h.2]
    · split
      · rename_i h1 h2
        simp only [tblWfFrom, Bool.and_eq_true, decide_eq_true_eq]
        exact ⟨⟨hl, hv⟩, ⟨by omega, h.1.2⟩, h.2⟩
      · rename_i h1 h2
        simp only [tblWfFrom, Bool.and_eq_true, decide_eq_true_eq]
        exact ⟨h.1, ih _ h.2 (by omega)⟩

theorem tblErase_wf (d : Nat → α) [DecidableEq α] (t : Tbl α) (lo k : Nat) (h : tblWfFrom d lo t = true) : tblWfFrom d lo (tblErase t k) = true := by
  induction t generalizing lo with
  | nil => rfl
  | cons p t ih =>
    obtain ⟨a, w⟩ := p
    simp only [tblWfFrom, Bool.and_eq_true, decide_eq_true_eq] at h
    unfold tblErase
    split
    · exact tblWfFrom_mono d _ _ _ (ih _ h.2) (by omega)
    · simp only [tblWfFrom, Bool.and_eq_true, decide_eq_true_eq]
      exact ⟨h.1, ih _ h.2⟩

/-- A write keeps the canonical form of a table. -/
theorem tblSet_wf (d : Nat → α) [DecidableEq α] (t : Tbl α) (k : Nat) (v : α) (h : tblWf d t = true) : tblWf d (tblSet d t k v) = true := by
  unfold tblSet
  split
  · exact tblErase_wf d t 0 k h
  · exact tblPut_wf d t 0 k v h (Nat.zero_le _) ‹_›

/-! ### Byte memories -/

theorem memWrite_wf (m : Memory) (a : Nat) (b : Byte) (h : m.wf = true) : (memWrite m a b).wf = true := tblSet_wf _ _ _ _ h

@[simp] theorem memRead_write_eq (m : Memory) (a : Nat) (b : Byte) : memRead (memWrite m a b) a = b := tblGet_set_eq _ _ _ _

theorem memRead_write_ne (m : Memory) (a x : Nat) (b : Byte) (hx : x ≠ a) : memRead (memWrite m a b) x = memRead m x :=
  tblGet_set_ne _ _ _ _ _ hx

theorem memWriteN_wf (m : Memory) (a : Nat) (bs : List Byte) (h : m.wf = true) : (memWriteN m a bs).wf = true := by
  induction bs generalizing m a with
  | nil => exact h
  | cons b bs ih => exact ih _ _ (memWrite_wf m a b h)

theorem memWriteEn_wf (m : Memory) (a : Nat) (xs : List MByte) (h : m.wf = true) : (memWriteEn m a xs).wf = true := by
  induction xs generalizing m a with
  | nil => exact h
  | cons x xs ih =>
    unfold memWriteEn
    apply ih
    split
    · exact h
    · exact memWrite_wf _ _ _ h

/-- A write of bytes leaves every other byte alone. -/
theorem memRead_writeN_out (m : Memory) (a x : Nat) (bs : List Byte) (hx : x < a ∨ a + bs.length ≤ x) :
    memRead (memWriteN m a bs) x = memRead m x := by
  induction bs generalizing m a with
  | nil => rfl
  | cons b bs ih =>
    simp only [List.length_cons] at hx
    unfold memWriteN
    rw [ih _ _ (by omega), memRead_write_ne m a x b (by omega)]

theorem memRead_writeEn_out (m : Memory) (a x : Nat) (xs : List MByte) (hx : x < a ∨ a + xs.length ≤ x) :
    memRead (memWriteEn m a xs) x = memRead m x := by
  induction xs generalizing m a with
  | nil => rfl
  | cons b xs ih =>
    simp only [List.length_cons] at hx
    unfold memWriteEn
    split
    · exact ih _ _ (by omega)
    · rw [ih _ _ (by omega), memRead_write_ne m a x _ (by omega)]

/-- The bytes written are read. -/
theorem memReadN_writeN (m : Memory) (a : Nat) (bs : List Byte) : memReadN (memWriteN m a bs) a bs.length = bs := by
  induction bs generalizing m a with
  | nil => rfl
  | cons b bs ih =>
    simp only [List.length_cons, memReadN, memWriteN]
    rw [ih, memRead_writeN_out _ _ _ _ (by omega), memRead_write_eq]

/-- Host memory, the cluster memories and the scratchpads of the machine after reset are in canonical form. -/
theorem reset_mem_wf : State.reset.mem.host.wf = true ∧ State.reset.mem.cl = [] ∧ State.reset.cores = [] := ⟨rfl, rfl, rfl⟩

end Sys2Proof.Machine
end

