-- ==== Sys2Proof/Laws/Regs.lean ====
section
/-! SUPPORT. Laws/Regs.lean: fields and registers: what is read after a write of a field or of a register. -/

namespace Sys2Proof.Machine

/-- A number cut at bits `lo` and `lo + w`. -/
theorem cut3 (v lo w : Nat) : v = (v / 2 ^ (lo + w)) * 2 ^ (lo + w) + (v / 2 ^ lo % 2 ^ w) * 2 ^ lo + v % 2 ^ lo := by
  have h1 := Nat.div_add_mod v (2 ^ lo)
  have h2 := Nat.div_add_mod (v / 2 ^ lo) (2 ^ w)
  have h3 : v / 2 ^ lo / 2 ^ w = v / 2 ^ (lo + w) := by rw [Nat.div_div_eq_div_mul, Nat.pow_add]
  rw [h3] at h2
  have h4 : v / 2 ^ lo * 2 ^ lo = (2 ^ w * (v / 2 ^ (lo + w)) + v / 2 ^ lo % 2 ^ w) * 2 ^ lo := by rw [h2]
  have h5 : 2 ^ w * (v / 2 ^ (lo + w)) * 2 ^ lo = (v / 2 ^ (lo + w)) * 2 ^ (lo + w) := by
    rw [Nat.pow_add]; ac_rfl
  rw [Nat.add_mul, h5] at h4
  have h6 : 2 ^ lo * (v / 2 ^ lo) = v / 2 ^ lo * 2 ^ lo := Nat.mul_comm _ _
  omega

/-- `setBits` puts the middle piece in. -/
theorem setBits_eq (v hi lo x : Nat) :
    setBits v hi lo x = (v / 2 ^ (lo + (hi + 1 - lo))) * 2 ^ (lo + (hi + 1 - lo)) + (x % 2 ^ (hi + 1 - lo)) * 2 ^ lo + v % 2 ^ lo := by
  have h := cut3 v lo (hi + 1 - lo)
  simp only [setBits, Nat.shiftLeft_eq, Nat.shiftRight_eq_div_pow]
  omega

theorem mid_lt (a b lo w : Nat) (hb : b < 2 ^ lo) : (a % 2 ^ w) * 2 ^ lo + b < 2 ^ (lo + w) := by
  have h1 : a % 2 ^ w + 1 ≤ 2 ^ w := Nat.mod_lt _ (Nat.two_pow_pos w)
  have h2 : (a % 2 ^ w + 1) * 2 ^ lo ≤ 2 ^ w * 2 ^ lo := Nat.mul_le_mul_right _ h1
  rw [Nat.add_mul, Nat.one_mul] at h2
  rw [Nat.pow_add, Nat.mul_comm (2 ^ lo)]
  omega

theorem setBits_div_lo (v hi lo x : Nat) : setBits v hi lo x / 2 ^ lo = (v / 2 ^ (lo + (hi + 1 - lo))) * 2 ^ (hi + 1 - lo) + x % 2 ^ (hi + 1 - lo) := by
  rw [setBits_eq]
  generalize hi + 1 - lo = w
  have h1 : v / 2 ^ (lo + w) * 2 ^ (lo + w) + x % 2 ^ w * 2 ^ lo + v % 2 ^ lo
      = v % 2 ^ lo + 2 ^ lo * (v / 2 ^ (lo + w) * 2 ^ w + x % 2 ^ w) := by
    rw [Nat.mul_add, Nat.pow_add, Nat.mul_comm (2 ^ lo) (x % 2 ^ w)]
    have : v / (2 ^ lo * 2 ^ w) * (2 ^ lo * 2 ^ w) = 2 ^ lo * (v / (2 ^ lo * 2 ^ w) * 2 ^ w) := by ac_rfl
    omega
  rw [h1, Nat.add_mul_div_left _ _ (Nat.two_pow_pos lo), Nat.div_eq_of_lt (Nat.mod_lt _ (Nat.two_pow_pos lo)), Nat.zero_add]

theorem setBits_mod_lo (v hi lo x k : Nat) (h : k ≤ lo) : setBits v hi lo x % 2 ^ k = v % 2 ^ k := by
  rw [setBits_eq]
  generalize hi + 1 - lo = w
  obtain ⟨d, rfl⟩ := Nat.exists_eq_add_of_le h
  have h1 : v / 2 ^ (k + d + w) * 2 ^ (k + d + w) + x % 2 ^ w * 2 ^ (k + d) + v % 2 ^ (k + d)
      = v % 2 ^ (k + d) + 2 ^ k * (v / 2 ^ (k + d + w) * 2 ^ (d + w) + x % 2 ^ w * 2 ^ d) := by
    simp only [Nat.pow_add, Nat.mul_add]
    have h2 : v / (2 ^ k * 2 ^ d * 2 ^ w) * (2 ^ k * 2 ^ d * 2 ^ w) = 2 ^ k * (v / (2 ^ k * 2 ^ d * 2 ^ w) * (2 ^ d * 2 ^ w)) := by ac_rfl
    have h3 : x % 2 ^ w * (2 ^ k * 2 ^ d) = 2 ^ k * (x % 2 ^ w * 2 ^ d) := by ac_rfl
    omega
  rw [h1, Nat.add_mul_mod_self_left, Nat.pow_add, Nat.mod_mul_right_mod]

theorem setBits_div_hi (v hi lo x : Nat) : setBits v hi lo x / 2 ^ (lo + (hi + 1 - lo)) = v / 2 ^ (lo + (hi + 1 - lo)) := by
  rw [setBits_eq]
  generalize hi + 1 - lo = w
  have h := mid_lt x (v % 2 ^ lo) lo w (Nat.mod_lt _ (Nat.two_pow_pos lo))
  have h1 : v / 2 ^ (lo + w) * 2 ^ (lo + w) + x % 2 ^ w * 2 ^ lo + v % 2 ^ lo
      = (x % 2 ^ w * 2 ^ lo + v % 2 ^ lo) + 2 ^ (lo + w) * (v / 2 ^ (lo + w)) := by rw [Nat.mul_comm (2 ^ (lo + w))]; omega
  rw [h1, Nat.add_mul_div_left _ _ (Nat.two_pow_pos _), Nat.div_eq_of_lt h, Nat.zero_add]

theorem setBits_lt (v hi lo x : Nat) (hl : lo ≤ hi) (hh : hi ≤ 31) (hv : v < 2 ^ 32) : setBits v hi lo x < 2 ^ 32 := by
  have h := setBits_div_hi v hi lo x
  have hw : lo + (hi + 1 - lo) = hi + 1 := by omega
  rw [hw] at h
  have h1 := Nat.div_add_mod (setBits v hi lo x) (2 ^ (hi + 1))
  have h2 := Nat.mod_lt (setBits v hi lo x) (Nat.two_pow_pos (hi + 1))
  rw [h] at h1
  have h3 : v / 2 ^ (hi + 1) + 1 ≤ 2 ^ (32 - (hi + 1)) := by
    apply Nat.div_lt_of_lt_mul
    rw [← Nat.pow_add]
    have : hi + 1 + (32 - (hi + 1)) = 32 := by omega
    rw [this]; exact hv
  have h4 : (v / 2 ^ (hi + 1) + 1) * 2 ^ (hi + 1) ≤ 2 ^ 32 := by
    calc (v / 2 ^ (hi + 1) + 1) * 2 ^ (hi + 1) ≤ 2 ^ (32 - (hi + 1)) * 2 ^ (hi + 1) := Nat.mul_le_mul_right _ h3
      _ = 2 ^ 32 := by rw [← Nat.pow_add]; congr 1; omega
  rw [Nat.add_mul, Nat.one_mul, Nat.mul_comm] at h4
  omega

/-- A field reads what was put into it. -/
theorem fldGet_set_eq (v : W32) (f : Fld) (x : Nat) (hl : f.lo ≤ f.hi) (hh : f.hi ≤ 31) :
    fldGet (fldSet v f x) f = x % 2 ^ (f.hi + 1 - f.lo) := by
  unfold fldGet fldSet bits
  rw [BitVec.toNat_ofNat, Nat.mod_eq_of_lt (setBits_lt _ _ _ _ hl hh v.isLt), Nat.shiftRight_eq_div_pow, setBits_div_lo,
    Nat.mul_add_mod_self_right, Nat.mod_mod]

/-- Another field reads as before. -/
theorem fldGet_set_ne (v : W32) (f g : Fld) (x : Nat) (hl : f.lo ≤ f.hi) (hh : f.hi ≤ 31) (hg : g.lo ≤ g.hi)
    (hd : f.hi < g.lo ∨ g.hi < f.lo) : fldGet (fldSet v f x) g = fldGet v g := by
  unfold fldGet fldSet bits
  rw [BitVec.toNat_ofNat, Nat.mod_eq_of_lt (setBits_lt _ _ _ _ hl hh v.isLt)]
  simp only [Nat.shiftRight_eq_div_pow]
  rcases hd with hd | hd
  · have h := setBits_div_hi v.toNat f.hi f.lo x
    have hw : f.lo + (f.hi + 1 - f.lo) = f.hi + 1 := by omega
    rw [hw] at h
    obtain ⟨d, hd'⟩ := Nat.exists_eq_add_of_le (show f.hi + 1 ≤ g.lo by omega)
    rw [hd', Nat.pow_add, ← Nat.div_div_eq_div_mul, ← Nat.div_div_eq_div_mul, h]
  · have h := setBits_mod_lo v.toNat f.hi f.lo x (g.lo + (g.hi + 1 - g.lo)) (by omega)
    have e (y : Nat) : y / 2 ^ g.lo % 2 ^ (g.hi + 1 - g.lo) = y % 2 ^ (g.lo + (g.hi + 1 - g.lo)) / 2 ^ g.lo := by
      rw [Nat.pow_add, Nat.mod_mul_right_div_self]
    rw [e, e, h]

/-! ### Registers of a state -/

@[simp] theorem rget_rput_eq (s : State) (off : Nat) (v : W32) : rget (rput s off v) off = v := tblGet_set_eq _ _ _ _

theorem rget_rput_ne (s : State) (off o : Nat) (v : W32) (h : o ≠ off) : rget (rput s off v) o = rget s o := tblGet_set_ne _ _ _ _ _ h

theorem fget_fput_eq (s : State) (off : Nat) (f : Fld) (x : Nat) (hl : f.lo ≤ f.hi) (hh : f.hi ≤ 31) :
    fget (fput s off f x) off f = x % 2 ^ (f.hi + 1 - f.lo) := by
  unfold fget fput; rw [rget_rput_eq, fldGet_set_eq _ _ _ hl hh]

theorem fget_fput_other (s : State) (off : Nat) (f g : Fld) (x : Nat) (hl : f.lo ≤ f.hi) (hh : f.hi ≤ 31) (hg : g.lo ≤ g.hi)
    (hd : f.hi < g.lo ∨ g.hi < f.lo) : fget (fput s off f x) off g = fget s off g := by
  unfold fget fput; rw [rget_rput_eq, fldGet_set_ne _ _ _ _ hl hh hg hd]

theorem fget_fput_ne (s : State) (off o : Nat) (f g : Fld) (x : Nat) (h : o ≠ off) : fget (fput s off f x) o g = fget s o g := by
  unfold fget fput; rw [rget_rput_ne _ _ _ _ h]

theorem rget_fput_ne (s : State) (off o : Nat) (f : Fld) (x : Nat) (h : o ≠ off) : rget (fput s off f x) o = rget s o :=
  rget_rput_ne _ _ _ _ h

/-! ### Cores and saggars -/

@[simp] theorem getCore_setCore_eq (s : State) (c : Nat) (x : Core) : getCore (setCore s c x) c = x := tblGet_set_eq _ _ _ _
theorem getCore_setCore_ne (s : State) (c d : Nat) (x : Core) (h : d ≠ c) : getCore (setCore s c x) d = getCore s d :=
  tblGet_set_ne _ _ _ _ _ h
@[simp] theorem getCore_modCore_eq (s : State) (c : Nat) (f : Core → Core) : getCore (modCore s c f) c = f (getCore s c) := tblGet_set_eq _ _ _ _
@[simp] theorem getSag_setSag_eq (s : State) (n : Nat) (x : Sag) : getSag (setSag s n x) n = x := tblGet_set_eq _ _ _ _
theorem getSag_setSag_ne (s : State) (n m : Nat) (x : Sag) (h : m ≠ n) : getSag (setSag s n x) m = getSag s m :=
  tblGet_set_ne _ _ _ _ _ h
@[simp] theorem getCore_rput (s : State) (off c : Nat) (v : W32) : getCore (rput s off v) c = getCore s c := rfl
@[simp] theorem getCore_fput (s : State) (off c : Nat) (f : Fld) (x : Nat) : getCore (fput s off f x) c = getCore s c := rfl
@[simp] theorem rget_setCore (s : State) (off c : Nat) (x : Core) : rget (setCore s c x) off = rget s off := rfl

end Sys2Proof.Machine
end

