-- ==== Sys2Proof/Laws/Issue.lean ====
section
/-! SUPPORT. Laws/Issue.lean: everything that the step of an operation can do: it issues, it raises, it waits, or the core stalls. -/

namespace Sys2Proof.Machine

@[simp] theorem modThread_step (c : Core) (th : Nat) (f : Thread → Thread) : (modThread c th f).step = c.step := rfl
@[simp] theorem writeReg_step (c : Core) (th : Nat) (r : RegVal) : (writeReg c th r).step = c.step := by cases r <;> rfl
theorem foldl_step {α : Type} (l : List α) (f : Core → α → Core) (c : Core) (h : ∀ x y, (f x y).step = x.step) : (l.foldl f c).step = c.step := by
  induction l generalizing c with
  | nil => rfl
  | cons a l ih => simp only [List.foldl_cons, ih, h]
/-- A step begins without the counter moving. -/
theorem beginStep_step (c : Core) : (beginStep c).step = c.step := by
  unfold beginStep applyCtl applyWrites applyNv
  dsimp only
  rw [foldl_step, foldl_step, foldl_step] <;> (intros; first | rfl | simp)
@[simp] theorem coreNext_step (s : State) (c : Nat) : (coreNext s c).step = (getCore s c).step := beginStep_step _
@[simp] theorem endIssue_step (c : Core) : (endIssue c).step = c.step + 1 := rfl
@[simp] theorem result_step (c : Core) (th lat : Nat) (r : RegVal) : (result c th lat r).step = c.step := rfl
theorem step_ne (x : W64) : x + 1 ≠ x := by bv_omega
@[simp] theorem getThread_modThread (c : Core) (th : Nat) (f : Thread → Thread) : getThread (modThread c th f) th = f (getThread c th) :=
  tblGet_set_eq _ _ _ _

/-- An operation whose conditions hold issues: its effect, its next PC, and its requests. -/
theorem opCmd_issue (b : Body) (op : Nat) (md : Option Nat) (c : Nat) (w : OpWord) (s : State) (k : Core) (rs : List OutReq)
    (h : OpAt op c w s) (hm : (md.all fun m => m == w.md.toNat) = true)
    (hr : RegsFree s c (b.reads w)) (hw : RegsFree s c (b.writes w))
    (hi : b.illegal (ctxNow s c) (coreNext s c) (thrOf s c) w = false)
    (hc : b.checks (ctxNow s c) (coreNext s c) (thrOf s c) w = [])
    (hy : b.ready (ctxNow s c) (coreNext s c) (thrOf s c) w = true)
    (hp : b.posts (ctxNow s c) (coreNext s c) (thrOf s c) w = true → PostRoom s c)
    (he : b.effect (ctxNow s c) (coreNext s c) (thrOf s c) w = (k, rs))
    (hs : k.step = (coreNext s c).step) :
    opCmd b op md c w s = .next (handOut s (issuedBy s c k fun t =>
      { t with pc := (b.target (coreNext s c) (thrOf s c) w).getD ((thrNext s c).pc + 8), waitStep := b.wait (coreNext s c) (thrOf s c) w }) c rs) := by
  obtain ⟨h1, h2, h3⟩ := h
  have hr' : (b.reads w).any (regBusy (coreNext s c) (thrOf s c)) = false := by
    rw [List.any_eq_false]; intro r hr0; simp [hr r hr0]
  have hw' : (b.writes w).any (regBusy (coreNext s c) (thrOf s c)) = false := by
    rw [List.any_eq_false]; intro r hr0; simp [hw r hr0]
  have hp' : (b.posts (ctxNow s c) (coreNext s c) (thrOf s c) w && decide (256 ≤ postedWaiting (coreNext s c))) = false := by
    cases hq : b.posts (ctxNow s c) (coreNext s c) (thrOf s c) w
    · rfl
    · have := hp hq; unfold PostRoom at this; simp; omega
  have hk : issueKind b (ctxNow s c) (coreNext s c) (thrOf s c) w (opEncode op w) = .issue := by
    unfold issueKind
    simp [hr', hw', hi, hc, hy, hp', lowestCheck]
  have hstep : stepIssue b (ctxNow s c) (getCore s c) w (opEncode op w)
      = some (endIssue (modThread k (thrOf s c) fun t => countIssue { t with pc := (b.target (coreNext s c) (thrOf s c) w).getD ((thrNext s c).pc + 8), waitStep := b.wait (coreNext s c) (thrOf s c) w }), emitsOf (thrOf s c) (coreNext s c).step rs) := by
    unfold stepIssue
    have e1 : beginStep (getCore s c) = coreNext s c := rfl
    have e2 : offered (coreNext s c) = thrOf s c := rfl
    have e3 : getThread (coreNext s c) (thrOf s c) = thrNext s c := rfl
    simp only [e1, e2, e3, h2, h3, hk, and_self, if_true]
    unfold issueAt
    simp only [he, e3]
  unfold opCmd when_
  dsimp only
  rw [h1, hm]
  simp only [Bool.and_self, if_true]
  unfold opStep
  have e4 : ctxOf s c (getCore s c) = ctxNow s c := rfl
  rw [e4, hstep]
  dsimp only
  rw [if_neg]
  · rfl
  · simp only [endIssue_step, modThread_step, hs, coreNext_step]; exact step_ne _

end Sys2Proof.Machine
end

