-- ==== Sys2Proof/Laws/KeptBase.lean ====
section
/-! SUPPORT. Laws/KeptBase.lean: the identity registers and the queue of commands through the plainest operations. `kept` (Safety.lean) is the queue of waiting commands and the identity
registers; `f_kept` says that f leaves them as they were. A lemma about a command has the form outKept; some suppose that no identity
register is listed away from its fuse. -/

set_option linter.all false

namespace Sys2Proof.Machine

@[simp] theorem keptOf_self (s : State) : keptOf s.regs s.pending = kept s := rfl
@[simp] theorem kept_mk (a b c d e f g h i j k l m n o p q r t u v) : kept ⟨a,b,c,d,e,f,g,h,i,j,k,l,m,n,o,p,q,r,t,u,v⟩ = keptOf a v := rfl
@[simp] theorem kept_ite (c : Prop) [Decidable c] (a b : State) : kept (if c then a else b) = if c then kept a else kept b := by split <;> rfl
@[simp] theorem kept_dite (c : Prop) [Decidable c] (a : c → State) (b : ¬c → State) : kept (if h : c then a h else b h) = if h : c then kept (a h) else kept (b h) := by split <;> rfl
@[simp] theorem kept_getD (o : Option State) (s : State) (k) (h : ∀ t, o = some t → kept t = k) (hs : kept s = k) : kept (o.getD s) = k := by cases o <;> simp_all
@[simp] theorem outKept_next (t : State) (k) : outKept k (.next t) = (kept t = k) := rfl
@[simp] theorem outKept_refused (r) (k) : outKept k (.refused r) = True := rfl
def keptRes (k : List Instr × Tbl W32) (r : AgentRes) : Prop :=
  match r with
  | .ok t _ _ => kept t = k
  | .fault t _ => kept t = k
  | .refused t => kept t = k
  | _ => True
@[simp] theorem keptRes_ok (k t a b) : keptRes k (.ok t a b) = (kept t = k) := rfl
@[simp] theorem keptRes_fault (k t a) : keptRes k (.fault t a) = (kept t = k) := rfl
@[simp] theorem keptRes_refused (k t) : keptRes k (.refused t) = (kept t = k) := rfl
@[simp] theorem keptRes_busy (k) : keptRes k .busy = True := rfl
def keptOpt (k : List Instr × Tbl W32) (r : Option State) : Prop :=
  match r with
  | some t => kept t = k
  | none => True
@[simp] theorem keptOpt_some (k t) : keptOpt k (some t) = (kept t = k) := rfl
@[simp] theorem keptOpt_none (k) : keptOpt k none = True := rfl
@[simp] theorem keptOpt_map {α : Type} (kk) (o : Option α) (f : α → State) (h : ∀ x, kept (f x) = kk) : keptOpt kk (o.map f) := by
  cases o <;> simp [h]
@[simp] theorem keptOpt_bind {α : Type} (kk) (o : Option α) (f : α → Option State) (h : ∀ x, keptOpt kk (f x)) : keptOpt kk (o.bind f) := by
  cases o <;> simp [h]
def keptOptB (k : List Instr × Tbl W32) (r : Option (State × Bool)) : Prop :=
  match r with
  | some (t, _) => kept t = k
  | none => True
@[simp] theorem keptOptB_some (k t b) : keptOptB k (some (t, b)) = (kept t = k) := rfl
@[simp] theorem keptOptB_none (k) : keptOptB k none = True := rfl
def keptMsg (k : List Instr × Tbl W32) (r : MsgRes) : Prop :=
  match r with
  | .done t => kept t = k
  | .hold t _ => kept t = k
  | _ => True
@[simp] theorem keptMsg_done (k t) : keptMsg k (.done t) = (kept t = k) := rfl
@[simp] theorem keptMsg_hold (k t a) : keptMsg k (.hold t a) = (kept t = k) := rfl
@[simp] theorem keptMsg_later (k) : keptMsg k .later = True := rfl
theorem filter_put {α : Type} (L : Nat) (t : Tbl α) (k : Nat) (v : α) (h : L ≤ k) :
    (tblPut t k v).filter (fun p => decide (p.1 < L)) = t.filter fun p => decide (p.1 < L) := by
  induction t with
  | nil => simp [tblPut]; omega
  | cons p t ih =>
    obtain ⟨a, w⟩ := p
    unfold tblPut
    split
    · subst_vars; simp [List.filter_cons, show ¬ a < L by omega]
    · split
      · simp [List.filter_cons, show ¬ k < L by omega]
      · simp [List.filter_cons, ih]
theorem filter_erase {α : Type} (L : Nat) (t : Tbl α) (k : Nat) (h : L ≤ k) :
    (tblErase t k).filter (fun p => decide (p.1 < L)) = t.filter fun p => decide (p.1 < L) := by
  induction t with
  | nil => simp [tblErase]
  | cons p t ih =>
    obtain ⟨a, w⟩ := p
    unfold tblErase
    split
    · subst_vars; rw [ih]; simp [show ¬ a < L by omega]
    · simp [List.filter_cons, ih]
@[simp] theorem rput_kept (s : State) (off : Nat) (v : W32) (h : 0x10000 ≤ off) : kept (rput s off v) = kept s := by
  unfold kept keptOf rput tblSet
  dsimp only
  split
  · rw [filter_erase _ _ _ h]
  · rw [filter_put _ _ _ _ h]
@[simp] theorem fput_kept (s : State) (off : Nat) (f : Fld) (x : Nat) (h : 0x10000 ≤ off) : kept (fput s off f x) = kept s := rput_kept _ _ _ h
@[simp] theorem fadd_kept (s : State) (off : Nat) (f : Fld) (x : Nat) (h : 0x10000 ≤ off) : kept (fadd s off f x) = kept s := fput_kept _ _ _ _ h
@[simp] theorem faddw_kept (s : State) (off : Nat) (f : Fld) (x : Nat) (h : 0x10000 ≤ off) : kept (faddw s off f x) = kept s := fput_kept _ _ _ _ h
@[simp] theorem cadd_kept (s : State) (lo hi n : Nat) (h : 0x10000 ≤ lo) (h' : 0x10000 ≤ hi) : kept (cadd s lo hi n) = kept s := by
  unfold cadd; simp [*]
@[simp] theorem pairPut_kept (s : State) (lo hi n : Nat) (h : 0x10000 ≤ lo) (h' : 0x10000 ≤ hi) : kept (pairPut s lo hi n) = kept s := by
  unfold pairPut; simp [*]
@[simp] theorem each_kept {α : Type} (l : List α) (f : State → α → State) (s : State) (h : ∀ x y, kept (f x y) = kept x) : kept (each l f s) = kept s := by
  unfold each
  induction l generalizing s with
  | nil => rfl
  | cons a l ih => simp [List.foldl_cons, ih, h]
theorem each_kept_mem {α : Type} (l : List α) (f : State → α → State) (s : State) (h : ∀ x, ∀ y ∈ l, kept (f x y) = kept x) : kept (each l f s) = kept s := by
  unfold each
  induction l generalizing s with
  | nil => rfl
  | cons a l ih => simp only [List.foldl_cons]; rw [ih _ (fun x y hy => h x y (List.mem_cons_of_mem _ hy)), h s a List.mem_cons_self]
@[simp] theorem foldl_kept {α : Type} (l : List α) (f : State → α → State) (s : State) (h : ∀ x y, kept (f x y) = kept x) : kept (l.foldl f s) = kept s := each_kept l f s h
@[simp] theorem outKept_when (b : Bool) (s t : State) (k) : outKept k (when_ b s t) = (kept (if b then t else s) = k) := rfl

@[simp] theorem le_r_DET_TB_LO : 0x10000 ≤ r_DET_TB_LO := by unfold r_DET_TB_LO; omega
@[simp] theorem le_r_DET_TB_HI : 0x10000 ≤ r_DET_TB_HI := by unfold r_DET_TB_HI; omega
@[simp] theorem le_r_DET_TB_STAT : 0x10000 ≤ r_DET_TB_STAT := by unfold r_DET_TB_STAT; omega
@[simp] theorem le_r_DET_TB_CFG : 0x10000 ≤ r_DET_TB_CFG := by unfold r_DET_TB_CFG; omega
@[simp] theorem le_r_DET_TB_PPS_LO : 0x10000 ≤ r_DET_TB_PPS_LO := by unfold r_DET_TB_PPS_LO; omega
@[simp] theorem le_r_DET_TB_PPS_HI : 0x10000 ≤ r_DET_TB_PPS_HI := by unfold r_DET_TB_PPS_HI; omega
@[simp] theorem le_r_DET_GSTALL_CNT : 0x10000 ≤ r_DET_GSTALL_CNT := by unfold r_DET_GSTALL_CNT; omega
@[simp] theorem le_r_DET_GSTALL_US : 0x10000 ≤ r_DET_GSTALL_US := by unfold r_DET_GSTALL_US; omega
@[simp] theorem le_r_MMU_CTL : 0x10000 ≤ r_MMU_CTL := by unfold r_MMU_CTL; omega
@[simp] theorem le_r_MMU_STAT : 0x10000 ≤ r_MMU_STAT := by unfold r_MMU_STAT; omega
@[simp] theorem le_r_MMU_FCNT : 0x10000 ≤ r_MMU_FCNT := by unfold r_MMU_FCNT; omega
@[simp] theorem le_r_MMU_WCNT : 0x10000 ≤ r_MMU_WCNT := by unfold r_MMU_WCNT; omega
@[simp] theorem le_r_MMU_TW_DST_LO : 0x10000 ≤ r_MMU_TW_DST_LO := by unfold r_MMU_TW_DST_LO; omega
@[simp] theorem le_r_MMU_TW_DST_HI : 0x10000 ≤ r_MMU_TW_DST_HI := by unfold r_MMU_TW_DST_HI; omega
@[simp] theorem le_r_MMU_TW_SRC_LO : 0x10000 ≤ r_MMU_TW_SRC_LO := by unfold r_MMU_TW_SRC_LO; omega
@[simp] theorem le_r_MMU_TW_SRC_HI : 0x10000 ≤ r_MMU_TW_SRC_HI := by unfold r_MMU_TW_SRC_HI; omega
@[simp] theorem le_r_MMU_TW_DATA_LO : 0x10000 ≤ r_MMU_TW_DATA_LO := by unfold r_MMU_TW_DATA_LO; omega
@[simp] theorem le_r_MMU_TW_DATA_HI : 0x10000 ≤ r_MMU_TW_DATA_HI := by unfold r_MMU_TW_DATA_HI; omega
@[simp] theorem le_r_MMU_TW_CTL : 0x10000 ≤ r_MMU_TW_CTL := by unfold r_MMU_TW_CTL; omega
@[simp] theorem le_r_MMU_TW_STAT : 0x10000 ≤ r_MMU_TW_STAT := by unfold r_MMU_TW_STAT; omega
@[simp] theorem le_r_MMU_ROOT_LO (i : Nat) : 0x10000 ≤ r_MMU_ROOT_LO i := by unfold r_MMU_ROOT_LO; omega
@[simp] theorem le_r_MMU_ROOT_HI (i : Nat) : 0x10000 ≤ r_MMU_ROOT_HI i := by unfold r_MMU_ROOT_HI; omega
@[simp] theorem le_r_TNT_PREEMPT : 0x10000 ≤ r_TNT_PREEMPT := by unfold r_TNT_PREEMPT; omega
@[simp] theorem le_r_TNT_PRE_STAT : 0x10000 ≤ r_TNT_PRE_STAT := by unfold r_TNT_PRE_STAT; omega
@[simp] theorem le_r_TNT_CLMAP_SEL : 0x10000 ≤ r_TNT_CLMAP_SEL := by unfold r_TNT_CLMAP_SEL; omega
@[simp] theorem le_r_TNT_CLMAP_VAL : 0x10000 ≤ r_TNT_CLMAP_VAL := by unfold r_TNT_CLMAP_VAL; omega
@[simp] theorem le_r_TNT_SG_STATE (i : Nat) : 0x10000 ≤ r_TNT_SG_STATE i := by unfold r_TNT_SG_STATE; omega
@[simp] theorem le_r_TNT_SG_SAVE_LO (i : Nat) : 0x10000 ≤ r_TNT_SG_SAVE_LO i := by unfold r_TNT_SG_SAVE_LO; omega
@[simp] theorem le_r_TNT_SG_SAVE_HI (i : Nat) : 0x10000 ≤ r_TNT_SG_SAVE_HI i := by unfold r_TNT_SG_SAVE_HI; omega
@[simp] theorem le_r_TNT_SG_SAVE_SZ (i : Nat) : 0x10000 ≤ r_TNT_SG_SAVE_SZ i := by unfold r_TNT_SG_SAVE_SZ; omega
@[simp] theorem le_r_STM_SQB_LO (i : Nat) : 0x10000 ≤ r_STM_SQB_LO i := by unfold r_STM_SQB_LO; omega
@[simp] theorem le_r_STM_SQB_HI (i : Nat) : 0x10000 ≤ r_STM_SQB_HI i := by unfold r_STM_SQB_HI; omega
@[simp] theorem le_r_STM_CQB_LO (i : Nat) : 0x10000 ≤ r_STM_CQB_LO i := by unfold r_STM_CQB_LO; omega
@[simp] theorem le_r_STM_CQB_HI (i : Nat) : 0x10000 ≤ r_STM_CQB_HI i := by unfold r_STM_CQB_HI; omega
@[simp] theorem le_r_STM_CFG (i : Nat) : 0x10000 ≤ r_STM_CFG i := by unfold r_STM_CFG; omega
@[simp] theorem le_r_STM_CTL (i : Nat) : 0x10000 ≤ r_STM_CTL i := by unfold r_STM_CTL; omega
@[simp] theorem le_r_STM_COAL (i : Nat) : 0x10000 ≤ r_STM_COAL i := by unfold r_STM_COAL; omega
@[simp] theorem le_r_STM_SEQ_LO (i : Nat) : 0x10000 ≤ r_STM_SEQ_LO i := by unfold r_STM_SEQ_LO; omega
@[simp] theorem le_r_STM_SEQ_HI (i : Nat) : 0x10000 ≤ r_STM_SEQ_HI i := by unfold r_STM_SEQ_HI; omega
@[simp] theorem le_r_STM_PTR (i : Nat) : 0x10000 ≤ r_STM_PTR i := by unfold r_STM_PTR; omega
@[simp] theorem le_r_STM_STAT (i : Nat) : 0x10000 ≤ r_STM_STAT i := by unfold r_STM_STAT; omega
@[simp] theorem le_r_STM_LDONE_LO (i : Nat) : 0x10000 ≤ r_STM_LDONE_LO i := by unfold r_STM_LDONE_LO; omega
@[simp] theorem le_r_STM_LDONE_HI (i : Nat) : 0x10000 ≤ r_STM_LDONE_HI i := by unfold r_STM_LDONE_HI; omega
@[simp] theorem le_r_STM_ACCNT (i : Nat) : 0x10000 ≤ r_STM_ACCNT i := by unfold r_STM_ACCNT; omega
@[simp] theorem le_r_STM_REJCNT (i : Nat) : 0x10000 ≤ r_STM_REJCNT i := by unfold r_STM_REJCNT; omega
@[simp] theorem le_r_STM_DUPCNT (i : Nat) : 0x10000 ≤ r_STM_DUPCNT i := by unfold r_STM_DUPCNT; omega
@[simp] theorem le_r_TNT_FN_STRM (i : Nat) : 0x10000 ≤ r_TNT_FN_STRM i := by unfold r_TNT_FN_STRM; omega
@[simp] theorem le_r_TNT_FN_BUDGET (i : Nat) : 0x10000 ≤ r_TNT_FN_BUDGET i := by unfold r_TNT_FN_BUDGET; omega
@[simp] theorem le_r_TNT_FN_STAT (i : Nat) : 0x10000 ≤ r_TNT_FN_STAT i := by unfold r_TNT_FN_STAT; omega
@[simp] theorem le_r_TNT_FN_PORT (i : Nat) : 0x10000 ≤ r_TNT_FN_PORT i := by unfold r_TNT_FN_PORT; omega
@[simp] theorem le_r_DET_CTL : 0x10000 ≤ r_DET_CTL := by unfold r_DET_CTL; omega
@[simp] theorem le_r_DET_STAT : 0x10000 ≤ r_DET_STAT := by unfold r_DET_STAT; omega
@[simp] theorem le_r_DET_RPL_CTL : 0x10000 ≤ r_DET_RPL_CTL := by unfold r_DET_RPL_CTL; omega
@[simp] theorem le_r_DET_RPL_STAT : 0x10000 ≤ r_DET_RPL_STAT := by unfold r_DET_RPL_STAT; omega
@[simp] theorem le_r_DET_RPL_LOG_LO : 0x10000 ≤ r_DET_RPL_LOG_LO := by unfold r_DET_RPL_LOG_LO; omega
@[simp] theorem le_r_DET_RPL_LOG_HI : 0x10000 ≤ r_DET_RPL_LOG_HI := by unfold r_DET_RPL_LOG_HI; omega
@[simp] theorem le_r_DET_RPL_LOG_LEN : 0x10000 ≤ r_DET_RPL_LOG_LEN := by unfold r_DET_RPL_LOG_LEN; omega
@[simp] theorem le_r_DET_RPL_IN_LO : 0x10000 ≤ r_DET_RPL_IN_LO := by unfold r_DET_RPL_IN_LO; omega
@[simp] theorem le_r_DET_RPL_IN_HI : 0x10000 ≤ r_DET_RPL_IN_HI := by unfold r_DET_RPL_IN_HI; omega
@[simp] theorem le_r_DET_RPL_OUT_LO : 0x10000 ≤ r_DET_RPL_OUT_LO := by unfold r_DET_RPL_OUT_LO; omega
@[simp] theorem le_r_DET_RPL_OUT_HI : 0x10000 ≤ r_DET_RPL_OUT_HI := by unfold r_DET_RPL_OUT_HI; omega
@[simp] theorem le_r_DET_RPL_DUMP_LO : 0x10000 ≤ r_DET_RPL_DUMP_LO := by unfold r_DET_RPL_DUMP_LO; omega
@[simp] theorem le_r_DET_RPL_DUMP_HI : 0x10000 ≤ r_DET_RPL_DUMP_HI := by unfold r_DET_RPL_DUMP_HI; omega
@[simp] theorem le_r_DET_RPL_SEQ_LO : 0x10000 ≤ r_DET_RPL_SEQ_LO := by unfold r_DET_RPL_SEQ_LO; omega
@[simp] theorem le_r_DET_RPL_SEQ_HI : 0x10000 ≤ r_DET_RPL_SEQ_HI := by unfold r_DET_RPL_SEQ_HI; omega
@[simp] theorem le_r_DET_RPL_PT : 0x10000 ≤ r_DET_RPL_PT := by unfold r_DET_RPL_PT; omega
@[simp] theorem le_r_DET_RPL_CNT_LO : 0x10000 ≤ r_DET_RPL_CNT_LO := by unfold r_DET_RPL_CNT_LO; omega
@[simp] theorem le_r_DET_RPL_CNT_HI : 0x10000 ≤ r_DET_RPL_CNT_HI := by unfold r_DET_RPL_CNT_HI; omega
@[simp] theorem le_r_DET_RPL_ADDR_LO : 0x10000 ≤ r_DET_RPL_ADDR_LO := by unfold r_DET_RPL_ADDR_LO; omega
@[simp] theorem le_r_DET_RPL_ADDR_HI : 0x10000 ≤ r_DET_RPL_ADDR_HI := by unfold r_DET_RPL_ADDR_HI; omega
@[simp] theorem le_r_DET_RPL_LEN : 0x10000 ≤ r_DET_RPL_LEN := by unfold r_DET_RPL_LEN; omega
@[simp] theorem le_r_DET_RPL_ITEMS : 0x10000 ≤ r_DET_RPL_ITEMS := by unfold r_DET_RPL_ITEMS; omega
@[simp] theorem le_r_DET_RPL_MISCNT : 0x10000 ≤ r_DET_RPL_MISCNT := by unfold r_DET_RPL_MISCNT; omega
@[simp] theorem le_r_DET_RPL_LSN_LO : 0x10000 ≤ r_DET_RPL_LSN_LO := by unfold r_DET_RPL_LSN_LO; omega
@[simp] theorem le_r_DET_RPL_LSN_HI : 0x10000 ≤ r_DET_RPL_LSN_HI := by unfold r_DET_RPL_LSN_HI; omega
@[simp] theorem le_r_DET_LOG_LO (i : Nat) : 0x10000 ≤ r_DET_LOG_LO i := by unfold r_DET_LOG_LO; omega
@[simp] theorem le_r_DET_LOG_HI (i : Nat) : 0x10000 ≤ r_DET_LOG_HI i := by unfold r_DET_LOG_HI; omega
@[simp] theorem le_r_DET_LOG_CFG (i : Nat) : 0x10000 ≤ r_DET_LOG_CFG i := by unfold r_DET_LOG_CFG; omega
@[simp] theorem le_r_DET_LOG_HEAD (i : Nat) : 0x10000 ≤ r_DET_LOG_HEAD i := by unfold r_DET_LOG_HEAD; omega
@[simp] theorem le_r_DET_LOG_TAIL (i : Nat) : 0x10000 ≤ r_DET_LOG_TAIL i := by unfold r_DET_LOG_TAIL; omega
@[simp] theorem le_r_DET_LOG_STAT (i : Nat) : 0x10000 ≤ r_DET_LOG_STAT i := by unfold r_DET_LOG_STAT; omega
@[simp] theorem le_r_DET_LOG_LSN_LO (i : Nat) : 0x10000 ≤ r_DET_LOG_LSN_LO i := by unfold r_DET_LOG_LSN_LO; omega
@[simp] theorem le_r_DET_LOG_LSN_HI (i : Nat) : 0x10000 ≤ r_DET_LOG_LSN_HI i := by unfold r_DET_LOG_LSN_HI; omega
@[simp] theorem le_r_FAB_LNK_CTL (i j : Nat) : 0x10000 ≤ r_FAB_LNK_CTL i j := by unfold r_FAB_LNK_CTL; omega
@[simp] theorem le_r_FAB_LNK_STAT (i j : Nat) : 0x10000 ≤ r_FAB_LNK_STAT i j := by unfold r_FAB_LNK_STAT; omega
@[simp] theorem le_r_FAB_LNK_ERR (i j : Nat) : 0x10000 ≤ r_FAB_LNK_ERR i j := by unfold r_FAB_LNK_ERR; omega
@[simp] theorem le_r_FAB_LNK_RTMO (i j : Nat) : 0x10000 ≤ r_FAB_LNK_RTMO i j := by unfold r_FAB_LNK_RTMO; omega
@[simp] theorem le_r_FAB_FEC_CW_LO (i j : Nat) : 0x10000 ≤ r_FAB_FEC_CW_LO i j := by unfold r_FAB_FEC_CW_LO; omega
@[simp] theorem le_r_FAB_FEC_CW_HI (i j : Nat) : 0x10000 ≤ r_FAB_FEC_CW_HI i j := by unfold r_FAB_FEC_CW_HI; omega
@[simp] theorem le_r_FAB_FEC_SYM_LO (i j : Nat) : 0x10000 ≤ r_FAB_FEC_SYM_LO i j := by unfold r_FAB_FEC_SYM_LO; omega
@[simp] theorem le_r_FAB_FEC_SYM_HI (i j : Nat) : 0x10000 ≤ r_FAB_FEC_SYM_HI i j := by unfold r_FAB_FEC_SYM_HI; omega
@[simp] theorem le_r_FAB_FEC_UNC (i j : Nat) : 0x10000 ≤ r_FAB_FEC_UNC i j := by unfold r_FAB_FEC_UNC; omega
@[simp] theorem le_r_FAB_RTX_NAKTX (i j : Nat) : 0x10000 ≤ r_FAB_RTX_NAKTX i j := by unfold r_FAB_RTX_NAKTX; omega
@[simp] theorem le_r_FAB_RTX_NAKRX (i j : Nat) : 0x10000 ≤ r_FAB_RTX_NAKRX i j := by unfold r_FAB_RTX_NAKRX; omega
@[simp] theorem le_r_FAB_RTX_TMO (i j : Nat) : 0x10000 ≤ r_FAB_RTX_TMO i j := by unfold r_FAB_RTX_TMO; omega
@[simp] theorem le_r_FAB_RTX_CELLS (i j : Nat) : 0x10000 ≤ r_FAB_RTX_CELLS i j := by unfold r_FAB_RTX_CELLS; omega
@[simp] theorem le_r_FAB_DROP_AGE (i j : Nat) : 0x10000 ≤ r_FAB_DROP_AGE i j := by unfold r_FAB_DROP_AGE; omega
@[simp] theorem le_r_FAB_DROP_HDR (i j : Nat) : 0x10000 ≤ r_FAB_DROP_HDR i j := by unfold r_FAB_DROP_HDR; omega
@[simp] theorem le_r_FAB_DROP_LOSS (i j : Nat) : 0x10000 ≤ r_FAB_DROP_LOSS i j := by unfold r_FAB_DROP_LOSS; omega
@[simp] theorem le_r_FAB_CE_MARKS (i j : Nat) : 0x10000 ≤ r_FAB_CE_MARKS i j := by unfold r_FAB_CE_MARKS; omega
@[simp] theorem le_r_FAB_STALL_LO (i j : Nat) : 0x10000 ≤ r_FAB_STALL_LO i j := by unfold r_FAB_STALL_LO; omega
@[simp] theorem le_r_FAB_STALL_HI (i j : Nat) : 0x10000 ≤ r_FAB_STALL_HI i j := by unfold r_FAB_STALL_HI; omega
@[simp] theorem le_r_FAB_VC_CELLS_LO (i j k : Nat) : 0x10000 ≤ r_FAB_VC_CELLS_LO i j k := by unfold r_FAB_VC_CELLS_LO; omega
@[simp] theorem le_r_FAB_VC_CELLS_HI (i j k : Nat) : 0x10000 ≤ r_FAB_VC_CELLS_HI i j k := by unfold r_FAB_VC_CELLS_HI; omega
@[simp] theorem le_r_FAB_VC_WORDS_LO (i j k : Nat) : 0x10000 ≤ r_FAB_VC_WORDS_LO i j k := by unfold r_FAB_VC_WORDS_LO; omega
@[simp] theorem le_r_FAB_VC_WORDS_HI (i j k : Nat) : 0x10000 ≤ r_FAB_VC_WORDS_HI i j k := by unfold r_FAB_VC_WORDS_HI; omega
@[simp] theorem le_r_FAB_VC_OCC (i j k : Nat) : 0x10000 ≤ r_FAB_VC_OCC i j k := by unfold r_FAB_VC_OCC; omega
@[simp] theorem le_r_FAB_WH_CTL (i : Nat) : 0x10000 ≤ r_FAB_WH_CTL i := by unfold r_FAB_WH_CTL; omega
@[simp] theorem le_r_FAB_VC_BUF (i j : Nat) : 0x10000 ≤ r_FAB_VC_BUF i j := by unfold r_FAB_VC_BUF; omega
@[simp] theorem le_r_FAB_RT_STAT (i : Nat) : 0x10000 ≤ r_FAB_RT_STAT i := by unfold r_FAB_RT_STAT; omega
@[simp] theorem le_r_FAB_RT_EPOCH (i : Nat) : 0x10000 ≤ r_FAB_RT_EPOCH i := by unfold r_FAB_RT_EPOCH; omega
@[simp] theorem le_r_FAB_RT_OLD (i : Nat) : 0x10000 ≤ r_FAB_RT_OLD i := by unfold r_FAB_RT_OLD; omega
@[simp] theorem le_r_FAB_RT_SEL (i : Nat) : 0x10000 ≤ r_FAB_RT_SEL i := by unfold r_FAB_RT_SEL; omega
@[simp] theorem le_r_FAB_RT_ENT (i : Nat) : 0x10000 ≤ r_FAB_RT_ENT i := by unfold r_FAB_RT_ENT; omega
@[simp] theorem le_r_FAB_RT_ADAPT (i : Nat) : 0x10000 ≤ r_FAB_RT_ADAPT i := by unfold r_FAB_RT_ADAPT; omega
@[simp] theorem le_r_FAB_RT_ESC (i : Nat) : 0x10000 ≤ r_FAB_RT_ESC i := by unfold r_FAB_RT_ESC; omega
@[simp] theorem le_r_FAB_RT_FALLBK (i : Nat) : 0x10000 ≤ r_FAB_RT_FALLBK i := by unfold r_FAB_RT_FALLBK; omega
@[simp] theorem le_r_FAB_RT_WAIT (i : Nat) : 0x10000 ≤ r_FAB_RT_WAIT i := by unfold r_FAB_RT_WAIT; omega
@[simp] theorem le_r_FAB_CE_THR (i j : Nat) : 0x10000 ≤ r_FAB_CE_THR i j := by unfold r_FAB_CE_THR; omega
@[simp] theorem le_r_FAB_CC_CTL : 0x10000 ≤ r_FAB_CC_CTL := by unfold r_FAB_CC_CTL; omega
@[simp] theorem le_r_FAB_CC_TIME : 0x10000 ≤ r_FAB_CC_TIME := by unfold r_FAB_CC_TIME; omega
@[simp] theorem le_r_FAB_CC_AI : 0x10000 ≤ r_FAB_CC_AI := by unfold r_FAB_CC_AI; omega
@[simp] theorem le_r_FAB_CC_ECE : 0x10000 ≤ r_FAB_CC_ECE := by unfold r_FAB_CC_ECE; omega
@[simp] theorem le_r_FAB_CC_LIMUS : 0x10000 ≤ r_FAB_CC_LIMUS := by unfold r_FAB_CC_LIMUS; omega
@[simp] theorem le_r_FAB_CC_WINWAIT : 0x10000 ≤ r_FAB_CC_WINWAIT := by unfold r_FAB_CC_WINWAIT; omega
@[simp] theorem le_r_FAB_CC_SEL : 0x10000 ≤ r_FAB_CC_SEL := by unfold r_FAB_CC_SEL; omega
@[simp] theorem le_r_FAB_CC_RATE : 0x10000 ≤ r_FAB_CC_RATE := by unfold r_FAB_CC_RATE; omega
@[simp] theorem le_r_KLN_CFG : 0x10000 ≤ r_KLN_CFG := by unfold r_KLN_CFG; omega
@[simp] theorem le_r_KLN_PAIR : 0x10000 ≤ r_KLN_PAIR := by unfold r_KLN_PAIR; omega
@[simp] theorem le_r_KLN_SHAPE : 0x10000 ≤ r_KLN_SHAPE := by unfold r_KLN_SHAPE; omega
@[simp] theorem le_r_KLN_TIMING : 0x10000 ≤ r_KLN_TIMING := by unfold r_KLN_TIMING; omega
@[simp] theorem le_r_KLN_ENUM : 0x10000 ≤ r_KLN_ENUM := by unfold r_KLN_ENUM; omega
@[simp] theorem le_r_KLN_CTL : 0x10000 ≤ r_KLN_CTL := by unfold r_KLN_CTL; omega
@[simp] theorem le_r_KLN_STAT : 0x10000 ≤ r_KLN_STAT := by unfold r_KLN_STAT; omega
@[simp] theorem le_r_KLN_TERM : 0x10000 ≤ r_KLN_TERM := by unfold r_KLN_TERM; omega
@[simp] theorem le_r_KLN_FMPKG : 0x10000 ≤ r_KLN_FMPKG := by unfold r_KLN_FMPKG; omega
@[simp] theorem le_r_KLN_EPOCH : 0x10000 ≤ r_KLN_EPOCH := by unfold r_KLN_EPOCH; omega
@[simp] theorem le_r_KLN_TOPO : 0x10000 ≤ r_KLN_TOPO := by unfold r_KLN_TOPO; omega
@[simp] theorem le_r_KLN_LNKUP : 0x10000 ≤ r_KLN_LNKUP := by unfold r_KLN_LNKUP; omega
@[simp] theorem le_r_KLN_RC_CNT : 0x10000 ≤ r_KLN_RC_CNT := by unfold r_KLN_RC_CNT; omega
@[simp] theorem le_r_KLN_RC_TIME : 0x10000 ≤ r_KLN_RC_TIME := by unfold r_KLN_RC_TIME; omega
@[simp] theorem le_r_KLN_FO_CNT : 0x10000 ≤ r_KLN_FO_CNT := by unfold r_KLN_FO_CNT; omega
@[simp] theorem le_r_KLN_SPM_SEL : 0x10000 ≤ r_KLN_SPM_SEL := by unfold r_KLN_SPM_SEL; omega
@[simp] theorem le_r_KLN_SPM_VAL : 0x10000 ≤ r_KLN_SPM_VAL := by unfold r_KLN_SPM_VAL; omega
@[simp] theorem le_r_KLN_TP_SEL : 0x10000 ≤ r_KLN_TP_SEL := by unfold r_KLN_TP_SEL; omega
@[simp] theorem le_r_KLN_TP_VAL : 0x10000 ≤ r_KLN_TP_VAL := by unfold r_KLN_TP_VAL; omega
@[simp] theorem le_r_TST_CTL : 0x10000 ≤ r_TST_CTL := by unfold r_TST_CTL; omega
@[simp] theorem le_r_TST_CFG : 0x10000 ≤ r_TST_CFG := by unfold r_TST_CFG; omega
@[simp] theorem le_r_TST_TW_CFG : 0x10000 ≤ r_TST_TW_CFG := by unfold r_TST_TW_CFG; omega
@[simp] theorem le_r_TST_THR : 0x10000 ≤ r_TST_THR := by unfold r_TST_THR; omega
@[simp] theorem le_r_TST_STAT : 0x10000 ≤ r_TST_STAT := by unfold r_TST_STAT; omega
@[simp] theorem le_r_TST_PATVER : 0x10000 ≤ r_TST_PATVER := by unfold r_TST_PATVER; omega
@[simp] theorem le_r_TST_RUNS : 0x10000 ≤ r_TST_RUNS := by unfold r_TST_RUNS; omega
@[simp] theorem le_r_TST_FAILS : 0x10000 ≤ r_TST_FAILS := by unfold r_TST_FAILS; omega
@[simp] theorem le_r_TST_ABORTS : 0x10000 ≤ r_TST_ABORTS := by unfold r_TST_ABORTS; omega
@[simp] theorem le_r_TST_CLS_CNT (i : Nat) : 0x10000 ≤ r_TST_CLS_CNT i := by unfold r_TST_CLS_CNT; omega
@[simp] theorem le_r_TST_ENG_SEL : 0x10000 ≤ r_TST_ENG_SEL := by unfold r_TST_ENG_SEL; omega
@[simp] theorem le_r_TST_ENG_VAL : 0x10000 ≤ r_TST_ENG_VAL := by unfold r_TST_ENG_VAL; omega
@[simp] theorem le_r_TST_INJ : 0x10000 ≤ r_TST_INJ := by unfold r_TST_INJ; omega
@[simp] theorem le_r_TST_SHD_CNT : 0x10000 ≤ r_TST_SHD_CNT := by unfold r_TST_SHD_CNT; omega
@[simp] theorem le_r_TST_SHD_IDX : 0x10000 ≤ r_TST_SHD_IDX := by unfold r_TST_SHD_IDX; omega
@[simp] theorem le_r_TST_SHD_DATA (i : Nat) : 0x10000 ≤ r_TST_SHD_DATA i := by unfold r_TST_SHD_DATA; omega
@[simp] theorem le_r_FLT_CFG : 0x10000 ≤ r_FLT_CFG := by unfold r_FLT_CFG; omega
@[simp] theorem le_r_FLT_STAT : 0x10000 ≤ r_FLT_STAT := by unfold r_FLT_STAT; omega
@[simp] theorem le_r_FLT_LINE_STAT : 0x10000 ≤ r_FLT_LINE_STAT := by unfold r_FLT_LINE_STAT; omega
@[simp] theorem le_r_FLT_LINE_ERR : 0x10000 ≤ r_FLT_LINE_ERR := by unfold r_FLT_LINE_ERR; omega
@[simp] theorem le_r_FLT_LINE_LIVE : 0x10000 ≤ r_FLT_LINE_LIVE := by unfold r_FLT_LINE_LIVE; omega
@[simp] theorem le_r_FLT_SRC_SEL : 0x10000 ≤ r_FLT_SRC_SEL := by unfold r_FLT_SRC_SEL; omega
@[simp] theorem le_r_FLT_SRC_CFG : 0x10000 ≤ r_FLT_SRC_CFG := by unfold r_FLT_SRC_CFG; omega
@[simp] theorem le_r_FLT_SRC_INFO : 0x10000 ≤ r_FLT_SRC_INFO := by unfold r_FLT_SRC_INFO; omega
@[simp] theorem le_r_FLT_SRC_STAT (i : Nat) : 0x10000 ≤ r_FLT_SRC_STAT i := by unfold r_FLT_SRC_STAT; omega
@[simp] theorem le_r_FLT_CAP_STAT : 0x10000 ≤ r_FLT_CAP_STAT := by unfold r_FLT_CAP_STAT; omega
@[simp] theorem le_r_FLT_CAP_ID : 0x10000 ≤ r_FLT_CAP_ID := by unfold r_FLT_CAP_ID; omega
@[simp] theorem le_r_FLT_CAP_ADDR_LO : 0x10000 ≤ r_FLT_CAP_ADDR_LO := by unfold r_FLT_CAP_ADDR_LO; omega
@[simp] theorem le_r_FLT_CAP_ADDR_HI : 0x10000 ≤ r_FLT_CAP_ADDR_HI := by unfold r_FLT_CAP_ADDR_HI; omega
@[simp] theorem le_r_FLT_CAP_TB_LO : 0x10000 ≤ r_FLT_CAP_TB_LO := by unfold r_FLT_CAP_TB_LO; omega
@[simp] theorem le_r_FLT_CAP_TB_HI : 0x10000 ≤ r_FLT_CAP_TB_HI := by unfold r_FLT_CAP_TB_HI; omega
@[simp] theorem le_r_FLT_CAP_SYND_LO : 0x10000 ≤ r_FLT_CAP_SYND_LO := by unfold r_FLT_CAP_SYND_LO; omega
@[simp] theorem le_r_FLT_CAP_SYND_HI : 0x10000 ≤ r_FLT_CAP_SYND_HI := by unfold r_FLT_CAP_SYND_HI; omega
@[simp] theorem le_r_FLT_CAP_OWNER : 0x10000 ≤ r_FLT_CAP_OWNER := by unfold r_FLT_CAP_OWNER; omega
@[simp] theorem le_r_FLT_INJ : 0x10000 ≤ r_FLT_INJ := by unfold r_FLT_INJ; omega
@[simp] theorem le_r_FLT_HALT_CFG : 0x10000 ≤ r_FLT_HALT_CFG := by unfold r_FLT_HALT_CFG; omega
@[simp] theorem le_r_FLT_HALT_STAT : 0x10000 ≤ r_FLT_HALT_STAT := by unfold r_FLT_HALT_STAT; omega
@[simp] theorem le_r_FLT_MGP_CTL : 0x10000 ≤ r_FLT_MGP_CTL := by unfold r_FLT_MGP_CTL; omega
@[simp] theorem le_r_FLT_MGP_MAC_LO : 0x10000 ≤ r_FLT_MGP_MAC_LO := by unfold r_FLT_MGP_MAC_LO; omega
@[simp] theorem le_r_FLT_MGP_MAC_HI : 0x10000 ≤ r_FLT_MGP_MAC_HI := by unfold r_FLT_MGP_MAC_HI; omega
@[simp] theorem le_r_FLT_MGP_VLAN : 0x10000 ≤ r_FLT_MGP_VLAN := by unfold r_FLT_MGP_VLAN; omega
@[simp] theorem le_r_FLT_MGP_IP4 : 0x10000 ≤ r_FLT_MGP_IP4 := by unfold r_FLT_MGP_IP4; omega
@[simp] theorem le_r_FLT_MGP_IP6 (i : Nat) : 0x10000 ≤ r_FLT_MGP_IP6 i := by unfold r_FLT_MGP_IP6; omega
@[simp] theorem le_r_FLT_MGP_DST4 : 0x10000 ≤ r_FLT_MGP_DST4 := by unfold r_FLT_MGP_DST4; omega
@[simp] theorem le_r_FLT_MGP_DST6 (i : Nat) : 0x10000 ≤ r_FLT_MGP_DST6 i := by unfold r_FLT_MGP_DST6; omega
@[simp] theorem le_r_FLT_MGP_DROP (i : Nat) : 0x10000 ≤ r_FLT_MGP_DROP i := by unfold r_FLT_MGP_DROP; omega
@[simp] theorem le_r_FLT_MGP_RXOK : 0x10000 ≤ r_FLT_MGP_RXOK := by unfold r_FLT_MGP_RXOK; omega
@[simp] theorem le_r_FLT_MGP_TXOK : 0x10000 ≤ r_FLT_MGP_TXOK := by unfold r_FLT_MGP_TXOK; omega
@[simp] theorem le_r_RST_CFG : 0x10000 ≤ r_RST_CFG := by unfold r_RST_CFG; omega
@[simp] theorem le_r_RST_PILOT : 0x10000 ≤ r_RST_PILOT := by unfold r_RST_PILOT; omega
@[simp] theorem le_r_RST_LAD_A : 0x10000 ≤ r_RST_LAD_A := by unfold r_RST_LAD_A; omega
@[simp] theorem le_r_RST_LAD_B : 0x10000 ≤ r_RST_LAD_B := by unfold r_RST_LAD_B; omega
@[simp] theorem le_r_RST_WATCH : 0x10000 ≤ r_RST_WATCH := by unfold r_RST_WATCH; omega
@[simp] theorem le_r_RST_RUN : 0x10000 ≤ r_RST_RUN := by unfold r_RST_RUN; omega
@[simp] theorem le_r_RST_SNUFF : 0x10000 ≤ r_RST_SNUFF := by unfold r_RST_SNUFF; omega
@[simp] theorem le_r_RST_SNUFF_STAT : 0x10000 ≤ r_RST_SNUFF_STAT := by unfold r_RST_SNUFF_STAT; omega
@[simp] theorem le_r_RST_DIE : 0x10000 ≤ r_RST_DIE := by unfold r_RST_DIE; omega
@[simp] theorem le_r_RST_DIE_STAT (i : Nat) : 0x10000 ≤ r_RST_DIE_STAT i := by unfold r_RST_DIE_STAT; omega
@[simp] theorem le_r_RST_RET_SEL : 0x10000 ≤ r_RST_RET_SEL := by unfold r_RST_RET_SEL; omega
@[simp] theorem le_r_RST_RET_VAL : 0x10000 ≤ r_RST_RET_VAL := by unfold r_RST_RET_VAL; omega
@[simp] theorem le_r_RST_EMB_OFF (i : Nat) : 0x10000 ≤ r_RST_EMB_OFF i := by unfold r_RST_EMB_OFF; omega
@[simp] theorem le_r_RST_EMB_SEL : 0x10000 ≤ r_RST_EMB_SEL := by unfold r_RST_EMB_SEL; omega
@[simp] theorem le_r_RST_EMB_INFO : 0x10000 ≤ r_RST_EMB_INFO := by unfold r_RST_EMB_INFO; omega
@[simp] theorem le_r_RST_EMB_DST_LO : 0x10000 ≤ r_RST_EMB_DST_LO := by unfold r_RST_EMB_DST_LO; omega
@[simp] theorem le_r_RST_EMB_DST_HI : 0x10000 ≤ r_RST_EMB_DST_HI := by unfold r_RST_EMB_DST_HI; omega
@[simp] theorem le_r_RST_EMB_CTL : 0x10000 ≤ r_RST_EMB_CTL := by unfold r_RST_EMB_CTL; omega
@[simp] theorem le_r_JNL_PAIR : 0x10000 ≤ r_JNL_PAIR := by unfold r_JNL_PAIR; omega
@[simp] theorem le_r_JNL_CTL : 0x10000 ≤ r_JNL_CTL := by unfold r_JNL_CTL; omega
@[simp] theorem le_r_JNL_STAT : 0x10000 ≤ r_JNL_STAT := by unfold r_JNL_STAT; omega
@[simp] theorem le_r_JNL_SPARE : 0x10000 ≤ r_JNL_SPARE := by unfold r_JNL_SPARE; omega
@[simp] theorem le_r_JNL_COMMITS : 0x10000 ≤ r_JNL_COMMITS := by unfold r_JNL_COMMITS; omega
@[simp] theorem le_r_JNL_RECOV : 0x10000 ≤ r_JNL_RECOV := by unfold r_JNL_RECOV; omega
@[simp] theorem le_r_JNL_DIVCNT : 0x10000 ≤ r_JNL_DIVCNT := by unfold r_JNL_DIVCNT; omega
@[simp] theorem le_r_JNL_DIV_LO : 0x10000 ≤ r_JNL_DIV_LO := by unfold r_JNL_DIV_LO; omega
@[simp] theorem le_r_JNL_DIV_HI : 0x10000 ≤ r_JNL_DIV_HI := by unfold r_JNL_DIV_HI; omega
@[simp] theorem le_r_JNL_LAT : 0x10000 ≤ r_JNL_LAT := by unfold r_JNL_LAT; omega
@[simp] theorem le_r_JNL_TWIN_TX : 0x10000 ≤ r_JNL_TWIN_TX := by unfold r_JNL_TWIN_TX; omega
@[simp] theorem le_r_JNL_TWIN_RTX : 0x10000 ≤ r_JNL_TWIN_RTX := by unfold r_JNL_TWIN_RTX; omega
@[simp] theorem le_r_TNT_LAN_STAT : 0x10000 ≤ r_TNT_LAN_STAT := by unfold r_TNT_LAN_STAT; omega
@[simp] theorem le_r_TNT_ZCNT : 0x10000 ≤ r_TNT_ZCNT := by unfold r_TNT_ZCNT; omega
@[simp] theorem le_r_TNT_SOB_SEL : 0x10000 ≤ r_TNT_SOB_SEL := by unfold r_TNT_SOB_SEL; omega
@[simp] theorem le_r_TNT_SOB_VAL : 0x10000 ≤ r_TNT_SOB_VAL := by unfold r_TNT_SOB_VAL; omega
@[simp] theorem le_r_TNT_SG_BIND (i : Nat) : 0x10000 ≤ r_TNT_SG_BIND i := by unfold r_TNT_SG_BIND; omega
@[simp] theorem le_r_TNT_SG_KEY (i : Nat) : 0x10000 ≤ r_TNT_SG_KEY i := by unfold r_TNT_SG_KEY; omega
@[simp] theorem le_r_TNT_SG_SOB (i : Nat) : 0x10000 ≤ r_TNT_SG_SOB i := by unfold r_TNT_SG_SOB; omega
@[simp] theorem le_r_MBX_STAT : 0x10000 ≤ r_MBX_STAT := by unfold r_MBX_STAT; omega
@[simp] theorem le_r_MBX_VIOL_ID : 0x10000 ≤ r_MBX_VIOL_ID := by unfold r_MBX_VIOL_ID; omega
@[simp] theorem le_r_MBX_BIND (i : Nat) : 0x10000 ≤ r_MBX_BIND i := by unfold r_MBX_BIND; omega
@[simp] theorem le_r_MBX_LOCK_LO : 0x10000 ≤ r_MBX_LOCK_LO := by unfold r_MBX_LOCK_LO; omega
@[simp] theorem le_r_MBX_LOCK_HI : 0x10000 ≤ r_MBX_LOCK_HI := by unfold r_MBX_LOCK_HI; omega
@[simp] theorem le_r_MBX_PAY (i j : Nat) : 0x10000 ≤ r_MBX_PAY i j := by unfold r_MBX_PAY; omega
@[simp] theorem le_r_MBX_DB_SET (i : Nat) : 0x10000 ≤ r_MBX_DB_SET i := by unfold r_MBX_DB_SET; omega
@[simp] theorem le_r_MBX_DB_PEND (i : Nat) : 0x10000 ≤ r_MBX_DB_PEND i := by unfold r_MBX_DB_PEND; omega
@[simp] theorem le_r_MBX_DB_MASK (i : Nat) : 0x10000 ≤ r_MBX_DB_MASK i := by unfold r_MBX_DB_MASK; omega
@[simp] theorem le_r_MBX_ACK (i : Nat) : 0x10000 ≤ r_MBX_ACK i := by unfold r_MBX_ACK; omega
@[simp] theorem le_r_MBX_CH_CFG (i : Nat) : 0x10000 ≤ r_MBX_CH_CFG i := by unfold r_MBX_CH_CFG; omega
@[simp] theorem le_r_MBX_CH_CNT (i : Nat) : 0x10000 ≤ r_MBX_CH_CNT i := by unfold r_MBX_CH_CNT; omega
@[simp] theorem le_r_PWR_CTL : 0x10000 ≤ r_PWR_CTL := by unfold r_PWR_CTL; omega
@[simp] theorem le_r_PWR_CFG : 0x10000 ≤ r_PWR_CFG := by unfold r_PWR_CFG; omega
@[simp] theorem le_r_PWR_STAT : 0x10000 ≤ r_PWR_STAT := by unfold r_PWR_STAT; omega
@[simp] theorem le_r_PWR_CAP : 0x10000 ≤ r_PWR_CAP := by unfold r_PWR_CAP; omega
@[simp] theorem le_r_PWR_IN : 0x10000 ≤ r_PWR_IN := by unfold r_PWR_IN; omega
@[simp] theorem le_r_PWR_PEER_TOL : 0x10000 ≤ r_PWR_PEER_TOL := by unfold r_PWR_PEER_TOL; omega
@[simp] theorem le_r_PWR_MINTOL : 0x10000 ≤ r_PWR_MINTOL := by unfold r_PWR_MINTOL; omega
@[simp] theorem le_r_PWR_MINSRC : 0x10000 ≤ r_PWR_MINSRC := by unfold r_PWR_MINSRC; omega
@[simp] theorem le_r_PWR_RAIL (i : Nat) : 0x10000 ≤ r_PWR_RAIL i := by unfold r_PWR_RAIL; omega
@[simp] theorem le_r_PWR_FN_LTR (i : Nat) : 0x10000 ≤ r_PWR_FN_LTR i := by unfold r_PWR_FN_LTR; omega
@[simp] theorem le_r_RST_BOOT_STAT : 0x10000 ≤ r_RST_BOOT_STAT := by unfold r_RST_BOOT_STAT; omega
@[simp] theorem le_r_RST_BOOT_DIE : 0x10000 ≤ r_RST_BOOT_DIE := by unfold r_RST_BOOT_DIE; omega

end Sys2Proof.Machine
end

