-- ==== Sys2Proof/Laws/KeptCells.lean ====
section
/-! SUPPORT. Laws/KeptCells.lean: what memories, agents, cells, endpoints, wheels and links leave alone. `kept` (Safety.lean) is the queue of waiting commands and the identity
registers; `f_kept` says that f leaves them as they were. A lemma about a command has the form outKept; some suppose that no identity
register is listed away from its fuse. -/

set_option linter.all false

namespace Sys2Proof.Machine

/-! ### Machine/Ops.lean -/

@[simp] theorem setCore_kept (s : State) (c : Nat) (x : Core) : kept (setCore s c x) = kept s := by
  unfold setCore; simp [*]; done
@[simp] theorem modCore_kept (s : State) (c : Nat) (f : Core → Core) : kept (modCore s c f) = kept s := by
  unfold modCore; simp [*]; done
@[simp] theorem beginStall_kept (s : State) (c : Nat) : kept (beginStall s c) = kept s := by
  unfold beginStall; simp [*]; done
@[simp] theorem endStall_kept (s : State) (c : Nat) : kept (endStall s c) = kept s := by
  (unfold endStall; simp [*]) <;> intros <;> (repeat' split) <;> (simp [*]; done)
@[simp] theorem setSag_kept (s : State) (n : Nat) (x : Sag) : kept (setSag s n x) = kept s := by
  unfold setSag; simp [*]; done
@[simp] theorem modSag_kept (s : State) (n : Nat) (f : Sag → Sag) : kept (modSag s n f) = kept s := by
  unfold modSag; simp [*]; done
@[simp] theorem setSgState_kept (s : State) (n x : Nat) : kept (setSgState s n x) = kept s := by
  unfold setSgState; simp [*]; done
@[simp] theorem modMem_kept (s : State) (f : MemSt → MemSt) : kept (modMem s f) = kept s := by
  unfold modMem; simp [*]; done
@[simp] theorem dramWrite_kept (s : State) (t : KeyTag) (word : Nat) (x : BitVec 512) : kept (dramWrite s t word x) = kept s := by
  unfold dramWrite; simp [*]; done
@[simp] theorem setClMem_kept (s : State) (d cl : Nat) (m : Memory) : kept (setClMem s d cl m) = kept s := by
  unfold setClMem; simp [*]; done
@[simp] theorem hostWrite_kept (s : State) (a : Nat) (bs : List Byte) : kept (hostWrite s a bs) = kept s := by
  unfold hostWrite; simp [*]; done
@[simp] theorem raise_kept (s : State) (e : Event) : kept (raise s e) = kept s := by
  unfold raise; simp [*]; done
@[simp] theorem raiseSrc_kept (s : State) (src : Nat) : kept (raiseSrc s src) = kept s := by
  unfold raiseSrc; simp [*]; done
@[simp] theorem emitSent_kept (s : State) (x : Sent) : kept (emitSent s x) = kept s := by
  unfold emitSent; simp [*]; done

/-! ### Machine/Sherd.lean -/

@[simp] theorem modFlt_kept (s : State) (f : FltSt → FltSt) : kept (modFlt s f) = kept s := by
  unfold modFlt; simp [*]; done
@[simp] theorem modTst_kept (s : State) (f : TstSt → TstSt) : kept (modTst s f) = kept s := by
  unfold modTst; simp [*]; done
@[simp] theorem modRst_kept (s : State) (f : RstSt → RstSt) : kept (modRst s f) = kept s := by
  unfold modRst; simp [*]; done
@[simp] theorem kmpFrame_kept (s : State) (ty seq : Nat) (ack : Bool) (body : List Byte) : kept (kmpFrame s ty seq ack body) = kept s := by
  unfold kmpFrame; simp [*]; done
@[simp] theorem kmpSend_kept (s : State) (ty : Nat) (body : List Byte) : kept (kmpSend s ty body) = kept s := by
  unfold kmpSend; simp [*]; done
@[simp] theorem kmpHold_kept (s : State) (ty : Nat) (body : List Byte) : kept (kmpHold s ty body) = kept s := by
  unfold kmpHold; simp [*]; done
@[simp] theorem disarmInj_kept (s : State) : kept (disarmInj s) = kept s := by
  unfold disarmInj; simp [*]; done
@[simp] theorem markInj_kept (old : State) (line : Nat) (s : State) : kept (markInj old line s) = kept s := by
  unfold markInj; simp [*]; done
@[simp] theorem injected_kept (srcs : List Nat) (core : Option (Nat × Nat)) (line : Nat) (found : Ecc) (check : Ecc → State → State) (s : State) (h_check : ∀ x0 x1, kept (check x0 x1) = kept x1) : kept (injected srcs core line found check s) = kept s := by
  unfold injected
  (repeat' split) <;> first | (simp [*]; done) | (simp (disch := first | (intros <;> (try dsimp only) <;> (repeat' split) <;> simp [*]) | fail) [*]; done)
@[simp] theorem sherd_kept (s : State) (x : SherdIn) : kept (sherd s x) = kept s := by
  unfold sherd; simp [*]; done

/-! ### Machine/Memory.lean -/

@[simp] theorem tbInsert_kept (s : State) (d : Nat) (e : TbEntry) : kept (tbInsert s d e) = kept s := by
  unfold tbInsert; simp [*]; done
@[simp] theorem leafAns_kept (s : State) (sg va : Nat) (n : Need) (p : W64) (level : Nat) : kept (leafAns s sg va n p level).1 = kept s := by
  unfold leafAns; simp [*]; done
@[simp] theorem walkAns_kept (s : State) (d sg va : Nat) (n : Need) (w : WalkEnd) : kept (walkAns s d sg va n w).1 = kept s := by
  (unfold walkAns; simp [*]) <;> intros <;> (repeat' split) <;> (simp [*]; done)
@[simp] theorem translate_kept (s : State) (d sg va : Nat) (n : Need) (hit : Bool) : kept (translate s d sg va n hit).1 = kept s := by
  unfold translate
  generalize (if hit then tbLook s d sg va else none) = o
  cases o with
  | some e => exact leafAns_kept _ _ _ _ _ _
  | none => exact (walkAns_kept _ _ _ _ _ _).trans (fadd_kept _ _ _ _ le_r_MMU_WCNT)
@[simp] theorem syncFpend_kept (s : State) : kept (syncFpend s) = kept s := by
  unfold syncFpend; simp [*]; done
@[simp] theorem faultRecord_kept (s : State) (d sg kind level mid src acct va : Nat) : kept (faultRecord s d sg kind level mid src acct va).1 = kept s := by
  (unfold faultRecord; simp [*]) <;> intros <;> (repeat' split) <;> (simp [*]; done)
@[simp] theorem modAcc_kept (s : State) (i : Nat) (f : Access → Access) : kept (modAcc s i f) = kept s := by
  unfold modAcc; simp [*]; done
@[simp] theorem setStage_kept (s : State) (i : Nat) (x : Stage) : kept (setStage s i x) = kept s := by
  unfold setStage; simp [*]; done
@[simp] theorem dropAcc_kept (s : State) (i : Nat) : kept (dropAcc s i) = kept s := by
  unfold dropAcc; simp [*]; done
@[simp] theorem newAcc_kept (s : State) (a : Access) : kept (newAcc s a) = kept s := by
  unfold newAcc; simp [*]; done
@[simp] theorem resolveFault_kept (s : State) (t : Nat) (again : Bool) : kept (resolveFault s t again) = kept s := by
  (unfold resolveFault; simp [*]) <;> intros <;> (repeat' split) <;> (simp [*]; done)
@[simp] theorem dramUncorrectable_kept (s : State) (word : Nat) (a : Option Access) : kept (dramUncorrectable s word a) = kept s := by
  unfold dramUncorrectable; simp [*]; done
@[simp] theorem afterRead_kept (s : State) (id : Nat) (a : Access) (p : Place) (ecc : Ecc) : kept (afterRead s id a p ecc) = kept s := by
  (unfold afterRead; simp [*]) <;> intros <;> (repeat' split) <;> (simp [*]; done)
@[simp] theorem patrolStep_kept (s : State) (stack pc : Nat) (ecc : Ecc) : kept (patrolStep s stack pc ecc) = kept s := by
  (unfold patrolStep; simp [*]) <;> intros <;> (repeat' split) <;> (simp [*]; done)
@[simp] theorem scrubLater_kept (s : State) (w : Nat) : kept (scrubLater s w) = kept s := by
  unfold scrubLater; simp [*]; done
@[simp] theorem slotAct_kept (s : State) (stack pc : Nat) (code : SlotCode) (ecc : Ecc) : kept (slotAct s stack pc code ecc).1 = kept s := by
  unfold slotAct
  (repeat' split) <;> first | (simp [*]; done) | (simp (disch := first | (intros <;> (try dsimp only) <;> (repeat' split) <;> simp [*]) | fail) [*]; done)
@[simp] theorem useSlot_kept (s : State) (stack pc : Nat) : kept (useSlot s stack pc) = kept s := by
  unfold useSlot; simp [*]; done
@[simp] theorem raiseMalformed_kept (s : State) (src sg : Nat) (addr : Nat) (bad : Bool) : kept (raiseMalformed s src sg addr bad) = kept s := by
  unfold raiseMalformed; simp [*]; done
@[simp] theorem writeHalf_kept (s : State) (adds : Bool) (stack pc : Nat) : kept (writeHalf s adds stack pc) = kept s := by
  (unfold writeHalf; simp [*]) <;> intros <;> (repeat' split) <;> (simp [*]; done)
@[simp] theorem execDramExactAddWrite_kept (stack pc : Nat) (s : State) {kk} (hk : kept s = kk) : outKept kk (execDramExactAddWrite stack pc s) := by
  subst hk
  unfold execDramExactAddWrite; simp [*]; done
@[simp] theorem execRmwWrite_kept (stack pc : Nat) (s : State) {kk} (hk : kept s = kk) : outKept kk (execRmwWrite stack pc s) := by
  subst hk
  unfold execRmwWrite; simp [*]; done

/-! ### Machine/Silent.lean -/

@[simp] theorem countTransient_kept (s : State) (k : TransKind) (unit : Nat) : kept (countTransient s k unit) = kept s := by
  unfold countTransient; simp [*]; done
@[simp] theorem execTransientWindow_kept (s : State) {kk} (hk : kept s = kk) : outKept kk (execTransientWindow s) := by
  subst hk
  unfold execTransientWindow; simp [*]; done
@[simp] theorem dramCheck_kept (stack pc : Nat) (code : SlotCode) (ecc : Ecc) (s : State) : kept (dramCheck stack pc code ecc s) = kept s := by
  unfold dramCheck
  try dsimp only
  (repeat' split) <;> (try (simp [*]; done))
  all_goals (repeat (rename @Eq (State × _) _ (_, _) => hq; have hz := congrArg (fun p => kept p.1) hq; clear hq))
  all_goals (repeat (rename _ = AgentRes.ok _ _ _ => hq; have hz := congrArg (keptRes (kept s)) hq; clear hq))
  all_goals (repeat (rename _ = AgentRes.fault _ _ => hq; have hz := congrArg (keptRes (kept s)) hq; clear hq))
  all_goals (repeat (rename _ = AgentRes.refused _ => hq; have hz := congrArg (keptRes (kept s)) hq; clear hq))
  all_goals (repeat (rename _ = @some State _ => hq; have hz := congrArg (keptOpt (kept s)) hq; clear hq))
  all_goals (repeat (rename _ = @some (State × Bool) (_, _) => hq; have hz := congrArg (keptOptB (kept s)) hq; clear hq))
  all_goals (repeat (rename _ = MsgRes.done _ => hq; have hz := congrArg (keptMsg (kept s)) hq; clear hq))
  all_goals (repeat (rename _ = MsgRes.hold _ _ => hq; have hz := congrArg (keptMsg (kept s)) hq; clear hq))
  all_goals simp_all
@[simp] theorem execDramSlot_kept (stack pc : Nat) (code : SlotCode) (ecc : Ecc) (s : State) {kk} (hk : kept s = kk) : outKept kk (execDramSlot stack pc code ecc s) := by
  subst hk
  (unfold execDramSlot; simp [*]) <;> intros <;> (repeat' split) <;> (simp [*]; done)
@[simp] theorem serveCluster_kept (s : State) (d cl b : Nat) (ecc : Ecc) : kept (serveCluster s d cl b ecc) = kept s := by
  (unfold serveCluster; simp [*]) <;> intros <;> (repeat' split) <;> (simp [*]; done)
@[simp] theorem execClusterMemoryServe_kept (d cl b : Nat) (ecc : Ecc) (s : State) {kk} (hk : kept s = kk) : outKept kk (execClusterMemoryServe d cl b ecc s) := by
  subst hk
  unfold execClusterMemoryServe; simp [*]; done

/-! ### Machine/Agent.lean -/

@[simp] theorem transAll_kept (x : Asker) (need : Need) (hit : Bool) (s : State) (l : List (Nat × Nat)) : kept (transAll x need hit s l).1 = kept s := by
  induction l generalizing s with
  | nil => rfl
  | cons p l ih =>
    obtain ⟨a, n⟩ := p
    unfold transAll
    generalize hx : translate _ _ _ _ _ _ = r
    have h : kept r.1 = kept s := by rw [← hx]; simp
    obtain ⟨t, r⟩ := r
    cases r
    · simpa using h
    · simpa using h
    · have h2 := ih t
      simp at h
      dsimp only
      split <;> simp_all
@[simp] theorem agentFault_kept (s : State) (x : Asker) (need : Need) (k l va : Nat) {kk} (hk : kept s = kk) : keptRes kk (agentFault s x need k l va) := by
  subst hk
  unfold agentFault; simp [*]; done
@[simp] theorem writePlaces_kept (s : State) (l : List (Nat × Nat)) (ps : List Place) (bs : List MByte) {kk} (hk : kept s = kk) : keptOpt kk (writePlaces s l ps bs) := by
  induction l generalizing s ps bs with
  | nil => simpa [writePlaces] using hk
  | cons p l ih =>
    obtain ⟨a, n⟩ := p
    cases ps with
    | nil => simpa [writePlaces] using hk
    | cons q ps =>
      unfold writePlaces
      dsimp only
      (repeat' split) <;> first | (apply ih; simpa using hk) | simp
@[simp] theorem addPlace_kept (s : State) (p : Place) (x : LongReg) {kk} (hk : kept s = kk) : keptOptB kk (addPlace s p x) := by
  subst hk
  (unfold addPlace; simp [*]) <;> intros <;> (repeat' split) <;> (simp [*]; done)
@[simp] theorem vaRead_kept (s : State) (x : Asker) (va n : Nat) (hit : Bool) {kk} (hk : kept s = kk) : keptRes kk (vaRead s x va n hit) := by
  subst hk
  unfold vaRead
  try dsimp only
  (repeat' split) <;> (try (simp [*]; done))
  all_goals (repeat (rename @Eq (State × _) _ (_, _) => hq; have hz := congrArg (fun p => kept p.1) hq; clear hq))
  all_goals (repeat (rename _ = AgentRes.ok _ _ _ => hq; have hz := congrArg (keptRes (kept s)) hq; clear hq))
  all_goals (repeat (rename _ = AgentRes.fault _ _ => hq; have hz := congrArg (keptRes (kept s)) hq; clear hq))
  all_goals (repeat (rename _ = AgentRes.refused _ => hq; have hz := congrArg (keptRes (kept s)) hq; clear hq))
  all_goals (repeat (rename _ = @some State _ => hq; have hz := congrArg (keptOpt (kept s)) hq; clear hq))
  all_goals (repeat (rename _ = @some (State × Bool) (_, _) => hq; have hz := congrArg (keptOptB (kept s)) hq; clear hq))
  all_goals (repeat (rename _ = MsgRes.done _ => hq; have hz := congrArg (keptMsg (kept s)) hq; clear hq))
  all_goals (repeat (rename _ = MsgRes.hold _ _ => hq; have hz := congrArg (keptMsg (kept s)) hq; clear hq))
  all_goals simp_all
@[simp] theorem vaWrite_kept (s : State) (x : Asker) (va : Nat) (bs : List MByte) (hit : Bool) {kk} (hk : kept s = kk) : keptRes kk (vaWrite s x va bs hit) := by
  subst hk
  unfold vaWrite
  try dsimp only
  (repeat' split) <;> (try (simp [*]; done))
  all_goals (repeat (rename @Eq (State × _) _ (_, _) => hq; have hz := congrArg (fun p => kept p.1) hq; clear hq))
  all_goals (repeat (rename _ = AgentRes.ok _ _ _ => hq; have hz := congrArg (keptRes (kept s)) hq; clear hq))
  all_goals (repeat (rename _ = AgentRes.fault _ _ => hq; have hz := congrArg (keptRes (kept s)) hq; clear hq))
  all_goals (repeat (rename _ = AgentRes.refused _ => hq; have hz := congrArg (keptRes (kept s)) hq; clear hq))
  all_goals (repeat (rename _ = @some State _ => hq; have hz := congrArg (keptOpt (kept s)) hq; clear hq))
  all_goals (repeat (rename _ = @some (State × Bool) (_, _) => hq; have hz := congrArg (keptOptB (kept s)) hq; clear hq))
  all_goals (repeat (rename _ = MsgRes.done _ => hq; have hz := congrArg (keptMsg (kept s)) hq; clear hq))
  all_goals (repeat (rename _ = MsgRes.hold _ _ => hq; have hz := congrArg (keptMsg (kept s)) hq; clear hq))
  all_goals simp_all
@[simp] theorem vaAdd_kept (s : State) (x : Asker) (va : Nat) (v : LongReg) (hit : Bool) {kk} (hk : kept s = kk) : keptRes kk (vaAdd s x va v hit) := by
  subst hk
  unfold vaAdd
  try dsimp only
  (repeat' split) <;> (try (simp [*]; done))
  all_goals (repeat (rename @Eq (State × _) _ (_, _) => hq; have hz := congrArg (fun p => kept p.1) hq; clear hq))
  all_goals (repeat (rename _ = AgentRes.ok _ _ _ => hq; have hz := congrArg (keptRes (kept s)) hq; clear hq))
  all_goals (repeat (rename _ = AgentRes.fault _ _ => hq; have hz := congrArg (keptRes (kept s)) hq; clear hq))
  all_goals (repeat (rename _ = AgentRes.refused _ => hq; have hz := congrArg (keptRes (kept s)) hq; clear hq))
  all_goals (repeat (rename _ = @some State _ => hq; have hz := congrArg (keptOpt (kept s)) hq; clear hq))
  all_goals (repeat (rename _ = @some (State × Bool) (_, _) => hq; have hz := congrArg (keptOptB (kept s)) hq; clear hq))
  all_goals (repeat (rename _ = MsgRes.done _ => hq; have hz := congrArg (keptMsg (kept s)) hq; clear hq))
  all_goals (repeat (rename _ = MsgRes.hold _ _ => hq; have hz := congrArg (keptMsg (kept s)) hq; clear hq))
  all_goals simp_all
@[simp] theorem agentRead_kept (s : State) (x : Asker) (c : Nat) (r : Region) (n : Nat) (hit : Bool) {kk} (hk : kept s = kk) : keptRes kk (agentRead s x c r n hit) := by
  subst hk
  unfold agentRead
  (repeat' split) <;> first | (simp [*]; done) | (simp (disch := first | (intros <;> (try dsimp only) <;> (repeat' split) <;> simp [*]) | fail) [*]; done)
@[simp] theorem pushExt_kept (s : State) (c : Nat) (thread : Nat) (issue : W64) (off : Nat) (bs : List MByte) : kept (pushExt s c thread issue off bs) = kept s := by
  unfold pushExt; simp [*]; done
@[simp] theorem agentWrite_kept (s : State) (x : Asker) (c thread : Nat) (issue : W64) (r : Region) (bs : List MByte) (hit : Bool) {kk} (hk : kept s = kk) : keptRes kk (agentWrite s x c thread issue r bs hit) := by
  subst hk
  unfold agentWrite
  (repeat' split) <;> first | (simp [*]; done) | (simp (disch := first | (intros <;> (try dsimp only) <;> (repeat' split) <;> simp [*]) | fail) [*]; done)

/-! ### Machine/Panel.lean -/

@[simp] theorem modFab_kept (s : State) (f : FabSt → FabSt) : kept (modFab s f) = kept s := by
  unfold modFab; simp [*]; done
@[simp] theorem setNi_kept (s : State) (d : Nat) (n : Ni) : kept (setNi s d n) = kept s := by
  unfold setNi; simp [*]; done
@[simp] theorem modNi_kept (s : State) (d : Nat) (f : Ni → Ni) : kept (modNi s d f) = kept s := by
  unfold modNi; simp [*]; done
@[simp] theorem modWheel_kept (s : State) (w : Nat) (f : Wheel → Wheel) : kept (modWheel s w f) = kept s := by
  unfold modWheel; simp [*]; done
@[simp] theorem modLink_kept (s : State) (k : Nat) (f : LinkSt → LinkSt) : kept (modLink s k f) = kept s := by
  unfold modLink; simp [*]; done
@[simp] theorem modPanel_kept (s : State) (a b : Nat) (f : PanelLink → PanelLink) : kept (modPanel s a b f) = kept s := by
  unfold modPanel; simp [*]; done
@[simp] theorem takeIn_kept (s : State) (node port pos : Nat) (c : LCell) : kept (takeIn s node port pos c) = kept s := by
  unfold takeIn; simp [*]; done
@[simp] theorem noteWin_kept (s : State) (node out : Nat) (r : Ready) : kept (noteWin s node out r) = kept s := by
  unfold noteWin; simp [*]; done
@[simp] theorem sendPanel_kept (s : State) (a b : Nat) (c : LCell) (vc : Nat) : kept (sendPanel s a b c vc) = kept s := by
  unfold sendPanel; simp [*]; done

/-! ### Machine/Topo.lean -/

@[simp] theorem modKln_kept (s : State) (f : KilnSt → KilnSt) : kept (modKln s f) = kept s := by
  unfold modKln; simp [*]; done
@[simp] theorem modRole_kept (s : State) (f : RoleSt → RoleSt) : kept (modRole s f) = kept s := by
  unfold modRole; simp [*]; done
@[simp] theorem sendMgt_kept (s : State) (ep ty dpkg dep : Nat) (words : List Nat) : kept (sendMgt s ep ty dpkg dep words) = kept s := by
  unfold sendMgt; simp [*]; done
@[simp] theorem sendLocal_kept (s : State) (ep ty dpkg dep w l : Nat) (words : List Nat) : kept (sendLocal s ep ty dpkg dep w l words) = kept s := by
  unfold sendLocal; simp [*]; done
@[simp] theorem modWick_kept (s : State) (ep : Nat) (f : Wick → Wick) : kept (modWick s ep f) = kept s := by
  unfold modWick; simp [*]; done

/-! ### Machine/Ni.lean -/

@[simp] theorem gatedResult_kept (s : State) (c : Nat) (issue : W64) (r : GResult) : kept (gatedResult s c issue r) = kept s := by
  unfold gatedResult; simp [*]; done
@[simp] theorem postedResult_kept (s : State) (c : Nat) (issue : W64) (ok : Bool) : kept (postedResult s c issue ok) = kept s := by
  unfold postedResult; simp [*]; done
@[simp] theorem finishReq_kept (s : State) (r : NiReq) (status len : Nat) (value : W64) : kept (finishReq s r status len value) = kept s := by
  unfold finishReq; simp [*]; done
@[simp] theorem finishPart_kept (s : State) (d : Nat) (r : NiReq) (status len : Nat) (value : W64) : kept (finishPart s d r status len value) = kept s := by
  (unfold finishPart; simp [*]) <;> intros <;> (repeat' split) <;> (simp [*]; done)
@[simp] theorem niQueue_kept (s : State) (d : Nat) (cs : List Cell) : kept (niQueue s d cs) = kept s := by
  unfold niQueue; simp [*]; done
@[simp] theorem niSendPart_kept (s : State) (d slice dpkg dep : Nat) (r : NiReq) (p : Nat × Nat × Bool) : kept (niSendPart s d slice dpkg dep r p) = kept s := by
  unfold niSendPart; simp [*]; done
@[simp] theorem niSend_kept (s : State) (d slice dpkg dep : Nat) (r : NiReq) : kept (niSend s d slice dpkg dep r) = kept s := by
  unfold niSend; simp [*]; done
@[simp] theorem niRetry_kept (s : State) (d : Nat) : kept (niRetry s d) = kept s := by
  unfold niRetry
  dsimp only
  (repeat' split) <;> (simp (disch := first | (intros <;> (try dsimp only) <;> (repeat' split) <;> simp [*]) | fail) [*]; done)
@[simp] theorem niIssue_kept (s : State) (d : Nat) (r : NiReq) : kept (niIssue s d r) = kept s := by
  (unfold niIssue; simp [*]) <;> intros <;> (repeat' split) <;> (simp [*]; done)
@[simp] theorem cellLoss_kept (s : State) (src : Nat) (x : LCell) : kept (cellLoss s src x) = kept s := by
  unfold cellLoss; simp [*]; done
@[simp] theorem niCheck_kept (d : Nat) (x : LCell) (col : State → Cell → State) (found : Ecc) (s : State) (h_col : ∀ x0 x1, kept (col x0 x1) = kept x0) : kept (niCheck d x col found s) = kept s := by
  (unfold niCheck; simp [*]) <;> intros <;> (repeat' split) <;> (simp [*]; done)
@[simp] theorem niCell_kept (s : State) (d : Nat) (x : LCell) (col : State → Cell → State) (h_col : ∀ x0 x1, kept (col x0 x1) = kept x0) : kept (niCell s d x col) = kept s := by
  unfold niCell; simp [*]; done

/-! ### Machine/Sync.lean -/

@[simp] theorem setSync_kept (s : State) (d : Nat) (x : SyncDie) : kept (setSync s d x) = kept s := by
  unfold setSync; simp [*]; done
@[simp] theorem modSync_kept (s : State) (d : Nat) (f : SyncDie → SyncDie) : kept (modSync s d f) = kept s := by
  unfold modSync; simp [*]; done
@[simp] theorem answerMsg_kept (s : State) (d : Nat) (m : Msg) (ty : Nat) (ws : List W64) (data : List Byte) : kept (answerMsg s d m ty ws data) = kept s := by
  unfold answerMsg; simp [*]; done
@[simp] theorem syncAnswer_kept (s : State) (d : Nat) (o : SyncOp) (status : Nat) (value : W64) : kept (syncAnswer s d o status value) = kept s := by
  (unfold syncAnswer; simp [*]) <;> intros <;> (repeat' split) <;> (simp [*]; done)
@[simp] theorem wakeWaits_kept (s : State) (d i : Nat) : kept (wakeWaits s d i) = kept s := by
  unfold wakeWaits; simp [*]; done
@[simp] theorem syncTake_kept (s : State) (d : Nat) (o : SyncOp) (f : State → State) (h_f : ∀ x0, kept (f x0) = kept x0) : kept (syncTake s d o f) = kept s := by
  unfold syncTake; simp [*]; done
@[simp] theorem execSigAdd_kept (d i : Nat) (s : State) {kk} (hk : kept s = kk) : outKept kk (execSigAdd d i s) := by
  subst hk
  (unfold execSigAdd; simp [*]) <;> intros <;> (repeat' split) <;> (simp [*]; done)
@[simp] theorem execSigReset_kept (d i : Nat) (s : State) {kk} (hk : kept s = kk) : outKept kk (execSigReset d i s) := by
  subst hk
  (unfold execSigReset; simp [*]) <;> intros <;> (repeat' split) <;> (simp [*]; done)
@[simp] theorem execSigWait_kept (d i : Nat) (s : State) {kk} (hk : kept s = kk) : outKept kk (execSigWait d i s) := by
  subst hk
  (unfold execSigWait; simp [*]) <;> intros <;> (repeat' split) <;> (simp [*]; done)
@[simp] theorem execSigPoll_kept (d i : Nat) (s : State) {kk} (hk : kept s = kk) : outKept kk (execSigPoll d i s) := by
  subst hk
  unfold execSigPoll
  (repeat' split) <;> first | (simp [*]; done) | (simp (disch := first | (intros <;> (try dsimp only) <;> (repeat' split) <;> simp [*]) | fail) [*]; done)
@[simp] theorem syncIssue_kept (s : State) (d : Nat) (r : NiReq) : kept (syncIssue s d r) = kept s := by
  (unfold syncIssue; simp [*]) <;> intros <;> (repeat' split) <;> (simp [*]; done)
@[simp] theorem releaseSignals_kept (s : State) (c : Nat) : kept (releaseSignals s c) = kept s := by
  unfold releaseSignals; simp [*]; done
@[simp] theorem syncEmit_kept (s : State) (r : NiReq) : kept (syncEmit s r) = kept s := by
  (unfold syncEmit; simp [*]) <;> intros <;> (repeat' split) <;> (simp [*]; done)

/-! ### Machine/Coll.lean -/

@[simp] theorem modGroup_kept (s : State) (g : Nat) (f : Group → Group) : kept (modGroup s g f) = kept s := by
  unfold modGroup; simp [*]; done
@[simp] theorem modNode_kept (s : State) (g n : Nat) (f : ColNode → ColNode) : kept (modNode s g n f) = kept s := by
  unfold modNode; simp [*]; done
@[simp] theorem colUp_kept (s : State) (gn node : Nat) (c : Cell) : kept (colUp s gn node c) = kept s := by
  unfold colUp; simp [*]; done
@[simp] theorem colDown_kept (s : State) (node k : Nat) (c : Cell) : kept (colDown s node k c) = kept s := by
  unfold colDown; simp [*]; done
@[simp] theorem colValue_kept (send : State → Cell → State) (s : State) (gn node idx : Nat) (v : BitVec 512 × Option (BitVec 512)) (h_send : ∀ x0 x1, kept (send x0 x1) = kept x0) : kept (colValue send s gn node idx v) = kept s := by
  (unfold colValue; simp [*]) <;> intros <;> (repeat' split) <;> (simp [*]; done)
@[simp] theorem writeMember_kept (s : State) (gn d : Nat) (o : CollOp) (off : Nat) (bs : List Byte) : kept (writeMember s gn d o off bs) = kept s := by
  unfold writeMember
  try dsimp only
  (repeat' split) <;> (try (simp [*]; done))
  all_goals (repeat (rename @Eq (State × _) _ (_, _) => hq; have hz := congrArg (fun p => kept p.1) hq; clear hq))
  all_goals (repeat (rename _ = AgentRes.ok _ _ _ => hq; have hz := congrArg (keptRes (kept s)) hq; clear hq))
  all_goals (repeat (rename _ = AgentRes.fault _ _ => hq; have hz := congrArg (keptRes (kept s)) hq; clear hq))
  all_goals (repeat (rename _ = AgentRes.refused _ => hq; have hz := congrArg (keptRes (kept s)) hq; clear hq))
  all_goals (repeat (rename _ = @some State _ => hq; have hz := congrArg (keptOpt (kept s)) hq; clear hq))
  all_goals (repeat (rename _ = @some (State × Bool) (_, _) => hq; have hz := congrArg (keptOptB (kept s)) hq; clear hq))
  all_goals (repeat (rename _ = MsgRes.done _ => hq; have hz := congrArg (keptMsg (kept s)) hq; clear hq))
  all_goals (repeat (rename _ = MsgRes.hold _ _ => hq; have hz := congrArg (keptMsg (kept s)) hq; clear hq))
  all_goals simp_all
@[simp] theorem writeIndex_kept (s : State) (gn d kind count i : Nat) (v : BitVec 512 × Option (BitVec 512)) : kept (writeIndex s gn d kind count i v) = kept s := by
  unfold writeIndex
  dsimp only
  (repeat' split) <;> (simp (disch := first | (intros <;> (try dsimp only) <;> (repeat' split) <;> simp [*]) | fail) [*]; done)
@[simp] theorem colNow_kept (s : State) (gn node k : Nat) (c : Cell) : kept (colNow s gn node k c) = kept s := by
  (unfold colNow; simp [*]) <;> intros <;> (repeat' split) <;> (simp [*]; done)
@[simp] theorem colArrive_kept (s : State) (node k : Nat) (c : Cell) : kept (colArrive s node k c) = kept s := by
  unfold colArrive; simp [*]; done
@[simp] theorem nodeFinish_kept (s : State) (gn node : Nat) : kept (nodeFinish s gn node) = kept s := by
  unfold nodeFinish; simp [*]; done
@[simp] theorem collEmit_kept (s : State) (r : NiReq) : kept (collEmit s r) = kept s := by
  (unfold collEmit; simp [*]) <;> intros <;> (repeat' split) <;> (simp [*]; done)
@[simp] theorem sendCloses_kept (s : State) (d gn ph : Nat) (r : NiReq) : kept (sendCloses s d gn ph r) = kept s := by
  unfold sendCloses; simp [*]; done
@[simp] theorem dieStart_kept (s : State) (gn d : Nat) : kept (dieStart s gn d) = kept s := by
  (unfold dieStart; simp [*]) <;> intros <;> (repeat' split) <;> (simp [*]; done)
@[simp] theorem execColStartMerge_kept (node gn : Nat) (s : State) {kk} (hk : kept s = kk) : outKept kk (execColStartMerge node gn s) := by
  subst hk
  (unfold execColStartMerge; simp [*]) <;> intros <;> (repeat' split) <;> (simp [*]; done)
@[simp] theorem sendDown_kept (s : State) (gn node kind count i : Nat) (v : BitVec 512 × Option (BitVec 512)) : kept (sendDown s gn node kind count i v) = kept s := by
  unfold sendDown; simp [*]; done
@[simp] theorem execColDataReduce_kept (node gn i : Nat) (s : State) {kk} (hk : kept s = kk) : outKept kk (execColDataReduce node gn i s) := by
  subst hk
  (unfold execColDataReduce; simp [*]) <;> intros <;> (repeat' split) <;> (simp [*]; done)
@[simp] theorem sendAlltoall_kept (s : State) (gn d : Nat) (o : CollOp) : kept (sendAlltoall s gn d o) = kept s := by
  unfold sendAlltoall
  dsimp only
  (repeat' split) <;> (simp (disch := first | (intros <;> (try dsimp only) <;> (repeat' split) <;> simp [*]) | fail) [*]; done)
@[simp] theorem dieGo_kept (s : State) (gn d : Nat) : kept (dieGo s gn d) = kept s := by
  (unfold dieGo; simp [*]) <;> intros <;> (repeat' split) <;> (simp [*]; done)
@[simp] theorem execColGo_kept (node gn : Nat) (s : State) {kk} (hk : kept s = kk) : outKept kk (execColGo node gn s) := by
  subst hk
  (unfold execColGo; simp [*]) <;> intros <;> (repeat' split) <;> (simp [*]; done)
@[simp] theorem execColDone_kept (node gn : Nat) (s : State) {kk} (hk : kept s = kk) : outKept kk (execColDone node gn s) := by
  subst hk
  (unfold execColDone; simp [*]) <;> intros <;> (repeat' split) <;> (simp [*]; done)

/-! ### Machine/Message.lean -/

@[simp] theorem atomRegion_kept (s : State) (x : Asker) (r : Region) (kind : Nat) (v cmp : W64) (hit : Bool) {kk} (hk : kept s = kk) : keptRes kk (atomRegion s x r kind v cmp hit) := by
  subst hk
  unfold atomRegion
  try dsimp only
  (repeat' split) <;> (try (simp [*]; done))
  all_goals (repeat (rename @Eq (State × _) _ (_, _) => hq; have hz := congrArg (fun p => kept p.1) hq; clear hq))
  all_goals (repeat (rename _ = AgentRes.ok _ _ _ => hq; have hz := congrArg (keptRes (kept s)) hq; clear hq))
  all_goals (repeat (rename _ = AgentRes.fault _ _ => hq; have hz := congrArg (keptRes (kept s)) hq; clear hq))
  all_goals (repeat (rename _ = AgentRes.refused _ => hq; have hz := congrArg (keptRes (kept s)) hq; clear hq))
  all_goals (repeat (rename _ = @some State _ => hq; have hz := congrArg (keptOpt (kept s)) hq; clear hq))
  all_goals (repeat (rename _ = @some (State × Bool) (_, _) => hq; have hz := congrArg (keptOptB (kept s)) hq; clear hq))
  all_goals (repeat (rename _ = MsgRes.done _ => hq; have hz := congrArg (keptMsg (kept s)) hq; clear hq))
  all_goals (repeat (rename _ = MsgRes.hold _ _ => hq; have hz := congrArg (keptMsg (kept s)) hq; clear hq))
  all_goals simp_all
@[simp] theorem xaddRegion_kept (s : State) (x : Asker) (r : Region) (v : LongReg) (bad0 : Bool) (hit : Bool) {kk} (hk : kept s = kk) : keptRes kk (xaddRegion s x r v bad0 hit) := by
  subst hk
  unfold xaddRegion
  try dsimp only
  (repeat' split) <;> (try (simp [*]; done))
  all_goals (repeat (rename @Eq (State × _) _ (_, _) => hq; have hz := congrArg (fun p => kept p.1) hq; clear hq))
  all_goals (repeat (rename _ = AgentRes.ok _ _ _ => hq; have hz := congrArg (keptRes (kept s)) hq; clear hq))
  all_goals (repeat (rename _ = AgentRes.fault _ _ => hq; have hz := congrArg (keptRes (kept s)) hq; clear hq))
  all_goals (repeat (rename _ = AgentRes.refused _ => hq; have hz := congrArg (keptRes (kept s)) hq; clear hq))
  all_goals (repeat (rename _ = @some State _ => hq; have hz := congrArg (keptOpt (kept s)) hq; clear hq))
  all_goals (repeat (rename _ = @some (State × Bool) (_, _) => hq; have hz := congrArg (keptOptB (kept s)) hq; clear hq))
  all_goals (repeat (rename _ = MsgRes.done _ => hq; have hz := congrArg (keptMsg (kept s)) hq; clear hq))
  all_goals (repeat (rename _ = MsgRes.hold _ _ => hq; have hz := congrArg (keptMsg (kept s)) hq; clear hq))
  all_goals simp_all
@[simp] theorem answer_kept (s : State) (d : Nat) (m : Msg) (status len : Nat) : kept (answer s d m status len) = kept s := by
  (unfold answer; simp [*]) <;> intros <;> (repeat' split) <;> (simp [*]; done)
@[simp] theorem agentDone_kept (d : Nat) (m : Msg) (r : AgentRes) (f : State → List Byte → State) {kk} (h : keptRes kk r) (hf : ∀ x y, kept (f x y) = kept x) : keptMsg kk (agentDone d m r f) := by
  unfold agentDone; cases r <;> simp_all
@[simp] theorem performWrite_kept (s : State) (d sg : Nat) (m : Msg) (hit : Bool) {kk} (hk : kept s = kk) : keptMsg kk (performWrite s d sg m hit) := by
  subst hk
  (unfold performWrite; simp [*]) <;> intros <;> (repeat' split) <;> (simp [*]; done)
@[simp] theorem performRead_kept (s : State) (d sg : Nat) (m : Msg) (hit : Bool) {kk} (hk : kept s = kk) : keptMsg kk (performRead s d sg m hit) := by
  subst hk
  (unfold performRead; simp [*]) <;> intros <;> (repeat' split) <;> (simp [*]; done)
@[simp] theorem performAtom_kept (s : State) (d sg : Nat) (m : Msg) (hit : Bool) {kk} (hk : kept s = kk) : keptMsg kk (performAtom s d sg m hit) := by
  subst hk
  unfold performAtom
  try dsimp only
  (repeat' split) <;> (try (simp [*]; done))
  all_goals (repeat (rename @Eq (State × _) _ (_, _) => hq; have hz := congrArg (fun p => kept p.1) hq; clear hq))
  all_goals (repeat (rename _ = AgentRes.ok _ _ _ => hq; have hz := congrArg (keptRes (kept s)) hq; clear hq))
  all_goals (repeat (rename _ = AgentRes.fault _ _ => hq; have hz := congrArg (keptRes (kept s)) hq; clear hq))
  all_goals (repeat (rename _ = AgentRes.refused _ => hq; have hz := congrArg (keptRes (kept s)) hq; clear hq))
  all_goals (repeat (rename _ = @some State _ => hq; have hz := congrArg (keptOpt (kept s)) hq; clear hq))
  all_goals (repeat (rename _ = @some (State × Bool) (_, _) => hq; have hz := congrArg (keptOptB (kept s)) hq; clear hq))
  all_goals (repeat (rename _ = MsgRes.done _ => hq; have hz := congrArg (keptMsg (kept s)) hq; clear hq))
  all_goals (repeat (rename _ = MsgRes.hold _ _ => hq; have hz := congrArg (keptMsg (kept s)) hq; clear hq))
  all_goals simp_all
@[simp] theorem recvDeliver_kept (s : State) (r : NiReq) (a : Arrived) : kept (recvDeliver s r a) = kept s := by
  unfold recvDeliver
  try dsimp only
  (repeat' split) <;> (try (simp [*]; done))
  all_goals (repeat (rename @Eq (State × _) _ (_, _) => hq; have hz := congrArg (fun p => kept p.1) hq; clear hq))
  all_goals (repeat (rename _ = AgentRes.ok _ _ _ => hq; have hz := congrArg (keptRes (kept s)) hq; clear hq))
  all_goals (repeat (rename _ = AgentRes.fault _ _ => hq; have hz := congrArg (keptRes (kept s)) hq; clear hq))
  all_goals (repeat (rename _ = AgentRes.refused _ => hq; have hz := congrArg (keptRes (kept s)) hq; clear hq))
  all_goals (repeat (rename _ = @some State _ => hq; have hz := congrArg (keptOpt (kept s)) hq; clear hq))
  all_goals (repeat (rename _ = @some (State × Bool) (_, _) => hq; have hz := congrArg (keptOptB (kept s)) hq; clear hq))
  all_goals (repeat (rename _ = MsgRes.done _ => hq; have hz := congrArg (keptMsg (kept s)) hq; clear hq))
  all_goals (repeat (rename _ = MsgRes.hold _ _ => hq; have hz := congrArg (keptMsg (kept s)) hq; clear hq))
  all_goals simp_all
@[simp] theorem recvEmit_kept (s : State) (r : NiReq) : kept (recvEmit s r) = kept s := by
  (unfold recvEmit; simp [*]) <;> intros <;> (repeat' split) <;> (simp [*]; done)
@[simp] theorem performMsg_kept (s : State) (d sg : Nat) (m : Msg) : kept (performMsg s d sg m) = kept s := by
  (unfold performMsg; simp [*]) <;> intros <;> (repeat' split) <;> (simp [*]; done)
@[simp] theorem execOrderedAtomicPerform_kept (d sg : Nat) (hit : Bool) (s : State) {kk} (hk : kept s = kk) : outKept kk (execOrderedAtomicPerform d sg hit s) := by
  subst hk
  unfold execOrderedAtomicPerform
  try dsimp only
  (repeat' split) <;> (try (simp [*]; done))
  all_goals (repeat (rename @Eq (State × _) _ (_, _) => hq; have hz := congrArg (fun p => kept p.1) hq; clear hq))
  all_goals (repeat (rename _ = AgentRes.ok _ _ _ => hq; have hz := congrArg (keptRes (kept s)) hq; clear hq))
  all_goals (repeat (rename _ = AgentRes.fault _ _ => hq; have hz := congrArg (keptRes (kept s)) hq; clear hq))
  all_goals (repeat (rename _ = AgentRes.refused _ => hq; have hz := congrArg (keptRes (kept s)) hq; clear hq))
  all_goals (repeat (rename _ = @some State _ => hq; have hz := congrArg (keptOpt (kept s)) hq; clear hq))
  all_goals (repeat (rename _ = @some (State × Bool) (_, _) => hq; have hz := congrArg (keptOptB (kept s)) hq; clear hq))
  all_goals (repeat (rename _ = MsgRes.done _ => hq; have hz := congrArg (keptMsg (kept s)) hq; clear hq))
  all_goals (repeat (rename _ = MsgRes.hold _ _ => hq; have hz := congrArg (keptMsg (kept s)) hq; clear hq))
  all_goals simp_all
@[simp] theorem execSigClose_kept (d : Nat) (s : State) {kk} (hk : kept s = kk) : outKept kk (execSigClose d s) := by
  subst hk
  (unfold execSigClose; simp [*]) <;> intros <;> (repeat' split) <;> (simp [*]; done)
@[simp] theorem performSig_kept (s : State) (d sg : Nat) (m : Msg) : kept (performSig s d sg m) = kept s := by
  unfold performSig; simp [*]; done
@[simp] theorem forwardMsg_kept (s : State) (d t : Nat) (m : Msg) : kept (forwardMsg s d t m) = kept s := by
  unfold forwardMsg; simp [*]; done
@[simp] theorem fencedMsg_kept (s : State) (d : Nat) (m : Msg) : kept (fencedMsg s d m) = kept s := by
  (unfold fencedMsg; simp [*]) <;> intros <;> (repeat' split) <;> (simp [*]; done)
@[simp] theorem performWhole_kept (s : State) (d : Nat) (m : Msg) (hit : Bool) {kk} (hk : kept s = kk) : keptMsg kk (performWhole s d m hit) := by
  subst hk
  (unfold performWhole; simp [*]) <;> intros <;> (repeat' split) <;> (simp [*]; done)
@[simp] theorem execMessageReassembled_kept (d i : Nat) (hit : Bool) (s : State) {kk} (hk : kept s = kk) : outKept kk (execMessageReassembled d i hit s) := by
  subst hk
  unfold execMessageReassembled
  try dsimp only
  (repeat' split) <;> (try (simp [*]; done))
  all_goals (repeat (rename @Eq (State × _) _ (_, _) => hq; have hz := congrArg (fun p => kept p.1) hq; clear hq))
  all_goals (repeat (rename _ = AgentRes.ok _ _ _ => hq; have hz := congrArg (keptRes (kept s)) hq; clear hq))
  all_goals (repeat (rename _ = AgentRes.fault _ _ => hq; have hz := congrArg (keptRes (kept s)) hq; clear hq))
  all_goals (repeat (rename _ = AgentRes.refused _ => hq; have hz := congrArg (keptRes (kept s)) hq; clear hq))
  all_goals (repeat (rename _ = @some State _ => hq; have hz := congrArg (keptOpt (kept s)) hq; clear hq))
  all_goals (repeat (rename _ = @some (State × Bool) (_, _) => hq; have hz := congrArg (keptOptB (kept s)) hq; clear hq))
  all_goals (repeat (rename _ = MsgRes.done _ => hq; have hz := congrArg (keptMsg (kept s)) hq; clear hq))
  all_goals (repeat (rename _ = MsgRes.hold _ _ => hq; have hz := congrArg (keptMsg (kept s)) hq; clear hq))
  all_goals simp_all
@[simp] theorem setRate_kept (s : State) (d pkg : Nat) (r : RateSt) : kept (setRate s d pkg r) = kept s := by
  unfold setRate; simp [*]; done
@[simp] theorem takeResponse_kept (s : State) (d q : Nat) (o : NiOut) (m : Msg) : kept (takeResponse s d q o m) = kept s := by
  unfold takeResponse
  try dsimp only
  (repeat' split) <;> (try (simp [*]; done))
  all_goals (repeat (rename @Eq (State × _) _ (_, _) => hq; have hz := congrArg (fun p => kept p.1) hq; clear hq))
  all_goals (repeat (rename _ = AgentRes.ok _ _ _ => hq; have hz := congrArg (keptRes (kept s)) hq; clear hq))
  all_goals (repeat (rename _ = AgentRes.fault _ _ => hq; have hz := congrArg (keptRes (kept s)) hq; clear hq))
  all_goals (repeat (rename _ = AgentRes.refused _ => hq; have hz := congrArg (keptRes (kept s)) hq; clear hq))
  all_goals (repeat (rename _ = @some State _ => hq; have hz := congrArg (keptOpt (kept s)) hq; clear hq))
  all_goals (repeat (rename _ = @some (State × Bool) (_, _) => hq; have hz := congrArg (keptOptB (kept s)) hq; clear hq))
  all_goals (repeat (rename _ = MsgRes.done _ => hq; have hz := congrArg (keptMsg (kept s)) hq; clear hq))
  all_goals (repeat (rename _ = MsgRes.hold _ _ => hq; have hz := congrArg (keptMsg (kept s)) hq; clear hq))
  all_goals simp_all
@[simp] theorem execResponseMatch_kept (d i : Nat) (s : State) {kk} (hk : kept s = kk) : outKept kk (execResponseMatch d i s) := by
  subst hk
  (unfold execResponseMatch; simp [*]) <;> intros <;> (repeat' split) <;> (simp [*]; done)

/-! ### Machine/Wheel.lean -/

@[simp] theorem syncOcc_kept (s : State) (w l v : Nat) : kept (syncOcc s w l v) = kept s := by
  unfold syncOcc; simp [*]; done
@[simp] theorem wheelTake_kept (s : State) (w port pos : Nat) (c : LCell) : kept (wheelTake s w port pos c) = kept s := by
  unfold wheelTake; simp [*]; done
@[simp] theorem wheelDropHdr_kept (s : State) (w port : Nat) (x : LCell) : kept (wheelDropHdr s w port x) = kept s := by
  unfold wheelDropHdr; simp [*]; done
@[simp] theorem execWheelRoute_kept (w port pos : Nat) (s : State) {kk} (hk : kept s = kk) : outKept kk (execWheelRoute w port pos s) := by
  subst hk
  (unfold execWheelRoute; simp [*]) <;> intros <;> (repeat' split) <;> (simp [*]; done)
@[simp] theorem sendOptical_kept (s : State) (w l : Nat) (c : LCell) (vc : Nat) : kept (sendOptical s w l c vc) = kept s := by
  unfold sendOptical; simp [*]; done
@[simp] theorem routeCounts_kept (s : State) (w port : Nat) (c : Cell) (vc : Nat) (fallback : Bool) : kept (routeCounts s w port c vc fallback) = kept s := by
  unfold routeCounts; simp [*]; done
@[simp] theorem wheelSend_kept (s : State) (w out : Nat) (r : Ready) : kept (wheelSend s w out r) = kept s := by
  unfold wheelSend; simp [*]; done
@[simp] theorem takeToken_kept (s : State) (d : Nat) (c : Cell) : kept (takeToken s d c) = kept s := by
  unfold takeToken; simp [*]; done
@[simp] theorem limitNote_kept (s : State) (d : Nat) : kept (limitNote s d) = kept s := by
  unfold limitNote; simp [*]; done
@[simp] theorem limitEnd_kept (s : State) (d : Nat) : kept (limitEnd s d) = kept s := by
  (unfold limitEnd; simp [*]) <;> intros <;> (repeat' split) <;> (simp [*]; done)
@[simp] theorem nodeSend_kept (s : State) (node out : Nat) (r : Ready) : kept (nodeSend s node out r) = kept s := by
  unfold nodeSend; simp [*]; done
@[simp] theorem execOutputArbitrate_kept (node out : Nat) (s : State) {kk} (hk : kept s = kk) : outKept kk (execOutputArbitrate node out s) := by
  subst hk
  (unfold execOutputArbitrate; simp [*]) <;> intros <;> (repeat' split) <;> (simp [*]; done)
@[simp] theorem panelControl_kept (s : State) (a b cvc : Nat) : kept (panelControl s a b cvc) = kept s := by
  unfold panelControl; simp [*]; done
@[simp] theorem panelArrive_kept (s : State) (a b q : Nat) (c : LCell) : kept (panelArrive s a b q c) = kept s := by
  (unfold panelArrive; simp [*]) <;> intros <;> (repeat' split) <;> (simp [*]; done)
@[simp] theorem execPanelTransfer_kept (a b : Nat) (bad : Bool) (cvc : Nat) (s : State) {kk} (hk : kept s = kk) : outKept kk (execPanelTransfer a b bad cvc s) := by
  subst hk
  (unfold execPanelTransfer; simp [*]) <;> intros <;> (repeat' split) <;> (simp [*]; done)
@[simp] theorem execCellAgeDiscard_kept (node port pos : Nat) (s : State) {kk} (hk : kept s = kk) : outKept kk (execCellAgeDiscard node port pos s) := by
  subst hk
  (unfold execCellAgeDiscard; simp [*]) <;> intros <;> (repeat' split) <;> (simp [*]; done)
@[simp] theorem execEceDecrease_kept (d pkg : Nat) (s : State) {kk} (hk : kept s = kk) : outKept kk (execEceDecrease d pkg s) := by
  subst hk
  (unfold execEceDecrease; simp [*]) <;> intros <;> (repeat' split) <;> (simp [*]; done)
@[simp] theorem execRateIncrease_kept (d pkg : Nat) (s : State) {kk} (hk : kept s = kk) : outKept kk (execRateIncrease d pkg s) := by
  subst hk
  unfold execRateIncrease; simp [*]; done

/-! ### Machine/Flood.lean -/

@[simp] theorem setRole_kept (s : State) (r : Nat) : kept (setRole s r) = kept s := by
  unfold setRole; simp [*]; done
@[simp] theorem sendHello_kept (s : State) (w l : Nat) : kept (sendHello s w l) = kept s := by
  unfold sendHello; simp [*]; done
@[simp] theorem floodPart_kept (s : State) (origin part : Nat) (but : Option Nat) : kept (floodPart s origin part but) = kept s := by
  unfold floodPart
  (repeat' split) <;> first | (simp [*]; done) | (simp (disch := first | (intros <;> (try dsimp only) <;> (repeat' split) <;> simp [*]) | fail) [*]; done)
@[simp] theorem syncTopo_kept (s : State) : kept (syncTopo s) = kept s := by
  unfold syncTopo; simp [*]; done
@[simp] theorem noteChange_kept (s : State) : kept (noteChange s) = kept s := by
  unfold noteChange; simp [*]; done
@[simp] theorem putOwn_kept (s : State) : kept (putOwn s) = kept s := by
  unfold putOwn; simp [*]; done
@[simp] theorem sendOwn_kept (s : State) : kept (sendOwn s) = kept s := by
  unfold sendOwn; simp [*]; done
@[simp] theorem kilnLooks_kept (s : State) : kept (kilnLooks s) = kept s := by
  unfold kilnLooks; simp [*]; done
@[simp] theorem linkSeen_kept (s : State) (w l : Nat) : kept (linkSeen s w l) = kept s := by
  unfold linkSeen; simp [*]; done

/-! ### Machine/Links.lean -/

@[simp] theorem setLinkState_kept (s : State) (w l st : Nat) : kept (setLinkState s w l st) = kept s := by
  unfold setLinkState; simp [*]; done
@[simp] theorem addReport_kept (s : State) (ep kind w l err : Nat) : kept (addReport s ep kind w l err) = kept s := by
  unfold addReport; simp [*]; done
@[simp] theorem linkDown_kept (s : State) (w l st : Nat) : kept (linkDown s w l st) = kept s := by
  unfold linkDown; simp [*]; done
@[simp] theorem writeLnkCtl_kept (s : State) (w l : Nat) (v : W32) : kept (writeLnkCtl s w l v) = kept s := by
  (unfold writeLnkCtl; simp [*]) <;> intros <;> (repeat' split) <;> (simp [*]; done)
@[simp] theorem execFabLnkEnWrite_kept (w l : Nat) (v : W32) (s : State) {kk} (hk : kept s = kk) : outKept kk (execFabLnkEnWrite w l v s) := by
  subst hk
  unfold execFabLnkEnWrite; simp [*]; done
@[simp] theorem execRetrain_kept (w l : Nat) (s : State) {kk} (hk : kept s = kk) : outKept kk (execRetrain w l s) := by
  subst hk
  unfold execRetrain; simp [*]; done
@[simp] theorem execHwmclr_kept (w l : Nat) (s : State) {kk} (hk : kept s = kk) : outKept kk (execHwmclr w l s) := by
  subst hk
  unfold execHwmclr; simp [*]; done
@[simp] theorem execSignalDetect_kept (w l lanes : Nat) (s : State) {kk} (hk : kept s = kk) : outKept kk (execSignalDetect w l lanes s) := by
  subst hk
  (unfold execSignalDetect; simp [*]) <;> intros <;> (repeat' split) <;> (simp [*]; done)
@[simp] theorem execTrainingFrame_kept (w l : Nat) (ctl : W32) (far : Bool) (s : State) {kk} (hk : kept s = kk) : outKept kk (execTrainingFrame w l ctl far s) := by
  subst hk
  (unfold execTrainingFrame; simp [*]) <;> intros <;> (repeat' split) <;> (simp [*]; done)
@[simp] theorem execLinkTimeLimit_kept (w l : Nat) (s : State) {kk} (hk : kept s = kk) : outKept kk (execLinkTimeLimit w l s) := by
  subst hk
  (unfold execLinkTimeLimit; simp [*]) <;> intros <;> (repeat' split) <;> (simp [*]; done)
@[simp] theorem execLinkRestartDelay_kept (w l : Nat) (s : State) {kk} (hk : kept s = kk) : outKept kk (execLinkRestartDelay w l s) := by
  subst hk
  unfold execLinkRestartDelay; simp [*]; done
@[simp] theorem loseLink_kept (s : State) (w l : Nat) (why : LossCause) : kept (loseLink s w l why) = kept s := by
  unfold loseLink; simp [*]; done
@[simp] theorem blockCell_kept (w l : Nat) (s : State) (q : Nat) (c : LCell) : kept (blockCell w l s q c) = kept s := by
  (unfold blockCell; simp [*]) <;> intros <;> (repeat' split) <;> (simp [*]; done)
@[simp] theorem blockCells_kept (w l : Nat) (s : State) (q : Nat) (cs : List LCell) : kept (blockCells w l s q cs) = kept s := by
  induction cs generalizing s q with
  | nil => rfl
  | cons c cs ih => unfold blockCells; split <;> simp [ih]
@[simp] theorem resend_kept (s : State) (w l : Nat) : kept (resend s w l) = kept s := by
  unfold resend; simp [*]; done
@[simp] theorem blockControl_kept (s : State) (w l : Nat) (b : Block) : kept (blockControl s w l b) = kept s := by
  unfold blockControl; simp [*]; done
@[simp] theorem execBlockReceive_kept (w l : Nat) (b : Block) (s : State) {kk} (hk : kept s = kk) : outKept kk (execBlockReceive w l b s) := by
  subst hk
  (unfold execBlockReceive; simp [*]) <;> intros <;> (repeat' split) <;> (simp [*]; done)
@[simp] theorem execReplayTimeout_kept (panel : Bool) (a b : Nat) (s : State) {kk} (hk : kept s = kk) : outKept kk (execReplayTimeout panel a b s) := by
  subst hk
  (unfold execReplayTimeout; simp [*]) <;> intros <;> (repeat' split) <;> (simp [*]; done)
@[simp] theorem freshRestart_kept (s : State) (w l : Nat) : kept (freshRestart s w l) = kept s := by
  unfold freshRestart; simp [*]; done
@[simp] theorem restartCredits_kept (s : State) (w l : Nat) (r : CfgRec) : kept (restartCredits s w l r) = kept s := by
  unfold restartCredits; simp [*]; done
@[simp] theorem execConfigRecord_kept (w l : Nat) (r : CfgRec) (s : State) {kk} (hk : kept s = kk) : outKept kk (execConfigRecord w l r s) := by
  subst hk
  (unfold execConfigRecord; simp [*]) <;> intros <;> (repeat' split) <;> (simp [*]; done)
@[simp] theorem execLinkLoss_kept (w l : Nat) (why : LossCause) (s : State) {kk} (hk : kept s = kk) : outKept kk (execLinkLoss w l why s) := by
  subst hk
  unfold execLinkLoss; simp [*]; done
@[simp] theorem execHoldExpiry_kept (w l : Nat) (s : State) {kk} (hk : kept s = kk) : outKept kk (execHoldExpiry w l s) := by
  subst hk
  unfold execHoldExpiry; simp [*]; done

/-! ### Machine/Log.lean -/

@[simp] theorem modStm_kept (s : State) (f : StmSt → StmSt) : kept (modStm s f) = kept s := by
  unfold modStm; simp [*]; done
@[simp] theorem setStrm_kept (s : State) (n : Nat) (x : Strm) : kept (setStrm s n x) = kept s := by
  unfold setStrm; simp [*]; done
@[simp] theorem modStrm_kept (s : State) (n : Nat) (f : Strm → Strm) : kept (modStrm s n f) = kept s := by
  unfold modStrm; simp [*]; done
@[simp] theorem modLog_kept (s : State) (sg : Nat) (f : LogSt → LogSt) : kept (modLog s sg f) = kept s := by
  unfold modLog; simp [*]; done
@[simp] theorem logPut_kept (s : State) (sg ty : Nat) (body : List Byte) : kept (logPut s sg ty body) = kept s := by
  unfold logPut; simp [*]; done
@[simp] theorem logBlock_kept (s : State) (sg : Nat) : kept (logBlock s sg) = kept s := by
  unfold logBlock; simp [*]; done
@[simp] theorem logDelivery_kept (s : State) (c : Core) (g : Gated) {kk} (hk : kept s = kk) : keptOpt kk (logDelivery s c g) := by
  subst hk
  (unfold logDelivery; simp [*]) <;> intros <;> (repeat' split) <;> (simp [*]; done)
@[simp] theorem logFault_kept (s : State) (sg strm lcore thread sub : Nat) (cnt : W64) (va kind : Nat) : kept (logFault s sg strm lcore thread sub cnt va kind) = kept s := by
  unfold logFault; simp [*]; done
@[simp] theorem rplFail_kept (s : State) (code : Nat) : kept (rplFail s code) = kept s := by
  unfold rplFail; simp [*]; done

/-! ### Machine/Resolve.lean -/

@[simp] theorem execTranslateAccess_kept (id : Nat) (hit : Bool) (s : State) {kk} (hk : kept s = kk) : outKept kk (execTranslateAccess id hit s) := by
  subst hk
  unfold execTranslateAccess
  try dsimp only
  (repeat' split) <;> (try (simp [*]; done))
  all_goals (repeat (rename @Eq (State × _) _ (_, _) => hq; have hz := congrArg (fun p => kept p.1) hq; clear hq))
  all_goals (repeat (rename _ = AgentRes.ok _ _ _ => hq; have hz := congrArg (keptRes (kept s)) hq; clear hq))
  all_goals (repeat (rename _ = AgentRes.fault _ _ => hq; have hz := congrArg (keptRes (kept s)) hq; clear hq))
  all_goals (repeat (rename _ = AgentRes.refused _ => hq; have hz := congrArg (keptRes (kept s)) hq; clear hq))
  all_goals (repeat (rename _ = @some State _ => hq; have hz := congrArg (keptOpt (kept s)) hq; clear hq))
  all_goals (repeat (rename _ = @some (State × Bool) (_, _) => hq; have hz := congrArg (keptOptB (kept s)) hq; clear hq))
  all_goals (repeat (rename _ = MsgRes.done _ => hq; have hz := congrArg (keptMsg (kept s)) hq; clear hq))
  all_goals (repeat (rename _ = MsgRes.hold _ _ => hq; have hz := congrArg (keptMsg (kept s)) hq; clear hq))
  all_goals simp_all
@[simp] theorem logRefusal_kept (s : State) (t : Nat) (r : FaultRec) : kept (logRefusal s t r) = kept s := by
  unfold logRefusal
  dsimp only
  (repeat' split) <;> (simp (disch := first | (intros <;> (try dsimp only) <;> (repeat' split) <;> simp [*]) | fail) [*]; done)
@[simp] theorem refuseFault_kept (s : State) (t : Nat) : kept (refuseFault s t) = kept s := by
  unfold refuseFault
  (repeat' split) <;> first | (simp [*]; done) | (simp (disch := first | (intros <;> (try dsimp only) <;> (repeat' split) <;> simp [*]) | fail) [*]; done)
@[simp] theorem execFaultRetry_kept (tag : Nat) (s : State) {kk} (hk : kept s = kk) : outKept kk (execFaultRetry tag s) := by
  subst hk
  unfold execFaultRetry; simp [*]; done
@[simp] theorem execFaultRefuse_kept (tag : Nat) (s : State) {kk} (hk : kept s = kk) : outKept kk (execFaultRefuse tag s) := by
  subst hk
  unfold execFaultRefuse; simp [*]; done
@[simp] theorem execFaultTimeout_kept (tag : Nat) (s : State) {kk} (hk : kept s = kk) : outKept kk (execFaultTimeout tag s) := by
  subst hk
  (unfold execFaultTimeout; simp [*]) <;> intros <;> (repeat' split) <;> (simp [*]; done)

end Sys2Proof.Machine
end

