-- ==== Sys2Proof/Laws/KeptCores.lean ====
section
/-! SUPPORT. Laws/KeptCores.lean: what operations and events of cores and DMA leave alone. `kept` (Safety.lean) is the queue of waiting commands and the identity
registers; `f_kept` says that f leaves them as they were. A lemma about a command has the form outKept; some suppose that no identity
register is listed away from its fuse. -/

set_option linter.all false

namespace Sys2Proof.Machine

/-! ### Machine/CoreExec.lean -/

@[simp] theorem queueDma_kept (s : State) (c : Nat) (k : Core) (e : Emit) (src dst : Region) (len : Nat) : kept (queueDma s c k e src dst len) = kept s := by
  unfold queueDma; simp [*]; done
@[simp] theorem replayAnswer_kept (s : State) (c : Nat) (k : Core) (e : Emit) {kk} (hk : kept s = kk) : keptOpt kk (replayAnswer s c k e) := by
  subst hk
  (unfold replayAnswer; simp [*]) <;> intros <;> (repeat' split) <;> (simp [*]; done)
@[simp] theorem emitOne_kept (c : Nat) (s : State) (e : Emit) : kept (emitOne c s e) = kept s := by
  unfold emitOne
  dsimp only
  generalize h : replayAnswer s c (getCore s c) e = o
  have hk : keptOpt (kept s) o := by rw [← h]; simp
  cases o with
  | some t => simpa using hk
  | none => generalize e.req = q; cases q <;> simp
@[simp] theorem opStep_kept (b : Body) (s : State) (c : Nat) (k : Core) (w : OpWord) (word : W64) : kept (opStep b s c k w word) = kept s := by
  unfold opStep
  (repeat' split) <;> first | (simp [*]; done) | (simp (disch := first | (intros <;> (try dsimp only) <;> (repeat' split) <;> simp [*]) | fail) [*]; done)
@[simp] theorem opCmd_kept (b : Body) (op : Nat) (md : Option Nat) (c : Nat) (w : OpWord) (s : State) {kk} (hk : kept s = kk) : outKept kk (opCmd b op md c w s) := by
  subst hk
  unfold opCmd; simp [*]; done
@[simp] theorem execNop_kept (c : Nat) (w : OpWord) (s : State) {kk} (hk : kept s = kk) : outKept kk (execNop c w s) := by
  subst hk
  unfold execNop; simp [*]; done
@[simp] theorem execAdd_kept (c : Nat) (w : OpWord) (s : State) {kk} (hk : kept s = kk) : outKept kk (execAdd c w s) := by
  subst hk
  unfold execAdd; simp [*]; done
@[simp] theorem execSub_kept (c : Nat) (w : OpWord) (s : State) {kk} (hk : kept s = kk) : outKept kk (execSub c w s) := by
  subst hk
  unfold execSub; simp [*]; done
@[simp] theorem execAnd_kept (c : Nat) (w : OpWord) (s : State) {kk} (hk : kept s = kk) : outKept kk (execAnd c w s) := by
  subst hk
  unfold execAnd; simp [*]; done
@[simp] theorem execOr_kept (c : Nat) (w : OpWord) (s : State) {kk} (hk : kept s = kk) : outKept kk (execOr c w s) := by
  subst hk
  unfold execOr; simp [*]; done
@[simp] theorem execXor_kept (c : Nat) (w : OpWord) (s : State) {kk} (hk : kept s = kk) : outKept kk (execXor c w s) := by
  subst hk
  unfold execXor; simp [*]; done
@[simp] theorem execShl_kept (c : Nat) (w : OpWord) (s : State) {kk} (hk : kept s = kk) : outKept kk (execShl c w s) := by
  subst hk
  unfold execShl; simp [*]; done
@[simp] theorem execShr_kept (c : Nat) (w : OpWord) (s : State) {kk} (hk : kept s = kk) : outKept kk (execShr c w s) := by
  subst hk
  unfold execShr; simp [*]; done
@[simp] theorem execSra_kept (c : Nat) (w : OpWord) (s : State) {kk} (hk : kept s = kk) : outKept kk (execSra c w s) := by
  subst hk
  unfold execSra; simp [*]; done
@[simp] theorem execSlt_kept (c : Nat) (w : OpWord) (s : State) {kk} (hk : kept s = kk) : outKept kk (execSlt c w s) := by
  subst hk
  unfold execSlt; simp [*]; done
@[simp] theorem execSltu_kept (c : Nat) (w : OpWord) (s : State) {kk} (hk : kept s = kk) : outKept kk (execSltu c w s) := by
  subst hk
  unfold execSltu; simp [*]; done
@[simp] theorem execSeq_kept (c : Nat) (w : OpWord) (s : State) {kk} (hk : kept s = kk) : outKept kk (execSeq c w s) := by
  subst hk
  unfold execSeq; simp [*]; done
@[simp] theorem execMin_kept (c : Nat) (w : OpWord) (s : State) {kk} (hk : kept s = kk) : outKept kk (execMin c w s) := by
  subst hk
  unfold execMin; simp [*]; done
@[simp] theorem execMax_kept (c : Nat) (w : OpWord) (s : State) {kk} (hk : kept s = kk) : outKept kk (execMax c w s) := by
  subst hk
  unfold execMax; simp [*]; done
@[simp] theorem execMovi_kept (c : Nat) (w : OpWord) (s : State) {kk} (hk : kept s = kk) : outKept kk (execMovi c w s) := by
  subst hk
  unfold execMovi; simp [*]; done
@[simp] theorem execMovh_kept (c : Nat) (w : OpWord) (s : State) {kk} (hk : kept s = kk) : outKept kk (execMovh c w s) := by
  subst hk
  unfold execMovh; simp [*]; done
@[simp] theorem execMul_kept (c : Nat) (w : OpWord) (s : State) {kk} (hk : kept s = kk) : outKept kk (execMul c w s) := by
  subst hk
  unfold execMul; simp [*]; done
@[simp] theorem execMulh_kept (c : Nat) (w : OpWord) (s : State) {kk} (hk : kept s = kk) : outKept kk (execMulh c w s) := by
  subst hk
  unfold execMulh; simp [*]; done
@[simp] theorem execMulhu_kept (c : Nat) (w : OpWord) (s : State) {kk} (hk : kept s = kk) : outKept kk (execMulhu c w s) := by
  subst hk
  unfold execMulhu; simp [*]; done
@[simp] theorem execDiv_kept (c : Nat) (w : OpWord) (s : State) {kk} (hk : kept s = kk) : outKept kk (execDiv c w s) := by
  subst hk
  unfold execDiv; simp [*]; done
@[simp] theorem execDivu_kept (c : Nat) (w : OpWord) (s : State) {kk} (hk : kept s = kk) : outKept kk (execDivu c w s) := by
  subst hk
  unfold execDivu; simp [*]; done
@[simp] theorem execRem_kept (c : Nat) (w : OpWord) (s : State) {kk} (hk : kept s = kk) : outKept kk (execRem c w s) := by
  subst hk
  unfold execRem; simp [*]; done
@[simp] theorem execRemu_kept (c : Nat) (w : OpWord) (s : State) {kk} (hk : kept s = kk) : outKept kk (execRemu c w s) := by
  subst hk
  unfold execRemu; simp [*]; done
@[simp] theorem execPopc_kept (c : Nat) (w : OpWord) (s : State) {kk} (hk : kept s = kk) : outKept kk (execPopc c w s) := by
  subst hk
  unfold execPopc; simp [*]; done
@[simp] theorem execCtz_kept (c : Nat) (w : OpWord) (s : State) {kk} (hk : kept s = kk) : outKept kk (execCtz c w s) := by
  subst hk
  unfold execCtz; simp [*]; done
@[simp] theorem execBeq_kept (c : Nat) (w : OpWord) (s : State) {kk} (hk : kept s = kk) : outKept kk (execBeq c w s) := by
  subst hk
  unfold execBeq; simp [*]; done
@[simp] theorem execBne_kept (c : Nat) (w : OpWord) (s : State) {kk} (hk : kept s = kk) : outKept kk (execBne c w s) := by
  subst hk
  unfold execBne; simp [*]; done
@[simp] theorem execBlt_kept (c : Nat) (w : OpWord) (s : State) {kk} (hk : kept s = kk) : outKept kk (execBlt c w s) := by
  subst hk
  unfold execBlt; simp [*]; done
@[simp] theorem execBge_kept (c : Nat) (w : OpWord) (s : State) {kk} (hk : kept s = kk) : outKept kk (execBge c w s) := by
  subst hk
  unfold execBge; simp [*]; done
@[simp] theorem execBltu_kept (c : Nat) (w : OpWord) (s : State) {kk} (hk : kept s = kk) : outKept kk (execBltu c w s) := by
  subst hk
  unfold execBltu; simp [*]; done
@[simp] theorem execBgeu_kept (c : Nat) (w : OpWord) (s : State) {kk} (hk : kept s = kk) : outKept kk (execBgeu c w s) := by
  subst hk
  unfold execBgeu; simp [*]; done
@[simp] theorem execJal_kept (c : Nat) (w : OpWord) (s : State) {kk} (hk : kept s = kk) : outKept kk (execJal c w s) := by
  subst hk
  unfold execJal; simp [*]; done
@[simp] theorem execJr_kept (c : Nat) (w : OpWord) (s : State) {kk} (hk : kept s = kk) : outKept kk (execJr c w s) := by
  subst hk
  unfold execJr; simp [*]; done
@[simp] theorem execHalt_kept (c : Nat) (w : OpWord) (s : State) {kk} (hk : kept s = kk) : outKept kk (execHalt c w s) := by
  subst hk
  unfold execHalt; simp [*]; done
@[simp] theorem execBrk_kept (c : Nat) (w : OpWord) (s : State) {kk} (hk : kept s = kk) : outKept kk (execBrk c w s) := by
  subst hk
  unfold execBrk; simp [*]; done
@[simp] theorem execStepw_kept (c : Nat) (w : OpWord) (s : State) {kk} (hk : kept s = kk) : outKept kk (execStepw c w s) := by
  subst hk
  unfold execStepw; simp [*]; done
@[simp] theorem execTctlResume_kept (c : Nat) (w : OpWord) (s : State) {kk} (hk : kept s = kk) : outKept kk (execTctlResume c w s) := by
  subst hk
  unfold execTctlResume; simp [*]; done
@[simp] theorem execTctlStop_kept (c : Nat) (w : OpWord) (s : State) {kk} (hk : kept s = kk) : outKept kk (execTctlStop c w s) := by
  subst hk
  unfold execTctlStop; simp [*]; done
@[simp] theorem execTctlRead_kept (c : Nat) (w : OpWord) (s : State) {kk} (hk : kept s = kk) : outKept kk (execTctlRead c w s) := by
  subst hk
  unfold execTctlRead; simp [*]; done
@[simp] theorem execTctlReadXpc_kept (c : Nat) (w : OpWord) (s : State) {kk} (hk : kept s = kk) : outKept kk (execTctlReadXpc c w s) := by
  subst hk
  unfold execTctlReadXpc; simp [*]; done
@[simp] theorem execTctlReadXinfo_kept (c : Nat) (w : OpWord) (s : State) {kk} (hk : kept s = kk) : outKept kk (execTctlReadXinfo c w s) := by
  subst hk
  unfold execTctlReadXinfo; simp [*]; done
@[simp] theorem execLd_kept (c : Nat) (w : OpWord) (s : State) {kk} (hk : kept s = kk) : outKept kk (execLd c w s) := by
  subst hk
  unfold execLd; simp [*]; done
@[simp] theorem execSt_kept (c : Nat) (w : OpWord) (s : State) {kk} (hk : kept s = kk) : outKept kk (execSt c w s) := by
  subst hk
  unfold execSt; simp [*]; done
@[simp] theorem execVld_kept (c : Nat) (w : OpWord) (s : State) {kk} (hk : kept s = kk) : outKept kk (execVld c w s) := by
  subst hk
  unfold execVld; simp [*]; done
@[simp] theorem execVst_kept (c : Nat) (w : OpWord) (s : State) {kk} (hk : kept s = kk) : outKept kk (execVst c w s) := by
  subst hk
  unfold execVst; simp [*]; done
@[simp] theorem execVstm_kept (c : Nat) (w : OpWord) (s : State) {kk} (hk : kept s = kk) : outKept kk (execVstm c w s) := by
  subst hk
  unfold execVstm; simp [*]; done
@[simp] theorem execLnld_kept (c : Nat) (w : OpWord) (s : State) {kk} (hk : kept s = kk) : outKept kk (execLnld c w s) := by
  subst hk
  unfold execLnld; simp [*]; done
@[simp] theorem execLnst_kept (c : Nat) (w : OpWord) (s : State) {kk} (hk : kept s = kk) : outKept kk (execLnst c w s) := by
  subst hk
  unfold execLnst; simp [*]; done
@[simp] theorem execFence_kept (c : Nat) (w : OpWord) (s : State) {kk} (hk : kept s = kk) : outKept kk (execFence c w s) := by
  subst hk
  unfold execFence; simp [*]; done
@[simp] theorem execMma_kept (c : Nat) (w : OpWord) (s : State) {kk} (hk : kept s = kk) : outKept kk (execMma c w s) := by
  subst hk
  unfold execMma; simp [*]; done
@[simp] theorem execWflush_kept (c : Nat) (w : OpWord) (s : State) {kk} (hk : kept s = kk) : outKept kk (execWflush c w s) := by
  subst hk
  unfold execWflush; simp [*]; done
@[simp] theorem execRstore_kept (c : Nat) (w : OpWord) (s : State) {kk} (hk : kept s = kk) : outKept kk (execRstore c w s) := by
  subst hk
  unfold execRstore; simp [*]; done
@[simp] theorem execXstore_kept (c : Nat) (w : OpWord) (s : State) {kk} (hk : kept s = kk) : outKept kk (execXstore c w s) := by
  subst hk
  unfold execXstore; simp [*]; done
@[simp] theorem execSpget_kept (c : Nat) (w : OpWord) (s : State) {kk} (hk : kept s = kk) : outKept kk (execSpget c w s) := by
  subst hk
  unfold execSpget; simp [*]; done
@[simp] theorem execSpadd_kept (c : Nat) (w : OpWord) (s : State) {kk} (hk : kept s = kk) : outKept kk (execSpadd c w s) := by
  subst hk
  unfold execSpadd; simp [*]; done
@[simp] theorem execMclr_kept (c : Nat) (w : OpWord) (s : State) {kk} (hk : kept s = kk) : outKept kk (execMclr c w s) := by
  subst hk
  unfold execMclr; simp [*]; done
@[simp] theorem execLnadd_kept (c : Nat) (w : OpWord) (s : State) {kk} (hk : kept s = kk) : outKept kk (execLnadd c w s) := by
  subst hk
  unfold execLnadd; simp [*]; done
@[simp] theorem execLnmov_kept (c : Nat) (w : OpWord) (s : State) {kk} (hk : kept s = kk) : outKept kk (execLnmov c w s) := by
  subst hk
  unfold execLnmov; simp [*]; done
@[simp] theorem execLnclr_kept (c : Nat) (w : OpWord) (s : State) {kk} (hk : kept s = kk) : outKept kk (execLnclr c w s) := by
  subst hk
  unfold execLnclr; simp [*]; done
@[simp] theorem execLnneg_kept (c : Nat) (w : OpWord) (s : State) {kk} (hk : kept s = kk) : outKept kk (execLnneg c w s) := by
  subst hk
  unfold execLnneg; simp [*]; done
@[simp] theorem execLnlane_kept (c : Nat) (w : OpWord) (s : State) {kk} (hk : kept s = kk) : outKept kk (execLnlane c w s) := by
  subst hk
  unfold execLnlane; simp [*]; done
@[simp] theorem execLnrnd_kept (c : Nat) (w : OpWord) (s : State) {kk} (hk : kept s = kk) : outKept kk (execLnrnd c w s) := by
  subst hk
  unfold execLnrnd; simp [*]; done
@[simp] theorem execVadd_kept (c : Nat) (w : OpWord) (s : State) {kk} (hk : kept s = kk) : outKept kk (execVadd c w s) := by
  subst hk
  unfold execVadd; simp [*]; done
@[simp] theorem execVsub_kept (c : Nat) (w : OpWord) (s : State) {kk} (hk : kept s = kk) : outKept kk (execVsub c w s) := by
  subst hk
  unfold execVsub; simp [*]; done
@[simp] theorem execVmul_kept (c : Nat) (w : OpWord) (s : State) {kk} (hk : kept s = kk) : outKept kk (execVmul c w s) := by
  subst hk
  unfold execVmul; simp [*]; done
@[simp] theorem execVfma_kept (c : Nat) (w : OpWord) (s : State) {kk} (hk : kept s = kk) : outKept kk (execVfma c w s) := by
  subst hk
  unfold execVfma; simp [*]; done
@[simp] theorem execVmin_kept (c : Nat) (w : OpWord) (s : State) {kk} (hk : kept s = kk) : outKept kk (execVmin c w s) := by
  subst hk
  unfold execVmin; simp [*]; done
@[simp] theorem execVmax_kept (c : Nat) (w : OpWord) (s : State) {kk} (hk : kept s = kk) : outKept kk (execVmax c w s) := by
  subst hk
  unfold execVmax; simp [*]; done
@[simp] theorem execVcvt_kept (c : Nat) (w : OpWord) (s : State) {kk} (hk : kept s = kk) : outKept kk (execVcvt c w s) := by
  subst hk
  unfold execVcvt; simp [*]; done
@[simp] theorem execViadd_kept (c : Nat) (w : OpWord) (s : State) {kk} (hk : kept s = kk) : outKept kk (execViadd c w s) := by
  subst hk
  unfold execViadd; simp [*]; done
@[simp] theorem execVimul_kept (c : Nat) (w : OpWord) (s : State) {kk} (hk : kept s = kk) : outKept kk (execVimul c w s) := by
  subst hk
  unfold execVimul; simp [*]; done
@[simp] theorem execVbcast_kept (c : Nat) (w : OpWord) (s : State) {kk} (hk : kept s = kk) : outKept kk (execVbcast c w s) := by
  subst hk
  unfold execVbcast; simp [*]; done
@[simp] theorem execVlane_kept (c : Nat) (w : OpWord) (s : State) {kk} (hk : kept s = kk) : outKept kk (execVlane c w s) := by
  subst hk
  unfold execVlane; simp [*]; done
@[simp] theorem execVidx_kept (c : Nat) (w : OpWord) (s : State) {kk} (hk : kept s = kk) : outKept kk (execVidx c w s) := by
  subst hk
  unfold execVidx; simp [*]; done
@[simp] theorem execVfn_kept (c : Nat) (w : OpWord) (s : State) {kk} (hk : kept s = kk) : outKept kk (execVfn c w s) := by
  subst hk
  unfold execVfn; simp [*]; done
@[simp] theorem execVcmp_kept (c : Nat) (w : OpWord) (s : State) {kk} (hk : kept s = kk) : outKept kk (execVcmp c w s) := by
  subst hk
  unfold execVcmp; simp [*]; done
@[simp] theorem execVsel_kept (c : Nat) (w : OpWord) (s : State) {kk} (hk : kept s = kk) : outKept kk (execVsel c w s) := by
  subst hk
  unfold execVsel; simp [*]; done
@[simp] theorem execVgath_kept (c : Nat) (w : OpWord) (s : State) {kk} (hk : kept s = kk) : outKept kk (execVgath c w s) := by
  subst hk
  unfold execVgath; simp [*]; done
@[simp] theorem execVscat_kept (c : Nat) (w : OpWord) (s : State) {kk} (hk : kept s = kk) : outKept kk (execVscat c w s) := by
  subst hk
  unfold execVscat; simp [*]; done
@[simp] theorem execVscadd_kept (c : Nat) (w : OpWord) (s : State) {kk} (hk : kept s = kk) : outKept kk (execVscadd c w s) := by
  subst hk
  unfold execVscadd; simp [*]; done
@[simp] theorem execXscadd_kept (c : Nat) (w : OpWord) (s : State) {kk} (hk : kept s = kk) : outKept kk (execXscadd c w s) := by
  subst hk
  unfold execXscadd; simp [*]; done
@[simp] theorem execDma_kept (c : Nat) (w : OpWord) (s : State) {kk} (hk : kept s = kk) : outKept kk (execDma c w s) := by
  subst hk
  unfold execDma; simp [*]; done
@[simp] theorem execSignal_kept (c : Nat) (w : OpWord) (s : State) {kk} (hk : kept s = kk) : outKept kk (execSignal c w s) := by
  subst hk
  unfold execSignal; simp [*]; done
@[simp] theorem execWait_kept (c : Nat) (w : OpWord) (s : State) {kk} (hk : kept s = kk) : outKept kk (execWait c w s) := by
  subst hk
  unfold execWait; simp [*]; done
@[simp] theorem execSreset_kept (c : Nat) (w : OpWord) (s : State) {kk} (hk : kept s = kk) : outKept kk (execSreset c w s) := by
  subst hk
  unfold execSreset; simp [*]; done
@[simp] theorem execSpoll_kept (c : Nat) (w : OpWord) (s : State) {kk} (hk : kept s = kk) : outKept kk (execSpoll c w s) := by
  subst hk
  unfold execSpoll; simp [*]; done
@[simp] theorem execFrd_kept (c : Nat) (w : OpWord) (s : State) {kk} (hk : kept s = kk) : outKept kk (execFrd c w s) := by
  subst hk
  unfold execFrd; simp [*]; done
@[simp] theorem execFwr_kept (c : Nat) (w : OpWord) (s : State) {kk} (hk : kept s = kk) : outKept kk (execFwr c w s) := by
  subst hk
  unfold execFwr; simp [*]; done
@[simp] theorem execFatomAdd64_kept (c : Nat) (w : OpWord) (s : State) {kk} (hk : kept s = kk) : outKept kk (execFatomAdd64 c w s) := by
  subst hk
  unfold execFatomAdd64; simp [*]; done
@[simp] theorem execFatomSwap64_kept (c : Nat) (w : OpWord) (s : State) {kk} (hk : kept s = kk) : outKept kk (execFatomSwap64 c w s) := by
  subst hk
  unfold execFatomSwap64; simp [*]; done
@[simp] theorem execFatomCas64_kept (c : Nat) (w : OpWord) (s : State) {kk} (hk : kept s = kk) : outKept kk (execFatomCas64 c w s) := by
  subst hk
  unfold execFatomCas64; simp [*]; done
@[simp] theorem execFatomMin64_kept (c : Nat) (w : OpWord) (s : State) {kk} (hk : kept s = kk) : outKept kk (execFatomMin64 c w s) := by
  subst hk
  unfold execFatomMin64; simp [*]; done
@[simp] theorem execFatomMax64_kept (c : Nat) (w : OpWord) (s : State) {kk} (hk : kept s = kk) : outKept kk (execFatomMax64 c w s) := by
  subst hk
  unfold execFatomMax64; simp [*]; done
@[simp] theorem execFatomXadd_kept (c : Nat) (w : OpWord) (s : State) {kk} (hk : kept s = kk) : outKept kk (execFatomXadd c w s) := by
  subst hk
  unfold execFatomXadd; simp [*]; done
@[simp] theorem execSend_kept (c : Nat) (w : OpWord) (s : State) {kk} (hk : kept s = kk) : outKept kk (execSend c w s) := by
  subst hk
  unfold execSend; simp [*]; done
@[simp] theorem execRecv_kept (c : Nat) (w : OpWord) (s : State) {kk} (hk : kept s = kk) : outKept kk (execRecv c w s) := by
  subst hk
  unfold execRecv; simp [*]; done
@[simp] theorem execProbe_kept (c : Nat) (w : OpWord) (s : State) {kk} (hk : kept s = kk) : outKept kk (execProbe c w s) := by
  subst hk
  unfold execProbe; simp [*]; done
@[simp] theorem execCollAllreduce_kept (c : Nat) (w : OpWord) (s : State) {kk} (hk : kept s = kk) : outKept kk (execCollAllreduce c w s) := by
  subst hk
  unfold execCollAllreduce; simp [*]; done
@[simp] theorem execCollReduce_kept (c : Nat) (w : OpWord) (s : State) {kk} (hk : kept s = kk) : outKept kk (execCollReduce c w s) := by
  subst hk
  unfold execCollReduce; simp [*]; done
@[simp] theorem execCollReducescatter_kept (c : Nat) (w : OpWord) (s : State) {kk} (hk : kept s = kk) : outKept kk (execCollReducescatter c w s) := by
  subst hk
  unfold execCollReducescatter; simp [*]; done
@[simp] theorem execCollBroadcast_kept (c : Nat) (w : OpWord) (s : State) {kk} (hk : kept s = kk) : outKept kk (execCollBroadcast c w s) := by
  subst hk
  unfold execCollBroadcast; simp [*]; done
@[simp] theorem execCollAllgather_kept (c : Nat) (w : OpWord) (s : State) {kk} (hk : kept s = kk) : outKept kk (execCollAllgather c w s) := by
  subst hk
  unfold execCollAllgather; simp [*]; done
@[simp] theorem execCollBarrier_kept (c : Nat) (w : OpWord) (s : State) {kk} (hk : kept s = kk) : outKept kk (execCollBarrier c w s) := by
  subst hk
  unfold execCollBarrier; simp [*]; done
@[simp] theorem execCollAlltoall_kept (c : Nat) (w : OpWord) (s : State) {kk} (hk : kept s = kk) : outKept kk (execCollAlltoall c w s) := by
  subst hk
  unfold execCollAlltoall; simp [*]; done
@[simp] theorem execRand_kept (c : Nat) (w : OpWord) (s : State) {kk} (hk : kept s = kk) : outKept kk (execRand c w s) := by
  subst hk
  unfold execRand; simp [*]; done
@[simp] theorem execVrand_kept (c : Nat) (w : OpWord) (s : State) {kk} (hk : kept s = kk) : outKept kk (execVrand c w s) := by
  subst hk
  unfold execVrand; simp [*]; done
@[simp] theorem execSteprd_kept (c : Nat) (w : OpWord) (s : State) {kk} (hk : kept s = kk) : outKept kk (execSteprd c w s) := by
  subst hk
  unfold execSteprd; simp [*]; done
@[simp] theorem execTbrd_kept (c : Nat) (w : OpWord) (s : State) {kk} (hk : kept s = kk) : outKept kk (execTbrd c w s) := by
  subst hk
  unfold execTbrd; simp [*]; done
@[simp] theorem execFlags_kept (c : Nat) (w : OpWord) (s : State) {kk} (hk : kept s = kk) : outKept kk (execFlags c w s) := by
  subst hk
  unfold execFlags; simp [*]; done
@[simp] theorem execTdw_kept (c : Nat) (w : OpWord) (s : State) {kk} (hk : kept s = kk) : outKept kk (execTdw c w s) := by
  subst hk
  unfold execTdw; simp [*]; done
@[simp] theorem execTdr_kept (c : Nat) (w : OpWord) (s : State) {kk} (hk : kept s = kk) : outKept kk (execTdr c w s) := by
  subst hk
  unfold execTdr; simp [*]; done
@[simp] theorem bubbleStep_kept (s : State) (c : Nat) (k : Core) : kept (bubbleStep s c k) = kept s := by
  (unfold bubbleStep; simp [*]) <;> intros <;> (repeat' split) <;> (simp [*]; done)
@[simp] theorem execBubble_kept (c : Nat) (s : State) {kk} (hk : kept s = kk) : outKept kk (execBubble c s) := by
  subst hk
  unfold execBubble; simp [*]; done

/-! ### Machine/CoreEvents.lean -/

@[simp] theorem dropAccs_kept (s : State) (c : Nat) (issue : W64) : kept (dropAccs s c issue) = kept s := by
  unfold dropAccs; simp [*]; done
@[simp] theorem execResultArrival_kept (c : Nat) (issue : W64) (s : State) {kk} (hk : kept s = kk) : outKept kk (execResultArrival c issue s) := by
  subst hk
  (unfold execResultArrival; simp [*]) <;> intros <;> (repeat' split) <;> (simp [*]; done)
@[simp] theorem deliverStep_kept (s : State) (c : Nat) (k : Core) : kept (deliverStep s c k) = kept s := by
  unfold deliverStep
  try dsimp only
  (repeat' split) <;> (try (simp [*]; done))
  all_goals (repeat (rename @Eq (State × _) _ (_, _) => hq; have hz := congrArg (fun p => kept p.1) hq; clear hq))
  all_goals (repeat (rename _ = AgentRes.ok _ _ _ => hq; have hz := congrArg (keptRes (kept s)) hq; clear hq))
  all_goals (repeat (rename _ = AgentRes.fault _ _ => hq; have hz := congrArg (keptRes (kept s)) hq; clear hq))
  all_goals (repeat (rename _ = AgentRes.refused _ => hq; have hz := congrArg (keptRes (kept s)) hq; clear hq))
  all_goals (repeat (rename _ = @some State _ => hq; have hz := congrArg (keptOpt (kept s)) hq; clear hq))
  all_goals (repeat (rename _ = @some (State × Bool) (_, _) => hq; have hz := congrArg (keptOptB (kept s)) hq; clear hq))
  all_goals (repeat (rename _ = MsgRes.done _ => hq; have hz := congrArg (keptMsg (kept s)) hq; clear hq))
  all_goals (repeat (rename _ = MsgRes.hold _ _ => hq; have hz := congrArg (keptMsg (kept s)) hq; clear hq))
  all_goals simp_all
@[simp] theorem execGatedDelivery_kept (c : Nat) (s : State) {kk} (hk : kept s = kk) : outKept kk (execGatedDelivery c s) := by
  subst hk
  unfold execGatedDelivery; simp [*]; done
@[simp] theorem spadUncorrectable_kept (s : State) (c b : Nat) (r : SpadReq) : kept (spadUncorrectable s c b r) = kept s := by
  unfold spadUncorrectable; simp [*]; done
@[simp] theorem grantStep_kept (s : State) (c b : Nat) (ecc : Ecc) (r : SpadReq) : kept (grantStep s c b ecc r) = kept s := by
  unfold grantStep; simp [*]; done
@[simp] theorem execScratchpadGrant_kept (c b : Nat) (ecc : Ecc) (s : State) {kk} (hk : kept s = kk) : outKept kk (execScratchpadGrant c b ecc s) := by
  subst hk
  (unfold execScratchpadGrant; simp [*]) <;> intros <;> (repeat' split) <;> (simp [*]; done)
@[simp] theorem execExternalWrite_kept (c b : Nat) (s : State) {kk} (hk : kept s = kk) : outKept kk (execExternalWrite c b s) := by
  subst hk
  unfold execExternalWrite; simp [*]; done
@[simp] theorem execSramWriteback_kept (c b : Nat) (s : State) {kk} (hk : kept s = kk) : outKept kk (execSramWriteback c b s) := by
  subst hk
  unfold execSramWriteback; simp [*]; done
@[simp] theorem execPostedPerformed_kept (c : Nat) (issue : W64) (s : State) {kk} (hk : kept s = kk) : outKept kk (execPostedPerformed c issue s) := by
  subst hk
  (unfold execPostedPerformed; simp [*]) <;> intros <;> (repeat' split) <;> (simp [*]; done)
@[simp] theorem engineEvent_kept (s : State) (c e : Nat) (due : Core → Engine → Bool) (f : Core → Engine → Core) {kk} (hk : kept s = kk) : outKept kk (engineEvent s c e due f) := by
  subst hk
  unfold engineEvent; simp [*]; done
@[simp] theorem execMmaDispatch_kept (c e : Nat) (s : State) {kk} (hk : kept s = kk) : outKept kk (execMmaDispatch c e s) := by
  subst hk
  unfold execMmaDispatch; simp [*]; done
@[simp] theorem execFeederFetch_kept (c e : Nat) (s : State) {kk} (hk : kept s = kk) : outKept kk (execFeederFetch c e s) := by
  subst hk
  unfold execFeederFetch; simp [*]; done
@[simp] theorem execArrayStep_kept (c e : Nat) (s : State) {kk} (hk : kept s = kk) : outKept kk (execArrayStep c e s) := by
  subst hk
  unfold execArrayStep; simp [*]; done
@[simp] theorem execSpillRetire_kept (c e : Nat) (s : State) {kk} (hk : kept s = kk) : outKept kk (execSpillRetire c e s) := by
  subst hk
  unfold execSpillRetire; simp [*]; done
@[simp] theorem execWflushDispatch_kept (c e : Nat) (s : State) {kk} (hk : kept s = kk) : outKept kk (execWflushDispatch c e s) := by
  subst hk
  unfold execWflushDispatch; simp [*]; done
@[simp] theorem execRstoreDispatch_kept (c e : Nat) (s : State) {kk} (hk : kept s = kk) : outKept kk (execRstoreDispatch c e s) := by
  subst hk
  unfold execRstoreDispatch; simp [*]; done
@[simp] theorem execXstoreDispatch_kept (c e : Nat) (s : State) {kk} (hk : kept s = kk) : outKept kk (execXstoreDispatch c e s) := by
  subst hk
  unfold execXstoreDispatch; simp [*]; done
@[simp] theorem execEngineOpDispatch_kept (c e : Nat) (s : State) {kk} (hk : kept s = kk) : outKept kk (execEngineOpDispatch c e s) := by
  subst hk
  unfold execEngineOpDispatch; simp [*]; done
@[simp] theorem execResultWordWrite_kept (c b : Nat) (s : State) {kk} (hk : kept s = kk) : outKept kk (execResultWordWrite c b s) := by
  subst hk
  unfold execResultWordWrite; simp [*]; done
@[simp] theorem execLogicalCoreEnd_kept (c : Nat) (s : State) {kk} (hk : kept s = kk) : outKept kk (execLogicalCoreEnd c s) := by
  subst hk
  unfold execLogicalCoreEnd; simp [*]; done

/-! ### Machine/Dma.lean -/

@[simp] theorem modDma_kept (s : State) (i : Nat) (f : DmaEng → DmaEng) : kept (modDma s i f) = kept s := by
  unfold modDma; simp [*]; done
@[simp] theorem crcItem_kept (s : State) (x : Xfer) (bs : List Byte) : kept (crcItem s x bs) = kept s := by
  unfold crcItem
  (repeat' split) <;> first | (simp [*]; done) | (simp (disch := first | (intros <;> (try dsimp only) <;> (repeat' split) <;> simp [*]) | fail) [*]; done)
@[simp] theorem xferFault_kept (s : State) (i : Nat) (x : Xfer) (tag : Nat) : kept (xferFault s i x tag) = kept s := by
  (unfold xferFault; simp [*]) <;> intros <;> (repeat' split) <;> (simp [*]; done)
@[simp] theorem dmaUnit_kept (s : State) (i : Nat) (x : Xfer) (hit hostErr : Bool) : kept (dmaUnit s i x hit hostErr) = kept s := by
  unfold dmaUnit
  try dsimp only
  (repeat' split) <;> (try (simp [*]; done))
  all_goals (repeat (rename @Eq (State × _) _ (_, _) => hq; have hz := congrArg (fun p => kept p.1) hq; clear hq))
  all_goals (repeat (rename _ = AgentRes.ok _ _ _ => hq; have hz := congrArg (keptRes (kept s)) hq; clear hq))
  all_goals (repeat (rename _ = AgentRes.fault _ _ => hq; have hz := congrArg (keptRes (kept s)) hq; clear hq))
  all_goals (repeat (rename _ = AgentRes.refused _ => hq; have hz := congrArg (keptRes (kept s)) hq; clear hq))
  all_goals (repeat (rename _ = @some State _ => hq; have hz := congrArg (keptOpt (kept s)) hq; clear hq))
  all_goals (repeat (rename _ = @some (State × Bool) (_, _) => hq; have hz := congrArg (keptOptB (kept s)) hq; clear hq))
  all_goals (repeat (rename _ = MsgRes.done _ => hq; have hz := congrArg (keptMsg (kept s)) hq; clear hq))
  all_goals (repeat (rename _ = MsgRes.hold _ _ => hq; have hz := congrArg (keptMsg (kept s)) hq; clear hq))
  all_goals simp_all
@[simp] theorem execDmaUnitWrite_kept (i : Nat) (hit hostErr : Bool) (s : State) {kk} (hk : kept s = kk) : outKept kk (execDmaUnitWrite i hit hostErr s) := by
  subst hk
  (unfold execDmaUnitWrite; simp [*]) <;> intros <;> (repeat' split) <;> (simp [*]; done)
@[simp] theorem twFail_kept (s : State) (code : Nat) : kept (twFail s code) = kept s := by
  unfold twFail; simp [*]; done
@[simp] theorem execMmuTwGo_kept (v : W32) (s : State) {kk} (hk : kept s = kk) : outKept kk (execMmuTwGo v s) := by
  subst hk
  (unfold execMmuTwGo; simp [*]) <;> intros <;> (repeat' split) <;> (simp [*]; done)
@[simp] theorem twWrite_kept (s : State) (dst : Nat) (es : List W64) : kept (twWrite s dst es).1 = kept s := by
  induction es generalizing s dst with
  | nil => rfl
  | cons e es ih => unfold twWrite; (repeat' split) <;> (simp [ih]; done)
@[simp] theorem dropTrans_kept (s : State) (sg : Nat) : kept (dropTrans s sg) = kept s := by
  unfold dropTrans; simp [*]; done
@[simp] theorem execTableWriterDone_kept (readOk : Bool) (s : State) {kk} (hk : kept s = kk) : outKept kk (execTableWriterDone readOk s) := by
  subst hk
  (unfold execTableWriterDone; simp [*]) <;> intros <;> (repeat' split) <;> (simp [*]; done)

end Sys2Proof.Machine
end

