-- ==== Sys2Proof/Laws/KeptStreams.lean ====
section
/-! SUPPORT. Laws/KeptStreams.lean: what streams, items, replay, snuffs, resets and mailboxes leave alone. `kept` (Safety.lean) is the queue of waiting commands and the identity
registers; `f_kept` says that f leaves them as they were. A lemma about a command has the form outKept; some suppose that no identity
register is listed away from its fuse. -/

set_option linter.all false

namespace Sys2Proof.Machine

/-! ### Machine/Streams.lean -/

@[simp] theorem modFn_kept (s : State) (f : Nat) (g : Func → Func) : kept (modFn s f g) = kept s := by
  unfold modFn; simp [*]; done
@[simp] theorem modVec_kept (s : State) (f v : Nat) (g : Vec → Vec) : kept (modVec s f v g) = kept s := by
  unfold modVec; simp [*]; done
@[simp] theorem setStState_kept (s : State) (n x : Nat) : kept (setStState s n x) = kept s := by
  unfold setStState; simp [*]; done
@[simp] theorem setStSeq_kept (s : State) (n seq : Nat) : kept (setStSeq s n seq) = kept s := by
  unfold setStSeq; simp [*]; done
@[simp] theorem setInflight_kept (s : State) (n x : Nat) : kept (setInflight s n x) = kept s := by
  unfold setInflight; simp [*]; done
@[simp] theorem haltStrm_kept (s : State) (n code : Nat) : kept (haltStrm s n code) = kept s := by
  unfold haltStrm; simp [*]; done
@[simp] theorem setLdone_kept (s : State) (n seq : Nat) : kept (setLdone s n seq) = kept s := by
  unfold setLdone; simp [*]; done
@[simp] theorem modJnl_kept (s : State) (f : Journal → Journal) : kept (modJnl s f) = kept s := by
  unfold modJnl; simp [*]; done
@[simp] theorem putRec_kept (s : State) (r : JRec) : kept (putRec s r) = kept s := by
  unfold putRec; simp [*]; done
@[simp] theorem retireRec_kept (s : State) (n seq : Nat) : kept (retireRec s n seq) = kept s := by
  unfold retireRec
  (repeat' split) <;> first | (simp [*]; done) | (simp (disch := first | (intros <;> (try dsimp only) <;> (repeat' split) <;> simp [*]) | fail) [*]; done)
@[simp] theorem putDone_kept (s : State) (n : Nat) (c : Cpl) : kept (putDone s n c) = kept s := by
  unfold putDone; simp [*]; done
@[simp] theorem retireDones_kept (s : State) (n : Nat) : kept (retireDones s n) = kept s := by
  unfold retireDones; simp [*]; done
@[simp] theorem modJStrm_kept (s : State) (n : Nat) (f : JStream → JStream) : kept (modJStrm s n f) = kept s := by
  unfold modJStrm; simp [*]; done
@[simp] theorem spareMove_kept (s : State) (blk : Nat) : kept (spareMove s blk) = kept s := by
  unfold spareMove; simp [*]; done
@[simp] theorem setPstate_kept (s : State) (x : Nat) : kept (setPstate s x) = kept s := by
  unfold setPstate; simp [*]; done
@[simp] theorem jrnlCell_kept (s : State) (words : List Nat) : kept (jrnlCell s words) = kept s := by
  unfold jrnlCell; simp [*]; done
@[simp] theorem jrnlSend_kept (s : State) (hold : Bool) (kind : Nat) (bs : List Byte) : kept (jrnlSend s hold kind bs) = kept s := by
  unfold jrnlSend; simp [*]; done
@[simp] theorem sendState_kept (s : State) (n : Nat) : kept (sendState s n) = kept s := by
  unfold sendState; simp [*]; done
@[simp] theorem deferFn_kept (s : State) (f : Nat) (fld : Fld) : kept (deferFn s f fld) = kept s := by
  unfold deferFn; simp [*]; done
@[simp] theorem sendMsix_kept (s : State) (f v : Nat) : kept (sendMsix s f v) = kept s := by
  unfold sendMsix; simp [*]; done
@[simp] theorem requestIrq_kept (s : State) (f v : Nat) : kept (requestIrq s f v) = kept s := by
  (unfold requestIrq; simp [*]) <;> intros <;> (repeat' split) <;> (simp [*]; done)
@[simp] theorem strmIrq_kept (s : State) (n : Nat) : kept (strmIrq s n) = kept s := by
  unfold strmIrq
  (repeat' split) <;> first | (simp [*]; done) | (simp (disch := first | (intros <;> (try dsimp only) <;> (repeat' split) <;> simp [*]) | fail) [*]; done)
@[simp] theorem countCpl_kept (s : State) (n : Nat) : kept (countCpl s n) = kept s := by
  unfold countCpl; simp [*]; done
@[simp] theorem writeCpl_kept (s : State) (n f : Nat) (c : Cpl) (counted : Bool) : kept (writeCpl s n f c counted) = kept s := by
  unfold writeCpl; simp [*]; done
@[simp] theorem flushPostsFrom_kept (n f : Nat) (m : Nat) (s : State) : kept (flushPostsFrom n f m s) = kept s := by
  induction m generalizing s with
  | zero => rfl
  | succ m ih => unfold flushPostsFrom; (repeat' split) <;> first | (simp [ih]; done) | (dsimp only; (repeat' split) <;> (simp [ih]; done))
@[simp] theorem flushPosts_kept (s : State) (n : Nat) : kept (flushPosts s n) = kept s := by
  unfold flushPosts
  (repeat' split) <;> first | (simp [*]; done) | (simp (disch := first | (intros <;> (try dsimp only) <;> (repeat' split) <;> simp [*]) | fail) [*]; done)
@[simp] theorem postCpl_kept (s : State) (n : Nat) (c : Cpl) (counted : Bool) : kept (postCpl s n c counted) = kept s := by
  unfold postCpl; simp [*]; done
@[simp] theorem releaseFn_kept (s : State) (f : Nat) : kept (releaseFn s f) = kept s := by
  unfold releaseFn; simp [*]; done
@[simp] theorem flushEnd_kept (s : State) (n : Nat) : kept (flushEnd s n) = kept s := by
  unfold flushEnd; simp [*]; done
@[simp] theorem flushTaken_kept (s : State) (n : Nat) : kept (flushTaken s n) = kept s := by
  unfold flushTaken; simp [*]; done
@[simp] theorem dbErr_kept (s : State) (n : Nat) : kept (dbErr s n) = kept s := by
  unfold dbErr; simp [*]; done
@[simp] theorem execDbSqTail_kept (n : Nat) (v : W32) (s : State) {kk} (hk : kept s = kk) : outKept kk (execDbSqTail n v s) := by
  subst hk
  (unfold execDbSqTail; simp [*]) <;> intros <;> (repeat' split) <;> (simp [*]; done)
@[simp] theorem execDbCqHead_kept (n : Nat) (v : W32) (s : State) {kk} (hk : kept s = kk) : outKept kk (execDbCqHead n v s) := by
  subst hk
  (unfold execDbCqHead; simp [*]) <;> intros <;> (repeat' split) <;> (simp [*]; done)
@[simp] theorem startStrm_kept (s : State) (n : Nat) : kept (startStrm s n) = kept s := by
  unfold startStrm; simp [*]; done
@[simp] theorem execStmEnSet_kept (n : Nat) (s : State) {kk} (hk : kept s = kk) : outKept kk (execStmEnSet n s) := by
  subst hk
  (unfold execStmEnSet; simp [*]) <;> intros <;> (repeat' split) <;> (simp [*]; done)
@[simp] theorem execStmEnClear_kept (n : Nat) (s : State) {kk} (hk : kept s = kk) : outKept kk (execStmEnClear n s) := by
  subst hk
  unfold execStmEnClear; simp [*]; done
@[simp] theorem execStmFlush_kept (n : Nat) (s : State) {kk} (hk : kept s = kk) : outKept kk (execStmFlush n s) := by
  subst hk
  (unfold execStmFlush; simp [*]) <;> intros <;> (repeat' split) <;> (simp [*]; done)
@[simp] theorem execStmResume_kept (n : Nat) (s : State) {kk} (hk : kept s = kk) : outKept kk (execStmResume n s) := by
  subst hk
  unfold execStmResume; simp [*]; done
@[simp] theorem execStmSeqWrite_kept (n : Nat) (seq : BitVec 48) (s : State) {kk} (hk : kept s = kk) : outKept kk (execStmSeqWrite n seq s) := by
  subst hk
  unfold execStmSeqWrite; simp [*]; done
@[simp] theorem execTntFnStrmWrite_kept (f : Nat) (v : W32) (s : State) {kk} (hk : kept s = kk) : outKept kk (execTntFnStrmWrite f v s) := by
  subst hk
  (unfold execTntFnStrmWrite; simp [*]) <;> intros <;> (repeat' split) <;> (simp [*]; done)
@[simp] theorem execTntFnPortWrite_kept (f : Nat) (v : W32) (s : State) {kk} (hk : kept s = kk) : outKept kk (execTntFnPortWrite f v s) := by
  subst hk
  (unfold execTntFnPortWrite; simp [*]) <;> intros <;> (repeat' split) <;> (simp [*]; done)
@[simp] theorem execCoalesceTimeout_kept (n : Nat) (s : State) {kk} (hk : kept s = kk) : outKept kk (execCoalesceTimeout n s) := by
  subst hk
  (unfold execCoalesceTimeout; simp [*]) <;> intros <;> (repeat' split) <;> (simp [*]; done)
@[simp] theorem execMsixMergedSend_kept (f v : Nat) (s : State) {kk} (hk : kept s = kk) : outKept kk (execMsixMergedSend f v s) := by
  subst hk
  (unfold execMsixMergedSend; simp [*]) <;> intros <;> (repeat' split) <;> (simp [*]; done)
@[simp] theorem execBudgetWindow_kept (f : Nat) (s : State) {kk} (hk : kept s = kk) : outKept kk (execBudgetWindow f s) := by
  subst hk
  unfold execBudgetWindow; simp [*]; done
@[simp] theorem setPort_kept (s : State) (hp1 up : Bool) : kept (setPort s hp1 up) = kept s := by
  unfold setPort; simp [*]; done
@[simp] theorem execHostPortLinkDown_kept (hp1 : Bool) (s : State) {kk} (hk : kept s = kk) : outKept kk (execHostPortLinkDown hp1 s) := by
  subst hk
  unfold execHostPortLinkDown; simp [*]; done
@[simp] theorem execHostPortLinkUp_kept (hp1 : Bool) (s : State) {kk} (hk : kept s = kk) : outKept kk (execHostPortLinkUp hp1 s) := by
  subst hk
  (unfold execHostPortLinkUp; simp [*]) <;> intros <;> (repeat' split) <;> (simp [*]; done)

/-! ### Machine/Fetch.lean -/

@[simp] theorem advanceSq_kept (s : State) (n : Nat) : kept (advanceSq s n) = kept s := by
  unfold advanceSq; simp [*]; done
@[simp] theorem lapEnd_kept (s : State) (n : Nat) : kept (lapEnd s n) = kept s := by
  unfold lapEnd
  (repeat' split) <;> first | (simp [*]; done) | (simp (disch := first | (intros <;> (try dsimp only) <;> (repeat' split) <;> simp [*]) | fail) [*]; done)
@[simp] theorem rejectDesc_kept (s : State) (n seq code detail : Nat) : kept (rejectDesc s n seq code detail) = kept s := by
  unfold rejectDesc; simp [*]; done
@[simp] theorem takeDesc_kept (s : State) (n : Nat) (bs : List Byte) (badList : Option Nat) : kept (takeDesc s n bs badList) = kept s := by
  (unfold takeDesc; simp [*]) <;> intros <;> (repeat' split) <;> (simp [*]; done)
@[simp] theorem execDescriptorFetch_kept (n : Nat) (hostErr : Bool) (badList : Option Nat) (s : State) {kk} (hk : kept s = kk) : outKept kk (execDescriptorFetch n hostErr badList s) := by
  subst hk
  (unfold execDescriptorFetch; simp [*]) <;> intros <;> (repeat' split) <;> (simp [*]; done)
@[simp] theorem execPhaseRecheck_kept (n : Nat) (s : State) {kk} (hk : kept s = kk) : outKept kk (execPhaseRecheck n s) := by
  subst hk
  unfold execPhaseRecheck; simp [*]; done
@[simp] theorem logItem_kept (s : State) (sg : Nat) (l : List (Nat × List Byte)) : kept (logItem s sg l) = kept s := by
  unfold logItem; simp [*]; done
@[simp] theorem acceptItem_kept (s : State) (n : Nat) (r : JRec) (bs : List Byte) : kept (acceptItem s n r bs) = kept s := by
  (unfold acceptItem; simp [*]) <;> intros <;> (repeat' split) <;> (simp [*]; done)
@[simp] theorem commitRec_kept (s : State) (r : JRec) : kept (commitRec s r) = kept s := by
  unfold commitRec; simp [*]; done
@[simp] theorem notePeak_kept (s : State) (off : Nat) (f : Fld) (x : Nat) (h : 0x10000 ≤ off) : kept (notePeak s off f x) = kept s := by
  unfold notePeak; simp [*]
@[simp] theorem writeRec_kept (s : State) (r : JRec) (bad : Nat) : kept (writeRec s r bad) = kept s := by
  unfold writeRec; simp [*]; done
@[simp] theorem sendAck_kept (s : State) (n seq kind status digest : Nat) : kept (sendAck s n seq kind status digest) = kept s := by
  unfold sendAck; simp [*]; done
@[simp] theorem rewindSq_kept (s : State) (n k : Nat) : kept (rewindSq s n k) = kept s := by
  unfold rewindSq; simp [*]; done
@[simp] theorem twinDiff_kept (s : State) (n seq : Nat) : kept (twinDiff s n seq) = kept s := by
  unfold twinDiff; simp [*]; done
@[simp] theorem noteAnswer_kept (s : State) (n seq : Nat) (ok : Bool) : kept (noteAnswer s n seq ok) = kept s := by
  unfold noteAnswer; simp [*]; done
@[simp] theorem dualCompare_kept (s : State) (n : Nat) : kept (dualCompare s n) = kept s := by
  (unfold dualCompare; simp [*]) <;> intros <;> (repeat' split) <;> (simp [*]; done)
@[simp] theorem peerFollows_kept (s : State) (n : Nat) : kept (peerFollows s n) = kept s := by
  unfold peerFollows; simp [*]; done
@[simp] theorem settleOne_kept (s : State) (n : Nat) : kept (settleOne s n) = kept s := by
  (unfold settleOne; simp [*]) <;> intros <;> (repeat' split) <;> (simp [*]; done)
@[simp] theorem settle_kept (s : State) (n : Nat) : kept (settle s n) = kept s := by
  unfold settle; simp [*]; done
@[simp] theorem execAcceptCommit_kept (n bad lat : Nat) (s : State) {kk} (hk : kept s = kk) : outKept kk (execAcceptCommit n bad lat s) := by
  subst hk
  (unfold execAcceptCommit; simp [*]) <;> intros <;> (repeat' split) <;> (simp [*]; done)

/-! ### Machine/Discard.lean -/

@[simp] theorem detachAccs_kept (s : State) (c : Nat) (posted : Bool) : kept (detachAccs s c posted) = kept s := by
  unfold detachAccs; simp [*]; done
@[simp] theorem dropXfers_kept (s : State) (f : Xfer → Bool) : kept (dropXfers s f) = kept s := by
  unfold dropXfers; simp [*]; done
@[simp] theorem dropNiCore_kept (s : State) (c : Nat) : kept (dropNiCore s c) = kept s := by
  unfold dropNiCore; simp [*]; done
@[simp] theorem dropSyncCore_kept (s : State) (c : Nat) : kept (dropSyncCore s c) = kept s := by
  unfold dropSyncCore; simp [*]; done
@[simp] theorem dropCollCore_kept (s : State) (c : Nat) : kept (dropCollCore s c) = kept s := by
  unfold dropCollCore; simp [*]; done
@[simp] theorem dropCtx_kept (s : State) (c : Nat) (posted : Bool) : kept (dropCtx s c posted) = kept s := by
  unfold dropCtx; simp [*]; done
@[simp] theorem dropItemCores_kept (s : State) (n : Nat) (posted : Bool) : kept (dropItemCores s n posted) = kept s := by
  unfold dropItemCores; simp [*]; done

/-! ### Machine/Items.lean -/

@[simp] theorem finishItem_kept (s : State) (n status detail : Nat) : kept (finishItem s n status detail) = kept s := by
  unfold finishItem; simp [*]; done
@[simp] theorem modRun_kept (s : State) (n : Nat) (f : RunSt → RunSt) : kept (modRun s n f) = kept s := by
  unfold modRun; simp [*]; done
@[simp] theorem queuePiece_kept (s : State) (n sg : Nat) (p : Piece) : kept (queuePiece s n sg p) = kept s := by
  unfold queuePiece; simp [*]; done
@[simp] theorem startCores_kept (s : State) (n : Nat) : kept (startCores s n) = kept s := by
  unfold startCores; simp [*]; done
@[simp] theorem phaseEnd_kept (s : State) (n sg : Nat) (r : RunSt) : kept (phaseEnd s n sg r) = kept s := by
  unfold phaseEnd
  (repeat' split) <;> first | (simp [*]; done) | (simp (disch := first | (intros <;> (try dsimp only) <;> (repeat' split) <;> simp [*]) | fail) [*]; done)
@[simp] theorem itemNext_kept (n sg : Nat) (m : Nat) (s : State) : kept (itemNext n sg m s) = kept s := by
  induction m generalizing s with
  | zero => rfl
  | succ m ih => unfold itemNext; (repeat' split) <;> first | (simp [ih]; done) | (dsimp only; (repeat' split) <;> (simp [ih]; done))
@[simp] theorem itemXferDone_kept (s : State) (n sg entry : Nat) (st : XferState) : kept (itemXferDone s n sg entry st) = kept s := by
  (unfold itemXferDone; simp [*]) <;> intros <;> (repeat' split) <;> (simp [*]; done)
@[simp] theorem execDmaTransferComplete_kept (i : Nat) (s : State) {kk} (hk : kept s = kk) : outKept kk (execDmaTransferComplete i s) := by
  subst hk
  (unfold execDmaTransferComplete; simp [*]) <;> intros <;> (repeat' split) <;> (simp [*]; done)
@[simp] theorem clusterConsts_kept (s : State) (sg : Nat) (img : Image) : kept (clusterConsts s sg img) = kept s := by
  unfold clusterConsts
  (repeat' split) <;> first | (simp [*]; done) | (simp (disch := first | (intros <;> (try dsimp only) <;> (repeat' split) <;> simp [*]) | fail) [*]; done)
@[simp] theorem installSlots_kept (s : State) (n : Nat) (img : Image) : kept (installSlots s n img) = kept s := by
  unfold installSlots; simp [*]; done
@[simp] theorem beginItem_kept (s : State) (n : Nat) (r : RunSt) : kept (beginItem s n r) = kept s := by
  unfold beginItem; simp [*]; done
@[simp] theorem markRun_kept (s : State) (n seq : Nat) : kept (markRun s n seq) = kept s := by
  unfold markRun
  (repeat' split) <;> first | (simp [*]; done) | (simp (disch := first | (intros <;> (try dsimp only) <;> (repeat' split) <;> simp [*]) | fail) [*]; done)
@[simp] theorem bindFence_kept (s : State) (sg : Nat) (img : Image) : kept (bindFence s sg img) = kept s := by
  (unfold bindFence; simp [*]) <;> intros <;> (repeat' split) <;> (simp [*]; done)
@[simp] theorem startRun_kept (s : State) (n : Nat) (r : RunSt) (seed : W64) (w : Walked) (hin hout : HostSide) : kept (startRun s n r seed w hin hout) = kept s := by
  (unfold startRun; simp [*]) <;> intros <;> (repeat' split) <;> (simp [*]; done)
@[simp] theorem startLoad_kept (s : State) (n : Nat) (r : RunSt) (w : Walked) (hin : HostSide) : kept (startLoad s n r w hin) = kept s := by
  (unfold startLoad; simp [*]) <;> intros <;> (repeat' split) <;> (simp [*]; done)
@[simp] theorem execNopItem_kept (n : Nat) (s : State) {kk} (hk : kept s = kk) : outKept kk (execNopItem n s) := by
  subst hk
  unfold execNopItem
  (repeat' split) <;> first | (simp [*]; done) | (simp (disch := first | (intros <;> (try dsimp only) <;> (repeat' split) <;> simp [*]) | fail) [*]; done)
@[simp] theorem execRunItem_kept (n : Nat) (badList : Option Nat) (s : State) {kk} (hk : kept s = kk) : outKept kk (execRunItem n badList s) := by
  subst hk
  unfold execRunItem
  (repeat' split) <;> first | (simp [*]; done) | (simp (disch := first | (intros <;> (try dsimp only) <;> (repeat' split) <;> simp [*]) | fail) [*]; done)
@[simp] theorem execLoadItem_kept (n : Nat) (badList : Option Nat) (s : State) {kk} (hk : kept s = kk) : outKept kk (execLoadItem n badList s) := by
  subst hk
  unfold execLoadItem
  (repeat' split) <;> first | (simp [*]; done) | (simp (disch := first | (intros <;> (try dsimp only) <;> (repeat' split) <;> simp [*]) | fail) [*]; done)
@[simp] theorem startUnload_kept (s : State) (n : Nat) (r : RunSt) : kept (startUnload s n r) = kept s := by
  unfold startUnload; simp [*]; done
@[simp] theorem execUnloadItem_kept (n : Nat) (s : State) {kk} (hk : kept s = kk) : outKept kk (execUnloadItem n s) := by
  subst hk
  unfold execUnloadItem
  (repeat' split) <;> first | (simp [*]; done) | (simp (disch := first | (intros <;> (try dsimp only) <;> (repeat' split) <;> simp [*]) | fail) [*]; done)
@[simp] theorem execItemCoresEnded_kept (n : Nat) (s : State) {kk} (hk : kept s = kk) : outKept kk (execItemCoresEnded n s) := by
  subst hk
  (unfold execItemCoresEnded; simp [*]) <;> intros <;> (repeat' split) <;> (simp [*]; done)
@[simp] theorem execStepLimitReached_kept (n : Nat) (s : State) {kk} (hk : kept s = kk) : outKept kk (execStepLimitReached n s) := by
  subst hk
  unfold execStepLimitReached
  (repeat' split) <;> first | (simp [*]; done) | (simp (disch := first | (intros <;> (try dsimp only) <;> (repeat' split) <;> simp [*]) | fail) [*]; done)
@[simp] theorem closeLog_kept (s : State) (sg : Nat) : kept (closeLog s sg) = kept s := by
  unfold closeLog; simp [*]; done
@[simp] theorem noteDiverge_kept (s : State) (n seq : Nat) : kept (noteDiverge s n seq) = kept s := by
  unfold noteDiverge; simp [*]; done
@[simp] theorem commitDone_kept (s : State) (n : Nat) (r : RunSt) (logged : Bool) : kept (commitDone s n r logged) = kept s := by
  unfold commitDone; simp [*]; done
@[simp] theorem execDoneCommit_kept (n : Nat) (s : State) {kk} (hk : kept s = kk) : outKept kk (execDoneCommit n s) := by
  subst hk
  (unfold execDoneCommit; simp [*]) <;> intros <;> (repeat' split) <;> (simp [*]; done)

/-! ### Machine/Replay.lean -/

@[simp] theorem execDetCtlLockWrite_kept (v : W32) (s : State) {kk} (hk : kept s = kk) : outKept kk (execDetCtlLockWrite v s) := by
  subst hk
  (unfold execDetCtlLockWrite; simp [*]) <;> intros <;> (repeat' split) <;> (simp [*]; done)
@[simp] theorem openLog_kept (s : State) (sg : Nat) (data : Bool) : kept (openLog s sg data) = kept s := by
  unfold openLog; simp [*]; done
@[simp] theorem execDetLogCfgWrite_kept (sg : Nat) (v : W32) (s : State) {kk} (hk : kept s = kk) : outKept kk (execDetLogCfgWrite sg v s) := by
  subst hk
  (unfold execDetLogCfgWrite; simp [*]) <;> intros <;> (repeat' split) <;> (simp [*]; done)
@[simp] theorem execDetLogHeadWrite_kept (sg : Nat) (v : W32) (s : State) {kk} (hk : kept s = kk) : outKept kk (execDetLogHeadWrite sg v s) := by
  subst hk
  (unfold execDetLogHeadWrite; simp [*]) <;> intros <;> (repeat' split) <;> (simp [*]; done)
@[simp] theorem ringPut_kept (s : State) (sg ty : Nat) (body : List Byte) : kept (ringPut s sg ty body) = kept s := by
  unfold ringPut; simp [*]; done
@[simp] theorem execLogTailAdvance_kept (sg : Nat) (hostErr : Bool) (s : State) {kk} (hk : kept s = kk) : outKept kk (execLogTailAdvance sg hostErr s) := by
  subst hk
  (unfold execLogTailAdvance; simp [*]) <;> intros <;> (repeat' split) <;> (simp [*]; done)
@[simp] theorem modRpl_kept (s : State) (f : Replay → Replay) : kept (modRpl s f) = kept s := by
  unfold modRpl; simp [*]; done
@[simp] theorem setRplState_kept (s : State) (st code : Nat) : kept (setRplState s st code) = kept s := by
  unfold setRplState; simp [*]; done
@[simp] theorem armStop_kept (s : State) (x : Option (Nat × Option Nat × W64 × W64 × Nat)) : kept (armStop s x) = kept s := by
  unfold armStop; simp [*]; done
@[simp] theorem execDetRplGo_kept (v : W32) (s : State) {kk} (hk : kept s = kk) : outKept kk (execDetRplGo v s) := by
  subst hk
  (unfold execDetRplGo; simp [*]) <;> intros <;> (repeat' split) <;> (simp [*]; done)
@[simp] theorem replayStart_kept (s : State) (r : LogRec) : kept (replayStart s r) = kept s := by
  (unfold replayStart; simp [*]) <;> intros <;> (repeat' split) <;> (simp [*]; done)
@[simp] theorem replayEnd_kept (s : State) (run : RunSt) : kept (replayEnd s run) = kept s := by
  (unfold replayEnd; simp [*]) <;> intros <;> (repeat' split) <;> (simp [*]; done)
@[simp] theorem replayAdvance_kept  (m : Nat) (s : State) : kept (replayAdvance  m s) = kept s := by
  induction m generalizing s with
  | zero => rfl
  | succ m ih => unfold replayAdvance; (repeat' split) <;> first | (simp [ih]; done) | (dsimp only; (repeat' split) <;> (simp [ih]; done))
@[simp] theorem execReplayItem_kept (hostErr : Bool) (s : State) {kk} (hk : kept s = kk) : outKept kk (execReplayItem hostErr s) := by
  subst hk
  (unfold execReplayItem; simp [*]) <;> intros <;> (repeat' split) <;> (simp [*]; done)
@[simp] theorem execStopPointReached_kept (hit hostErr : Bool) (s : State) {kk} (hk : kept s = kk) : outKept kk (execStopPointReached hit hostErr s) := by
  subst hk
  unfold execStopPointReached
  try dsimp only
  (repeat' split) <;> (try (simp [*]; done))
  all_goals (repeat (rename @Eq (State × _) _ (_, _) => hq; have hz := congrArg (fun p => kept p.1) hq; clear hq))
  all_goals (repeat (rename _ = AgentRes.ok _ _ _ => hq; have hz := congrArg (keptRes (kept s)) hq; clear hq))
  all_goals (repeat (rename _ = AgentRes.fault _ _ => hq; have hz := congrArg (keptRes (kept s)) hq; clear hq))
  all_goals (repeat (rename _ = AgentRes.refused _ => hq; have hz := congrArg (keptRes (kept s)) hq; clear hq))
  all_goals (repeat (rename _ = @some State _ => hq; have hz := congrArg (keptOpt (kept s)) hq; clear hq))
  all_goals (repeat (rename _ = @some (State × Bool) (_, _) => hq; have hz := congrArg (keptOptB (kept s)) hq; clear hq))
  all_goals (repeat (rename _ = MsgRes.done _ => hq; have hz := congrArg (keptMsg (kept s)) hq; clear hq))
  all_goals (repeat (rename _ = MsgRes.hold _ _ => hq; have hz := congrArg (keptMsg (kept s)) hq; clear hq))
  all_goals simp_all

/-! ### Machine/Snuff.lean -/

@[simp] theorem classSherd_kept (s : State) (c cls src : Nat) (k : Core) (x : Classify) : kept (classSherd s c cls src k x) = kept s := by
  unfold classSherd; simp [*]; done
@[simp] theorem abandonClass_kept (s : State) (c : Nat) : kept (abandonClass s c) = kept s := by
  (unfold abandonClass; simp [*]) <;> intros <;> (repeat' split) <;> (simp [*]; done)
@[simp] theorem wheelForget_kept (s : State) (w slice port : Nat) : kept (wheelForget s w slice port) = kept s := by
  unfold wheelForget; simp [*]; done
@[simp] theorem sliceForget_kept (s : State) (slice : Nat) : kept (sliceForget s slice) = kept s := by
  unfold sliceForget; simp [*]; done
@[simp] theorem dropFaults_kept (s : State) (sg : Nat) : kept (dropFaults s sg) = kept s := by
  unfold dropFaults; simp [*]; done
@[simp] theorem scrubClusters_kept (s : State) (sg : Nat) : kept (scrubClusters s sg) = kept s := by
  unfold scrubClusters; simp [*]; done
@[simp] theorem logRerun_kept (s : State) (sg n seq reason : Nat) : kept (logRerun s sg n seq reason) = kept s := by
  unfold logRerun; simp [*]; done
@[simp] theorem hangEnds_kept (s : State) (n : Nat) (r : RunSt) (st : Nat) : kept (hangEnds s n r st) = kept s := by
  unfold hangEnds; simp [*]; done
@[simp] theorem rerunItem_kept (s : State) (n reason st : Nat) : kept (rerunItem s n reason st) = kept s := by
  (unfold rerunItem; simp [*]) <;> intros <;> (repeat' split) <;> (simp [*]; done)
@[simp] theorem snuffSg_kept (reason : Nat) (s : State) (sg : Nat) : kept (snuffSg reason s sg) = kept s := by
  unfold snuffSg; simp [*]; done
@[simp] theorem snuffApply_kept (s : State) (job reason : Nat) : kept (snuffApply s job reason) = kept s := by
  unfold snuffApply; simp [*]; done
@[simp] theorem sendSnuff_kept (s : State) (slice reason : Nat) : kept (sendSnuff s slice reason) = kept s := by
  unfold sendSnuff; simp [*]; done
@[simp] theorem snuffJob_kept (s : State) (job reason : Nat) : kept (snuffJob s job reason) = kept s := by
  unfold snuffJob; simp [*]; done
@[simp] theorem beginWatch_kept (s : State) (ep : Nat) : kept (beginWatch s ep) = kept s := by
  unfold beginWatch; simp [*]; done
@[simp] theorem addAct_kept (s : State) (a : RstAct) : kept (addAct s a) = kept s := by
  unfold addAct; simp [*]; done
@[simp] theorem dropAct_kept (s : State) (a : RstAct) : kept (dropAct s a) = kept s := by
  unfold dropAct; simp [*]; done
@[simp] theorem addBroken_kept (s : State) (slice : Nat) : kept (addBroken s slice) = kept s := by
  unfold addBroken; simp [*]; done
@[simp] theorem execMSnuff_kept (spkg slice origin number reason : Nat) (s : State) {kk} (hk : kept s = kk) : outKept kk (execMSnuff spkg slice origin number reason s) := by
  subst hk
  (unfold execMSnuff; simp [*]) <;> intros <;> (repeat' split) <;> (simp [*]; done)
@[simp] theorem execSnuffOrigin_kept (s : State) {kk} (hk : kept s = kk) : outKept kk (execSnuffOrigin s) := by
  subst hk
  unfold execSnuffOrigin
  (repeat' split) <;> first | (simp [*]; done) | (simp (disch := first | (intros <;> (try dsimp only) <;> (repeat' split) <;> simp [*]) | fail) [*]; done)
@[simp] theorem execRstSnuffGo_kept (slice : Nat) (s : State) {kk} (hk : kept s = kk) : outKept kk (execRstSnuffGo slice s) := by
  subst hk
  (unfold execRstSnuffGo; simp [*]) <;> intros <;> (repeat' split) <;> (simp [*]; done)
@[simp] theorem execSettleEnd_kept (job : Nat) (s : State) {kk} (hk : kept s = kk) : outKept kk (execSettleEnd job s) := by
  subst hk
  unfold execSettleEnd; simp [*]; done
@[simp] theorem execDetRplAbort_kept (s : State) {kk} (hk : kept s = kk) : outKept kk (execDetRplAbort s) := by
  subst hk
  unfold execDetRplAbort
  (repeat' split) <;> first | (simp [*]; done) | (simp (disch := first | (intros <;> (try dsimp only) <;> (repeat' split) <;> simp [*]) | fail) [*]; done)

/-! ### Machine/Classify.lean -/

@[simp] theorem armFired_kept (s : State) : kept (armFired s) = kept s := by
  unfold armFired; simp [*]; done
@[simp] theorem execWflushComplete_kept (c e : Nat) (s : State) {kk} (hk : kept s = kk) : outKept kk (execWflushComplete c e s) := by
  subst hk
  (unfold execWflushComplete; simp [*]) <;> intros <;> (repeat' split) <;> (simp [*]; done)
@[simp] theorem classEnd_kept (s : State) (c cls : Nat) (k : Core) (x : Classify) : kept (classEnd s c cls k x) = kept s := by
  unfold classEnd; simp [*]; done
@[simp] theorem markSuspects_kept (s : State) (c e : Nat) : kept (markSuspects s c e) = kept s := by
  unfold markSuspects; simp [*]; done
@[simp] theorem execRepeatComplete_kept (c : Nat) (s : State) {kk} (hk : kept s = kk) : outKept kk (execRepeatComplete c s) := by
  subst hk
  (unfold execRepeatComplete; simp [*]) <;> intros <;> (repeat' split) <;> (simp [*]; done)

/-! ### Machine/Resets.lean -/

@[simp] theorem modWatch_kept (s : State) (d : Nat) (f : DieWatch → DieWatch) : kept (modWatch s d f) = kept s := by
  unfold modWatch; simp [*]; done
@[simp] theorem setDieState_kept (s : State) (d x : Nat) : kept (setDieState s d x) = kept s := by
  unfold setDieState; simp [*]; done
@[simp] theorem setRung_kept (s : State) (d x : Nat) : kept (setRung s d x) = kept s := by
  unfold setRung; simp [*]; done
@[simp] theorem requestReset_kept (s : State) (d trig : Nat) (fence : Bool) : kept (requestReset s d trig fence) = kept s := by
  unfold requestReset; simp [*]; done
@[simp] theorem execDieReset_kept (d : Nat) (s : State) {kk} (hk : kept s = kk) : outKept kk (execDieReset d s) := by
  subst hk
  (unfold execDieReset; simp [*]) <;> intros <;> (repeat' split) <;> (simp [*]; done)
@[simp] theorem writeEmber_kept (s : State) (d : Nat) (inc : Bool) : kept (writeEmber s d inc) = kept s := by
  unfold writeEmber; simp [*]; done
@[simp] theorem mcStop_kept (d : Nat) (s : State) (id : Nat) : kept (mcStop d s id) = kept s := by
  (unfold mcStop; simp [*]) <;> intros <;> (repeat' split) <;> (simp [*]; done)
@[simp] theorem niGone_kept (s : State) (d : Nat) : kept (niGone s d) = kept s := by
  unfold niGone; simp [*]; done
@[simp] theorem stepsFourToSix_kept (s : State) (d : Nat) : kept (stepsFourToSix s d) = kept s := by
  unfold stepsFourToSix; simp [*]; done
@[simp] theorem execEmberDone_kept (d : Nat) (s : State) {kk} (hk : kept s = kk) : outKept kk (execEmberDone d s) := by
  subst hk
  unfold execEmberDone; simp [*]; done
@[simp] theorem execEmberAbandon_kept (d : Nat) (s : State) {kk} (hk : kept s = kk) : outKept kk (execEmberAbandon d s) := by
  subst hk
  unfold execEmberAbandon; simp [*]; done
@[simp] theorem dieBlank_kept (s : State) (d : Nat) : kept (dieBlank s d) = kept s := by
  unfold dieBlank; simp [*]; done
@[simp] theorem execResetHoldRelease_kept (d : Nat) (s : State) {kk} (hk : kept s = kk) : outKept kk (execResetHoldRelease d s) := by
  subst hk
  (unfold execResetHoldRelease; simp [*]) <;> intros <;> (repeat' split) <;> (simp [*]; done)
@[simp] theorem setPos_kept (s : State) (c pos : Nat) : kept (setPos s c pos) = kept s := by
  unfold setPos; simp [*]; done
@[simp] theorem stopTest_kept (s : State) (d cl pos : Nat) : kept (stopTest s d cl pos) = kept s := by
  unfold stopTest; simp [*]; done
@[simp] theorem retirePos_kept (s : State) (d cl pos cause : Nat) : kept (retirePos s d cl pos cause) = kept s := by
  (unfold retirePos; simp [*]) <;> intros <;> (repeat' split) <;> (simp [*]; done)
@[simp] theorem selfTestSherd_kept (s : State) (d cl slot pos : Nat) : kept (selfTestSherd s d cl slot pos) = kept s := by
  unfold selfTestSherd; simp [*]; done
@[simp] theorem execDieSelfTest_kept (d : Nat) (bad : List (Nat × Nat)) (dieBad : Bool) (s : State) {kk} (hk : kept s = kk) : outKept kk (execDieSelfTest d bad dieBad s) := by
  subst hk
  (unfold execDieSelfTest; simp [*]) <;> intros <;> (repeat' split) <;> (simp [*]; done)
@[simp] theorem rungFive_kept (s : State) (d : Nat) : kept (rungFive s d) = kept s := by
  unfold rungFive; simp [*]; done
@[simp] theorem execDieResetTimeout_kept (d : Nat) (s : State) {kk} (hk : kept s = kk) : outKept kk (execDieResetTimeout d s) := by
  subst hk
  unfold execDieResetTimeout; simp [*]; done
@[simp] theorem wheelLinksOff_kept (s : State) (w : Nat) : kept (wheelLinksOff s w) = kept s := by
  unfold wheelLinksOff; simp [*]; done
@[simp] theorem breakSlice_kept (s : State) (slice : Nat) : kept (breakSlice s slice) = kept s := by
  unfold breakSlice; simp [*]; done
@[simp] theorem remapSg_kept (s : State) (d sg slice : Nat) {kk} (hk : kept s = kk) : keptOpt kk (remapSg s d sg slice) := by
  subst hk
  (unfold remapSg; simp [*]) <;> intros <;> (repeat' split) <;> (simp [*]; done)
@[simp] theorem fenceSlice_kept (d : Nat) (s : State) (slice : Nat) : kept (fenceSlice d s slice) = kept s := by
  unfold fenceSlice
  try dsimp only
  (repeat' split) <;> (try (simp [*]; done))
  all_goals (repeat (rename @Eq (State × _) _ (_, _) => hq; have hz := congrArg (fun p => kept p.1) hq; clear hq))
  all_goals (repeat (rename _ = AgentRes.ok _ _ _ => hq; have hz := congrArg (keptRes (kept s)) hq; clear hq))
  all_goals (repeat (rename _ = AgentRes.fault _ _ => hq; have hz := congrArg (keptRes (kept s)) hq; clear hq))
  all_goals (repeat (rename _ = AgentRes.refused _ => hq; have hz := congrArg (keptRes (kept s)) hq; clear hq))
  all_goals (repeat (rename _ = @some State _ => hq; have hz := congrArg (keptOpt (kept s)) hq; clear hq))
  all_goals (repeat (rename _ = @some (State × Bool) (_, _) => hq; have hz := congrArg (keptOptB (kept s)) hq; clear hq))
  all_goals (repeat (rename _ = MsgRes.done _ => hq; have hz := congrArg (keptMsg (kept s)) hq; clear hq))
  all_goals (repeat (rename _ = MsgRes.hold _ _ => hq; have hz := congrArg (keptMsg (kept s)) hq; clear hq))
  all_goals simp_all
@[simp] theorem execDieFence_kept (d : Nat) (s : State) {kk} (hk : kept s = kk) : outKept kk (execDieFence d s) := by
  subst hk
  (unfold execDieFence; simp [*]) <;> intros <;> (repeat' split) <;> (simp [*]; done)
@[simp] theorem wheelRestart_kept (s : State) (w : Nat) : kept (wheelRestart s w) = kept s := by
  unfold wheelRestart; simp [*]; done
@[simp] theorem execRstDieReset_kept (d : Nat) (s : State) {kk} (hk : kept s = kk) : outKept kk (execRstDieReset d s) := by
  subst hk
  (unfold execRstDieReset; simp [*]) <;> intros <;> (repeat' split) <;> (simp [*]; done)
@[simp] theorem execRstDieFence_kept (d : Nat) (s : State) {kk} (hk : kept s = kk) : outKept kk (execRstDieFence d s) := by
  subst hk
  (unfold execRstDieFence; simp [*]) <;> intros <;> (repeat' split) <;> (simp [*]; done)
@[simp] theorem execCoreFence_kept (c : Nat) (s : State) {kk} (hk : kept s = kk) : outKept kk (execCoreFence c s) := by
  subst hk
  (unfold execCoreFence; simp [*]) <;> intros <;> (repeat' split) <;> (simp [*]; done)
@[simp] theorem execWheelFence_kept (w : Nat) (s : State) {kk} (hk : kept s = kk) : outKept kk (execWheelFence w s) := by
  subst hk
  (unfold execWheelFence; simp [*]) <;> intros <;> (repeat' split) <;> (simp [*]; done)
@[simp] theorem execPowerCycle_kept (s : State) {kk} (hk : kept s = kk) : outKept kk (execPowerCycle s) := by
  subst hk
  (unfold execPowerCycle; simp [*]) <;> intros <;> (repeat' split) <;> (simp [*]; done)
@[simp] theorem execRstRetValClr_kept (s : State) {kk} (hk : kept s = kk) : outKept kk (execRstRetValClr s) := by
  subst hk
  unfold execRstRetValClr; simp [*]; done
@[simp] theorem execRstEmbCtlGo_kept (s : State) {kk} (hk : kept s = kk) : outKept kk (execRstEmbCtlGo s) := by
  subst hk
  unfold execRstEmbCtlGo
  (repeat' split) <;> first | (simp [*]; done) | (simp (disch := first | (intros <;> (try dsimp only) <;> (repeat' split) <;> simp [*]) | fail) [*]; done)
@[simp] theorem execEmberCopyDone_kept (hostErr : Bool) (s : State) {kk} (hk : kept s = kk) : outKept kk (execEmberCopyDone hostErr s) := by
  subst hk
  (unfold execEmberCopyDone; simp [*]) <;> intros <;> (repeat' split) <;> (simp [*]; done)
@[simp] theorem switchCtx_kept (s : State) (c q : Nat) : kept (switchCtx s c q) = kept s := by
  unfold switchCtx; simp [*]; done
@[simp] theorem execQuantumSwitch_kept (c : Nat) (s : State) {kk} (hk : kept s = kk) : outKept kk (execQuantumSwitch c s) := by
  subst hk
  (unfold execQuantumSwitch; simp [*]) <;> intros <;> (repeat' split) <;> (simp [*]; done)
@[simp] theorem execYieldSwitch_kept (c : Nat) (s : State) {kk} (hk : kept s = kk) : outKept kk (execYieldSwitch c s) := by
  subst hk
  (unfold execYieldSwitch; simp [*]) <;> intros <;> (repeat' split) <;> (simp [*]; done)

/-! ### Machine/Preempt.lean -/

@[simp] theorem renameAll_kept (s : State) (sg : Nat) (f : Renaming) : kept (renameAll s sg f) = kept s := by
  unfold renameAll; simp [*]; done
@[simp] theorem moveCores_kept (s : State) (cs : List Nat) (f : Renaming) (g : Core → Core) : kept (moveCores s cs f g) = kept s := by
  unfold moveCores; simp [*]; done
@[simp] theorem moveCluster_kept (s : State) (a b : Nat × Nat) : kept (moveCluster s a b) = kept s := by
  unfold moveCluster; simp [*]; done
@[simp] theorem preRefuse_kept (s : State) (code : Nat) : kept (preRefuse s code) = kept s := by
  unfold preRefuse; simp [*]; done
@[simp] theorem preStart_kept (s : State) (sg st : Nat) : kept (preStart s sg st) = kept s := by
  unfold preStart; simp [*]; done
@[simp] theorem preDone_kept (s : State) (sg st : Nat) : kept (preDone s sg st) = kept s := by
  unfold preDone; simp [*]; done
@[simp] theorem preWrite_kept (s : State) (sg act : Nat) : kept (preWrite s sg act) = kept s := by
  unfold preWrite; simp [*]; done
@[simp] theorem execTntPreemptSave_kept (sg : Nat) (s : State) {kk} (hk : kept s = kk) : outKept kk (execTntPreemptSave sg s) := by
  subst hk
  (unfold execTntPreemptSave; simp [*]) <;> intros <;> (repeat' split) <;> (simp [*]; done)
@[simp] theorem saveRefused_kept (s : State) (sg : Nat) : kept (saveRefused s sg) = kept s := by
  unfold saveRefused; simp [*]; done
@[simp] theorem throughSaveArea_kept (s : State) (d sg n : Nat) (need : Need) (acct : Nat) (go : State → State) (h_go : ∀ x0, kept (go x0) = kept x0) : kept (throughSaveArea s d sg n need acct go) = kept s := by
  (unfold throughSaveArea; simp [*]) <;> intros <;> (repeat' split) <;> (simp [*]; done)
@[simp] theorem savedNow_kept (sg : Nat) (s : State) : kept (savedNow sg s) = kept s := by
  unfold savedNow; simp [*]; done
@[simp] theorem execPreemptSaveComplete_kept (s : State) {kk} (hk : kept s = kk) : outKept kk (execPreemptSaveComplete s) := by
  subst hk
  (unfold execPreemptSaveComplete; simp [*]) <;> intros <;> (repeat' split) <;> (simp [*]; done)
@[simp] theorem stopTests_kept (s : State) (p : Nat × Nat) : kept (stopTests s p) = kept s := by
  unfold stopTests; simp [*]; done
@[simp] theorem execTntPreemptRestore_kept (sg : Nat) (s : State) {kk} (hk : kept s = kk) : outKept kk (execTntPreemptRestore sg s) := by
  subst hk
  (unfold execTntPreemptRestore; simp [*]) <;> intros <;> (repeat' split) <;> (simp [*]; done)
@[simp] theorem restoredNow_kept (sg : Nat) (s : State) : kept (restoredNow sg s) = kept s := by
  (unfold restoredNow; simp [*]) <;> intros <;> (repeat' split) <;> (simp [*]; done)
@[simp] theorem execRestoreComplete_kept (s : State) {kk} (hk : kept s = kk) : outKept kk (execRestoreComplete s) := by
  subst hk
  (unfold execRestoreComplete; simp [*]) <;> intros <;> (repeat' split) <;> (simp [*]; done)
@[simp] theorem recoverStrm_kept (s : State) (n : Nat) : kept (recoverStrm s n) = kept s := by
  unfold recoverStrm; simp [*]; done
@[simp] theorem execFlr_kept (f : Nat) (s : State) {kk} (hk : kept s = kk) : outKept kk (execFlr f s) := by
  subst hk
  (unfold execFlr; simp [*]) <;> intros <;> (repeat' split) <;> (simp [*]; done)

/-! ### Machine/Mailbox.lean -/

@[simp] theorem chanIrq_kept (s : State) (mid vec : Nat) : kept (chanIrq s mid vec) = kept s := by
  unfold chanIrq; simp [*]; done
@[simp] theorem irqB_kept (s : State) (c : Nat) : kept (irqB s c) = kept s := by
  unfold irqB; simp [*]; done
@[simp] theorem irqA_kept (s : State) (c : Nat) : kept (irqA s c) = kept s := by
  unfold irqA; simp [*]; done
@[simp] theorem mbxViolation_kept (s : State) (c mid : Nat) : kept (mbxViolation s c mid) = kept s := by
  unfold mbxViolation; simp [*]; done
@[simp] theorem mbxAccess_kept (c mid : Nat) (act : State → State) (s : State) (h_act : ∀ x0, kept (act x0) = kept x0) {kk} (hk : kept s = kk) : outKept kk (mbxAccess c mid act s) := by
  subst hk
  (unfold mbxAccess; simp [*]) <;> intros <;> (repeat' split) <;> (simp [*]; done)
@[simp] theorem mbxZero_kept (s : State) (c : Nat) : kept (mbxZero s c) = kept s := by
  unfold mbxZero
  rw [each_kept_mem]
  · simp
  · intro x y hy
    simp only [List.mem_cons, List.not_mem_nil, or_false] at hy
    rcases hy with rfl | rfl | rfl | rfl <;> simp
@[simp] theorem execMbxBind_kept (c : Nat) (v : W32) (s : State) {kk} (hk : kept s = kk) : outKept kk (execMbxBind c v s) := by
  subst hk
  (unfold execMbxBind; simp [*]) <;> intros <;> (repeat' split) <;> (simp [*]; done)
@[simp] theorem execMbxLock_kept (hi : Bool) (v : W32) (s : State) {kk} (hk : kept s = kk) : outKept kk (execMbxLock hi v s) := by
  subst hk
  (unfold execMbxLock; simp [*]) <;> intros <;> (repeat' split) <;> (simp [*]; done)
@[simp] theorem execMbxPayWrite_kept (c k mid : Nat) (v : W32) (s : State) {kk} (hk : kept s = kk) : outKept kk (execMbxPayWrite c k mid v s) := by
  subst hk
  unfold execMbxPayWrite; simp [*]; done
@[simp] theorem mbxSet_kept (s : State) (c : Nat) (v : W32) : kept (mbxSet s c v) = kept s := by
  unfold mbxSet; simp [*]; done
@[simp] theorem putPay_kept (s : State) (c : Nat) (bs : List Byte) : kept (putPay s c bs) = kept s := by
  unfold putPay; simp [*]; done
@[simp] theorem faultMessage_kept (s : State) (c : Nat) (v : W32) : kept (faultMessage s c v) = kept s := by
  unfold faultMessage; simp [*]; done
@[simp] theorem faultAnswers_kept (s : State) (c code : Nat) : kept (faultAnswers s c code) = kept s := by
  unfold faultAnswers; simp [*]; done
@[simp] theorem execMbxDbSet_kept (c mid : Nat) (v : W32) (s : State) {kk} (hk : kept s = kk) : outKept kk (execMbxDbSet c mid v s) := by
  subst hk
  unfold execMbxDbSet; simp [*]; done
@[simp] theorem execMbxDbPend_kept (c mid : Nat) (v : W32) (s : State) {kk} (hk : kept s = kk) : outKept kk (execMbxDbPend c mid v s) := by
  subst hk
  unfold execMbxDbPend; simp [*]; done
@[simp] theorem execMbxDbMask_kept (c mid : Nat) (v : W32) (s : State) {kk} (hk : kept s = kk) : outKept kk (execMbxDbMask c mid v s) := by
  subst hk
  unfold execMbxDbMask; simp [*]; done
@[simp] theorem mbxCode_kept (s : State) (c code : Nat) : kept (mbxCode s c code) = kept s := by
  unfold mbxCode; simp [*]; done
@[simp] theorem mbxAck_kept (s : State) (c code : Nat) : kept (mbxAck s c code) = kept s := by
  unfold mbxAck; simp [*]; done
@[simp] theorem execMbxAckCode_kept (c mid code : Nat) (s : State) {kk} (hk : kept s = kk) : outKept kk (execMbxAckCode c mid code s) := by
  subst hk
  unfold execMbxAckCode; simp [*]; done
@[simp] theorem execMbxAckValidClear_kept (c mid : Nat) (s : State) {kk} (hk : kept s = kk) : outKept kk (execMbxAckValidClear c mid s) := by
  subst hk
  unfold execMbxAckValidClear; simp [*]; done
@[simp] theorem partyLost_kept (s : State) (mid : Nat) : kept (partyLost s mid) = kept s := by
  unfold partyLost; simp [*]; done
@[simp] theorem execPartyLost_kept (mid : Nat) (s : State) {kk} (hk : kept s = kk) : outKept kk (execPartyLost mid s) := by
  subst hk
  unfold execPartyLost; simp [*]; done

end Sys2Proof.Machine
end

