-- ==== Sys2Proof/Laws/KeptKiln.lean ====
section
/-! SUPPORT. Laws/KeptKiln.lean: what the kiln, its role, its wicks and the timebase leave alone. `kept` (Safety.lean) is the queue of waiting commands and the identity
registers; `f_kept` says that f leaves them as they were. A lemma about a command has the form outKept; some suppose that no identity
register is listed away from its fuse. -/

set_option linter.all false

namespace Sys2Proof.Machine

/-! ### Machine/Kiln.lean -/

@[simp] theorem modLit_kept (s : State) (key : Nat) (f : LitWick → LitWick) : kept (modLit s key f) = kept s := by
  unfold modLit; simp [*]; done
@[simp] theorem sendCmd_kept (s : State) (key seq : Nat) : kept (sendCmd s key seq) = kept s := by
  (unfold sendCmd; simp [*]) <;> intros <;> (repeat' split) <;> (simp [*]; done)
@[simp] theorem sendRack_kept (s : State) (key num : Nat) : kept (sendRack s key num) = kept s := by
  unfold sendRack; simp [*]; done
@[simp] theorem releaseMirror_kept (s : State) (m : MirrorOut) : kept (releaseMirror s m) = kept s := by
  (unfold releaseMirror; simp [*]) <;> intros <;> (repeat' split) <;> (simp [*]; done)
@[simp] theorem mirrorPump_kept (s : State) : kept (mirrorPump s) = kept s := by
  unfold mirrorPump; simp [*]; done
@[simp] theorem mirrorPush_kept (s : State) (cmd rack : Option (Nat × Nat)) (done : Option (Nat × List Nat)) : kept (mirrorPush s cmd rack done) = kept s := by
  unfold mirrorPush; simp [*]; done
@[simp] theorem pumpWick_kept (key : Nat) (m : Nat) (s : State) : kept (pumpWick key m s) = kept s := by
  induction m generalizing s with
  | zero => rfl
  | succ m ih => unfold pumpWick; (repeat' split) <;> first | (simp [ih]; done) | (dsimp only; (repeat' split) <;> (simp [ih]; done))
@[simp] theorem pump_kept (s : State) : kept (pump s) = kept s := by
  unfold pump; simp [*]; done
@[simp] theorem queueCmd_kept (s : State) (key : Nat) (b : CmdBody) : kept (queueCmd s key b) = kept s := by
  unfold queueCmd; simp [*]; done
@[simp] theorem queueFront_kept (s : State) (key : Nat) (b : CmdBody) : kept (queueFront s key b) = kept s := by
  unfold queueFront; simp [*]; done
@[simp] theorem sendLight_kept (s : State) (key : Nat) : kept (sendLight s key) = kept s := by
  (unfold sendLight; simp [*]) <;> intros <;> (repeat' split) <;> (simp [*]; done)
@[simp] theorem lightPkg_kept (s : State) (pkg : Nat) : kept (lightPkg s pkg) = kept s := by
  unfold lightPkg; simp [*]; done
@[simp] theorem trigger_kept (s : State) : kept (trigger s) = kept s := by
  unfold trigger; simp [*]; done
@[simp] theorem syncChg_kept (s : State) : kept (syncChg s) = kept s := by
  unfold syncChg
  (repeat' split) <;> first | (simp [*]; done) | (simp (disch := first | (intros <;> (try dsimp only) <;> (repeat' split) <;> simp [*]) | fail) [*]; done)
@[simp] theorem modChange_kept (s : State) (f : ChangeSt → ChangeSt) : kept (modChange s f) = kept s := by
  unfold modChange; simp [*]; done
@[simp] theorem changeStep_kept (s : State) : kept (changeStep s) = kept s := by
  (unfold changeStep; simp [*]) <;> intros <;> (repeat' split) <;> (simp [*]; done)
@[simp] theorem badBank_kept (s : State) (key : Nat) : kept (badBank s key) = kept s := by
  (unfold badBank; simp [*]) <;> intros <;> (repeat' split) <;> (simp [*]; done)
@[simp] theorem modReq_kept (s : State) (f : ReqSt → ReqSt) : kept (modReq s f) = kept s := by
  unfold modReq; simp [*]; done
@[simp] theorem reqCmd_kept (s : State) (key : Nat) (b : CmdBody) : kept (reqCmd s key b) = kept s := by
  unfold reqCmd; simp [*]; done
@[simp] theorem writeGroup_kept (s : State) (ranks : List W32) (num state : Nat) (g : GroupRec) : kept (writeGroup s ranks num state g) = kept s := by
  unfold writeGroup
  dsimp only
  (repeat' split) <;> (simp (disch := first | (intros <;> (try dsimp only) <;> (repeat' split) <;> simp [*]) | fail) [*]; done)
@[simp] theorem endReq_kept (s : State) (code : Nat) (result : List Byte) : kept (endReq s code result) = kept s := by
  (unfold endReq; simp [*]) <;> intros <;> (repeat' split) <;> (simp [*]; done)
@[simp] theorem reqCarve_kept (s : State) : kept (reqCarve s) = kept s := by
  (unfold reqCarve; simp [*]) <;> intros <;> (repeat' split) <;> (simp [*]; done)
@[simp] theorem reqRelease_kept (s : State) (step : Nat) (ms : List SliceMem) : kept (reqRelease s step ms) = kept s := by
  (unfold reqRelease; simp [*]) <;> intros <;> (repeat' split) <;> (simp [*]; done)
@[simp] theorem reqLists_kept (s : State) (q : ReqSt) : kept (reqLists s q) = kept s := by
  (unfold reqLists; simp [*]) <;> intros <;> (repeat' split) <;> (simp [*]; done)
@[simp] theorem reqGroups_kept (s : State) (q : ReqSt) : kept (reqGroups s q) = kept s := by
  unfold reqGroups; simp [*]; done
@[simp] theorem reqStep_kept (s : State) : kept (reqStep s) = kept s := by
  (unfold reqStep; simp [*]) <;> intros <;> (repeat' split) <;> (simp [*]; done)
@[simp] theorem reqSteps_kept  (m : Nat) (s : State) : kept (reqSteps  m s) = kept s := by
  induction m generalizing s with
  | zero => rfl
  | succ m ih => unfold reqSteps; (repeat' split) <;> first | (simp [ih]; done) | (dsimp only; (repeat' split) <;> (simp [ih]; done))
@[simp] theorem roleGoesOn_kept (s : State) : kept (roleGoesOn s) = kept s := by
  unfold roleGoesOn; simp [*]; done
@[simp] theorem takeDown_kept (s : State) (key : Nat) : kept (takeDown s key) = kept s := by
  unfold takeDown; simp [*]; done
@[simp] theorem reqStart_kept (s : State) (ch : Option Nat) (r : KilnReq) (entries : Option (List Nat)) : kept (reqStart s ch r entries) = kept s := by
  (unfold reqStart; simp [*]) <;> intros <;> (repeat' split) <;> (simp [*]; done)
@[simp] theorem takeRequest_kept (s : State) (op c : Nat) (hostErr : Bool) : kept (takeRequest s op c hostErr) = kept s := by
  unfold takeRequest; simp [*]; done
@[simp] theorem execSliceCreate_kept (c : Nat) (hostErr : Bool) (s : State) {kk} (hk : kept s = kk) : outKept kk (execSliceCreate c hostErr s) := by
  subst hk
  unfold execSliceCreate; simp [*]; done
@[simp] theorem execSliceDestroy_kept (c : Nat) (s : State) {kk} (hk : kept s = kk) : outKept kk (execSliceDestroy c s) := by
  subst hk
  unfold execSliceDestroy; simp [*]; done
@[simp] theorem execGroupCreate_kept (c : Nat) (hostErr : Bool) (s : State) {kk} (hk : kept s = kk) : outKept kk (execGroupCreate c hostErr s) := by
  subst hk
  unfold execGroupCreate; simp [*]; done
@[simp] theorem execGroupDestroy_kept (c : Nat) (s : State) {kk} (hk : kept s = kk) : outKept kk (execGroupDestroy c s) := by
  subst hk
  unfold execGroupDestroy; simp [*]; done
@[simp] theorem execSliceRecarve_kept (c : Nat) (hostErr : Bool) (s : State) {kk} (hk : kept s = kk) : outKept kk (execSliceRecarve c hostErr s) := by
  subst hk
  unfold execSliceRecarve; simp [*]; done

/-! ### Machine/KilnRole.lean -/

@[simp] theorem takePkg_kept (s : State) (chain pos : Nat) : kept (takePkg s chain pos) = kept s := by
  unfold takePkg; simp [*]; done
@[simp] theorem takePos_kept (s : State) (chain pos : Nat) : kept (takePos s chain pos) = kept s := by
  unfold takePos; simp [*]; done
@[simp] theorem execEnumFrameReceive_kept (f : Nat) (s : State) {kk} (hk : kept s = kk) : outKept kk (execEnumFrameReceive f s) := by
  subst hk
  (unfold execEnumFrameReceive; simp [*]) <;> intros <;> (repeat' split) <;> (simp [*]; done)
@[simp] theorem execEnumFrameSend_kept (s : State) {kk} (hk : kept s = kk) : outKept kk (execEnumFrameSend s) := by
  subst hk
  (unfold execEnumFrameSend; simp [*]) <;> intros <;> (repeat' split) <;> (simp [*]; done)
@[simp] theorem execKlnEnumChainWrite_kept (c : BitVec 6) (s : State) {kk} (hk : kept s = kk) : outKept kk (execKlnEnumChainWrite c s) := by
  subst hk
  unfold execKlnEnumChainWrite; dsimp only; (repeat' split) <;> (simp [*]; done)
@[simp] theorem execHeadStrap_kept (s : State) {kk} (hk : kept s = kk) : outKept kk (execHeadStrap s) := by
  subst hk
  (unfold execHeadStrap; simp [*]) <;> intros <;> (repeat' split) <;> (simp [*]; done)
@[simp] theorem seeAct_kept (s : State) (act term : Nat) (stby : Option Nat) : kept (seeAct s act term stby) = kept s := by
  (unfold seeAct; simp [*]) <;> intros <;> (repeat' split) <;> (simp [*]; done)
@[simp] theorem execMHelloLink_kept (w l : Nat) (ws : List Nat) (s : State) {kk} (hk : kept s = kk) : outKept kk (execMHelloLink w l ws s) := by
  subst hk
  (unfold execMHelloLink; simp [*]) <;> intros <;> (repeat' split) <;> (simp [*]; done)
@[simp] theorem execHelloTimer_kept (w l : Nat) (s : State) {kk} (hk : kept s = kk) : outKept kk (execHelloTimer w l s) := by
  subst hk
  unfold execHelloTimer; simp [*]; done
@[simp] theorem execLsr_kept (spkg origin part : Nat) (p : LsrPart) (s : State) {kk} (hk : kept s = kk) : outKept kk (execLsr spkg origin part p s) := by
  subst hk
  (unfold execLsr; simp [*]) <;> intros <;> (repeat' split) <;> (simp [*]; done)
@[simp] theorem execLsrRefresh_kept (s : State) {kk} (hk : kept s = kk) : outKept kk (execLsrRefresh s) := by
  subst hk
  unfold execLsrRefresh; simp [*]; done
@[simp] theorem execQuiet_kept (s : State) {kk} (hk : kept s = kk) : outKept kk (execQuiet s) := by
  subst hk
  unfold execQuiet; simp [*]; done
@[simp] theorem sendTermreq_kept (s : State) : kept (sendTermreq s) = kept s := by
  unfold sendTermreq; simp [*]; done
@[simp] theorem ask_kept (s : State) (a : Ask) : kept (ask s a) = kept s := by
  unfold ask; simp [*]; done
@[simp] theorem execTermreq_kept (t requester : Nat) (s : State) {kk} (hk : kept s = kk) : outKept kk (execTermreq t requester s) := by
  subst hk
  (unfold execTermreq; simp [*]) <;> intros <;> (repeat' split) <;> (simp [*]; done)
@[simp] theorem setFm_kept (s : State) (act : Nat) (stby : Option Nat) : kept (setFm s act stby) = kept s := by
  unfold setFm; simp [*]; done
@[simp] theorem setTerm_kept (s : State) (t : Nat) : kept (setTerm s t) = kept s := by
  unfold setTerm; simp [*]; done
@[simp] theorem sendTerms_kept (s : State) (stby : Option Nat) : kept (sendTerms s stby) = kept s := by
  unfold sendTerms; simp [*]; done
@[simp] theorem ownReq_kept (s : State) : kept (ownReq s) = kept s := by
  unfold ownReq; simp [*]; done
@[simp] theorem beginRole_kept (s : State) (role t : Nat) (stby : Option Nat) : kept (beginRole s role t stby) = kept s := by
  unfold beginRole; simp [*]; done
@[simp] theorem execElection_kept (s : State) {kk} (hk : kept s = kk) : outKept kk (execElection s) := by
  subst hk
  (unfold execElection; simp [*]) <;> intros <;> (repeat' split) <;> (simp [*]; done)
@[simp] theorem grantTerm_kept (s : State) (t : Nat) : kept (grantTerm s t) = kept s := by
  (unfold grantTerm; simp [*]) <;> intros <;> (repeat' split) <;> (simp [*]; done)
@[simp] theorem abortSwap_kept (s : State) : kept (abortSwap s) = kept s := by
  unfold abortSwap; simp [*]; done
@[simp] theorem denyTerm_kept (s : State) : kept (denyTerm s) = kept s := by
  (unfold denyTerm; simp [*]) <;> intros <;> (repeat' split) <;> (simp [*]; done)
@[simp] theorem execGrant_kept (spkg term : Nat) (s : State) {kk} (hk : kept s = kk) : outKept kk (execGrant spkg term s) := by
  subst hk
  unfold execGrant; simp [*]; done
@[simp] theorem execDeny_kept (spkg : Nat) (s : State) {kk} (hk : kept s = kk) : outKept kk (execDeny spkg s) := by
  subst hk
  unfold execDeny; simp [*]; done
@[simp] theorem execWitnessRetry_kept (s : State) {kk} (hk : kept s = kk) : outKept kk (execWitnessRetry s) := by
  subst hk
  unfold execWitnessRetry
  (repeat' split) <;> first | (simp [*]; done) | (simp (disch := first | (intros <;> (try dsimp only) <;> (repeat' split) <;> simp [*]) | fail) [*]; done)
@[simp] theorem beatHeard_kept (s : State) : kept (beatHeard s) = kept s := by
  unfold beatHeard; simp [*]; done
@[simp] theorem execBeat_kept (recv : Bool) (spkg : Nat) (s : State) {kk} (hk : kept s = kk) : outKept kk (execBeat recv spkg s) := by
  subst hk
  (unfold execBeat; simp [*]) <;> intros <;> (repeat' split) <;> (simp [*]; done)
@[simp] theorem execBeatTimeout_kept (s : State) {kk} (hk : kept s = kk) : outKept kk (execBeatTimeout s) := by
  subst hk
  unfold execBeatTimeout; simp [*]; done
@[simp] theorem execMirror_kept (spkg num term : Nat) (m : MirrorIn) (s : State) {kk} (hk : kept s = kk) : outKept kk (execMirror spkg num term m s) := by
  subst hk
  (unfold execMirror; simp [*]) <;> intros <;> (repeat' split) <;> (simp [*]; done)
@[simp] theorem execMack_kept (spkg num : Nat) (s : State) {kk} (hk : kept s = kk) : outKept kk (execMack spkg num s) := by
  subst hk
  (unfold execMack; simp [*]) <;> intros <;> (repeat' split) <;> (simp [*]; done)
@[simp] theorem execSync_kept (copy : Option (Nat × RoleSt)) (s : State) {kk} (hk : kept s = kk) : outKept kk (execSync copy s) := by
  subst hk
  (unfold execSync; simp [*]) <;> intros <;> (repeat' split) <;> (simp [*]; done)
@[simp] theorem offerSwap_kept (s : State) : kept (offerSwap s) = kept s := by
  unfold offerSwap; simp [*]; done
@[simp] theorem execSwapTimer_kept (s : State) {kk} (hk : kept s = kk) : outKept kk (execSwapTimer s) := by
  subst hk
  unfold execSwapTimer; simp [*]; done
@[simp] theorem execSwapnow_kept (s : State) {kk} (hk : kept s = kk) : outKept kk (execSwapnow s) := by
  subst hk
  unfold execSwapnow; simp [*]; done
@[simp] theorem execSwapDeferRetry_kept (s : State) {kk} (hk : kept s = kk) : outKept kk (execSwapDeferRetry s) := by
  subst hk
  unfold execSwapDeferRetry; simp [*]; done
@[simp] theorem execHandover_kept (spkg : Nat) (s : State) {kk} (hk : kept s = kk) : outKept kk (execHandover spkg s) := by
  subst hk
  unfold execHandover; simp [*]; done
@[simp] theorem execHandoverTimeout_kept (s : State) {kk} (hk : kept s = kk) : outKept kk (execHandoverTimeout s) := by
  subst hk
  unfold execHandoverTimeout
  (repeat' split) <;> first | (simp [*]; done) | (simp (disch := first | (intros <;> (try dsimp only) <;> (repeat' split) <;> simp [*]) | fail) [*]; done)
@[simp] theorem execAbort_kept (spkg : Nat) (s : State) {kk} (hk : kept s = kk) : outKept kk (execAbort spkg s) := by
  subst hk
  unfold execAbort; simp [*]; done
@[simp] theorem execCommandResend_kept (pkg ep seq : Nat) (s : State) {kk} (hk : kept s = kk) : outKept kk (execCommandResend pkg ep seq s) := by
  subst hk
  (unfold execCommandResend; simp [*]) <;> intros <;> (repeat' split) <;> (simp [*]; done)
@[simp] theorem execWickTimeout_kept (pkg ep : Nat) (s : State) {kk} (hk : kept s = kk) : outKept kk (execWickTimeout pkg ep s) := by
  subst hk
  unfold execWickTimeout; simp [*]; done
@[simp] theorem execPackageLost_kept (pkg : Nat) (s : State) {kk} (hk : kept s = kk) : outKept kk (execPackageLost pkg s) := by
  subst hk
  unfold execPackageLost; simp [*]; done
@[simp] theorem execLit_kept (pkg ep kind serial term fw : Nat) (s : State) {kk} (hk : kept s = kk) : outKept kk (execLit pkg ep kind serial term fw s) := by
  subst hk
  (unfold execLit; simp [*]) <;> intros <;> (repeat' split) <;> (simp [*]; done)
@[simp] theorem joinTp_kept (s : State) (pkg l : Nat) (j : JoinSt) : kept (joinTp s pkg l j) = kept s := by
  (unfold joinTp; simp [*]) <;> intros <;> (repeat' split) <;> (simp [*]; done)
@[simp] theorem execJoin_kept (pkg w l : Nat) (j : JoinSt) (s : State) {kk} (hk : kept s = kk) : outKept kk (execJoin pkg w l j s) := by
  subst hk
  (unfold execJoin; simp [*]) <;> intros <;> (repeat' split) <;> (simp [*]; done)
@[simp] theorem answered_kept (s : State) (key : Nat) (c : RoleCmd) (ws : List Nat) : kept (answered s key c ws) = kept s := by
  unfold answered; simp [*]; done
@[simp] theorem execRsp_kept (pkg ep : Nat) (ws : List Nat) (s : State) {kk} (hk : kept s = kk) : outKept kk (execRsp pkg ep ws s) := by
  subst hk
  (unfold execRsp; simp [*]) <;> intros <;> (repeat' split) <;> (simp [*]; done)
@[simp] theorem noteLoss_kept (s : State) (idx : Nat) : kept (noteLoss s idx) = kept s := by
  unfold noteLoss; simp [*]; done
@[simp] theorem reported_kept (s : State) (key kind w l : Nat) : kept (reported s key kind w l) = kept s := by
  (unfold reported; simp [*]) <;> intros <;> (repeat' split) <;> (simp [*]; done)
@[simp] theorem execReport_kept (e : ReportEv) (s : State) {kk} (hk : kept s = kk) : outKept kk (execReport e s) := by
  subst hk
  (unfold execReport; simp [*]) <;> intros <;> (repeat' split) <;> (simp [*]; done)
@[simp] theorem execRack_kept (ep num : Nat) (s : State) {kk} (hk : kept s = kk) : outKept kk (execRack ep num s) := by
  subst hk
  unfold execRack; simp [*]; done
@[simp] theorem execRecomp_kept (s : State) {kk} (hk : kept s = kk) : outKept kk (execRecomp s) := by
  subst hk
  unfold execRecomp; simp [*]; done
@[simp] theorem sendParents_kept (s : State) (f : Fabric) (master : Nat) : kept (sendParents s f master) = kept s := by
  unfold sendParents
  dsimp only
  (repeat' split) <;> (simp (disch := first | (intros <;> (try dsimp only) <;> (repeat' split) <;> simp [*]) | fail) [*]; done)
@[simp] theorem breakUnreached_kept (s : State) (f : Fabric) : kept (breakUnreached s f) = kept s := by
  unfold breakUnreached; simp [*]; done
@[simp] theorem recomputeNow_kept (s : State) (us : Nat) (pps : List Nat) : kept (recomputeNow s us pps) = kept s := by
  unfold recomputeNow; simp [*]; done
@[simp] theorem execRecompute_kept (us : Nat) (pps : List Nat) (s : State) {kk} (hk : kept s = kk) : outKept kk (execRecompute us pps s) := by
  subst hk
  unfold execRecompute
  (repeat' split) <;> first | (simp [*]; done) | (simp (disch := first | (intros <;> (try dsimp only) <;> (repeat' split) <;> simp [*]) | fail) [*]; done)
@[simp] theorem retireBank_kept (s : State) (w : Nat) : kept (retireBank s w) = kept s := by
  unfold retireBank; simp [*]; done
@[simp] theorem execEpochRetire_kept (told : Bool) (s : State) {kk} (hk : kept s = kk) : outKept kk (execEpochRetire told s) := by
  subst hk
  (unfold execEpochRetire; simp [*]) <;> intros <;> (repeat' split) <;> (simp [*]; done)

/-! ### Machine/KilnWick.lean -/

@[simp] theorem wickAnswer_kept (s : State) (ep seq term op status : Nat) (extra : List Nat) : kept (wickAnswer s ep seq term op status extra) = kept s := by
  unfold wickAnswer; simp [*]; done
@[simp] theorem wickCommand_kept (ep seq term op : Nat) (act : State → State × Option (Nat × List Nat)) (s : State) (h_act : ∀ x, kept (act x).1 = kept x) {kk} (hk : kept s = kk) : outKept kk (wickCommand ep seq term op act s) := by
  subst hk
  (unfold wickCommand; simp [*]) <;> intros <;> (repeat' split) <;> (simp [*]; done)
@[simp] theorem okAnswer_kept (s : State) : kept (okAnswer s).1 = kept s := by
  unfold okAnswer; simp [*]; done
@[simp] theorem badAnswer_kept (s : State) (status : Nat) : kept (badAnswer s status).1 = kept s := by
  unfold badAnswer; simp [*]; done
@[simp] theorem setEpoch_kept (s : State) (ep n : Nat) : kept (setEpoch s ep n) = kept s := by
  unfold setEpoch; simp [*]; done
@[simp] theorem bindAttach_kept (s : State) (ep : Nat) : kept (bindAttach s ep) = kept s := by
  unfold bindAttach
  (repeat' split) <;> first | (simp [*]; done) | (simp (disch := first | (intros <;> (try dsimp only) <;> (repeat' split) <;> simp [*]) | fail) [*]; done)
@[simp] theorem execLight_kept (pkg ep first term act : Nat) (stby : Option Nat) (period epoch : Nat) (s : State) {kk} (hk : kept s = kk) : outKept kk (execLight pkg ep first term act stby period epoch s) := by
  subst hk
  (unfold execLight; simp [*]) <;> intros <;> (repeat' split) <;> (simp [*]; done)
@[simp] theorem execTerm_kept (ep seq term act : Nat) (stby : Option Nat) (s : State) {kk} (hk : kept s = kk) : outKept kk (execTerm ep seq term act stby s) := by
  subst hk
  unfold execTerm; simp [*]; done
@[simp] theorem execDown_kept (ep seq term : Nat) (s : State) {kk} (hk : kept s = kk) : outKept kk (execDown ep seq term s) := by
  subst hk
  unfold execDown; simp [*]; done
@[simp] theorem setBank_kept (s : State) (w b st : Nat) : kept (setBank s w b st) = kept s := by
  unfold setBank; simp [*]; done
@[simp] theorem execMRoute_kept (w seq term : Nat) (ws : List Nat) (s : State) {kk} (hk : kept s = kk) : outKept kk (execMRoute w seq term ws s) := by
  subst hk
  unfold execMRoute
  dsimp only
  (repeat' split) <;> (simp (disch := first | (intros <;> (try dsimp only) <;> (repeat' split) <;> simp [*]) | fail) [*]; done)
@[simp] theorem execMEpoch_kept (ep seq term n : Nat) (s : State) {kk} (hk : kept s = kk) : outKept kk (execMEpoch ep seq term n s) := by
  subst hk
  unfold execMEpoch
  dsimp only
  (repeat' split) <;> (simp (disch := first | (intros <;> (try dsimp only) <;> (repeat' split) <;> simp [*]) | fail) [*]; done)
@[simp] theorem execDrained_kept (w : Nat) (s : State) {kk} (hk : kept s = kk) : outKept kk (execDrained w s) := by
  subst hk
  unfold execDrained; simp [*]; done
@[simp] theorem execMlist_kept (seq term : Nat) (ws : List Nat) (s : State) {kk} (hk : kept s = kk) : outKept kk (execMlist seq term ws s) := by
  subst hk
  (unfold execMlist; simp [*]) <;> intros <;> (repeat' split) <;> (simp [*]; done)
@[simp] theorem execGrpw_kept (ep seq term : Nat) (ws : List Nat) (s : State) {kk} (hk : kept s = kk) : outKept kk (execGrpw ep seq term ws s) := by
  subst hk
  (unfold execGrpw; simp [*]) <;> intros <;> (repeat' split) <;> (simp [*]; done)
@[simp] theorem execSpmrd_kept (ep seq term cl : Nat) (s : State) {kk} (hk : kept s = kk) : outKept kk (execSpmrd ep seq term cl s) := by
  subst hk
  unfold execSpmrd
  (repeat' split) <;> first | (simp [*]; done) | (simp (disch := first | (intros <;> (try dsimp only) <;> (repeat' split) <;> simp [*]) | fail) [*]; done)
@[simp] theorem setParent_kept (s : State) (par : Option Nat) (mpkg : Nat) : kept (setParent s par mpkg) = kept s := rfl
@[simp] theorem execTparent_kept (seq term wheel link : Nat) (master : Bool) (hops mpkg : Nat) (s : State) {kk} (hk : kept s = kk) : outKept kk (execTparent seq term wheel link master hops mpkg s) := by
  subst hk
  unfold execTparent; simp [*]; done

/-! ### Machine/Timebase.lean -/

@[simp] theorem modTb_kept (s : State) (f : TbSt → TbSt) : kept (modTb s f) = kept s := by
  unfold modTb; simp [*]; done
@[simp] theorem execDetTbLoRead_kept (s : State) {kk} (hk : kept s = kk) : outKept kk (execDetTbLoRead s) := by
  subst hk
  unfold execDetTbLoRead; simp [*]; done
@[simp] theorem execMTimeExchange_kept (s : State) {kk} (hk : kept s = kk) : outKept kk (execMTimeExchange s) := by
  subst hk
  (unfold execMTimeExchange; simp [*]) <;> intros <;> (repeat' split) <;> (simp [*]; done)
@[simp] theorem tbLost_kept (s : State) : kept (tbLost s) = kept s := by
  unfold tbLost; simp [*]; done
@[simp] theorem takeOffset_kept (s : State) (off : Int) : kept (takeOffset s off) = kept s := by
  unfold takeOffset; simp [*]; done
@[simp] theorem execMTime_kept (w l sub exch : Nat) (t1 t2 t3 : W64) (mpkg hops : Nat) (s : State) {kk} (hk : kept s = kk) : outKept kk (execMTime w l sub exch t1 t2 t3 mpkg hops s) := by
  subst hk
  (unfold execMTime; simp [*]) <;> intros <;> (repeat' split) <;> (simp [*]; done)
@[simp] theorem execTbSyncTimeout_kept (s : State) {kk} (hk : kept s = kk) : outKept kk (execTbSyncTimeout s) := by
  subst hk
  unfold execTbSyncTimeout; simp [*]; done
@[simp] theorem execPpsEdge_kept (rising : Bool) (s : State) {kk} (hk : kept s = kk) : outKept kk (execPpsEdge rising s) := by
  subst hk
  (unfold execPpsEdge; simp [*]) <;> intros <;> (repeat' split) <;> (simp [*]; done)
@[simp] theorem execPpsLost_kept (s : State) {kk} (hk : kept s = kk) : outKept kk (execPpsLost s) := by
  subst hk
  unfold execPpsLost
  (repeat' split) <;> first | (simp [*]; done) | (simp (disch := first | (intros <;> (try dsimp only) <;> (repeat' split) <;> simp [*]) | fail) [*]; done)

/-! ### Machine/Watch.lean -/

@[simp] theorem pauseWatch_kept (since : W64) (s : State) (c : Nat) : kept (pauseWatch since s c) = kept s := by
  unfold pauseWatch; simp [*]; done
@[simp] theorem execPilotSend_kept (ep : Nat) (s : State) {kk} (hk : kept s = kk) : outKept kk (execPilotSend ep s) := by
  subst hk
  (unfold execPilotSend; simp [*]) <;> intros <;> (repeat' split) <;> (simp [*]; done)
@[simp] theorem setMissed_kept (s : State) (i n : Nat) : kept (setMissed s i n) = kept s := by
  unfold setMissed; simp [*]; done
@[simp] theorem pilotEvent_kept (s : State) (ep : Nat) : kept (pilotEvent s ep) = kept s := by
  unfold pilotEvent; simp [*]; done
@[simp] theorem missPilot_kept (s : State) (ep : Nat) : kept (missPilot s ep) = kept s := by
  unfold missPilot; simp [*]; done
@[simp] theorem execMPilot_kept (ep : Nat) (lit sick : Bool) (mask : BitVec 256) (s : State) {kk} (hk : kept s = kk) : outKept kk (execMPilot ep lit sick mask s) := by
  subst hk
  (unfold execMPilot; simp [*]) <;> intros <;> (repeat' split) <;> (simp [*]; done)
@[simp] theorem execPilotPeriodMiss_kept (ep : Nat) (s : State) {kk} (hk : kept s = kk) : outKept kk (execPilotPeriodMiss ep s) := by
  subst hk
  unfold execPilotPeriodMiss; simp [*]; done
@[simp] theorem markRung_kept (s : State) (i k : Nat) : kept (markRung s i k) = kept s := by
  unfold markRung; simp [*]; done
@[simp] theorem abortContexts_kept (s : State) (d : Nat) : kept (abortContexts s d) = kept s := by
  unfold abortContexts; simp [*]; done
@[simp] theorem dropThirdParty_kept (s : State) (ep : Nat) : kept (dropThirdParty s ep) = kept s := by
  unfold dropThirdParty; simp [*]; done
@[simp] theorem execRungContextAbort_kept (ep : Nat) (s : State) {kk} (hk : kept s = kk) : outKept kk (execRungContextAbort ep s) := by
  subst hk
  (unfold execRungContextAbort; simp [*]) <;> intros <;> (repeat' split) <;> (simp [*]; done)
@[simp] theorem execEngineReset_kept (ep : Nat) (s : State) {kk} (hk : kept s = kk) : outKept kk (execEngineReset ep s) := by
  subst hk
  (unfold execEngineReset; simp [*]) <;> intros <;> (repeat' split) <;> (simp [*]; done)
@[simp] theorem flushSaggar_kept (d : Nat) (s : State) (sg : Nat) : kept (flushSaggar d s sg) = kept s := by
  unfold flushSaggar; simp [*]; done
@[simp] theorem execSaggarFlush_kept (ep : Nat) (s : State) {kk} (hk : kept s = kk) : outKept kk (execSaggarFlush ep s) := by
  subst hk
  (unfold execSaggarFlush; simp [*]) <;> intros <;> (repeat' split) <;> (simp [*]; done)
@[simp] theorem execRungDieReset_kept (ep : Nat) (s : State) {kk} (hk : kept s = kk) : outKept kk (execRungDieReset ep s) := by
  subst hk
  (unfold execRungDieReset; simp [*]) <;> intros <;> (repeat' split) <;> (simp [*]; done)
@[simp] theorem execKilnLockstepFault_kept (s : State) {kk} (hk : kept s = kk) : outKept kk (execKilnLockstepFault s) := by
  subst hk
  (unfold execKilnLockstepFault; simp [*]) <;> intros <;> (repeat' split) <;> (simp [*]; done)
@[simp] theorem execKilnRestart_kept (s : State) {kk} (hk : kept s = kk) : outKept kk (execKilnRestart s) := by
  subst hk
  (unfold execKilnRestart; simp [*]) <;> intros <;> (repeat' split) <;> (simp [*]; done)

end Sys2Proof.Machine
end

