-- ==== Sys2Proof/Laws/KeptSystem.lean ====
section
/-! SUPPORT. Laws/KeptSystem.lean: what faults, management, tests, journal, lantern, power, start-up and register access leave alone. `kept` (Safety.lean) is the queue of waiting commands and the identity
registers; `f_kept` says that f leaves them as they were. A lemma about a command has the form outKept; some suppose that no identity
register is listed away from its fuse. -/

set_option linter.all false

namespace Sys2Proof.Machine

/-! ### Machine/Faults.lean -/

@[simp] theorem setLive_kept (s : State) (src : Nat) (on : Bool) : kept (setLive s src on) = kept s := by
  unfold setLive; simp [*]; done
@[simp] theorem refreshFault_kept (s : State) : kept (refreshFault s) = kept s := by
  unfold refreshFault; simp [*]; done
@[simp] theorem setBitOf_kept (s : State) (off b : Nat) (h : 0x10000 ≤ off) : kept (setBitOf s off b) = kept s := by
  unfold setBitOf; simp [*]
@[simp] theorem dropBitOf_kept (s : State) (off b : Nat) (h : 0x10000 ≤ off) : kept (dropBitOf s off b) = kept s := by
  unfold dropBitOf; simp [*]
@[simp] theorem addInfo_kept (s : State) (src cnt : Nat) : kept (addInfo s src cnt) = kept s := by
  unfold addInfo; simp [*]; done
@[simp] theorem loadDetail_kept (s : State) (e : Event) : kept (loadDetail s e) = kept s := by
  unfold loadDetail; simp [*]; done
@[simp] theorem loadTb_kept (s : State) (t : W64) : kept (loadTb s t) = kept s := by
  unfold loadTb; simp [*]; done
@[simp] theorem blankDetail_kept (s : State) : kept (blankDetail s) = kept s := by
  unfold blankDetail
  rw [each_kept_mem]
  intro x y hy
  simp only [List.mem_cons, List.not_mem_nil, or_false] at hy
  rcases hy with rfl | rfl | rfl | rfl | rfl | rfl | rfl | rfl <;> simp
@[simp] theorem capture_kept (s : State) (e : Event) (detail : Bool) : kept (capture s e detail) = kept s := by
  unfold capture; simp [*]; done
@[simp] theorem report_kept (s : State) (e : Event) (sev : Nat) (detail : Bool) : kept (report s e sev detail) = kept s := by
  unfold report
  (repeat' split) <;> first | (simp [*]; done) | (simp (disch := first | (intros <;> (try dsimp only) <;> (repeat' split) <;> simp [*]) | fail) [*]; done)
@[simp] theorem resetUnit_kept (s : State) (src : Nat) : kept (resetUnit s src) = kept s := by
  unfold resetUnit; simp [*]; done
@[simp] theorem actSnuff_kept (s : State) (e : Event) : kept (actSnuff s e) = kept s := by
  unfold actSnuff
  (repeat' split) <;> first | (simp [*]; done) | (simp (disch := first | (intros <;> (try dsimp only) <;> (repeat' split) <;> simp [*]) | fail) [*]; done)
@[simp] theorem actFence_kept (s : State) (e : Event) : kept (actFence s e) = kept s := by
  (unfold actFence; simp [*]) <;> intros <;> (repeat' split) <;> (simp [*]; done)
@[simp] theorem faultAct_kept (s : State) (e : Event) (sev : Nat) : kept (faultAct s e sev) = kept s := by
  unfold faultAct; simp [*]; done
@[simp] theorem faultEvent_kept (s : State) (e : Event) (detail : Bool) : kept (faultEvent s e detail) = kept s := by
  unfold faultEvent; simp [*]; done
@[simp] theorem execFaultEvent_kept (ctl : Option Nat) (detail : Bool) (s : State) {kk} (hk : kept s = kk) : outKept kk (execFaultEvent ctl detail s) := by
  subst hk
  (unfold execFaultEvent; simp [*]) <;> intros <;> (repeat' split) <;> (simp [*]; done)
@[simp] theorem execDetailTimeout_kept (s : State) {kk} (hk : kept s = kk) : outKept kk (execDetailTimeout s) := by
  subst hk
  unfold execDetailTimeout
  (repeat' split) <;> first | (simp [*]; done) | (simp (disch := first | (intros <;> (try dsimp only) <;> (repeat' split) <;> simp [*]) | fail) [*]; done)
@[simp] theorem clearSrc_kept (v : W32) (w : Nat) (s : State) (b : Nat) : kept (clearSrc v w s b) = kept s := by
  unfold clearSrc; simp [*]; done
@[simp] theorem execFltSrcStatClear_kept (w : Nat) (v : W32) (s : State) {kk} (hk : kept s = kk) : outKept kk (execFltSrcStatClear w v s) := by
  subst hk
  unfold execFltSrcStatClear; simp [*]; done
@[simp] theorem execCapvClear_kept (s : State) {kk} (hk : kept s = kk) : outKept kk (execCapvClear s) := by
  subst hk
  unfold execCapvClear; simp [*]; done
@[simp] theorem readPending_kept (s : State) (die : Nat) : kept (readPending s die) = kept s := by
  unfold readPending; simp [*]; done
@[simp] theorem lineFault_kept (s : State) (die : Nat) (inj : Bool) : kept (lineFault s die inj) = kept s := by
  unfold lineFault; simp [*]; done
@[simp] theorem takeFrame_kept (s : State) (die : Nat) (frame : BitVec 16) : kept (takeFrame s die frame) = kept s := by
  (unfold takeFrame; simp [*]) <;> intros <;> (repeat' split) <;> (simp [*]; done)
@[simp] theorem execErrorLineFrame_kept (die : Nat) (frame : BitVec 16) (s : State) {kk} (hk : kept s = kk) : outKept kk (execErrorLineFrame die frame s) := by
  subst hk
  (unfold execErrorLineFrame; simp [*]) <;> intros <;> (repeat' split) <;> (simp [*]; done)
@[simp] theorem execLineFault_kept (die : Nat) (stuck present : Bool) (s : State) {kk} (hk : kept s = kk) : outKept kk (execLineFault die stuck present s) := by
  subst hk
  (unfold execLineFault; simp [*]) <;> intros <;> (repeat' split) <;> (simp [*]; done)
@[simp] theorem injNow_kept (s : State) (src mode : Nat) : kept (injNow s src mode) = kept s := by
  unfold injNow; simp [*]; done
@[simp] theorem execFltInjGo_kept (v : W32) (s : State) {kk} (hk : kept s = kk) : outKept kk (execFltInjGo v s) := by
  subst hk
  (unfold execFltInjGo; simp [*]) <;> intros <;> (repeat' split) <;> (simp [*]; done)
@[simp] theorem execHaltChannelChange_kept (b on : Bool) (s : State) {kk} (hk : kept s = kk) : outKept kk (execHaltChannelChange b on s) := by
  subst hk
  (unfold execHaltChannelChange; simp [*]) <;> intros <;> (repeat' split) <;> (simp [*]; done)
@[simp] theorem execHaltDisc_kept (s : State) {kk} (hk : kept s = kk) : outKept kk (execHaltDisc s) := by
  subst hk
  unfold execHaltDisc
  (repeat' split) <;> first | (simp [*]; done) | (simp (disch := first | (intros <;> (try dsimp only) <;> (repeat' split) <;> simp [*]) | fail) [*]; done)
@[simp] theorem execHaltAssert_kept (s : State) {kk} (hk : kept s = kk) : outKept kk (execHaltAssert s) := by
  subst hk
  unfold execHaltAssert; simp [*]; done
@[simp] theorem execHaltRelease_kept (s : State) {kk} (hk : kept s = kk) : outKept kk (execHaltRelease s) := by
  subst hk
  unfold execHaltRelease; simp [*]; done
@[simp] theorem execHaltResume_kept (s : State) {kk} (hk : kept s = kk) : outKept kk (execHaltResume s) := by
  subst hk
  unfold execHaltResume
  (repeat' split) <;> first | (simp [*]; done) | (simp (disch := first | (intros <;> (try dsimp only) <;> (repeat' split) <;> simp [*]) | fail) [*]; done)

/-! ### Machine/Kmp.lean -/

@[simp] theorem dropFrame_kept (s : State) (r : Nat) : kept (dropFrame s r) = kept s := by
  unfold dropFrame; simp [*]; done
@[simp] theorem frameTaken_kept (s : State) : kept (frameTaken s) = kept s := by
  unfold frameTaken; simp [*]; done
@[simp] theorem sendFrame_kept (s : State) (kind : Nat) (body : List Nat) : kept (sendFrame s kind body) = kept s := by
  unfold sendFrame; simp [*]; done
@[simp] theorem execMgpFrameReceive_kept (b : List Byte) (fcsOk : Bool) (s : State) {kk} (hk : kept s = kk) : outKept kk (execMgpFrameReceive b fcsOk s) := by
  subst hk
  (unfold execMgpFrameReceive; simp [*]) <;> intros <;> (repeat' split) <;> (simp [*]; done)
@[simp] theorem takeKmp_kept (ty : Nat) (act : KmpIn → State → Option State) (s : State) (h_act : ∀ x0 x1 k, kept x1 = k → keptOpt k (act x0 x1)) {kk} (hk : kept s = kk) : outKept kk (takeKmp ty act s) := by
  subst hk
  unfold takeKmp
  generalize s.flt.inbox = l
  cases l with
  | nil => simp
  | cons m ms =>
    dsimp only
    split
    · have hz := h_act m (modFlt s fun f => { f with inbox := ms }) (kept s) (by simp)
      revert hz
      generalize act m _ = o
      cases o <;> simp
    · simp
@[simp] theorem execKmpAck_kept (s : State) {kk} (hk : kept s = kk) : outKept kk (execKmpAck s) := by
  subst hk
  unfold execKmpAck
  dsimp only
  (repeat' split) <;> (simp (disch := first | (intros <;> (try dsimp only) <;> (repeat' split) <;> simp [*]) | fail) [*]; done)
@[simp] theorem execKmpResend_kept (seq : Nat) (s : State) {kk} (hk : kept s = kk) : outKept kk (execKmpResend seq s) := by
  subst hk
  unfold execKmpResend
  (repeat' split) <;> first | (simp [*]; done) | (simp (disch := first | (intros <;> (try dsimp only) <;> (repeat' split) <;> simp [*]) | fail) [*]; done)
@[simp] theorem execTelem_kept (s : State) {kk} (hk : kept s = kk) : outKept kk (execTelem s) := by
  subst hk
  unfold execTelem; simp [*]; done
@[simp] theorem execKmpTermreq_kept (s : State) {kk} (hk : kept s = kk) : outKept kk (execKmpTermreq s) := by
  subst hk
  unfold execKmpTermreq; simp [*]; done
@[simp] theorem witnessSays_kept (act : State → Nat → State) (m : KmpIn) (s : State) (h_act : ∀ x0 x1, kept (act x0 x1) = kept x0) {kk} (hk : kept s = kk) : keptOpt kk (witnessSays act m s) := by
  subst hk
  (unfold witnessSays; simp [*]) <;> intros <;> (repeat' split) <;> (simp [*]; done)
@[simp] theorem execKmpGrant_kept (s : State) {kk} (hk : kept s = kk) : outKept kk (execKmpGrant s) := by
  subst hk
  unfold execKmpGrant; simp [*]; done
@[simp] theorem execKmpDeny_kept (s : State) {kk} (hk : kept s = kk) : outKept kk (execKmpDeny s) := by
  subst hk
  unfold execKmpDeny; simp [*]; done
@[simp] theorem installSet_kept (s : State) (st : PatStage) : kept (installSet s st).1 = kept s := by
  (unfold installSet; simp [*]) <;> intros <;> (repeat' split) <;> (simp [*]; done)
@[simp] theorem chunk_kept (s : State) (version size off : Nat) (data : List Byte) : kept (chunk s version size off data).1 = kept s := by
  (unfold chunk; simp [*]) <;> intros <;> (repeat' split) <;> (simp [*]; done)
@[simp] theorem execPatchunk_kept (s : State) {kk} (hk : kept s = kk) : outKept kk (execPatchunk s) := by
  subst hk
  unfold execPatchunk
  dsimp only
  (repeat' split) <;> (simp (disch := first | (intros <;> (try dsimp only) <;> (repeat' split) <;> simp [*]) | fail) [*]; done)
@[simp] theorem execPatternStageTimeout_kept (s : State) {kk} (hk : kept s = kk) : outKept kk (execPatternStageTimeout s) := by
  subst hk
  unfold execPatternStageTimeout; simp [*]; done

/-! ### Machine/FieldTest.lean -/

@[simp] theorem exportNow_kept (s : State) (bs : List (List Byte)) : kept (exportNow s bs) = kept s := by
  unfold exportNow; simp [*]; done
@[simp] theorem execSherdExport_kept (c : Nat) (hostErr : Option Nat) (s : State) {kk} (hk : kept s = kk) : outKept kk (execSherdExport c hostErr s) := by
  subst hk
  (unfold execSherdExport; simp [*]) <;> intros <;> (repeat' split) <;> (simp [*]; done)
@[simp] theorem loadPattern_kept (s : State) (c : Nat) (p : List Byte) : kept (loadPattern s c p) = kept s := by
  unfold loadPattern; simp [*]; done
@[simp] theorem execFieldTestStart_kept (d : Nat) (s : State) {kk} (hk : kept s = kk) : outKept kk (execFieldTestStart d s) := by
  subst hk
  (unfold execFieldTestStart; simp [*]) <;> intros <;> (repeat' split) <;> (simp [*]; done)
@[simp] theorem testOver_kept (s : State) (t : FieldTest) (passed : Bool) : kept (testOver s t passed) = kept s := by
  unfold testOver; simp [*]; done
@[simp] theorem execFieldTestEnd_kept (d : Nat) (s : State) {kk} (hk : kept s = kk) : outKept kk (execFieldTestEnd d s) := by
  subst hk
  (unfold execFieldTestEnd; simp [*]) <;> intros <;> (repeat' split) <;> (simp [*]; done)
@[simp] theorem execFieldTestAbort_kept (d cl pos : Nat) (s : State) {kk} (hk : kept s = kk) : outKept kk (execFieldTestAbort d cl pos s) := by
  subst hk
  unfold execFieldTestAbort; simp [*]; done
@[simp] theorem execFtnow_kept (s : State) {kk} (hk : kept s = kk) : outKept kk (execFtnow s) := by
  subst hk
  unfold execFtnow; simp [*]; done
@[simp] theorem execTstInjGo_kept (v : W32) (s : State) {kk} (hk : kept s = kk) : outKept kk (execTstInjGo v s) := by
  subst hk
  (unfold execTstInjGo; simp [*]) <;> intros <;> (repeat' split) <;> (simp [*]; done)

/-! ### Machine/Journal.lean -/

@[simp] theorem execSpareMove_kept (blk count : Nat) (s : State) {kk} (hk : kept s = kk) : outKept kk (execSpareMove blk count s) := by
  subst hk
  unfold execSpareMove; simp [*]; done
@[simp] theorem holdItem_kept (s : State) (n : Nat) (r : JRec) : kept (holdItem s n r) = kept s := by
  unfold holdItem; simp [*]; done
@[simp] theorem dropItem_kept (s : State) (n seq : Nat) : kept (dropItem s n seq) = kept s := by
  unfold dropItem; simp [*]; done
@[simp] theorem heardTwin_kept (s : State) : kept (heardTwin s) = kept s := by
  unfold heardTwin; simp [*]; done
@[simp] theorem setRunner_kept (s : State) (b : Bool) : kept (setRunner s b) = kept s := by
  unfold setRunner; simp [*]; done
@[simp] theorem enterJoining_kept (s : State) : kept (enterJoining s) = kept s := by
  unfold enterJoining; simp [*]; done
@[simp] theorem enterPaired_kept (s : State) : kept (enterPaired s) = kept s := by
  unfold enterPaired; simp [*]; done
@[simp] theorem execJrnlBeat_kept (s : State) {kk} (hk : kept s = kk) : outKept kk (execJrnlBeat s) := by
  subst hk
  unfold execJrnlBeat; simp [*]; done
@[simp] theorem execJrnlBeatReceive_kept (spkg pst : Nat) (runner solo : Bool) (named : Nat) (s : State) {kk} (hk : kept s = kk) : outKept kk (execJrnlBeatReceive spkg pst runner solo named s) := by
  subst hk
  (unfold execJrnlBeatReceive; simp [*]) <;> intros <;> (repeat' split) <;> (simp [*]; done)
@[simp] theorem holdRec_kept (s : State) (r : JRec) : kept (holdRec s r) = kept s := by
  (unfold holdRec; simp [*]) <;> intros <;> (repeat' split) <;> (simp [*]; done)
@[simp] theorem execRec_kept (spkg : Nat) (r : JRec) (s : State) {kk} (hk : kept s = kk) : outKept kk (execRec spkg r s) := by
  subst hk
  (unfold execRec; simp [*]) <;> intros <;> (repeat' split) <;> (simp [*]; done)
@[simp] theorem rebuildStrm_kept (s : State) (n : Nat) : kept (rebuildStrm s n) = kept s := by
  unfold rebuildStrm; simp [*]; done
@[simp] theorem noteDisc_kept (s : State) : kept (noteDisc s) = kept s := by
  unfold noteDisc; simp [*]; done
@[simp] theorem resolveAsked_kept (s : State) (n seq : Nat) (held : Bool) : kept (resolveAsked s n seq held) = kept s := by
  (unfold resolveAsked; simp [*]) <;> intros <;> (repeat' split) <;> (simp [*]; done)
@[simp] theorem drainTodo_kept (s : State) : kept (drainTodo s) = kept s := by
  unfold drainTodo; simp [*]; done
@[simp] theorem ackedCell_kept (s : State) (kind key : Nat) : kept (ackedCell s kind key) = kept s := by
  unfold ackedCell; simp [*]; done
@[simp] theorem execJrnlAck_kept (spkg n seq kind status : Nat) (s : State) {kk} (hk : kept s = kk) : outKept kk (execJrnlAck spkg n seq kind status s) := by
  subst hk
  (unfold execJrnlAck; simp [*]) <;> intros <;> (repeat' split) <;> (simp [*]; done)
@[simp] theorem holdDone_kept (s : State) (n : Nat) (c : Cpl) : kept (holdDone s n c) = kept s := by
  unfold holdDone; simp [*]; done
@[simp] theorem dualDone_kept (s : State) (n : Nat) (c : Cpl) : kept (dualDone s n c) = kept s := by
  (unfold dualDone; simp [*]) <;> intros <;> (repeat' split) <;> (simp [*]; done)
@[simp] theorem execJrnlDone_kept (spkg n : Nat) (c : Cpl) (s : State) {kk} (hk : kept s = kk) : outKept kk (execJrnlDone spkg n c s) := by
  subst hk
  (unfold execJrnlDone; simp [*]) <;> intros <;> (repeat' split) <;> (simp [*]; done)
@[simp] theorem execJrnlState_kept (spkg n seq mode state : Nat) (s : State) {kk} (hk : kept s = kk) : outKept kk (execJrnlState spkg n seq mode state s) := by
  subst hk
  (unfold execJrnlState; simp [*]) <;> intros <;> (repeat' split) <;> (simp [*]; done)
@[simp] theorem execQuery_kept (spkg n seq : Nat) (s : State) {kk} (hk : kept s = kk) : outKept kk (execQuery spkg n seq s) := by
  subst hk
  (unfold execQuery; simp [*]) <;> intros <;> (repeat' split) <;> (simp [*]; done)
@[simp] theorem execJrnlResend_kept (i : Nat) (s : State) {kk} (hk : kept s = kk) : outKept kk (execJrnlResend i s) := by
  subst hk
  (unfold execJrnlResend; simp [*]) <;> intros <;> (repeat' split) <;> (simp [*]; done)
@[simp] theorem soloPrepared_kept (n : Nat) (l : List (JRec × List Byte × W64)) (s : State) : kept (soloPrepared n l s) = kept s := by
  induction l generalizing s with
  | nil => simp [soloPrepared]
  | cons p l ih => obtain ⟨r, bs, t⟩ := p; unfold soloPrepared; split <;> simp [ih]
@[simp] theorem enterSolo_kept (s : State) : kept (enterSolo s) = kept s := by
  unfold enterSolo; simp [*]; done
@[simp] theorem execTwinlost_kept (s : State) {kk} (hk : kept s = kk) : outKept kk (execTwinlost s) := by
  subst hk
  (unfold execTwinlost; simp [*]) <;> intros <;> (repeat' split) <;> (simp [*]; done)
@[simp] theorem execSolo_kept (s : State) {kk} (hk : kept s = kk) : outKept kk (execSolo s) := by
  subst hk
  unfold execSolo; simp [*]; done
@[simp] theorem execRejoin_kept (s : State) {kk} (hk : kept s = kk) : outKept kk (execRejoin s) := by
  subst hk
  (unfold execRejoin; simp [*]) <;> intros <;> (repeat' split) <;> (simp [*]; done)
@[simp] theorem retireStrm_kept (s : State) (n : Nat) : kept (retireStrm s n) = kept s := by
  unfold retireStrm; simp [*]; done
@[simp] theorem execSyncreq_kept (spkg : Nat) (s : State) {kk} (hk : kept s = kk) : outKept kk (execSyncreq spkg s) := by
  subst hk
  (unfold execSyncreq; simp [*]) <;> intros <;> (repeat' split) <;> (simp [*]; done)
@[simp] theorem execSyncend_kept (spkg count : Nat) (s : State) {kk} (hk : kept s = kk) : outKept kk (execSyncend spkg count s) := by
  subst hk
  (unfold execSyncend; simp [*]) <;> intros <;> (repeat' split) <;> (simp [*]; done)
@[simp] theorem recoverRec_kept (s : State) (r : JRec) (mode : Nat) (bad : Bool) : kept (recoverRec s r mode bad) = kept s := by
  unfold recoverRec; simp [*]; done
@[simp] theorem recoverJournalStrm_kept (s : State) (bad : List Nat) (n : Nat) (js : JStream) : kept (recoverJournalStrm s bad n js) = kept s := by
  unfold recoverJournalStrm; simp [*]; done
@[simp] theorem execJournalRecovery_kept (bad : List Nat) (s : State) {kk} (hk : kept s = kk) : outKept kk (execJournalRecovery bad s) := by
  subst hk
  (unfold execJournalRecovery; simp [*]) <;> intros <;> (repeat' split) <;> (simp [*]; done)

/-! ### Machine/Lantern.lean -/

@[simp] theorem modLnt_kept (s : State) (f : LntSt → LntSt) : kept (modLnt s f) = kept s := by
  unfold modLnt; simp [*]; done
@[simp] theorem lanternTake_kept (c op : Nat) (go : State → State) (s : State) (h_go : ∀ x0, kept (go x0) = kept x0) {kk} (hk : kept s = kk) : outKept kk (lanternTake c op go s) := by
  subst hk
  (unfold lanternTake; simp [*]) <;> intros <;> (repeat' split) <;> (simp [*]; done)
@[simp] theorem newKey_kept (s : State) (slot : Nat) : kept (newKey s slot).1 = kept s := by
  unfold newKey; simp [*]; done
@[simp] theorem zeroSlot_kept (s : State) (slot : Nat) : kept (zeroSlot s slot) = kept s := by
  unfold zeroSlot; simp [*]; done
@[simp] theorem bindBlocks_kept (s : State) (sg n : Nat) (d : Nat) : kept (bindBlocks s sg n d) = kept s := by
  unfold bindBlocks; simp [*]; done
@[simp] theorem carve_kept (s : State) (sg cnt mask : Nat) (slice : Option Nat) : kept (carve s sg cnt mask slice).1 = kept s := by
  (unfold carve; simp [*]) <;> intros <;> (repeat' split) <;> (simp [*]; done)
@[simp] theorem execSgCreate_kept (c : Nat) (s : State) {kk} (hk : kept s = kk) : outKept kk (execSgCreate c s) := by
  subst hk
  unfold execSgCreate
  dsimp only
  (repeat' split) <;> (simp (disch := first | (intros <;> (try dsimp only) <;> (repeat' split) <;> simp [*]) | fail) [*]; done)
@[simp] theorem execSgreq_kept (seq term : Nat) (ws : List Nat) (s : State) {kk} (hk : kept s = kk) : outKept kk (execSgreq seq term ws s) := by
  subst hk
  unfold execSgreq
  dsimp only
  (repeat' split) <;> (simp (disch := first | (intros <;> (try dsimp only) <;> (repeat' split) <;> simp [*]) | fail) [*]; done)
@[simp] theorem scrubSg_kept (s : State) (sg : Nat) : kept (scrubSg s sg) = kept s := by
  unfold scrubSg; simp [*]; done
@[simp] theorem releaseSg_kept (s : State) (sg : Nat) (dest : ReleaseTo) : kept (releaseSg s sg dest) = kept s := by
  unfold releaseSg; simp [*]; done
@[simp] theorem freeSg_kept (s : State) (sg : Nat) : kept (freeSg s sg) = kept s := by
  (unfold freeSg; simp [*]) <;> intros <;> (repeat' split) <;> (simp [*]; done)
@[simp] theorem releaseAnswer_kept (s : State) (dest : ReleaseTo) : kept (releaseAnswer s dest) = kept s := by
  unfold releaseAnswer
  (repeat' split) <;> first | (simp [*]; done) | (simp (disch := first | (intros <;> (try dsimp only) <;> (repeat' split) <;> simp [*]) | fail) [*]; done)
@[simp] theorem execSgDestroy_kept (c : Nat) (s : State) {kk} (hk : kept s = kk) : outKept kk (execSgDestroy c s) := by
  subst hk
  unfold execSgDestroy; simp [*]; done
@[simp] theorem execSgrel_kept (seq term : Nat) (ws : List Nat) (s : State) {kk} (hk : kept s = kk) : outKept kk (execSgrel seq term ws s) := by
  subst hk
  unfold execSgrel
  dsimp only
  (repeat' split) <;> (simp (disch := first | (intros <;> (try dsimp only) <;> (repeat' split) <;> simp [*]) | fail) [*]; done)
@[simp] theorem rekeyNow_kept (s : State) (c sg : Nat) : kept (rekeyNow s c sg) = kept s := by
  unfold rekeyNow; simp [*]; done
@[simp] theorem execRekey_kept (c : Nat) (s : State) {kk} (hk : kept s = kk) : outKept kk (execRekey c s) := by
  subst hk
  unfold execRekey; simp [*]; done
@[simp] theorem execKeyDrainErase_kept (sg : Nat) (s : State) {kk} (hk : kept s = kk) : outKept kk (execKeyDrainErase sg s) := by
  subst hk
  (unfold execKeyDrainErase; simp [*]) <;> intros <;> (repeat' split) <;> (simp [*]; done)
@[simp] theorem keyLossItems_kept (n sg : Nat) (m : Nat) (s : State) : kept (keyLossItems n sg m s) = kept s := by
  induction m generalizing s with
  | zero => rfl
  | succ m ih => unfold keyLossItems; (repeat' split) <;> first | (simp [ih]; done) | (dsimp only; (repeat' split) <;> (simp [ih]; done))
@[simp] theorem keyLossStrm_kept (sg : Nat) (s : State) (n : Nat) : kept (keyLossStrm sg s n) = kept s := by
  unfold keyLossStrm; simp [*]; done
@[simp] theorem dropQueued_kept (s : State) (slots : List Nat) : kept (dropQueued s slots) = kept s := by
  unfold dropQueued; simp [*]; done
@[simp] theorem zeroiseSg_kept (s : State) (sg : Nat) : kept (zeroiseSg s sg) = kept s := by
  (unfold zeroiseSg; simp [*]) <;> intros <;> (repeat' split) <;> (simp [*]; done)
@[simp] theorem newServiceKeys_kept (s : State) : kept (newServiceKeys s) = kept s := by
  unfold newServiceKeys; simp [*]; done
@[simp] theorem execZeroise_kept (c : Nat) (s : State) {kk} (hk : kept s = kk) : outKept kk (execZeroise c s) := by
  subst hk
  unfold execZeroise; simp [*]; done
@[simp] theorem execTntSgBindWrite_kept (n : Nat) (v : W32) (s : State) {kk} (hk : kept s = kk) : outKept kk (execTntSgBindWrite n v s) := by
  subst hk
  unfold execTntSgBindWrite; simp [*]; done
@[simp] theorem showBank_kept (s : State) : kept (showBank s) = kept s := by
  unfold showBank; simp [*]; done
@[simp] theorem execPkeyUpdate_kept (c : Nat) (hostErr : Bool) (s : State) {kk} (hk : kept s = kk) : outKept kk (execPkeyUpdate c hostErr s) := by
  subst hk
  unfold execPkeyUpdate
  dsimp only
  (repeat' split) <;> (simp (disch := first | (intros <;> (try dsimp only) <;> (repeat' split) <;> simp [*]) | fail) [*]; done)
@[simp] theorem execFwUpdate_kept (c : Nat) (hostErr : Bool) (s : State) {kk} (hk : kept s = kk) : outKept kk (execFwUpdate c hostErr s) := by
  subst hk
  unfold execFwUpdate
  dsimp only
  (repeat' split) <;> (simp (disch := first | (intros <;> (try dsimp only) <;> (repeat' split) <;> simp [*]) | fail) [*]; done)
@[simp] theorem execSvnCommit_kept (c : Nat) (s : State) {kk} (hk : kept s = kk) : outKept kk (execSvnCommit c s) := by
  subst hk
  unfold execSvnCommit; simp [*]; done
@[simp] theorem execRecoveryBundle_kept (b : List Byte) (s : State) {kk} (hk : kept s = kk) : outKept kk (execRecoveryBundle b s) := by
  subst hk
  unfold execRecoveryBundle; simp [*]; done

/-! ### Machine/Attest.lean -/

@[simp] theorem modPin_kept (s : State) (f : PinSt → PinSt) : kept (modPin s f) = kept s := by
  unfold modPin; simp [*]; done
@[simp] theorem execMctpPacket_kept (b : List Byte) (pecOk : Bool) (s : State) {kk} (hk : kept s = kk) : outKept kk (execMctpPacket b pecOk s) := by
  subst hk
  (unfold execMctpPacket; simp [*]) <;> intros <;> (repeat' split) <;> (simp [*]; done)
@[simp] theorem spdmTaken_kept (s : State) (f : Nat) : kept (spdmTaken s f) = kept s := by
  unfold spdmTaken; simp [*]; done
@[simp] theorem spdmReply_kept (s : State) (code : Nat) (body : List Byte) : kept (spdmReply s code body) = kept s := by
  unfold spdmReply; simp [*]; done
@[simp] theorem spdmError_kept (s : State) (code : Nat) : kept (spdmError s code) = kept s := by
  unfold spdmError; simp [*]; done
@[simp] theorem spdmTake_kept (f code need : Nat) (go : State → State) (s : State) (h_go : ∀ x0, kept (go x0) = kept x0) {kk} (hk : kept s = kk) : outKept kk (spdmTake f code need go s) := by
  subst hk
  (unfold spdmTake; simp [*]) <;> intros <;> (repeat' split) <;> (simp [*]; done)
@[simp] theorem setSpdm_kept (s : State) (f n : Nat) : kept (setSpdm s f n) = kept s := by
  unfold setSpdm; simp [*]; done
@[simp] theorem execGetVersion_kept (f : Nat) (s : State) {kk} (hk : kept s = kk) : outKept kk (execGetVersion f s) := by
  subst hk
  unfold execGetVersion; simp [*]; done
@[simp] theorem execGetCapabilities_kept (f : Nat) (s : State) {kk} (hk : kept s = kk) : outKept kk (execGetCapabilities f s) := by
  subst hk
  unfold execGetCapabilities; simp [*]; done
@[simp] theorem execNegotiateAlgorithms_kept (f : Nat) (s : State) {kk} (hk : kept s = kk) : outKept kk (execNegotiateAlgorithms f s) := by
  subst hk
  unfold execNegotiateAlgorithms; simp [*]; done
@[simp] theorem execGetDigests_kept (f : Nat) (s : State) {kk} (hk : kept s = kk) : outKept kk (execGetDigests f s) := by
  subst hk
  unfold execGetDigests; simp [*]; done
@[simp] theorem execGetCertificate_kept (f slot off len : Nat) (s : State) {kk} (hk : kept s = kk) : outKept kk (execGetCertificate f slot off len s) := by
  subst hk
  unfold execGetCertificate; simp [*]; done
@[simp] theorem execChallenge_kept (f slot : Nat) (nonce : List Byte) (s : State) {kk} (hk : kept s = kk) : outKept kk (execChallenge f slot nonce s) := by
  subst hk
  unfold execChallenge; simp [*]; done
@[simp] theorem execGetMeasurements_kept (f op : Nat) (s : State) {kk} (hk : kept s = kk) : outKept kk (execGetMeasurements f op s) := by
  subst hk
  unfold execGetMeasurements; simp [*]; done
@[simp] theorem execKeyExchange_kept (f : Nat) (req : List Byte) (s : State) {kk} (hk : kept s = kk) : outKept kk (execKeyExchange f req s) := by
  subst hk
  unfold execKeyExchange; simp [*]; done
@[simp] theorem execFinish_kept (f id : Nat) (macOk : Bool) (s : State) {kk} (hk : kept s = kk) : outKept kk (execFinish f id macOk s) := by
  subst hk
  unfold execFinish
  (repeat' split) <;> first | (simp [*]; done) | (simp (disch := first | (intros <;> (try dsimp only) <;> (repeat' split) <;> simp [*]) | fail) [*]; done)
@[simp] theorem sessionTake_kept (f code id : Nat) (go : State → State) (s : State) (h_go : ∀ x0, kept (go x0) = kept x0) {kk} (hk : kept s = kk) : outKept kk (sessionTake f code id go s) := by
  subst hk
  unfold sessionTake; simp [*]; done
@[simp] theorem execHeartbeat_kept (f id : Nat) (s : State) {kk} (hk : kept s = kk) : outKept kk (execHeartbeat f id s) := by
  subst hk
  unfold execHeartbeat; simp [*]; done
@[simp] theorem execKeyUpdate_kept (f id op : Nat) (s : State) {kk} (hk : kept s = kk) : outKept kk (execKeyUpdate f id op s) := by
  subst hk
  unfold execKeyUpdate; simp [*]; done
@[simp] theorem execEndSession_kept (f id : Nat) (s : State) {kk} (hk : kept s = kk) : outKept kk (execEndSession f id s) := by
  subst hk
  unfold execEndSession; simp [*]; done
@[simp] theorem execIdeKm_kept (f id port strm : Nat) (set1 : Bool) (s : State) {kk} (hk : kept s = kk) : outKept kk (execIdeKm f id port strm set1 s) := by
  subst hk
  (unfold execIdeKm; simp [*]) <;> intros <;> (repeat' split) <;> (simp [*]; done)

/-! ### Machine/Power.lean -/

@[simp] theorem modPwr_kept (s : State) (f : PwrSt → PwrSt) : kept (modPwr s f) = kept s := by
  unfold modPwr; simp [*]; done
@[simp] theorem levelSrc_kept (s : State) (off : Nat) (on : Bool) (sub : Nat) : kept (levelSrc s off on sub) = kept s := by
  unfold levelSrc; simp [*]; done
@[simp] theorem pwrfail_kept (s : State) : kept (pwrfail s) = kept s := by
  unfold pwrfail; simp [*]; done
@[simp] theorem execPwrfailAssert_kept (s : State) {kk} (hk : kept s = kk) : outKept kk (execPwrfailAssert s) := by
  subst hk
  unfold execPwrfailAssert; simp [*]; done
@[simp] theorem execInputUndervolt_kept (s : State) {kk} (hk : kept s = kk) : outKept kk (execInputUndervolt s) := by
  subst hk
  unfold execInputUndervolt; simp [*]; done
@[simp] theorem execPwrfailRelease_kept (s : State) {kk} (hk : kept s = kk) : outKept kk (execPwrfailRelease s) := by
  subst hk
  unfold execPwrfailRelease; simp [*]; done
@[simp] theorem execPfrelCycle_kept (s : State) {kk} (hk : kept s = kk) : outKept kk (execPfrelCycle s) := by
  subst hk
  (unfold execPfrelCycle; simp [*]) <;> intros <;> (repeat' split) <;> (simp [*]; done)
@[simp] theorem execInputOvervolt_kept (on : Bool) (s : State) {kk} (hk : kept s = kk) : outKept kk (execInputOvervolt on s) := by
  subst hk
  unfold execInputOvervolt; simp [*]; done
@[simp] theorem execRailOutOfLimits_kept (rail : Nat) (on : Bool) (s : State) {kk} (hk : kept s = kk) : outKept kk (execRailOutOfLimits rail on s) := by
  subst hk
  unfold execRailOutOfLimits; simp [*]; done
@[simp] theorem setVeff_kept (s : State) (d x : Nat) : kept (setVeff s d x) = kept s := by
  unfold setVeff; simp [*]; done
@[simp] theorem showCapped_kept (s : State) : kept (showCapped s) = kept s := by
  unfold showCapped; simp [*]; done
@[simp] theorem execPwrRailVsetWrite_kept (d v : Nat) (s : State) {kk} (hk : kept s = kk) : outKept kk (execPwrRailVsetWrite d v s) := by
  subst hk
  (unfold execPwrRailVsetWrite; simp [*]) <;> intros <;> (repeat' split) <;> (simp [*]; done)
@[simp] theorem capDown_kept (s : State) (d : Nat) : kept (capDown s d) = kept s := by
  unfold capDown; simp [*]; done
@[simp] theorem railUp_kept (s : State) (d : Nat) : kept (railUp s d) = kept s := by
  unfold railUp; simp [*]; done
@[simp] theorem execCapLoop_kept (pin vin : Nat) (s : State) {kk} (hk : kept s = kk) : outKept kk (execCapLoop pin vin s) := by
  subst hk
  unfold execCapLoop
  split
  · rfl
  · generalize hu : modPwr (fput (fput s r_PWR_IN f_PWR_IN_PIN pin) r_PWR_IN f_PWR_IN_VIN vin) (fun p => { p with loopAt := s.tb.tb }) = u
    have h : kept u = kept s := by rw [← hu]; simp
    dsimp only
    (repeat' split) <;> simp [h]
@[simp] theorem execThermalThrottle_kept (d tj : Nat) (s : State) {kk} (hk : kept s = kk) : outKept kk (execThermalThrottle d tj s) := by
  subst hk
  (unfold execThermalThrottle; simp [*]) <;> intros <;> (repeat' split) <;> (simp [*]; done)
@[simp] theorem execTherm_kept (d : Nat) (s : State) {kk} (hk : kept s = kk) : outKept kk (execTherm d s) := by
  subst hk
  unfold execTherm; simp [*]; done
@[simp] theorem showTol_kept (s : State) : kept (showTol s) = kept s := by
  unfold showTol; simp [*]; done
@[simp] theorem setPwrState_kept (s : State) (x : Nat) : kept (setPwrState s x) = kept s := by
  unfold setPwrState; simp [*]; done
@[simp] theorem tickIdle_kept (s : State) : kept (tickIdle s) = kept s := by
  unfold tickIdle; simp [*]; done
@[simp] theorem enterL3_kept (s : State) : kept (enterL3 s) = kept s := by
  unfold enterL3; simp [*]; done
@[simp] theorem blankKeys_kept (s : State) : kept (blankKeys s) = kept s := by
  unfold blankKeys; simp [*]; done
@[simp] theorem enterL4_kept (s : State) : kept (enterL4 s) = kept s := by
  unfold enterL4
  simp
@[simp] theorem leaveL4_kept (s : State) : kept (leaveL4 s) = kept s := by
  unfold leaveL4; simp [*]; done
@[simp] theorem enterState_kept (s : State) (st : Nat) : kept (enterState s st) = kept s := by
  unfold enterState
  simp only [kept_ite, setPwrState_kept, enterL4_kept, enterL3_kept, ite_self]
@[simp] theorem toL0_kept (s : State) : kept (toL0 s) = kept s := by
  unfold toL0; simp [*]; done
@[simp] theorem wake_kept (s : State) : kept (wake s) = kept s := by
  unfold wake; simp [*]; done
@[simp] theorem retol_kept (s : State) : kept (retol s) = kept s := by
  unfold retol; simp [*]; done
@[simp] theorem execPowerStateSelect_kept (s : State) {kk} (hk : kept s = kk) : outKept kk (execPowerStateSelect s) := by
  subst hk
  unfold execPowerStateSelect
  have h : kept (showTol s) = kept s := by simp
  revert h
  generalize showTol s = u
  intro h
  dsimp only
  (repeat' split) <;> simp [h]
@[simp] theorem execWakeEvent_kept (w : Wake) (s : State) {kk} (hk : kept s = kk) : outKept kk (execWakeEvent w s) := by
  subst hk
  unfold execWakeEvent; simp [*]; done
@[simp] theorem execPwrCtlWake_kept (s : State) {kk} (hk : kept s = kk) : outKept kk (execPwrCtlWake s) := by
  subst hk
  unfold execPwrCtlWake; simp [*]; done
@[simp] theorem execPwrCtlHold_kept (on : Bool) (s : State) {kk} (hk : kept s = kk) : outKept kk (execPwrCtlHold on s) := by
  subst hk
  unfold execPwrCtlHold; simp [*]; done
@[simp] theorem execPwrLtrWrite_kept (f v : Nat) (s : State) {kk} (hk : kept s = kk) : outKept kk (execPwrLtrWrite f v s) := by
  subst hk
  unfold execPwrLtrWrite; simp [*]; done
@[simp] theorem execPwrPeerTolWrite_kept (v : Nat) (s : State) {kk} (hk : kept s = kk) : outKept kk (execPwrPeerTolWrite v s) := by
  subst hk
  unfold execPwrPeerTolWrite; simp [*]; done

/-! ### Machine/Boot.lean -/

theorem moduleReset_kept (s : State) (h0 : fuses s = []) : kept (moduleReset s) = kept s := by
  have h : kept s = keptOf [] s.pending := by
    unfold kept keptOf; unfold fuses at h0; rw [h0]; rfl
  rw [h]
  unfold moduleReset
  simp
  rfl
theorem execMrstN_kept (low : Bool) (s : State) (h0 : fuses s = []) {kk} (hk : kept s = kk) : outKept kk (execMrstN low s) := by
  subst hk
  unfold execMrstN
  (repeat' split) <;> try (simp; done)
  simp only [outKept_next]
  exact (moduleReset_kept (modPin s fun p => { p with mrstLow := true }) h0).trans (by simp)
theorem execMrstNReset_kept (s : State) (h0 : fuses s = []) {kk} (hk : kept s = kk) : outKept kk (execMrstNReset s) := by
  subst hk
  unfold execMrstNReset
  split <;> simp [moduleReset_kept _ h0]
@[simp] theorem execInitFill_kept (k : Nat) (s : State) {kk} (hk : kept s = kk) : outKept kk (execInitFill k s) := by
  subst hk
  unfold execInitFill; simp [*]; done
@[simp] theorem bootHeld_kept (s : State) (n code : Nat) : kept (bootHeld s n code) = kept s := by
  unfold bootHeld; simp [*]; done
@[simp] theorem bootDone_kept (s : State) (n : Nat) : kept (bootDone s n) = kept s := by
  unfold bootDone; simp [*]; done
@[simp] theorem bootRom_kept (s : State) : kept (bootRom s) = kept s := by
  unfold bootRom; simp [*]; done
@[simp] theorem bootBanks_kept (s : State) : kept (bootBanks s) = kept s := by
  (unfold bootBanks; simp [*]) <;> intros <;> (repeat' split) <;> (simp [*]; done)
@[simp] theorem dieOff_kept (s : State) (d : Nat) : kept (dieOff s d) = kept s := by
  unfold dieOff; simp [*]; done
@[simp] theorem bootAlign_kept (s : State) (bad : List Nat) : kept (bootAlign s bad) = kept s := by
  unfold bootAlign; simp [*]; done
@[simp] theorem bootTest_kept (s : State) (bad : List Nat) (badPos : List (Nat × Nat × Nat)) : kept (bootTest s bad badPos) = kept s := by
  unfold bootTest; simp [*]; done
@[simp] theorem bindSlot_kept (s : State) (d cl k : Nat) : kept (bindSlot s d cl k) = kept s := by
  (unfold bindSlot; simp [*]) <;> intros <;> (repeat' split) <;> (simp [*]; done)
@[simp] theorem bootBind_kept (s : State) : kept (bootBind s) = kept s := by
  unfold bootBind; simp [*]; done
theorem execStartUp_kept (n : Nat) (bad : List Nat) (badPos : List (Nat × Nat × Nat)) (s : State) (h0 : fuses s = []) {kk} (hk : kept s = kk) : outKept kk (execStartUp n bad badPos s) := by
  subst hk
  unfold execStartUp
  (repeat' split) <;> simp [moduleReset_kept _ h0]
@[simp] theorem execRefclkLoss_kept (on : Bool) (s : State) {kk} (hk : kept s = kk) : outKept kk (execRefclkLoss on s) := by
  subst hk
  unfold execRefclkLoss; simp [*]; done
@[simp] theorem flrNow_kept (s : State) (f : Nat) : kept (flrNow s f) = kept s := by
  unfold flrNow
  have h : outKept (kept s) (execFlr f s) := by simp
  revert h
  generalize execFlr f s = o
  cases o <;> simp
@[simp] theorem execPerstAssert_kept (hp1 : Bool) (s : State) {kk} (hk : kept s = kk) : outKept kk (execPerstAssert hp1 s) := by
  subst hk
  unfold execPerstAssert; simp [*]; done
@[simp] theorem execPerstDeassert_kept (hp1 : Bool) (s : State) {kk} (hk : kept s = kk) : outKept kk (execPerstDeassert hp1 s) := by
  subst hk
  unfold execPerstDeassert; simp [*]; done
@[simp] theorem execSgmiiAutoneg_kept (speed : Nat) (full : Bool) (s : State) {kk} (hk : kept s = kk) : outKept kk (execSgmiiAutoneg speed full s) := by
  subst hk
  unfold execSgmiiAutoneg; simp [*]; done

/-! ### Machine/RegIO.lean -/

@[simp] theorem readBy_kept (s : State) (mid off : Nat) : kept (readBy s mid off).1 = kept s := by
  unfold readBy
  split
  · have h : outKept (kept s) (execDetTbLoRead s) := by simp
    revert h
    generalize execDetTbLoRead s = o
    cases o <;> simp
  · (repeat' split) <;> simp
@[simp] theorem regStore_kept (s : State) (off : Nat) (v : W32) (h : 0x10000 ≤ off) : kept (regStore s off v) = kept s := by
  unfold regStore; split <;> simp [h]
@[simp] theorem storeOff_kept (s : State) (off : Nat) (v mask : W32) (h : 0x10000 ≤ off) : kept (storeOff s off v mask) = kept s := by
  unfold storeOff; split <;> simp [h]
@[simp] theorem andThen_kept (o : Out) (f : State → Out) {kk} (ho : outKept kk o) (hf : ∀ t, kept t = kk → outKept kk (f t)) : outKept kk (andThen o f) := by
  cases o with
  | next t => exact hf t ho
  | fault x => trivial
  | refused x => trivial
@[simp] theorem writePwr_kept (off : Nat) (v : W32) (s : State) (h : 0x10000 ≤ off) {kk} (hk : kept s = kk) : outKept kk (writePwr off v s) := by
  subst hk
  unfold writePwr
  by_cases hc : off = r_PWR_CTL
  · rw [if_pos hc]
    refine andThen_kept _ _ (by simp) fun t ht => ?_
    split <;> simp [ht]
  · rw [if_neg hc]
    (repeat' split) <;> simp [h]
@[simp] theorem writeLadder_kept (off : Nat) (v : W32) (s : State) (h : 0x10000 ≤ off) : kept (writeLadder off v s) = kept s := by
  unfold writeLadder
  dsimp only
  (repeat' split) <;> simp [h]
@[simp] theorem writeRst_kept (off : Nat) (v : W32) (s : State) (h : 0x10000 ≤ off) {kk} (hk : kept s = kk) : outKept kk (writeRst off v s) := by
  subst hk
  unfold writeRst
  dsimp only
  (repeat' split) <;> simp [h]
@[simp] theorem writeSev_kept (v : W32) (s : State) : kept (writeSev v s) = kept s := by
  unfold writeSev; simp [*]; done
@[simp] theorem writeFlt_kept (off : Nat) (v : W32) (s : State) (h : 0x10000 ≤ off) {kk} (hk : kept s = kk) : outKept kk (writeFlt off v s) := by
  subst hk
  unfold writeFlt
  (repeat' split) <;> simp [h]
@[simp] theorem writeChCfg_kept (c mid : Nat) (v : W32) (s : State) : kept (writeChCfg c mid v s) = kept s := by
  unfold writeChCfg; simp [*]; done
@[simp] theorem writeAck_kept (c mid : Nat) (v : W32) (s : State) {kk} (hk : kept s = kk) : outKept kk (writeAck c mid v s) := by
  subst hk
  unfold writeAck; simp [*]; done
@[simp] theorem writeWindow_kept (c o mid : Nat) (v : W32) (s : State) {kk} (hk : kept s = kk) : outKept kk (writeWindow c o mid v s) := by
  subst hk
  unfold writeWindow
  by_cases hc : o = 0x10C
  · subst hc
    simp only [Nat.reduceLT, Nat.reduceEqDiff, if_false, if_true]
    refine andThen_kept _ _ (by simp) fun t ht => ?_
    (repeat' split) <;> simp [ht]
  · rw [if_neg hc]
    (repeat' split) <;> simp
@[simp] theorem writeMbx_kept (off mid : Nat) (v : W32) (s : State) (h : 0x10000 ≤ off) {kk} (hk : kept s = kk) : outKept kk (writeMbx off mid v s) := by
  subst hk
  unfold writeMbx
  (repeat' split) <;> simp [h]
@[simp] theorem writeTnt_kept (off : Nat) (v : W32) (s : State) (h : 0x10000 ≤ off) {kk} (hk : kept s = kk) : outKept kk (writeTnt off v s) := by
  subst hk
  unfold writeTnt
  dsimp only
  (repeat' split) <;> simp [h]
@[simp] theorem writeMmu_kept (off : Nat) (v : W32) (s : State) (h : 0x10000 ≤ off) {kk} (hk : kept s = kk) : outKept kk (writeMmu off v s) := by
  subst hk
  unfold writeMmu
  (repeat' split) <;> simp [h]
@[simp] theorem writeRplCtl_kept (v : W32) (s : State) {kk} (hk : kept s = kk) : outKept kk (writeRplCtl v s) := by
  subst hk
  unfold writeRplCtl
  (repeat' split) <;> try (simp; done)
  all_goals exact andThen_kept _ _ (by simp) fun t ht => (by simp [ht])
@[simp] theorem writeDet_kept (off : Nat) (v : W32) (s : State) (h : 0x10000 ≤ off) {kk} (hk : kept s = kk) : outKept kk (writeDet off v s) := by
  subst hk
  unfold writeDet
  dsimp only
  (repeat' split) <;> simp [h]
@[simp] theorem writeKln_kept (off : Nat) (v : W32) (s : State) (h : 0x10000 ≤ off) {kk} (hk : kept s = kk) : outKept kk (writeKln off v s) := by
  subst hk
  unfold writeKln
  split
  · refine andThen_kept _ _ (by split <;> simp) fun t ht => ?_
    split <;> simp [ht]
  · (repeat' split) <;> simp [h]
@[simp] theorem writeFab_kept (off : Nat) (v : W32) (s : State) (h : 0x10000 ≤ off) {kk} (hk : kept s = kk) : outKept kk (writeFab off v s) := by
  subst hk
  unfold writeFab
  generalize (off - 0x90000) / 0x4000 = w
  generalize (off - 0x90000) % 0x4000 = o
  extract_lets
  split
  · simp
  · split
    · simp only [outKept_next]; split
      · rfl
      · exact regStore_kept _ _ _ h
    · exact regStore_kept _ _ _ h
@[simp] theorem writeTst_kept (off : Nat) (v : W32) (s : State) (h : 0x10000 ≤ off) {kk} (hk : kept s = kk) : outKept kk (writeTst off v s) := by
  subst hk
  unfold writeTst
  dsimp only
  (repeat' split) <;> simp [h]
@[simp] theorem writeJnl_kept (off : Nat) (v : W32) (s : State) (h : 0x10000 ≤ off) {kk} (hk : kept s = kk) : outKept kk (writeJnl off v s) := by
  subst hk
  unfold writeJnl
  (repeat' split) <;> simp [h]
@[simp] theorem writeStmCtl_kept (n : Nat) (v : W32) (s : State) {kk} (hk : kept s = kk) : outKept kk (writeStmCtl n v s) := by
  subst hk
  unfold writeStmCtl
  dsimp only
  split
  · simp
  · refine andThen_kept _ _ (by (repeat' split) <;> simp) fun t ht => ?_
    (repeat' split) <;> simp [ht]
@[simp] theorem writeStm_kept (n o : Nat) (v : W32) (s : State) {kk} (hk : kept s = kk) : outKept kk (writeStm n o v s) := by
  subst hk
  unfold writeStm
  dsimp only
  have h : 0x10000 ≤ r_STM_SQB_LO n + o := Nat.le_trans (le_r_STM_SQB_LO n) (Nat.le_add_right _ _)
  (repeat' split) <;> simp [h]
theorem le_regAlias (off : Nat) (h : 0x10000 ≤ off) : 0x10000 ≤ regAlias off := by
  unfold regAlias; (repeat' split) <;> omega
@[simp] theorem regWrite_kept (mid off : Nat) (v : W32) (s : State) {kk} (hk : kept s = kk) : outKept kk (regWrite mid off v s) := by
  subst hk
  unfold regWrite
  split
  · simp
  split
  · simp
  split
  all_goals first
    | (rename_i h; have h' : 0x10000 ≤ off := by omega
       have h'' := le_regAlias off h'
       simp [h', h'']; done)
    | simp
@[simp] theorem writeVf_kept (f off : Nat) (v : W32) (s : State) {kk} (hk : kept s = kk) : outKept kk (writeVf f off v s) := by
  subst hk
  (unfold writeVf; simp [*]) <;> intros <;> (repeat' split) <;> (simp [*]; done)
@[simp] theorem sendPend_kept (f : Nat) (s : State) : kept (sendPend f s) = kept s := by
  unfold sendPend; simp [*]; done
@[simp] theorem writeVec_kept (f k w : Nat) (v : W32) (s : State) : kept (writeVec f k w v s) = kept s := by
  (unfold writeVec; simp [*]) <;> intros <;> (repeat' split) <;> (simp [*]; done)
@[simp] theorem writeBar4_kept (f off : Nat) (v : W32) (s : State) {kk} (hk : kept s = kk) : outKept kk (writeBar4 f off v s) := by
  subst hk
  (unfold writeBar4; simp [*]) <;> intros <;> (repeat' split) <;> (simp [*]; done)
@[simp] theorem execRegisterWrite_kept (t : WriteTo) (v : W32) (s : State) {kk} (hk : kept s = kk) : outKept kk (execRegisterWrite t v s) := by
  subst hk
  (unfold execRegisterWrite; simp [*]) <;> intros <;> (repeat' split) <;> (simp [*]; done)
@[simp] theorem execRd32_kept (ep seq term off : Nat) (s : State) {kk} (hk : kept s = kk) : outKept kk (execRd32 ep seq term off s) := by
  subst hk
  (unfold execRd32; simp [*]) <;> intros <;> (repeat' split) <;> (simp [*]; done)
@[simp] theorem nextState_kept (o : Out) (s : State) (h : outKept (kept s) o) : kept (nextState o s) = kept s := by
  cases o with
  | next t => exact h
  | fault x => rfl
  | refused x => rfl
@[simp] theorem execWr32_kept (ep seq term off : Nat) (v : W32) (s : State) {kk} (hk : kept s = kk) : outKept kk (execWr32 ep seq term off v s) := by
  subst hk
  unfold execWr32
  (repeat' split) <;> first | (simp [*]; done) | (simp (disch := first | (intros <;> (try dsimp only) <;> (repeat' split) <;> simp [*]) | fail) [*]; done)
@[simp] theorem i3cSay_kept (s : State) (kind : Nat) (bs : List Byte) : kept (i3cSay s kind bs) = kept s := by
  unfold i3cSay; simp [*]; done
@[simp] theorem execEntdaa_kept (a : BitVec 7) (s : State) {kk} (hk : kept s = kk) : outKept kk (execEntdaa a s) := by
  subst hk
  unfold execEntdaa; simp [*]; done
@[simp] theorem execSetnewda_kept (a : BitVec 7) (s : State) {kk} (hk : kept s = kk) : outKept kk (execSetnewda a s) := by
  subst hk
  unfold execSetnewda; simp [*]; done
@[simp] theorem execRstdaa_kept (s : State) {kk} (hk : kept s = kk) : outKept kk (execRstdaa s) := by
  subst hk
  unfold execRstdaa; simp [*]; done
@[simp] theorem execGetpid_kept (s : State) {kk} (hk : kept s = kk) : outKept kk (execGetpid s) := by
  subst hk
  unfold execGetpid; simp [*]; done
@[simp] theorem execGetbcr_kept (s : State) {kk} (hk : kept s = kk) : outKept kk (execGetbcr s) := by
  subst hk
  unfold execGetbcr; simp [*]; done
@[simp] theorem execGetdcr_kept (s : State) {kk} (hk : kept s = kk) : outKept kk (execGetdcr s) := by
  subst hk
  unfold execGetdcr; simp [*]; done
@[simp] theorem execGetstatus_kept (s : State) {kk} (hk : kept s = kk) : outKept kk (execGetstatus s) := by
  subst hk
  unfold execGetstatus; simp [*]; done
@[simp] theorem execI3cRegisterRead_kept (off : Nat) (pecOk : Bool) (s : State) {kk} (hk : kept s = kk) : outKept kk (execI3cRegisterRead off pecOk s) := by
  subst hk
  (unfold execI3cRegisterRead; simp [*]) <;> intros <;> (repeat' split) <;> (simp [*]; done)
@[simp] theorem execI3cRegisterWrite_kept (off : Nat) (v : W32) (pecOk : Bool) (s : State) {kk} (hk : kept s = kk) : outKept kk (execI3cRegisterWrite off v pecOk s) := by
  subst hk
  (unfold execI3cRegisterWrite; simp [*]) <;> intros <;> (repeat' split) <;> (simp [*]; done)
@[simp] theorem tickStall_kept (s : State) : kept (tickStall s) = kept s := by
  unfold tickStall
  (repeat' split) <;> first | (simp [*]; done) | (simp (disch := first | (intros <;> (try dsimp only) <;> (repeat' split) <;> simp [*]) | fail) [*]; done)
@[simp] theorem tick_kept (s : State) : kept (tick s) = kept s := by
  unfold tick; simp [*]; done

end Sys2Proof.Machine
end

