-- ==== Sys2Proof/Tests/Slice0.lean ====
section
/-! SUPPORT. Tests/Slice0.lean: states and operands that meet the hypotheses of the statements, one theorem for each clause or group of
clauses of one shape, and small tests whose expected values come from the spec's tables and formulas. -/

namespace Sys2Proof.Tests

set_option Elab.async false

open Sys2Proof.Machine

/-! ### Well-formed commands -/

/-- Each bound of WellFormed refuses a term beyond it, and takes the last one within it. -/
theorem test_ill_formed_operands :
    (WellFormed (.bubble 131071), WellFormed (.bubble 131072)) = (true, false)
    ∧ (WellFormed (.scratchpadGrant 0 15 .clean), WellFormed (.scratchpadGrant 0 16 .clean)) = (true, false)
    ∧ (WellFormed (.mmaDispatch 0 3), WellFormed (.mmaDispatch 0 4)) = (true, false)
    ∧ (WellFormed (.dieFence 15), WellFormed (.dieFence 16)) = (true, false)
    ∧ (WellFormed (.rstDieFence 20), WellFormed (.rstDieFence 21)) = (true, false)
    ∧ (WellFormed (.initFill 31), WellFormed (.initFill 32)) = (true, false)
    ∧ (WellFormed (.rmwWrite 0 31), WellFormed (.rmwWrite 0 32)) = (true, false)
    ∧ (WellFormed (.dmaTransferComplete 127), WellFormed (.dmaTransferComplete 128)) = (true, false)
    ∧ (WellFormed (.fieldTestAbort 0 15 16), WellFormed (.fieldTestAbort 0 16 16), WellFormed (.fieldTestAbort 0 15 17)) = (true, false, false)
    ∧ (WellFormed (.faultRetry 1023), WellFormed (.faultRetry 1024)) = (true, false)
    ∧ (WellFormed (.tntPreemptSave 127), WellFormed (.tntPreemptSave 128)) = (true, false)
    ∧ (WellFormed (.flr 255), WellFormed (.flr 256)) = (true, false)
    ∧ (WellFormed (.stmEnSet 65535), WellFormed (.stmEnSet 65536)) = (true, false)
    ∧ (WellFormed (.msixMergedSend 0 2047), WellFormed (.msixMergedSend 0 2048)) = (true, false) := by decide
theorem test_ill_formed_fabric_operands :
    (WellFormed (.retrain 3 11), WellFormed (.retrain 4 0), WellFormed (.retrain 0 12)) = (true, false, false)
    ∧ (WellFormed (.outputArbitrate 20 33), WellFormed (.outputArbitrate 21 0), WellFormed (.outputArbitrate 0 34)) = (true, false, false)
    ∧ (WellFormed (.deny 4095), WellFormed (.deny 4096)) = (true, false)
    ∧ (WellFormed (.engineReset 31), WellFormed (.engineReset 32)) = (true, false)
    ∧ (WellFormed (.colGo 0 4095), WellFormed (.colGo 0 4096)) = (true, false)
    ∧ (WellFormed (.rstSnuffGo 1023), WellFormed (.rstSnuffGo 1024)) = (true, false)
    ∧ (WellFormed (.settleEnd 1151), WellFormed (.settleEnd 1152)) = (true, false)
    ∧ (WellFormed (.rekey 63), WellFormed (.rekey 64)) = (true, false)
    ∧ (WellFormed (.spareMove 30719 0), WellFormed (.spareMove 30720 0), WellFormed (.spareMove 0 (2 ^ 32))) = (true, false, false)
    ∧ (WellFormed (.startUp 20 [] []), WellFormed (.startUp 21 [] [])) = (true, false)
    ∧ (WellFormed (.spmrd 0 0 0 15), WellFormed (.spmrd 0 0 0 16)) = (true, false)
    ∧ (WellFormed (.pwrLtrWrite 0 0xFFFFFF), WellFormed (.pwrLtrWrite 0 0x1000000)) = (true, false)
    ∧ (WellFormed (.registerWrite (.vf 255 0) 0), WellFormed (.registerWrite (.vf 256 0) 0), WellFormed (.registerWrite (.bar4 0 65536) 0)) = (true, false, false)
    ∧ (WellFormed (.getVersion 256), WellFormed (.getVersion 257)) = (true, false)
    ∧ (WellFormed (.ideKm 0 0 1 15 true), WellFormed (.ideKm 0 0 2 15 true), WellFormed (.ideKm 0 0 1 16 true)) = (true, false, false)
    ∧ (WellFormed (.registerWrite (.bar0 (2 ^ 32)) 0), WellFormed (.registerWrite (.msixCap 256) 0), WellFormed (.registerWrite (.host (2 ^ 63)) 0)) = (false, false, false)
    ∧ (WellFormed (.fltSrcStatClear 23 0), WellFormed (.fltSrcStatClear 24 0)) = (true, false)
    ∧ (WellFormed (.jrnlState 0 0 0 2 7), WellFormed (.jrnlState 0 0 0 3 7), WellFormed (.jrnlState 0 0 0 2 8)) = (true, false, false)
    ∧ (WellFormed (.lineFault 19 false false), WellFormed (.lineFault 20 false false)) = (true, false)
    ∧ (WellFormed (.sramWriteback 4095 0), WellFormed (.sramWriteback 4096 0)) = (true, false) := by decide

/-! ### The block as a whole -/

theorem witness_step_takes_the_front : ({ State.reset with pending := [.ftnow] } : State).pending = .ftnow :: [] := rfl
theorem witness_empty_queue : State.reset.pending = [] ∧ State.reset.tb.slew = 0 := ⟨rfl, rfl⟩
theorem test_idle_nanosecond :
    (match step State.reset with | .next t => decide (t.tb.tb = 1 ∧ t.mem.slotCtr = 1) | _ => false) = true := by decide +kernel
theorem witness_fused : Fused State.reset ∧ step State.reset = .next (tick State.reset) := ⟨by unfold Fused; decide, rfl⟩
theorem witness_command_with_waiting_ones :
    Fused { State.reset with pending := [.ftnow] } ∧ ∃ t, exec (.detTbLoRead) { State.reset with pending := [.ftnow] } = .next t :=
  ⟨by unfold Fused; decide, _, rfl⟩
theorem witness_identity_registers : Fused State.reset ∧ (0xFFFC : Nat) < 0x10000 := ⟨by unfold Fused; decide, by decide⟩
theorem witness_permuted_sums : [lrZero, lrNeg lrZero].Perm [lrNeg lrZero, lrZero] := List.Perm.swap ..
theorem witness_lock_writes :
    (1#32).getLsbD 0 = lockSet State.reset ∧ (0#32).getLsbD 0 ≠ lockSet State.reset ∧ (∀ n, n < 128 → sgState State.reset n = 0)
    ∧ (let s := fput State.reset (r_TNT_SG_STATE 127) f_TNT_SG_STATE_STATE 3
       (0#32).getLsbD 0 ≠ lockSet s ∧ ∃ n, n < 128 ∧ sgState s n ≠ 0) :=
  ⟨by decide +kernel, by decide +kernel, by decide +kernel, by decide +kernel, 127, by decide, by decide +kernel⟩
/-- Saggar 5 is ACTIVE and bound to slice 1023. -/
def sliced : State :=
  let s := fput State.reset (r_TNT_SG_STATE 5) f_TNT_SG_STATE_STATE 1
  fput (fput s (r_TNT_SG_BIND 5) f_TNT_SG_BIND_SLV 1) (r_TNT_SG_BIND 5) f_TNT_SG_BIND_SLICE 1023
theorem witness_host_snuff : sgOfSlice sliced 1023 = some 5 ∧ sgOfSlice sliced 0 = none ∧ (1023 : Nat) < 1024 := by decide +kernel

/-! ### Operations of cores -/

/-- A running core without code, and the module whose core 0 it is. -/
def liveCore : Core := { coreReset with mode := .live }
def withCore (k : Core) : State := setCore State.reset 0 k
/-- The word `op`, `w` stands at the PC of thread 0. -/
def atOp (op : Nat) (w : OpWord) (k : Core) : State := withCore { k with code := [opEncode op w] }
/-- Thread 0 holds these scalar registers. -/
def withS (l : List (Nat × W64)) : Core := { liveCore with threads := [(0, { threadReset with s := l })] }
/-- LOCK is clear. -/
def unlocked (s : State) : State := fput s r_DET_CTL f_DET_CTL_LOCK 0
def w0 : OpWord := { dst := 0, sa := 0, sb := 0, sc := 0, md := 0, imm := 0 }
/-- sD = s3, sA = s1, sB = s2. -/
def w312 : OpWord := { w0 with dst := 3, sa := 1, sb := 2 }

theorem witness_scalar_operations :
    (∀ r ∈ scalarRows, OpAt r.op 0 w312 (atOp r.op w312 liveCore)) ∧ badB w312 = false
    ∧ (∀ r ∈ scalarRows, RegsFree (atOp r.op w312 liveCore) 0 ([.s 3, .s 1] ++ (if w312.md.getLsbD 0 then [] else [.s 2])))
    ∧ (let w := { w312 with sb := 0, md := 1, imm := 0x80000000 }; badB w = false ∧ OpAt 0x01 0 w (atOp 0x01 w liveCore)) := by
  unfold OpAt RegsFree; decide +kernel
theorem witness_scalar_division_corners :
    (let s := atOp 0x13 w312 (withS [(1, 0x8000000000000000), (2, -1)])
     OpAt 0x13 0 w312 s ∧ (readS (thrNext s 0) 1).toInt = -2 ^ 63 ∧ (operandB (thrNext s 0) w312).toInt = -1)
    ∧ (∀ op ∈ [0x13, 0x14, 0x15, 0x16], let s := atOp op w312 (withS [(1, 7)]); OpAt op 0 w312 s ∧ operandB (thrNext s 0) w312 = 0)
    ∧ (let s := atOp 0x15 w312 (withS [(1, 0x8000000000000000), (2, -1)])
       OpAt 0x15 0 w312 s ∧ (readS (thrNext s 0) 1).toInt = -2 ^ 63 ∧ (operandB (thrNext s 0) w312).toInt = -1) := by
  unfold OpAt; decide +kernel
theorem witness_moves_and_counts :
    (OpAt 0x00 0 w0 (atOp 0x00 w0 liveCore) ∧ badUnused {} w0 = false)
    ∧ (let w := { w0 with dst := 31, imm := 0x80000000 }; OpAt 0x0E 0 w (atOp 0x0E w liveCore) ∧ badUnused { dst := true, imm := true } w = false
        ∧ RegsFree (atOp 0x0E w liveCore) 0 [.s 31])
    ∧ (let w := { w0 with dst := 31, sa := 31, imm := 0xFFFFFFFF }; OpAt 0x0F 0 w (atOp 0x0F w liveCore)
        ∧ badUnused { dst := true, sa := true, imm := true } w = false ∧ RegsFree (atOp 0x0F w liveCore) 0 [.s 31, .s 31])
    ∧ (∀ op ∈ [0x17, 0x18], let w := { w0 with dst := 1, sa := 2 }; OpAt op 0 w (atOp op w liveCore) ∧ badUnused { dst := true, sa := true } w = false
        ∧ RegsFree (atOp op w liveCore) 0 [.s 1, .s 2]) := by
  unfold OpAt RegsFree; decide +kernel

/-- What core 0 holds in s3 when the result of its operation has arrived. -/
def s3After (o : Host.Outcome State Fault Refusal) : Option W64 :=
  match o with
  | .next t => (getCore t 0).writes.findSome? fun x => match x.val with | .s 3 v => some v | _ => none
  | _ => none
theorem test_scalar_values :
    s3After (exec (.add 0 w312) (atOp 0x01 w312 (withS [(1, -1), (2, 2)]))) = some 1
    ∧ s3After (exec (.sub 0 w312) (atOp 0x02 w312 (withS [(1, 1), (2, 2)]))) = some 0xFFFFFFFFFFFFFFFF#64
    ∧ s3After (exec (.and 0 w312) (atOp 0x03 w312 (withS [(1, 12), (2, 10)]))) = some 8
    ∧ s3After (exec (.or 0 w312) (atOp 0x04 w312 (withS [(1, 12), (2, 10)]))) = some 14
    ∧ s3After (exec (.xor 0 w312) (atOp 0x05 w312 (withS [(1, 12), (2, 10)]))) = some 6
    ∧ s3After (exec (.shl 0 w312) (atOp 0x06 w312 (withS [(1, 3), (2, 65)]))) = some 6
    ∧ s3After (exec (.shr 0 w312) (atOp 0x07 w312 (withS [(1, -1), (2, 63)]))) = some 1
    ∧ s3After (exec (.sra 0 w312) (atOp 0x08 w312 (withS [(1, 0x8000000000000000), (2, 63)]))) = some 0xFFFFFFFFFFFFFFFF#64 := by decide +kernel
theorem test_scalar_comparisons :
    s3After (exec (.slt 0 w312) (atOp 0x09 w312 (withS [(1, -1), (2, 0)]))) = some 1
    ∧ s3After (exec (.sltu 0 w312) (atOp 0x0A w312 (withS [(1, -1), (2, 0)]))) = some 0
    ∧ s3After (exec (.seq 0 w312) (atOp 0x0B w312 (withS [(1, 5), (2, 5)]))) = some 1
    ∧ s3After (exec (.min 0 w312) (atOp 0x0C w312 (withS [(1, -1), (2, 0)]))) = some 0xFFFFFFFFFFFFFFFF#64
    ∧ s3After (exec (.max 0 w312) (atOp 0x0D w312 (withS [(1, -1), (2, 0)]))) = some 0 := by decide +kernel
theorem test_scalar_products :
    s3After (exec (.mul 0 w312) (atOp 0x10 w312 (withS [(1, 0x8000000000000001), (2, 2)]))) = some 2
    ∧ s3After (exec (.mulh 0 w312) (atOp 0x11 w312 (withS [(1, -1), (2, 2)]))) = some 0xFFFFFFFFFFFFFFFF#64
    ∧ s3After (exec (.mulhu 0 w312) (atOp 0x12 w312 (withS [(1, -1), (2, 2)]))) = some 1
    ∧ s3After (exec (.div 0 w312) (atOp 0x13 w312 (withS [(1, -7), (2, 2)]))) = some (-3)
    ∧ s3After (exec (.divu 0 w312) (atOp 0x14 w312 (withS [(1, 7), (2, 0)]))) = some 0xFFFFFFFFFFFFFFFF#64
    ∧ s3After (exec (.rem 0 w312) (atOp 0x15 w312 (withS [(1, -7), (2, 2)]))) = some (-1)
    ∧ s3After (exec (.remu 0 w312) (atOp 0x16 w312 (withS [(1, 7), (2, 0)]))) = some 7 := by decide +kernel

theorem witness_branches :
    let w := { w0 with sa := 1, sb := 2, imm := 0xFFFFFFFF }
    ∀ r ∈ branchRows, OpAt r.op 0 w (atOp r.op w liveCore) ∧ badUnused { sa := true, sb := true, imm := true } w = false
      ∧ RegsFree (atOp r.op w liveCore) 0 [.s 1, .s 2] := by
  unfold OpAt RegsFree; decide +kernel
theorem witness_jumps :
    (let w := { w0 with dst := 1, imm := 2 }; OpAt 0x26 0 w (atOp 0x26 w liveCore) ∧ badUnused { dst := true, imm := true } w = false
      ∧ RegsFree (atOp 0x26 w liveCore) 0 [.s 1])
    ∧ (let w := { w0 with sa := 1, imm := 8 }; let s := atOp 0x27 w liveCore; OpAt 0x27 0 w s ∧ badUnused { sa := true, imm := true } w = false
      ∧ RegsFree s 0 [.s 1] ∧ (readS (thrNext s 0) 1 + w.imm.signExtend 64).toNat % 8 = 0)
    ∧ (OpAt 0x28 0 w0 (atOp 0x28 w0 liveCore) ∧ badUnused {} w0 = false)
    ∧ (let w := { w0 with sa := 1, imm := 8 }; OpAt 0x2B 0 w (atOp 0x2B w liveCore) ∧ RegsFree (atOp 0x2B w liveCore) 0 [.s 1])
    ∧ (let w := { w0 with imm := 8 }; OpAt 0x29 0 w (atOp 0x29 w liveCore) ∧ badUnused { imm := true } w = false) := by
  unfold OpAt RegsFree; decide +kernel
/-- A core of two threads, where thread 0 names thread 1 by s1. -/
def twoThreads : Core := { withS [(1, 1)] with rl := 2 }
theorem witness_thread_control :
    (let w := { w0 with dst := 3, sa := 1, sb := 2 }; let s := atOp 0x2A w twoThreads
      OpAt 0x2A 0 w s ∧ w.md = 0 ∧ badUnused { dst := true, sa := true, sb := true, md := true } w = false ∧ otherThread s 0 w
      ∧ RegsFree s 0 [.s 3, .s 1, .s 2])
    ∧ (∀ m ∈ [(1 : BitVec 4), 2, 3, 4], let w := { w0 with dst := 3, sa := 1, md := m }; let s := atOp 0x2A w twoThreads
      OpAt 0x2A 0 w s ∧ w.md = m ∧ badUnused { dst := true, sa := true, md := true } w = false ∧ otherThread s 0 w ∧ RegsFree s 0 [.s 3, .s 1]) := by
  unfold OpAt RegsFree otherThread; decide +kernel

/-- s1 = 0x40, s2 = the last word of tenant space's first half, s4 = 0x80. -/
def addrs : Core := withS [(1, 0x40), (2, 0x10000000FFFC0), (4, 0x80)]
theorem witness_loads :
    (∀ r ∈ loadRows, let w := { w0 with dst := 3, sa := 1, imm := 0 }; let s := atOp r.op w addrs
      OpAt r.op 0 w s ∧ r.legal w = true ∧ RegsFree s 0 [r.dest w, .s 1] ∧ (effAddr (thrNext s 0) w).toNat % r.align w = 0
      ∧ regionOf (ctxNow s 0) (effAddr (thrNext s 0) w) (r.size w) = some (.spad 0x40)
      ∧ touchesWindow (coreNext s 0) 0x40 (r.size w) = false ∧ banksFree (coreNext s 0) (wordsOf 0x40 (r.size w)) = true)
    ∧ (∀ r ∈ loadRows.take 2, let w := { w0 with dst := 3, sa := 2, imm := 0 }; let s := atOp r.op w addrs
      r.spadOnly = false ∧ OpAt r.op 0 w s ∧ r.legal w = true ∧ RegsFree s 0 [r.dest w, .s 2] ∧ (effAddr (thrNext s 0) w).toNat % r.align w = 0
      ∧ regionOf (ctxNow s 0) (effAddr (thrNext s 0) w) (r.size w) = some (.tenant 0xFFFC0) ∧ gatedRoom (coreNext s 0) (thrOf s 0) = true) := by
  unfold OpAt RegsFree; decide +kernel
/-- The two shapes of access of the statements about loads and stores are met. -/
theorem witness_access_shapes :
    (let w := { w0 with dst := 3, sa := 1 }; SpadAccess (atOp 0x30 w addrs) 0 (effAddr (thrNext (atOp 0x30 w addrs) 0) w) 1 1 0x40)
    ∧ (let w := { w0 with dst := 3, sa := 2 }; FarLoad (atOp 0x30 w addrs) 0 (effAddr (thrNext (atOp 0x30 w addrs) 0) w) 1 1 (.tenant 0xFFFC0))
    ∧ (let w := { w0 with sa := 2 }; FarStore (atOp 0x31 w addrs) 0 (effAddr (thrNext (atOp 0x31 w addrs) 0) w) 1 1 (.tenant 0xFFFC0)) := by
  refine ⟨⟨⟨by decide +kernel, by decide +kernel, rfl, fun off h _ => ?_⟩, by decide +kernel⟩, ⟨⟨by decide +kernel, by decide +kernel, rfl, nofun⟩, rfl, by decide +kernel⟩,
    ⟨⟨by decide +kernel, by decide +kernel, rfl, nofun⟩, rfl, by unfold PostRoom; decide +kernel⟩⟩
  injection h with h; subst h; decide +kernel
theorem witness_stores :
    (∀ r ∈ storeRows, let w := { w0 with sa := 1, sb := 2, sc := if r.op = 0x34 then 4 else 0 }; let s := atOp r.op w addrs
      OpAt r.op 0 w s ∧ r.legal w = true ∧ RegsFree s 0 (r.srcs w) ∧ (effAddr (thrNext s 0) w).toNat % r.align w = 0
      ∧ regionOf (ctxNow s 0) (effAddr (thrNext s 0) w) (r.bytes (coreNext s 0) (thrNext s 0) w).length = some (.spad 0x40)
      ∧ touchesWindow (coreNext s 0) 0x40 (r.bytes (coreNext s 0) (thrNext s 0) w).length = false
      ∧ banksFree (coreNext s 0) (wordsOf 0x40 (r.bytes (coreNext s 0) (thrNext s 0) w).length) = true)
    ∧ (∀ r ∈ storeRows, let w := { w0 with sa := 2, sb := 2, sc := if r.op = 0x34 then 4 else 0 }; let s := atOp r.op w addrs
      OpAt r.op 0 w s ∧ r.legal w = true ∧ RegsFree s 0 (r.srcs w) ∧ (effAddr (thrNext s 0) w).toNat % r.align w = 0 ∧ PostRoom s 0
      ∧ regionOf (ctxNow s 0) (effAddr (thrNext s 0) w) (r.bytes (coreNext s 0) (thrNext s 0) w).length = some (.tenant 0xFFFC0)) := by
  unfold OpAt RegsFree PostRoom; decide +kernel
/-- Thread 0 waits for one posted operation. -/
def onePosted : Core :=
  { liveCore with step := 5, posted := [{ thread := 0, issue := 4, cls := .dram, addr := 0, signal := false, status := .waiting, fenced := false }] }
theorem witness_long_store_and_fence :
    (let w := { w0 with sa := 1, sb := 15 }; let s := atOp 0x36 w addrs; OpAt 0x36 0 w s ∧ badUnused { sa := true, sb := true, imm := true } w = false
      ∧ w.sb.toNat < 16 ∧ RegsFree s 0 [.s 1, .ln 15] ∧ portFree (coreNext s 0) = true
      ∧ regionOf (ctxNow s 0) (effAddr (thrNext s 0) w) 128 = some (.spad 0x40))
    ∧ (let w := { w0 with dst := 3 }; let s := atOp 0x37 w liveCore; OpAt 0x37 0 w s ∧ badUnused { dst := true } w = false ∧ RegsFree s 0 [.s 3]
      ∧ (coreNext s 0).posted.filter (fun p => p.thread == thrOf s 0 && !p.fenced) = [])
    ∧ (let w := { w0 with dst := 3 }; let s := atOp 0x37 w onePosted; OpAt 0x37 0 w s ∧ RegsFree s 0 [.s 3] ∧ gatedRoom (coreNext s 0) (thrOf s 0) = true
      ∧ (coreNext s 0).posted.filter (fun p => p.thread == thrOf s 0 && !p.fenced) ≠ []) := by
  unfold OpAt RegsFree; decide +kernel

/-- Descriptors in t0 (role 0) and t1 (role 1): base 0, FP32, K = 32, pitch 128. -/
def tiles : Core :=
  let d : Nat := 32 * 2 ^ 80 + 128 * 2 ^ 96
  { liveCore with threads := [(0, { threadReset with t := [(0, BitVec.ofNat 128 d), (1, BitVec.ofNat 128 (d + 2 ^ 76))], s := [(1, 0x40)] })] }
/-- Set 0 of engine 0 has been flushed. -/
def flushedCore : Core := { tiles with eng := [{ engineReset with set0 := { setReset with flushed := true } }, engineReset, engineReset, engineReset] }
theorem witness_engine_operations :
    (let w := { w0 with dst := 7, sb := 0, sc := 1 }; let s := atOp 0x70 w tiles; let t := thrNext s 0
      OpAt 0x70 0 w s ∧ bodyMma.illegal (ctxNow s 0) (coreNext s 0) (thrOf s 0) w = false ∧ RegsFree s 0 [.t 0, .t 1]
      ∧ descriptorCheck (readT t 0) (readT t 1) = [] ∧ pairOk (tileFmt (tileOf (readT t 0))) (tileFmt (tileOf (readT t 1))) = true
      ∧ mmaWindows (ctxNow s 0) (coreNext s 0) (tileOf (readT t 0)) (tileOf (readT t 1)) = [] ∧ QueueRoom s 0 3)
    ∧ (∀ op ∈ [0x71, 0x76], let w := { w0 with dst := 7 }; let s := atOp op w tiles; OpAt op 0 w s ∧ badUnused { dst := true } w = false ∧ QueueRoom s 0 3)
    ∧ (let w := { w0 with dst := 0, sa := 1, md := 1 }; let s := atOp 0x72 w flushedCore; OpAt 0x72 0 w s
      ∧ bodyRstore.illegal (ctxNow s 0) (coreNext s 0) (thrOf s 0) w = false ∧ RegsFree s 0 [.s 1]
      ∧ storeRegion (ctxNow s 0) (coreNext s 0) 0x40 (64 * fmtWidth (immFmtOf w)) 64 = [] ∧ immMx w = false ∧ QueueRoom s 0 0)
    ∧ (let w := { w0 with dst := 0, sa := 1 }; let s := atOp 0x73 w flushedCore; OpAt 0x73 0 w s
      ∧ bodyXstore.illegal (ctxNow s 0) (coreNext s 0) (thrOf s 0) w = false ∧ RegsFree s 0 [.s 1]
      ∧ storeRegion (ctxNow s 0) (coreNext s 0) 0x40 65536 64 = [] ∧ QueueRoom s 0 0)
    ∧ (let w := { w0 with dst := 15, imm := 0x1FF0 }; let s := atOp 0x74 w flushedCore; OpAt 0x74 0 w s ∧ badSpImm w = false ∧ RegsFree s 0 [.ln 15] ∧ QueueRoom s 0 0)
    ∧ (let w := { w0 with sb := 15, imm := 0x1FF0 }; let s := atOp 0x75 w flushedCore; OpAt 0x75 0 w s ∧ badSpImm w = false ∧ RegsFree s 0 [.ln 15] ∧ QueueRoom s 0 0) := by
  unfold OpAt RegsFree QueueRoom; decide +kernel
theorem witness_long_register_operations :
    (let w := { w0 with dst := 15, sa := 1, sb := 2 }; let s := atOp 0x80 w liveCore; OpAt 0x80 0 w s ∧ portFree (coreNext s 0) = true ∧ RegsFree s 0 [.ln 15, .ln 1, .ln 2])
    ∧ (∀ op ∈ [0x81, 0x83], let w := { w0 with dst := 15, sa := 1 }; let s := atOp op w liveCore; OpAt op 0 w s ∧ RegsFree s 0 [.ln 15, .ln 1])
    ∧ (let w := { w0 with dst := 15 }; let s := atOp 0x82 w liveCore; OpAt 0x82 0 w s ∧ RegsFree s 0 [.ln 15])
    ∧ (let w := { w0 with dst := 15, sa := 7, sc := 3, md := 3 }; let s := atOp 0x84 w liveCore; OpAt 0x84 0 w s
      ∧ badUnused { dst := true, sa := true, sc := true, md := true } w = false ∧ RegsFree s 0 [.ln 15, .v 7, .s 3])
    ∧ (let w := { w0 with dst := 3, sa := 15 }; let s := atOp 0x85 w liveCore; OpAt 0x85 0 w s
      ∧ bodyLnrnd.illegal (ctxNow s 0) (coreNext s 0) (thrOf s 0) w = false ∧ RegsFree s 0 [.s 3, .ln 15]) := by
  unfold OpAt RegsFree; decide +kernel
theorem witness_vector_operations :
    ∀ r ∈ vecRows, let w := { w0 with dst := 7, sa := if r.uses.sa then 1 else 0, sb := if r.uses.sb then 2 else 0, sc := if r.uses.sc then 3 else 0 }
      let s := atOp r.op w liveCore
      OpAt r.op 0 w s ∧ badUnused r.uses w = false ∧ vecRegs (r.srcs w) = true ∧ (r.mode = true → badMode w = false)
      ∧ RegsFree s 0 (.v 7 :: r.srcs w) ∧ (coreNext s 0).veLeft = 0 := by
  unfold OpAt RegsFree; decide +kernel
theorem witness_conversions_and_masks :
    (let w := { w0 with dst := 7, sa := 1 }; let s := atOp 0x56 w liveCore; OpAt 0x56 0 w s ∧ (coreNext s 0).veLeft = 0
      ∧ bodyVcvt.illegal (ctxNow s 0) (coreNext s 0) (thrOf s 0) w = false ∧ RegsFree s 0 [.v 7, .v 1])
    ∧ (let w := { w0 with dst := 7, sa := 1 }; let s := atOp 0x60 w liveCore; OpAt 0x60 0 w s
      ∧ bodyVfn.illegal (ctxNow s 0) (coreNext s 0) (thrOf s 0) w = false ∧ RegsFree s 0 [.v 7, .v 1])
    ∧ (let w := { w0 with dst := 3, sa := 7, sb := 1, md := 15 }; let s := atOp 0x61 w liveCore; OpAt 0x61 0 w s
      ∧ badUnused { dst := true, sa := true, sb := true, md := true } w = false ∧ RegsFree s 0 [.s 3, .v 7, .v 1])
    ∧ (let w := { w0 with dst := 3, sa := 7, imm := 63 }; let s := atOp 0x5A w liveCore; OpAt 0x5A 0 w s
      ∧ badUnused { dst := true, sa := true, imm := true } w = false ∧ RegsFree s 0 [.s 3, .v 7]) := by
  unfold OpAt RegsFree; decide +kernel
/-- R156: 1.5 + 2.25 = 3.75 in every lane; R88: bfloat16 of 3.75. -/
def allLanes (x : W32) : BitVec 2048 := (List.range 64).foldl (fun a _ => (a <<< 32) ||| x.zeroExtend 2048) 0
def v7After (o : Host.Outcome State Fault Refusal) (l : Nat) : Option W32 :=
  match o with
  | .next t => (getCore t 0).writes.findSome? fun x => match x.val with | .v 7 v => some (lane v l) | _ => none
  | _ => none
def vectors : Core := { liveCore with threads := [(0, { threadReset with v := [(1, allLanes 0x3FC00000), (2, allLanes 0x40100000)] })] }
theorem test_vector_values :
    (let w := { w0 with dst := 7, sa := 1, sb := 2 }
     (v7After (exec (.vadd 0 w) (atOp 0x50 w vectors)) 63 = some 0x40700000#32) ∧ (v7After (exec (.vsub 0 w) (atOp 0x51 w vectors)) 0 = some 0xBF400000#32)
     ∧ (v7After (exec (.vmul 0 w) (atOp 0x52 w vectors)) 5 = some 0x40580000#32) ∧ (v7After (exec (.vmin 0 w) (atOp 0x54 w vectors)) 5 = some 0x3FC00000#32)
     ∧ (v7After (exec (.vmax 0 w) (atOp 0x55 w vectors)) 5 = some 0x40100000#32) ∧ (v7After (exec (.viadd 0 w) (atOp 0x57 w vectors)) 5 = some 0x7FD00000#32))
    ∧ (let w := { w0 with dst := 7 }; v7After (exec (.vidx 0 w) (atOp 0x5B w vectors)) 63 = some 63) := by decide +kernel

/-- All lanes at 0x40 (s1), in the scratchpad, or at s2, in tenant space. -/
theorem witness_gathers :
    (let w := { w0 with dst := 7, sa := 1, sb := 2 }; let s := atOp 0x40 w addrs; let ga := laneAddrs (thrNext s 0) false w
      OpAt 0x40 0 w s ∧ bodyVgath.illegal (ctxNow s 0) (coreNext s 0) (thrOf s 0) w = false ∧ RegsFree s 0 (bodyVgath.reads w) ∧ ga ≠ [] ∧ lanesOut ga = []
      ∧ banksFree (coreNext s 0) (laneWords ga) = true)
    ∧ (let w := { w0 with dst := 7, sa := 1, sb := 2, sc := 5, md := 1 }; let s := atOp 0x40 w addrs
      OpAt 0x40 0 w s ∧ bodyVgath.illegal (ctxNow s 0) (coreNext s 0) (thrOf s 0) w = false ∧ RegsFree s 0 (bodyVgath.reads w) ∧ laneAddrs (thrNext s 0) false w = [])
    ∧ (let w := { w0 with dst := 7, sa := 2, sb := 2 }; let s := atOp 0x40 w addrs
      OpAt 0x40 0 w s ∧ lanesOut (laneAddrs (thrNext s 0) false w) ≠ [] ∧ gatedRoom (coreNext s 0) (thrOf s 0) = true) := by
  unfold OpAt RegsFree; decide +kernel
theorem witness_lanes_in_the_scratchpad :
    let w := { w0 with dst := 7, sa := 1, sb := 2 }; let s := atOp 0x40 w addrs; LanesOk s 0 (laneAddrs (thrNext s 0) false w) 4 := by
  intro w s p hp
  have h : ∀ p ∈ laneAddrs (thrNext s 0) false w, p.2 = 0x40 := by decide +kernel
  rw [h p hp]
  refine ⟨.spad 0x40, by decide +kernel, by decide +kernel, rfl, fun off e _ => ?_⟩
  injection e with e; subst e; decide +kernel
theorem witness_lanes_in_tenant_space :
    ∀ sc n, (sc, n) ∈ [(false, 4), (true, 4), (true, 64)] → let w := { w0 with sa := 2, sb := 2, sc := 3 }; let s := atOp 0x41 w addrs
      LanesOk s 0 (laneAddrs (thrNext s 0) sc w) n := by
  intro sc n hn w s p hp
  have h : ∀ p ∈ laneAddrs (thrNext s 0) sc w, p.2 = 0x10000000FFFC0 := by
    simp only [List.mem_cons, Prod.mk.injEq, List.not_mem_nil, or_false] at hn
    rcases hn with ⟨rfl, rfl⟩ | ⟨rfl, rfl⟩ | ⟨rfl, rfl⟩ <;> decide +kernel
  rw [h p hp]
  simp only [List.mem_cons, Prod.mk.injEq, List.not_mem_nil, or_false] at hn
  refine ⟨.tenant 0xFFFC0, ?_, ?_, rfl, nofun⟩
  · rcases hn with ⟨rfl, rfl⟩ | ⟨rfl, rfl⟩ | ⟨rfl, rfl⟩ <;> decide
  · rcases hn with ⟨rfl, rfl⟩ | ⟨rfl, rfl⟩ | ⟨rfl, rfl⟩ <;> decide +kernel
theorem witness_scatters :
    (∀ op ∈ [0x41, 0x42], ∀ sa ∈ [(1 : BitVec 5), 2], let w := { w0 with sa := sa, sb := 2, sc := 3 }; let s := atOp op w addrs
      OpAt op 0 w s ∧ bodyVscat.illegal (ctxNow s 0) (coreNext s 0) (thrOf s 0) w = false ∧ bodyVscadd.illegal (ctxNow s 0) (coreNext s 0) (thrOf s 0) w = false
      ∧ RegsFree s 0 (scatterReads w) ∧ banksFree (coreNext s 0) (laneWords (lanesIn (laneAddrs (thrNext s 0) true w))) = true
      ∧ (lanesOut (laneAddrs (thrNext s 0) true w) = [] ↔ sa = 1) ∧ PostRoom s 0)
    ∧ (let w := { w0 with sa := 1, sb := 15 }; let s := atOp 0x43 w addrs; OpAt 0x43 0 w s ∧ bodyXscadd.illegal (ctxNow s 0) (coreNext s 0) (thrOf s 0) w = false
      ∧ RegsFree s 0 [.s 1, .ln 15] ∧ xaddLen (effAddr (thrNext s 0) w) = 128 ∧ regionOf (ctxNow s 0) (effAddr (thrNext s 0) w) 128 = some (.spad 0x40))
    ∧ (let w := { w0 with sa := 2, sb := 15 }; let s := atOp 0x43 w addrs; OpAt 0x43 0 w s ∧ RegsFree s 0 [.s 2, .ln 15] ∧ PostRoom s 0
      ∧ regionOf (ctxNow s 0) (effAddr (thrNext s 0) w) (xaddLen (effAddr (thrNext s 0) w)) = some (.tenant 0xFFFC0))
    ∧ (let w := { w0 with sa := 1, sb := 4, md := 2 }; let s := atOp 0x43 w addrs; OpAt 0x43 0 w s ∧ bodyXscadd.illegal (ctxNow s 0) (coreNext s 0) (thrOf s 0) w = false
      ∧ RegsFree s 0 [.s 1, .s 4] ∧ regionOf (ctxNow s 0) (readS (thrNext s 0) 4) 128 = some (.spad 0x80)
      ∧ banksFree (coreNext s 0) (wordsOf 0x40 128) = true ∧ PostRoom s 0) := by
  unfold OpAt RegsFree PostRoom; decide +kernel

/-- s1 = 0x40, s2 = tenant address 0x1000000000000 + 0x80, s3 = 64. -/
def ranged : Core := withS [(1, 0x40), (2, 0x1000000000080), (4, 64)]
theorem witness_dma_signals_and_timebase :
    (let w := { w0 with dst := 3, sa := 1, sb := 2, sc := 4 }; let s := atOp 0x90 w ranged; OpAt 0x90 0 w s
      ∧ badUnused { dst := true, sa := true, sb := true, sc := true } w = false ∧ RegsFree s 0 [.s 3, .s 1, .s 2, .s 4] ∧ (readS (thrNext s 0) 4).toNat = 64
      ∧ regionOf (ctxNow s 0) (readS (thrNext s 0) 1) 64 = some (.spad 0x40) ∧ regionOf (ctxNow s 0) (readS (thrNext s 0) 2) 64 = some (.tenant 0x80)
      ∧ openCheck (ctxNow s 0) (coreNext s 0) (.tenant 0x80) 64 (readS (thrNext s 0) 2) = [] ∧ gatedRoom (coreNext s 0) (thrOf s 0) = true
      ∧ (ctxNow s 0).dmaFree = true ∧ windowRoom (coreNext s 0) = true)
    ∧ (∀ m ∈ [(0 : BitVec 4), 1], let w := { w0 with sa := 1, sb := if m = 0 then 2 else 0, md := m }; let s := atOp 0x91 w ranged; OpAt 0x91 0 w s
      ∧ badUnused { sa := true, sb := !w.md.getLsbD 0, md := true, imm := w.md.getLsbD 0 } w = false
      ∧ RegsFree s 0 (.s 1 :: if w.md.getLsbD 0 then [] else [.s w.sb.toNat]) ∧ PostRoom s 0)
    ∧ (let w := { w0 with dst := 3, sa := 1, sb := 2 }; let s := atOp 0x92 w ranged; OpAt 0x92 0 w s ∧ RegsFree s 0 [.s 3, .s 1, .s 2] ∧ gatedRoom (coreNext s 0) (thrOf s 0) = true)
    ∧ (let w := { w0 with sa := 1 }; let s := atOp 0x93 w ranged; OpAt 0x93 0 w s ∧ RegsFree s 0 [.s 1] ∧ PostRoom s 0)
    ∧ (let w := { w0 with dst := 3, sa := 1 }; let s := unlocked (atOp 0x94 w ranged); OpAt 0x94 0 w s ∧ (ctxNow s 0).lock = false ∧ RegsFree s 0 [.s 3, .s 1]
      ∧ gatedRoom (coreNext s 0) (thrOf s 0) = true)
    ∧ (let w := { w0 with dst := 3 }; let s := atOp 0xC3 w ranged; OpAt 0xC3 0 w s ∧ RegsFree s 0 [.s 3] ∧ gatedRoom (coreNext s 0) (thrOf s 0) = true) := by
  unfold OpAt RegsFree PostRoom; decide +kernel
theorem witness_fabric_atomics :
    (∀ r ∈ atomRows, let w := { w0 with dst := 3, sa := 1, sb := 2, sc := 4, md := BitVec.ofNat 4 r.md }; let s := atOp 0xA2 w ranged; OpAt 0xA2 0 w s
      ∧ w.md.toNat = r.md ∧ RegsFree s 0 [.s 3, .s 1, .s 2, .s 4] ∧ (readS (thrNext s 0) 4).toNat % 8 = 0 ∧ gatedRoom (coreNext s 0) (thrOf s 0) = true)
    ∧ (let w := { w0 with dst := 3, sa := 1, sb := 2, sc := 4, md := 5 }; let s := atOp 0xA2 w ranged; OpAt 0xA2 0 w s ∧ RegsFree s 0 [.s 3, .s 1, .s 2, .s 4]
      ∧ (readS (thrNext s 0) 4).toNat % 64 = 0 ∧ regionOf (ctxNow s 0) (readS (thrNext s 0) 1) 128 = some (.spad 0x40)) := by
  unfold OpAt RegsFree; decide +kernel
theorem witness_fabric_transfers :
    (∀ op ∈ [0xA0, 0xA1], let w := { w0 with dst := 3, sa := 1, sb := 2, sc := 4, imm := 16384 }; let s := atOp op w ranged; OpAt op 0 w s
      ∧ badUnused { dst := true, sa := true, sb := true, sc := true, imm := true } w = false ∧ ThreeRegs s 0 w ∧ (readS (thrNext s 0) 4).toNat % 8 = 0
      ∧ LocalRange s 0 (readS (thrNext s 0) 1) w.imm.toNat (.spad 0x40) ∧ openCheck (ctxNow s 0) (coreNext s 0) (.spad 0x40) 16384 (readS (thrNext s 0) 1) = []
      ∧ windowCheck (ctxNow s 0) (coreNext s 0) (.spad 0x40) 16384 (readS (thrNext s 0) 1) = [] ∧ WindowRoom s 0 (.spad 0x40) ∧ gatedRoom (coreNext s 0) (thrOf s 0) = true)
    ∧ (∀ op ∈ [0xA3, 0xA4], let w := { w0 with dst := 3, sa := 1, sb := 2, sc := 4, imm := 0xFFFF }; let s := atOp op w ranged; OpAt op 0 w s
      ∧ ThreeRegs s 0 w ∧ LocalRange s 0 (readS (thrNext s 0) 1) (readS (thrNext s 0) 4).toNat (.spad 0x40)
      ∧ openCheck (ctxNow s 0) (coreNext s 0) (.spad 0x40) 64 (readS (thrNext s 0) 1) = [] ∧ windowCheck (ctxNow s 0) (coreNext s 0) (.spad 0x40) 64 (readS (thrNext s 0) 1) = []
      ∧ WindowRoom s 0 (.spad 0x40))
    ∧ (let w := { w0 with dst := 3, sb := 2, md := 1, imm := 0xFFFF }; let s := unlocked (atOp 0xA5 w ranged); OpAt 0xA5 0 w s
      ∧ badUnused { dst := true, sb := true, md := true, imm := true } w = false ∧ (ctxNow s 0).lock = false ∧ RegsFree s 0 [.s 3, .s 2]) := by
  unfold OpAt RegsFree ThreeRegs LocalRange WindowRoom RegsFree; decide +kernel

/-- Group 7 of slice 0 is ARMED: core 0 of die 0, logical core 0 of saggar 0, is its root of two members. -/
def grouped (fence : Bool) (s : State) : State :=
  modGroup (fput s (r_TNT_SG_BIND 0) f_TNT_SG_BIND_SLV 1) 7 fun g =>
    { g with st := 1, fence := fence, m := 2, root := 0, members := [{ index := 0, rank := 0, lcore := 0, ep := 0 }, { index := 1, rank := 1, lcore := 1, ep := 1 }] }
def inGroup : Core := withS [(1, 7), (2, 0x200), (4, 0x4000)]
theorem witness_collectives :
    (∀ r ∈ collRows, let w := { w0 with dst := 3, sa := 1, sb := 2, sc := 4, md := BitVec.ofNat 4 r.md, imm := 2 }; let s := grouped false (atOp 0xB0 w inGroup)
      OpAt 0xB0 0 w s ∧ w.md.toNat = r.md ∧ ThreeRegs s 0 w ∧ (collBody r.kind).checks (ctxNow s 0) (coreNext s 0) (thrOf s 0) w = []
      ∧ gatedRoom (coreNext s 0) (thrOf s 0) = true ∧ windowRoom (coreNext s 0) = true ∧ (ctxNow s 0).group 7 = some (2, true, false))
    ∧ (∀ fence ∈ [false, true], let w := { w0 with dst := 3, sa := 1, md := 5 }; let s := grouped fence (atOp 0xB0 w inGroup)
      OpAt 0xB0 0 w s ∧ RegsFree s 0 [.s 3, .s 1] ∧ gatedRoom (coreNext s 0) (thrOf s 0) = true ∧ (ctxNow s 0).group 7 = some (2, true, fence)) := by
  unfold OpAt ThreeRegs RegsFree; decide +kernel
theorem witness_draws_and_counters :
    (∀ p ∈ [((0xC0 : Nat), (1 : BitVec 4)), (0xC1, 7), (0xC5, 1)], let w := { w0 with dst := 7, sa := 1, md := p.2 }; let s := atOp p.1 w liveCore
      OpAt p.1 0 w s ∧ badUnused { dst := true, sa := true, md := true } w = false ∧ RegsFree s 0 [.s 7, .v 7, .t 7, .s 1] ∧ (coreNext s 0).veLeft = 0)
    ∧ (∀ op ∈ [0xC2, 0xC4], ∀ m ∈ [(0 : BitVec 4), 1], let w := { w0 with dst := 3, md := m }; let s := atOp op w liveCore
      OpAt op 0 w s ∧ badUnused { dst := true, md := true } w = false ∧ RegsFree s 0 [.s 3])
    ∧ (let w := { w0 with dst := 3, sa := 7, md := 1 }; let s := atOp 0xC6 w liveCore; OpAt 0xC6 0 w s ∧ RegsFree s 0 [.s 3, .t 7]) := by
  unfold OpAt RegsFree; decide +kernel
theorem witness_exceptions :
    (∀ r ∈ scalarRows, let w := { w312 with sc := 31 }; let s := atOp r.op w liveCore
      OpAt r.op 0 w s ∧ badB w = true ∧ RegsFree s 0 (.s 1 :: (if w.md.getLsbD 0 then [] else [.s 2])))
    ∧ threadReset.st ≠ .exc ∧ ({ threadReset with st := .exc } : Thread).st = .exc
    ∧ (let w := { w0 with dst := 3, sa := 1, md := 3, imm := 7 }; let s := atOp 0x30 w addrs; OpAt 0x30 0 w s
      ∧ badUnused { dst := true, sa := true, md := true, imm := true } w = false ∧ w.md.getLsbD 3 = false ∧ RegsFree s 0 [.s 1]
      ∧ (effAddr (thrNext s 0) w).toNat % 2 ^ (w.md.toNat % 4) ≠ 0) := by
  unfold OpAt RegsFree; decide +kernel

/-! ### Between issues -/

def halted : Core := { liveCore with threads := [(0, { threadReset with st := .halt })] }
theorem witness_bubbles :
    (coreReady (withCore halted) 0 (getCore (withCore halted) 0) = true ∧ threadOffered (coreNext (withCore halted) 0) (thrOf (withCore halted) 0) = false)
    ∧ (let k := { liveCore with writes := [{ due := 9, thread := 0, val := .s 1 5 }] }; let s := atOp 0x01 w312 k
      OpAt 0x01 0 w312 s ∧ regBusy (coreNext s 0) (thrOf s 0) (.s 1) = true) := by
  unfold OpAt; decide +kernel
def thePosted : Posted := { thread := 0, issue := 4, cls := .dram, addr := 0, signal := false, status := .waiting, fenced := false }
theorem witness_posted_and_end :
    (getCore (withCore onePosted) 0).posted.find? (fun q => q.issue == 4) = some thePosted ∧ postedOver (withCore onePosted) 0 onePosted thePosted = true
    ∧ (let s := withCore halted; (getCore s 0).mode = .live ∧ dieUp s (dieOf 0) = true ∧ stepEventsDue (getCore s 0) = false
      ∧ (∀ th, th < (getCore s 0).rl → (getThread (getCore s 0) th).st ≠ .run) ∧ nothingOutstanding (getCore s 0) = true) := by decide +kernel

def gated0 : Gated :=
  { thread := 0, issue := 4, due := 36, pc := 0, cls := .dram, kind := .scalar 3, result := some (.value 5), arrived := false, count := 0, ext := none }
def gatedLoad : Gated := { gated0 with kind := .load (.scalar 3 0 8 false), result := none }
theorem witness_results_arrive :
    (let s := withCore { liveCore with gated := [gated0] };
      (getCore s 0).gated.find? (fun x => x.issue == 4 && !x.arrived) = some gated0 ∧ (getCore s 0).extQ.any (fun e => e.issue == 4) = false)
    ∧ (∀ dst l, gated0.kind ≠ .fence dst l) ∧ (∀ dst l, gatedLoad.kind ≠ .fence dst l)
    ∧ (let s := withCore { liveCore with gated := [gatedLoad] };
      (getCore s 0).gated.find? (fun x => x.issue == 4 && !x.arrived) = some gatedLoad ∧ (accsOf s 0 4).all (fun p => accEnded p.2) = true) :=
  ⟨by decide +kernel, nofun, nofun, by decide +kernel⟩
theorem witness_gated_delivery :
    let g := { gated0 with arrived := true }; let s := withCore { liveCore with step := 36, gated := [g] }; let k := getCore s 0
    coreMoves s 0 k = true ∧ dueGated (coreLock s k) k = [g] ∧ gatedHere k g = true ∧ logActive s k.sg = false := by decide +kernel
theorem witness_deliveries :
    gated0.kind = .scalar 3 ∧ gated0.result = some (.value 5) ∧ ({ gated0 with result := some (.fail 9) } : Gated).result = some (.fail 9)
    ∧ (getThread liveCore 0).st ≠ .exc := by decide +kernel

/-- In step 0 (the step counter stands at 1), banks 2 and 3 serve threads, banks 5 and 13 the external class, 1 and 9 results. -/
def bankCore : Core :=
  { liveCore with step := 1, spadQ := [{ thread := 0, issue := 0, addr := 0x80, reach := 0, act := .write [mOn 7] }, { thread := 0, issue := 0, addr := 0xC0, reach := 0, act := .read }],
                  loads := [{ thread := 0, issue := 0, kind := .scalar 3 0 8 false, need := [3], got := [] }],
                  extQ := [{ addr := 0x140, bytes := [mOn 1], thread := 0, issue := 0 }], writebacks := [6],
                  eng := [{ engineReset with results := [{ issue := 0, addr := 0x40, bytes := [mOn 1], ready := 0, last := false }] }, engineReset, engineReset, engineReset] }
theorem witness_bank_grants :
    let s := withCore bankCore; let k := getCore s 0
    (InStep s 0 ∧ grantNext k 2 (nowOf k) = some { thread := 0, issue := 0, addr := 0x80, reach := 0, act := .write [mOn 7] })
    ∧ (grantNext k 3 (nowOf k) = some { thread := 0, issue := 0, addr := 0xC0, reach := 0, act := .read }
      ∧ k.loads.find? (fun x => x.issue == 0) = some { thread := 0, issue := 0, kind := .scalar 3 0 8 false, need := [3], got := [] }
      ∧ armedAt s [srcDie 0 3, srcDie 0 4] (some (clOf 0, slotOf 0)) = none ∧ [3].all (fun n => (tblFind (tblPut [] (0xC0 / 64) (spadWord k.spad 0xC0)) n).isSome) = true)
    ∧ (coreOn s 0 = true ∧ extNext k 5 (nowOf k) = some { addr := 0x140, bytes := [mOn 1], thread := 0, issue := 0 })
    ∧ (slotClass 1 (nowOf k) = .result ∧ 1 ∉ k.served ∧ (resultNext k 1 (nowOf k)).isSome = true)
    ∧ (6 ∈ k.writebacks ∧ slotClass 6 (nowOf k) = .thread ∧ 6 ∉ k.served) := by
  unfold InStep; decide +kernel
theorem witness_load_kind : ∀ d, LoadKind.scalar 3 0 8 false ≠ .long d := nofun

/-- A descriptor of FP32, K = 32, and an MMA over two of them. -/
def tileD : TileDesc := { base := 0, scale := 0, tscale := 0, fmt := 0, role := 0, k := 32, pitch := 128 }
def engOp (k : EngKind) (d : Option W64) (n : Nat) : EngOp := { thread := 0, issue := 4, set := 0, kind := k, disp := d, done := n, log := none }
def withEngine (x : Engine) : State := withCore { liveCore with step := 20, eng := [x, engineReset, engineReset, engineReset] }
def genKey0 : GenKey := { seed := 0, count := 0, unit := 0 }
theorem witness_dispatches :
    (∀ kd ∈ [EngKind.mma tileD tileD none, .wflush, .rstore 0x40 0 0 .rne 0 true genKey0, .xstore 0x40 true, .spget 15 511, .spadd lrZero 511, .mclr],
      Dispatching (withEngine { engineReset with mayDispatch := true, queue := [engOp kd none 0] }) 0 0 (engOp kd none 0))
    ∧ setReset.log.length < 64 ∧ setReset.logovf = false ∧ (rstoreWords setReset 4 0x40 0 0 .rne 0 genKey0 19).2 = [] := by
  unfold Dispatching; decide +kernel
theorem witness_feeder_array_and_spills :
    (let x := { engineReset with queue := [engOp (.mma tileD tileD none) (some 1) 0] }; let s := withEngine x
      coreOn s 0 = true ∧ (getEng (getCore s 0) 0).fetched = false ∧ (feedNext (getEng (getCore s 0) 0) 0 (nowOf (getCore s 0))).isSome = true)
    ∧ (let x := { engineReset with mayArray := true, queue := [engOp (.mma tileD tileD none) (some 1) 7] }
      activeMma x = some (engOp (.mma tileD tileD none) (some 1) 7) ∧ 7 + 1 ≠ arraySteps tileD tileD ∧ slabOf (pairRate tileD tileD) 8 = slabOf (pairRate tileD tileD) 7)
    ∧ (let x := { engineReset with mayRetire := true, spillQ := [{ set := 0, elem := 511, m := 1, e := 0 }] }
      x.mayArray = false ∧ x.latch = [] ∧ x.spillQ ≠ [] ∧ x.spillQ.length ≤ 64) := by decide +kernel

/-- A flush that ends in this step; the set's element 0 is listed, in the checkers or not. -/
def flushing (set : AccSet) : State := withEngine { engineReset with set0 := set, queue := [engOp .wflush (some 1) 496] }
def oneLr : LongReg := { lrZero with v := 1 }
theorem witness_flushes :
    (∀ set ∈ [{ setReset with col := [(0, { lrZero with nan := true })] }, setReset, { setReset with spill := [(0, oneLr)] }], let s := flushing set
      let x := getEng (getCore s 0) 0
      coreOn s 0 = true ∧ activeFlush x = some (engOp .wflush (some 1) 496) ∧ 512 ≤ 496 + flushRoom x ∧ armedFlush s 0 0 0 = 0 ∧ (getCore s 0).classify = [])
    ∧ setFlagged (flushElems { setReset with col := [(0, { lrZero with nan := true })] } 496 16) = true
    ∧ (let f := flushElems setReset 496 16; setFlagged f = false ∧ checkSet (setSpill f) (setCol f) (setRow f) = none)
    ∧ (let f := flushElems { setReset with spill := [(0, oneLr)] } 496 16; setFlagged f = false
      ∧ checkSet (setSpill f) (setCol f) (setRow f) = some { cmask := 1, rmask := 1, xc := false }
      ∧ coreLock (unlocked (flushing setReset)) (getCore (flushing setReset) 0) = false ∧ (getCore (flushing setReset) 0).mode = .live) := by decide +kernel
def classif : Classify := { engine := 0, set := 0, syn := { cmask := 1, rmask := 1, xc := false }, second := false, began := 3, since := 0 }
def classifying (set : AccSet) : State :=
  withCore { liveCore with classify := [classif], eng := [{ engineReset with set0 := set }, engineReset, engineReset, engineReset] }
theorem witness_repeats :
    (let s := classifying { setReset with logovf := true }; (getCore s 0).classify = [classif] ∧ (getCore s 0).mode = .live ∧ dieUp s 0 = true ∧ (getCore s 0).wedged = false
      ∧ (getSet (getEng (getCore s 0) 0) 0).logovf = true)
    ∧ (let s := classifying { setReset with spill := [(0, oneLr)] }; let r := repeatRun (getCore s 0).spad [] (armedRepeat s 0 0)
      (getSet (getEng (getCore s 0) 0) 0).log = [] ∧ classif.second = false ∧ r.crcOk = true ∧ repeatPass r = true
      ∧ sameValues r.set (getSet (getEng (getCore s 0) 0) 0) = false)
    ∧ (let s := modTst (classifying setReset) fun t => { t with arm := some { core := 0, engine := 0, set := 0, kind := 1, persist := true, fired := true } }
      let r := repeatRun (getCore s 0).spad [] (armedRepeat s 0 0)
      (getSet (getEng (getCore s 0) 0) 0).log = [] ∧ r.crcOk = true ∧ repeatPass r = false) := by decide +kernel

/-! ### Translation, DRAM, cluster memory, DMA -/

def acc0 : Access :=
  { core := 0, thread := 0, issue := 4, posted := false, key := 0, addr := 0x1000000000080, sg := 0, loc := .tenant 0x80, act := .read, born := 0,
    count := 0, stage := .waiting }
def withAcc (a : Access) (s : State) : State := modMem s fun m => { m with acc := [(3, a)] }
/-- Saggar 0's tables lie at DPA 0: VA 0 lies in a 1 GiB page whose leaf is in the table at DPA 4,096; the next entry of the first table is 0. -/
def walkState : State := dramWrite (dramWrite State.reset { slot := 256, id := 0 } 0 0x1001) { slot := 256, id := 0 } 64 0xF
theorem witness_translations :
    (let s := withAcc acc0 State.reset; Translating s 3 acc0 0x80)
    ∧ (let e := { sg := 0, va := 0, size := 65536, leaf := 0xF }; let s := modMem (withAcc acc0 State.reset) fun m => { m with tbuf := [(0, [e])] }
      Translating s 3 acc0 0x80 ∧ tbLook s 0 0 0x80 = some e ∧ pteRd e.leaf = true ∧ pteWr e.leaf = true)
    ∧ (let s := withAcc acc0 walkState; Translating s 3 acc0 0x80 ∧ walk (fadd s r_MMU_WCNT f_MMU_WCNT_CNT 1) 0 0x80 = .leaf 0xF 1)
    ∧ (let a := { acc0 with loc := .tenant (2 ^ 39) }; let s := withAcc a walkState
      Translating s 3 a (2 ^ 39) ∧ walk (fadd s r_MMU_WCNT f_MMU_WCNT_CNT 1) 0 (2 ^ 39) = .absent 0 ∧ replaying s 0 = false) := by
  unfold Translating; decide +kernel
def record0 : FaultRec := { sg := 0, kind := 1, mid := 0x1000, acct := 0, src := 0, va := 0, tb := 0, die := 0, merged := 1 }
def faulted : State := modMem (withAcc { acc0 with stage := .faulted (some 1023) } State.reset) fun m => { m with faults := [(1023, record0)] }
theorem witness_fault_records :
    tblFind faulted.mem.faults 1023 = some record0 ∧ getAcc faulted 3 = some { acc0 with stage := .faulted (some 1023) }
    ∧ (let s := fput faulted r_MMU_CTL f_MMU_CTL_FTMO 0; tblFind s.mem.faults 1023 = some record0 ∧ fget s r_MMU_CTL f_MMU_CTL_FTMO * 1000000 ≤ (s.tb.tb - record0.tb).toNat)
    ∧ (let s := modMem faulted fun m => { m with acc := m.acc ++ [(4, acc0)] }; getAcc s 4 = some acc0 ∧ acc0.stage ≠ .faulted (some 1023)) := by decide +kernel

def svc : KeyTag := { slot := 256, id := 0 }
def place0 : Place := { word := 0, tail := none, tag := svc }
theorem witness_dram_slots :
    (let s := unlocked State.reset; SlotOpen s 31 31 ∧ lockSet s = false)
    ∧ (let a := { acc0 with act := .write (List.replicate 64 (mOn 5)), stage := .ready place0 }; let s := unlocked (withAcc a State.reset)
      SlotOpen s 0 0 ∧ oldestReady s 0 0 false = some (3, a, place0) ∧ tagLive s place0.tag = true)
    ∧ (let a := { acc0 with stage := .ready place0 }; let s := unlocked (withAcc a walkState)
      SlotOpen s 0 0 ∧ oldestReady s 0 0 true = some (3, a, place0) ∧ dramRead s svc 0 = some 0x1001 ∧ a.act = .read
      ∧ armedAt s [srcDie 0 12, srcDie 0 14] none = none)
    := by
  unfold SlotOpen; decide +kernel
def halfAcc (adds : Bool) : Access := { acc0 with act := if adds then .narrowAdd lrZero else .write [mOn 5], stage := .half place0 0 7 0 false }
def halfState (adds : Bool) : State := modMem (unlocked (withAcc (halfAcc adds) State.reset)) fun m => { m with slotCtr := 24 }
theorem witness_dram_halves (adds : Bool) : SlotOpen (halfState adds) 0 0 ∧ halfReady (halfState adds) 0 0 adds = some (3, halfAcc adds, place0, 7, 0, false)
    ∧ lockSet (halfState adds) = false ∧ tagLive (halfState adds) svc = true := by
  unfold SlotOpen; cases adds <;> decide +kernel
theorem witness_dram_words : tagLive State.reset svc = true ∧ (5 : Nat) ≠ 0 ∧ (1 : Nat) ≠ stackOf 0 := by decide +kernel
/-- R523: an unwritten word and one written read as they were written; a slot without a key reads nothing. -/
theorem test_dram_read_after_write :
    dramRead walkState svc 64 = some 0xF ∧ dramRead (dramWrite walkState svc 64 3) svc 64 = some 3 ∧ dramRead (dramWrite walkState svc 64 3) svc 0 = some 0x1001
    ∧ dramRead walkState { slot := 0, id := 0 } 64 = none := by decide +kernel
theorem witness_cluster_memory :
    (let a := { acc0 with loc := .cluster 0 0 0x1FFFFC0, act := .read }; let s := withAcc a State.reset
      dieUp s 0 = true ∧ clOldest s 0 0 15 = some (3, a) ∧ clBank 0x1FFFFC0 = 15 ∧ clBanks a = [15] ∧ armedAt s [srcDie 0 5, srcDie 0 6] none = none
      ∧ (clEffect (clMem s 0 0) 0x1FFFFC0 a.act).2.2 = false)
    ∧ ((0 : Nat) < 64 ∨ 64 + 0 ≤ 0) ∧ State.reset.tb.tb.toNat % (fget State.reset r_TST_TW_CFG f_TST_TW_CFG_WIN * 1000000000) = 0 := by decide +kernel

/-- Saggar 0 is ACTIVE; its core 0 copies 64 bytes from scratchpad 0 to scratchpad 0x1000. -/
def sag0 : State := fput State.reset (r_TNT_SG_STATE 0) f_TNT_SG_STATE_STATE 1
def xfer0 : Xfer := { who := .thread 0 0 4, sg := 0, src := .spad 0, dst := .spad 0x1000, len := 64, done := 0, st := .running }
def dmaState (x : Xfer) : State := modDma (setCore sag0 0 liveCore) 0 fun g => { g with thq := [x] }
theorem witness_dma_units :
    ∃ s1 s2 bs ds p q, let s := dmaState xfer0; let s' := modDma s 0 dmaChoose
      dieUp s 0 = true ∧ dmaCur (getDma s' 0) = some xfer0 ∧ dmaGoes s' xfer0 = true
      ∧ agentRead s' (xferAsker 0 xfer0) 0 (regionAdd xfer0.src 0) (unitLen xfer0) false = .ok s1 bs p
      ∧ agentWrite s1 (xferAsker 0 xfer0) 0 0 4 (regionAdd xfer0.dst 0) (bs.map mOn) false = .ok s2 ds q :=
  ⟨_, _, _, _, _, _, by decide +kernel, by decide +kernel, by decide +kernel, rfl, rfl⟩
theorem witness_table_writer :
    ((0x80000000#32).getLsbD 31 = true ∧ twBusy State.reset = false ∧ (0x80000000#32).toNat / 2 ^ 24 % 128 = 0)
    ∧ (let j := { dst := 4096, src := 0, data := 7, cnt := 0, sg := 0 }; let s := modMem walkState fun m => { m with tw := some j }
      s.mem.tw = some j ∧ j.dst % 2 ^ 36 + 8 ≤ serviceBase ∧ stackInService s (j.dst / 2 ^ 36) = true ∧ dramRead s (serviceTag s 0) (j.dst / 64) = some 0xF) := by
  decide +kernel

/-! ### Streams, items, saved saggars, start-up -/

/-- Function 0 owns streams 0 to 63 and saggar 0, which is ACTIVE; both ports are up and the journal is recovered; stream 63 has a submission
queue of 16 and a completion queue of 32 entries, and is in state `st`. -/
def stream (st : Nat) : State :=
  let s := modStm sag0 fun t => { t with ports := (true, true), jnl := { t.jnl with recovered := true } }
  let s := fput s (r_TNT_FN_STRM 0) f_TNT_FN_STRM_SCNT 1
  let s := fput (fput s (r_STM_CFG 63) f_STM_CFG_SQLOG 4) (r_STM_CFG 63) f_STM_CFG_CQLOG 5
  setStState s 63 st
theorem witness_doorbells :
    (let s := stream 1; dbTaken s 63 = true ∧ (15 : Nat) < sqSize s 63 ∧ ((getStrm s 63).tail + sqSize s 63 - sqHead s 63) % sqSize s 63 ≤ (15 + sqSize s 63 - sqHead s 63) % sqSize s 63
      ∧ ¬((16 : Nat) < sqSize s 63))
    ∧ (let s := fput (stream 1) (r_STM_PTR 63) f_STM_PTR_CQTAIL 3; (3 : Nat) < cqSize s 63 ∧ (3 + cqSize s 63 - (getStrm s 63).cqHead) % cqSize s 63 ≤ cqUsed s 63
      ∧ ¬((4 + cqSize s 63 - (getStrm s 63).cqHead) % cqSize s 63 ≤ cqUsed s 63)) := by decide +kernel
theorem witness_stream_control :
    (let s := stream 0; strmsUp s = true ∧ stState s 63 = stOff ∧ replayHolds s 63 = false ∧ enRefused s 63 = 0
      ∧ enRefused (fput s (r_STM_CFG 63) f_STM_CFG_CQLOG 4) 63 ≠ 0)
    ∧ (let s := stream 4; stState s 63 = stRecover ∧ replayHolds s 63 = false)
    ∧ (let s := stream 2; strmsUp s = true ∧ stState s 63 = stStopped ∧ inflight s 63 = 0 ∧ (getStrm s 63).flush = .none) ∧ stState (stream 3) 63 = stHalted
    ∧ (let s := stream 1; strmsUp s = true ∧ stState s 63 = stRun ∧ (getStrm s 63).flush = .none ∧ fbit s (r_STM_CTL 63) f_STM_CTL_EN = false)
    ∧ (let s := stream 0; let v : W32 := 0x00010001#32; let b := 64 * fldGet v f_TNT_FN_STRM_SBASE; let k := 64 * fldGet v f_TNT_FN_STRM_SCNT
      rangeBusy s (fnBase s 255) (fnCount s 255) = false ∧ rangeBusy s b k = false ∧ b + k ≤ 65536
      ∧ (∀ g < 256, g ≠ 255 → fnCount s g ≠ 0 → b + k ≤ fnBase s g ∨ fnBase s g + fnCount s g ≤ b)) := by decide +kernel
theorem witness_interrupts :
    (let s := fput (modStrm (stream 1) 63 fun t => { t with first := some 0 }) (r_STM_COAL 63) f_STM_COAL_TMO 0;
      (getStrm s 63).first = some 0 ∧ fget s (r_STM_COAL 63) f_STM_COAL_TMO * 1000 ≤ (s.tb.tb - 0).toNat)
    ∧ (let s := modTb (modFn (stream 1) 0 fun f => { f with msixEn := true, vecs := [(2047, { vecReset with lastMsg := some 0, merged := true, mask := false })] }) fun t => { t with tb := 1000 };
      (getVec s 0 2047).lastMsg = some 0 ∧ (getVec s 0 2047).merged = true ∧ 1000 ≤ (s.tb.tb - 0).toNat ∧ (getFn s 0).msixEn = true ∧ (getFn s 0).msixMask = false
      ∧ (getVec s 0 2047).mask = false ∧ hostUp s 0 = true ∧ fget s (r_TNT_FN_BUDGET 0) f_TNT_FN_BUDGET_IRQ = 0)
    ∧ (let s := modTb State.reset fun t => { t with tb := 100000 }; (getFn s 255).win < s.tb.tb.toNat / 100000)
    ∧ State.reset.pin.perst.1 = false ∧ State.reset.pin.perst.2 = false := by decide +kernel

/-- The tail stands one slot past the head; the slot's phase byte is `p`. -/
def submitted (p : Byte) : State := hostWrite (modStrm (stream 1) 63 fun t => { t with tail := 1 }) 63 [p]
theorem witness_fetches :
    (let s := fput (submitted 0x80) (r_STM_STAT 63) f_STM_STAT_SQPH 1; fetchGoes s 63 = true
      ∧ imgN (hostRead s (sqBase s 63 + 64 * sqHead s 63) 64) 63 1 / 128 = fget s (r_STM_STAT 63) f_STM_STAT_SQPH)
    ∧ (let s := fput (submitted 0) (r_STM_STAT 63) f_STM_STAT_SQPH 1; fetchGoes s 63 = true ∧ taking (getStrm s 63) = none
      ∧ imgN (hostRead s (sqBase s 63 + 64 * sqHead s 63) 64) 63 1 / 128 ≠ fget s (r_STM_STAT 63) f_STM_STAT_SQPH)
    ∧ (let s := modTb (fput (stream 1) (r_STM_STAT 63) f_STM_STAT_PHWAIT 1) fun t => { t with tb := 1000 };
      stState s 63 = stRun ∧ fbit s (r_STM_STAT 63) f_STM_STAT_PHWAIT = true ∧ 1000 ≤ (s.tb.tb - (getStrm s 63).looked).toNat) := by decide +kernel
def rec0 (opc : Nat) : JRec :=
  { stream := 63, seq := 0, mark := 1, ofl := opc, img := 5, steplim := 0, seed := 0, seg0 := ⟨0, 0, 0⟩, seg1 := ⟨0, 0, 0⟩, digest := 0, commit := 0 }
theorem witness_accepts :
    let s := modStrm (stream 1) 63 fun t => { t with fetched := [(rec0 0, [])] }
    (getStrm s 63).fetched = (rec0 0, []) :: [] ∧ s.stm.jnl.failAt = none ∧ twinned s 63 = false ∧ fbit s r_JNL_STAT f_JNL_STAT_NOSPARE = false
    ∧ acceptFits s 63 (rec0 0) [] = true ∧ s.stm.jnl.failed.contains (blockOf 63 0) = false := by decide +kernel
theorem witness_items_begin :
    ∀ opc ∈ [0, 1, 2, 3], let a : Accepted := { rcd := rec0 opc, rerun := false, logged := false, hangs := 0 }
      itemGoes (modStrm (stream 1) 63 fun t => { t with accepted := [a] }) 63 opc = some (a, 0) := by decide +kernel
/-- A RUN item of stream 63 with one core. -/
def running (ph : ItemPhase) (k : Core) : State :=
  setCore (modStrm (stream 1) 63 fun t => { t with run := some { runReset (rec0 1) 0 false 0 with phase := ph } }) 0 { k with strm := 63 }
theorem witness_items_end :
    (let s := running .cores { liveCore with step := 9, limit := some 9 }; (itemCores s 63).find? (fun c => atLimit (getCore s c) && !stepEventsDue (getCore s c)) = some 0)
    ∧ (let s := running .cores { liveCore with mode := .over }; sgState s 0 = 1 ∧ itemCores s 63 = [0] ∧ (∀ c ∈ itemCores s 63, (getCore s c).mode = .over) ∧ itemException s 63 = none)
    ∧ (let s := running .finished coreReset; (getStrm s 63).run.any (fun r => r.phase == .finished) = true ∧ mramOn s = true ∧ stState s 63 ≠ stRecover
      ∧ ((getStrm s 63).posts.any fun p => p.1.ty == 2) = false ∧ logActive s 0 = false)
    ∧ (let x := { xfer0 with done := 64 }; let s := modDma (dmaState x) 0 dmaChoose; dmaCur (getDma s 0) = some x ∧ x.st = .running ∧ x.len ≤ x.done ∧ dieUp s 0 = true)
    ∧ (let x := { xfer0 with who := .item 63 0, done := 64 }; let s := modDma (dmaState x) 0 dmaChoose; dmaCur (getDma s 0) = some x ∧ x.who = .item 63 0) := by decide +kernel

theorem witness_saves_and_restores :
    (preBusy (fput State.reset r_TNT_PRE_STAT f_TNT_PRE_STAT_BUSY 1) = true)
    ∧ (let s := fput State.reset (r_TNT_SG_STATE 127) f_TNT_SG_STATE_STATE 1; preBusy s = false ∧ sgState s 127 = 1)
    ∧ sgState State.reset 127 ≠ 1
    ∧ (let x : SavedSg := { last := [], lcl := [], xfers := [] }
      let s := modSag (fput State.reset (r_TNT_SG_STATE 127) f_TNT_SG_STATE_STATE 3) 127 fun g => { g with saved := some x };
      preBusy s = false ∧ sgState s 127 = 3 ∧ (getSag s 127).saved = some x ∧ restoreClusters (preWrite s 127 1) x.last = some []) := by decide +kernel
/-- Saggar 0 holds one cluster and its save area lies in the page that `walkState` maps. -/
def saving (st : Nat) : State :=
  fput (fput (modSag walkState 0 fun g => { g with clmap := [(0, 0)] }) (r_TNT_SG_STATE 0) f_TNT_SG_STATE_STATE st) r_TNT_PRE_STAT f_TNT_PRE_STAT_BUSY 1
theorem witness_saves_complete :
    (let s := saving 2; preBusy s = true ∧ preSg s = 0 ∧ (∀ p ∈ (getSag s 0).clmap, dieUp s p.1 = true) ∧ (getSag s 0).refused = false ∧ (getSag s 0).fault = none
      ∧ sgState s 0 = 2 ∧ saveReady s 0 = true)
    ∧ sgState (saving 4) 0 = 4 := by decide +kernel
theorem saving_walks (st va : Nat) (hst : st = 2 ∨ st = 4) (h : va < 2 ^ 30) : walk (fadd (saving st) r_MMU_WCNT f_MMU_WCNT_CNT 1) 0 va = .leaf 0xF 1 := by
  have h0 : pteIndex 0 va = 0 := by simp only [pteIndex, bits]; omega
  have h1 : pteIndex 1 va = 0 := by simp only [pteIndex, bits]; omega
  obtain ⟨s, hs⟩ : ∃ s, s = fadd (saving st) r_MMU_WCNT f_MMU_WCNT_CNT 1 := ⟨_, rfl⟩
  have hr : fget s (r_MMU_ROOT_LO 0) f_MMU_ROOT_LO_ROOT * 4096 + fget s (r_MMU_ROOT_HI 0) f_MMU_ROOT_HI_ROOT * 2 ^ 32 = 0 := by
    rw [hs]; rcases hst with rfl | rfl <;> decide +kernel
  have d0 : lostAt s 0 8 = false ∧ dramRead s (serviceTag s 0) 0 = some 0x1001#512 := by rw [hs]; rcases hst with rfl | rfl <;> decide +kernel
  have d1 : lostAt s 4096 8 = false ∧ dramRead s (serviceTag s 0) 64 = some 0xF#512 ∧ frameLost s 0xF#64 1 = false := by
    rw [hs]; rcases hst with rfl | rfl <;> decide +kernel
  rw [← hs]
  have f0 : pteFormat 0x1001#64 0 = false ∧ pteLeaf 0x1001#64 = false ∧ pteAddr 0x1001#64 = 4096 := by decide +kernel
  have f1 : pteFormat 0xF#64 1 = false ∧ pteLeaf 0xF#64 = true := by decide +kernel
  unfold walk walkFrom
  simp only [hr, h0, Nat.mul_zero, Nat.add_zero, Nat.zero_div, d0.1, d0.2]
  unfold walkFrom
  simp [h1, f0, f1, d1]
theorem saving_translates (st va : Nat) (need : Need) (hst : st = 2 ∨ st = 4) (h : va < 2 ^ 30) :
    ∃ pl, (Machine.translate (saving st) 0 0 va need false).2 = .ok pl := by
  have ha : pteRd (0xF : W64) = true ∧ pteWr (0xF : W64) = true := by decide
  unfold Sys2Proof.Machine.translate
  simp only [Bool.false_eq_true, if_false]
  rw [saving_walks st va hst h]
  simp only [walkAns, leafAns, leafOut, ha, Bool.not_true, Bool.and_false, Bool.false_eq_true, if_false]
  exact ⟨_, rfl⟩
theorem saving_reaches (st : Nat) (need : Need) (hst : st = 2 ∨ st = 4) : saveFault (saving st) 0 0 1 need = none := by
  have hb : saveBase (saving st) 0 = 0 := by rcases hst with rfl | rfl <;> decide +kernel
  unfold saveFault
  rw [List.findSome?_eq_none_iff]
  intro i hi
  have hi : i < 1280 := by simpa using hi
  obtain ⟨pl, hp⟩ := saving_translates st (0 + 65536 * i) need hst (by omega)
  rw [hb, hp]
theorem witness_save_area_is_mapped : (getSag (saving 2) 0).clmap.length = 1 ∧ (getSag (saving 4) 0).clmap.length = 1
    ∧ saveFault (saving 2) 0 0 1 needAdd = none ∧ saveFault (saving 4) 0 0 1 needRead = none :=
  ⟨by decide +kernel, by decide +kernel, saving_reaches 2 _ (Or.inl rfl), saving_reaches 4 _ (Or.inr rfl)⟩

theorem witness_start_up_steps :
    (∀ n ∈ [2, 6, 11, 12, 14, 15, 17, 18, 19, 10, 3],
      let s := { modStm State.reset fun t => { t with jnl := { t.jnl with recovered := true } } with boot := { bootReset with steps := bootWaits n } }
      n ∉ s.boot.steps ∧ bootReady s n = true ∧ s.stm.jnl.failAt = none)
    ∧ (∀ n ∈ [2, 11, 12, 19], bootHolds State.reset n = true)
    ∧ bootHolds (each (List.range 48) (fun s k => fput s (r_FAB_LNK_CTL (k / 12) (k % 12)) f_FAB_LNK_CTL_EN 0) State.reset) 14 = true ∧ bootHolds (modStm State.reset fun t => { t with jnl := { t.jnl with recovered := true } }) 6 = true
    ∧ bootHolds (fput State.reset r_KLN_STAT f_KLN_STAT_QUIET 1) 15 = true ∧ bootHolds (fput State.reset r_DET_TB_STAT f_DET_TB_STAT_MASTER 1) 18 = true
    ∧ bootHolds (modWick State.reset 16 fun w => { w with lit := true }) 17 = true := by decide +kernel
theorem witness_pins :
    (let s := { State.reset with boot := { bootReset with steps := [1, 2, 4, 5] } }; 31 ∈ s.boot.fill ∧ 5 ∈ s.boot.steps)
    ∧ State.reset.pin.mrst = none ∧ pwrState State.reset ≠ 4
    ∧ (let s := modTb (modPin State.reset fun p => { p with mrst := some 0 }) fun t => { t with tb := 2000000 };
      s.pin.mrst = some 0 ∧ s.pin.mrstLow = false ∧ 2000000 ≤ (s.tb.tb - 0).toNat) := by decide +kernel

/-! ### The recorder, the replay engine, snuffs, the timebase -/

/-- Saggar 127's log: 64 KiB, head 0, tail `t`, no record staged. -/
def logging (t : Nat) : State :=
  let s := fput (modStm State.reset fun x => { x with ports := (true, true) }) (r_DET_LOG_CFG 127) f_DET_LOG_CFG_SZLOG 16
  fput s (r_DET_LOG_TAIL 127) f_DET_LOG_TAIL_TAIL t
theorem witness_log_opens :
    let v : W32 := 0x110#32
    (127 : Nat) < 128 ∧ v.getLsbD 8 = true ∧ lockSet State.reset = true ∧ 16 ≤ fldGet v f_DET_LOG_CFG_SZLOG ∧ logActive State.reset 127 = false
    ∧ fldGet (rget State.reset (r_DET_LOG_CFG 127)) f_DET_LOG_CFG_EN = 0 := by decide +kernel
theorem witness_log_advances :
    (let s := modLog (logging 0) 127 fun l => { l with buf := [(3, [7#8])] }; (getLog s 127).buf = (3, [7#8]) :: [] ∧ (getLog s 127).dead = false ∧ hostUp s (fnOf s 127) = true
      ∧ logTail s 127 + 32 ≤ logSize s 127 ∧ (logTail s 127 + logSize s 127 - logHead s 127) % logSize s 127 + 32 < logSize s 127 ∧ 16 + (padTo16 [7#8]).length = 32)
    ∧ (let s := logging 5; 16 * 5 < logSize s 127 ∧ (16 * 5 + logSize s 127 - logHead s 127) % logSize s 127 ≤ (logTail s 127 + logSize s 127 - logHead s 127) % logSize s 127
      ∧ ¬((16 * 6 + logSize s 127 - logHead s 127) % logSize s 127 ≤ (logTail s 127 + logSize s 127 - logHead s 127) % logSize s 127)) := by decide +kernel
/-- A replay of saggar 0 is in state `st`. -/
def replayingIn (st : Nat) : State := fput (stream 0) r_DET_RPL_STAT f_DET_RPL_STAT_STATE st
theorem witness_replay_starts :
    let v : W32 := 0x100#32
    v.getLsbD 8 = true ∧ v.getLsbD 9 = false ∧ rplState State.reset ≠ 1 ∧ rplState State.reset ≠ 2
    ∧ lockSet (rput (unlocked State.reset) r_DET_RPL_CTL (v &&& 0x00000CFF#32)) = false
    ∧ (let s := rput sag0 r_DET_RPL_CTL (v &&& 0x00000CFF#32); lockSet s = true ∧ sgState s (rplSg s) = 1 ∧ fnBusy s (fnOf s (rplSg s)) = false) := by decide +kernel
theorem witness_replay_items :
    (let s := replayingIn 1; rplState s = 1 ∧ sgState s (rplSg s) = 1 ∧ sgHeld s (rplSg s) = false ∧ hostUp s (fnOf s (rplSg s)) = true
      ∧ (getStrm s 65536).run = none ∧ (getStrm s 65536).accepted = [])
    ∧ (let s := modStrm (replayingIn 1) 65536 fun t => { t with run := some (runReset (rec0 1) 0 false 0) }
      (getStrm s 65536).run = some (runReset (rec0 1) 0 false 0) ∧ (runReset (rec0 1) 0 false 0).phase = .finished)
    ∧ rplState (replayingIn 2) = 2 := by decide +kernel
/-- The replayed item runs on core 0, which has reached step 9, where it stops and dumps 8 bytes of scratchpad address 0x40. -/
def stopping : State :=
  let s := modStrm (replayingIn 1) 65536 fun t => { t with run := some { runReset (rec0 1) 0 false 0 with phase := .cores } }
  setCore (modRpl s fun r => { r with stop := some (0, none, 9, 0x40, 8) }) 0 { liveCore with strm := 65536, step := 9 }
theorem witness_stop_points :
    ∃ s1 bs bad, let s := stopping
    s.stm.rpl.stop = some (0, none, 9, 0x40, 8) ∧ (itemCores s 65536).find? (fun c => (getCore s c).lcore == 0) = some 0 ∧ stopReached s (0, none, 9, 0x40, 8) = true
    ∧ (∀ c ∈ itemCores s 65536, stepEventsDue (getCore s c) = false) ∧ hostUp s (fnOf s 0) = true
    ∧ regionOf (ctxOf s 0 (getCore s 0)) 0x40 8 = some (.spad 0x40)
    ∧ agentRead s { die := 0, sg := 0, mid := midSfe, src := 2 } 0 (.spad 0x40) 8 false = .ok s1 bs bad :=
  ⟨_, _, _, by decide +kernel, by decide +kernel, by decide +kernel, by decide +kernel, by decide +kernel, by decide +kernel, rfl⟩
theorem witness_snuffs :
    (sgOfSlice sliced 1023).isSome = true ∧ memberPkg sliced 1023 (myPkg sliced) = true ∧ tblFind sliced.rst.seen 7 = none
    ∧ (tblFind (modRst sliced fun r => { r with seen := [(7, 1)] }).rst.seen 7).isSome = true
    ∧ (let s := addAct State.reset (.snuff 3 11); s.rst.acts.head? = some (.snuff 3 11) ∧ s.rst.restarting = false)
    ∧ (let s := modTb (modRst State.reset fun r => { r with settle := [(1151, 0)] }) fun t => { t with tb := 2 ^ 40 }
      (tblFind s.rst.settle 1151).isSome = true ∧ settling s 1151 = false ∧ 1151 ∉ s.rst.broken ∧ s.fab.groups = [] ∧ sgsOfJob s 1151 = []) := by decide +kernel

/-- The kiln runs and has its package ID; the timebase stands at `t`. -/
def kilnAt (t : W64) : State := modTb (fput State.reset r_KLN_ENUM f_KLN_ENUM_PKGV 1) fun x => { x with tb := t }
theorem witness_time_exchange :
    (let s := modTb (kilnAt 1000000) fun t => { t with parent := some 47 }; s.tb.parent = some 47 ∧ kilnOn s = true ∧ 1000000 ≤ nsSince s s.tb.exchAt)
    ∧ (let s := modTb (setLinkState (kilnAt 0) 3 11 5) fun t => { t with parent := some 47, t1 := some 9 };
      kilnOn s = true ∧ linkLive s 3 11 = true ∧ s.tb.t1 = some 9 ∧ s.tb.parent = some (linkKey 3 11) ∧ s.tb.exch = 0)
    ∧ (let s := modTb (kilnAt 10000000) fun t => { t with parent := some 47 }; s.tb.parent.isSome = true ∧ 10000000 ≤ nsSince s s.tb.lastTime) := by decide +kernel
theorem witness_pulses :
    (let s := fput State.reset r_DET_TB_CFG f_DET_TB_CFG_PPS_EN 1; fbit s r_DET_TB_CFG f_DET_TB_CFG_PPS_EN = true ∧ (true = true ↔ fget s r_DET_TB_CFG f_DET_TB_CFG_PPS_EDGE = 0)
      ∧ s.tb.lastPps = none)
    ∧ (let s := modTb (fput State.reset r_DET_TB_CFG f_DET_TB_CFG_PPS_EN 1) fun t => { t with tb := 1000001000, lastPps := some 0 };
      s.tb.lastPps = some 0 ∧ 999999000 ≤ (s.tb.tb - 0).toNat ∧ (s.tb.tb - 0).toNat ≤ 1000001000)
    ∧ (let s := modTb (fput (fput State.reset r_DET_TB_CFG f_DET_TB_CFG_PPS_EN 1) r_DET_TB_STAT f_DET_TB_STAT_PPS_SEEN 1) fun t => { t with tb := 1000001001, lastPps := some 0 };
      s.tb.lastPps = some 0 ∧ fbit s r_DET_TB_CFG f_DET_TB_CFG_PPS_EN = true ∧ fbit s r_DET_TB_STAT f_DET_TB_STAT_PPS_SEEN = true ∧ 1000001000 < nsSince s 0) := by decide +kernel

/-! ### Links, cells, sync objects, collectives -/

/-- Link 11 of wheel 3 is in state `st` since time 0; the timebase stands at `t`. -/
def linkIn (st : Nat) (t : W64) : State := modTb (fput State.reset (r_FAB_LNK_STAT 3 11) f_FAB_LNK_STAT_STATE st) fun x => { x with tb := t }
theorem witness_link_states :
    linkState (linkIn 1 0) 3 11 = 1 ∧ 15 % 16 = 15
    ∧ (∀ p ∈ [((2 : Nat), (20000 : Nat)), (3, 2000), (4, 200)], let s := linkIn p.1 30000000;
      linkState s 3 11 = p.1 ∧ stateLimit p.1 = some p.2 ∧ p.2 < linkUs s 3 11 ∧ (getLink s (linkKey 3 11)).pause = false)
    ∧ (let s := modLink (linkIn 2 1000000) 47 fun x => { x with pause := true }; (getLink s (linkKey 3 11)).pause = true ∧ 1000 ≤ linkUs s 3 11)
    ∧ (let s := linkIn 1 (2 ^ 40); linkState s 3 11 ≠ 5 ∧ fget s (r_FAB_LNK_CTL 3 11) f_FAB_LNK_CTL_HOLD ≤ linkUs s 3 11)
    ∧ (let s := modLink (linkIn 5 0) 47 fun x => { x with rx := { x.rx with uncRun := 8 }, tx := { x.tx with replays := 255 } };
      linkState s 3 11 = 5 ∧ 8 ≤ (getLink s (linkKey 3 11)).rx.uncRun ∧ fget s (r_FAB_LNK_CTL 3 11) f_FAB_LNK_CTL_RPLIM ≤ (getLink s (linkKey 3 11)).tx.replays) := by decide +kernel
def cell0 : Cell :=
  { dpkg := 0, dep := 0, spkg := 1, sep := 0, slice := 1023, vc := 0, epoch := false, ce := false, ece := false, ty := 1, gen := 0, mseq := 5, cidx := 0, plen := 1,
    age := 0, ctx := 0, crc := 0, payload := 0 }
def lcell0 : LCell := { cell := cell0, pool := false, agef := 0, arr := 0 }
theorem witness_link_blocks :
    linkState (linkIn 2 0) 3 11 = 2
    ∧ (let s := modLink (linkIn 3 0) 47 fun x => { x with good := 63 }; linkState s 3 11 = 3 ∧ 63 ≤ (getLink s (linkKey 3 11)).good)
    ∧ (let b : Block := { align := false, uncA := false, uncB := false, sym := 0, fseq := 0, cells := [], aseq := 0, nak := false, dcrd := [], scrd := 0 };
      b.uncA = false ∧ b.uncB = false ∧ b.align = false ∧ linkState (linkIn 5 0) 3 11 = 5)
    ∧ (let s := modLink (linkIn 4 100) 47 fun x => { x with recs := 3, fresh := false };
      let r : CfgRec := { fresh := false, aseq := 0, tSend := 0, tEcho := 50, tHold := 0, free := [], sfree := 0 };
      let x := getLink s (linkKey 3 11);
      linkState s 3 11 = 4 ∧ x.recs = 3 ∧ x.fresh = false ∧ (r.tEcho - x.tSent).toNat ≤ ((s.tb.tb.truncate 32 : W32) - x.tSent).toNat)
    ∧ (let s := modLink (linkIn 5 (2 ^ 40)) 47 fun x => { x with tx := { x.tx with buf := [(0, lcell0)] } };
      (getLink s (linkKey 3 11)).tx.buf ≠ [] ∧ fget s (r_FAB_LNK_RTMO 3 11) f_FAB_LNK_RTMO_TMO * 1000 ≤ (s.tb.tb - (getLink s (linkKey 3 11)).tx.since).toNat)
    ∧ (panelAdj 0 1 = true ∧ (getPanel State.reset 0 1).tx.buf[(getPanel State.reset 0 1).tx.cur]? = none ∧ (getPanel State.reset 0 1).rx.nakDue = false) := by decide +kernel

/-- A cell for this package waits at port 12 of wheel 0, whose bank 0 is CURRENT; one of an unknown type at port 13. -/
def routed : State :=
  modPanel (modPanel (modWheel (setBank State.reset 0 0 2) 0 fun x => { x with bank0 := [(0, 3)] }) 0 16 fun p => { p with rx := { p.rx with buf := [lcell0] } }) 1 16 fun p =>
    { p with rx := { p.rx with buf := [{ lcell0 with cell := { cell0 with ty := 0 } }] } }
theorem witness_routes :
    (wheelIn routed 0 12)[0]? = some lcell0 ∧ (match routeCell routed 0 12 cell0 none with | .choose _ => true | _ => false) = true
    ∧ (wheelIn routed 0 13)[0]? = some { lcell0 with cell := { cell0 with ty := 0 } } ∧ routeCell routed 0 13 { cell0 with ty := 0 } none = .drop
    ∧ (match routeCell routed 0 12 cell0 none with
       | .choose ch => (arbitrate 0 (lastOf routed 16 ch.out) (lastPortOf routed 16 ch.out) (wheelReady (modWheel routed 0 fun x => setChoice x 12 0 ch) 0 ch.out)).isSome
       | _ => false) = true
    ∧ tooOld lcell0 4000000 = true := by decide +kernel
theorem witness_rates :
    (let s := fput (modNi State.reset 15 fun n => { n with ece := [4095] }) r_FAB_CC_CTL f_FAB_CC_CTL_EN 1;
      4095 ∈ (getNi s 15).ece ∧ fbit s r_FAB_CC_CTL f_FAB_CC_CTL_EN = true ∧ (getRate s 15 4095).lastDec = 0)
    ∧ (let s := modTb (fput (modNi State.reset 15 fun n => { n with rate := [(4095, { rateReset with rate := 1023 })] }) r_FAB_CC_CTL f_FAB_CC_CTL_EN 1) fun t => { t with tb := 2 ^ 40 };
      (getRate s 15 4095).rate < 1024 ∧ fget s r_FAB_CC_TIME f_FAB_CC_TIME_AIINT * 1000 ≤ (s.tb.tb - laterTb (getRate s 15 4095).lastDec (getRate s 15 4095).lastInc).toNat) := by decide +kernel

def niReq0 : NiReq := { core := 0, thread := 0, issue := 4, posted := false, req := .timebase, phase := 0, count := 0 }
/-- Operation `op` with operand 5 waits for object 16,383 of die 15, which counts `n` and is bound to saggar 3. -/
def syncing (op : Nat) (n : W64) : State :=
  modSync State.reset 15 fun x => { x with cnt := [(16383, n)], owner := [(63, 3)], queue := [{ op := op, idx := 16383, operand := 5, who := .thread 0 niReq0, sg := 3 }] }
theorem witness_sync_objects :
    (∀ op ∈ [0, 1, 2, 3], SyncReady (syncing op 5) 15 16383 op { op := op, idx := 16383, operand := 5, who := .thread 0 niReq0, sg := 3 })
    ∧ (5 : W64).toNat ≤ (syncCnt (getSync (syncing 2 5) 15) 16383).toNat
    ∧ (SyncReady (syncing 2 4) 15 16383 2 { op := 2, idx := 16383, operand := 5, who := .thread 0 niReq0, sg := 3 }
      ∧ (syncCnt (getSync (syncing 2 4) 15) 16383).toNat < (5 : W64).toNat) := by
  unfold SyncReady; decide +kernel
/-- A whole message of type `ty` about slice 1,023 lies at die 0. -/
def reasm0 (ty : Nat) : Reasm :=
  let c := { cell0 with ty := ty, plen := 2, payload := 64 * 2 ^ 64 + 0x300000000 }
  { first := c, got := [(0, c)], ce := false, bad := false, hold := none, refused := false }
def arrivedAt (ty : Nat) : State := modNi sliced 0 fun n => { n with reasm := [reasm0 ty] }
theorem witness_messages :
    (let s := arrivedAt 3; (getNi s 0).reasm[0]? = some (reasm0 3) ∧ reasmWhole (reasm0 3) = true ∧ (cellClass 3 = some 0 ∨ cellClass 3 = some 1) ∧ dieState s 0 ≠ 1
      ∧ (match performWhole (setNi s 0 { getNi s 0 with reasm := [] }) 0 (reasmMsg (reasm0 3)) false with | .done _ => true | _ => false) = true)
    ∧ (let s := arrivedAt 2; (getNi s 0).reasm[0]? = some (reasm0 2) ∧ reasmWhole (reasm0 2) = true ∧ cellClass 2 = some 2 ∧ (reasmMsg (reasm0 2)).ece = false
      ∧ tblFind (getNi s 0).out (reasmMsg (reasm0 2)).mseq = none)
    ∧ (let o : NiOut := { who := niReq0, dpkg := 1, dep := 0, gen := 0, space := 0, part := 0 };
      let s := modNi (arrivedAt 2) 0 fun n => { n with out := [(5, o)] };
      tblFind (getNi s 0).out (reasmMsg (reasm0 2)).mseq = some o ∧ o.gen = (reasmMsg (reasm0 2)).gen ∧ (reasmMsg (reasm0 2)).gen = genOf s 0) := by decide +kernel
def atom0 : HeldAtom := { msg := reasmMsg (reasm0 5), phase := 0, rank := 0, lcore := 0, thread := 0, s := 0 }
theorem witness_held_atoms :
    (let s := modNi State.reset 0 fun n => { n with closes := [(reasmMsg (reasm0 9), 0, 1)], atoms := [atom0] };
      (getNi s 0).closes = (reasmMsg (reasm0 9), 0, 1) :: []
      ∧ 1 ≤ ((getNi s 0).atoms.filter fun a => a.phase == 0 && a.msg.spkg == (reasmMsg (reasm0 9)).spkg && a.msg.sep == (reasmMsg (reasm0 9)).sep && a.msg.slice == (reasmMsg (reasm0 9)).slice).length)
    ∧ (let s := modNi sliced 0 fun n => { n with atoms := [atom0], phaseGone := [(5, 1)] };
      heldFirst ((getNi s 0).atoms.filter fun a => decide (a.phase < tblGet (fun _ => 0) (getNi s 0).phaseGone 5) && sgOfSlice s a.msg.slice == some 5) = some atom0
      ∧ (match performAtom (modNi s 0 fun n => { n with atoms := n.atoms.erase atom0 }) 0 5 atom0.msg false with | .done _ => true | _ => false) = true) := by decide +kernel

/-- Group 7 of two members on dies 0 and 1, whose tree is wheel 0 alone (`parent` 7) or has a wheel above it. -/
def collState (parent : Nat) (die wheel : ColNode) : State :=
  modGroup State.reset 7 fun g => { g with st := 1, m := 2, root := 0, parent := parent, plane := 0, members := [{ index := 0, rank := 0, lcore := 0, ep := 0 }, { index := 1, rank := 1, lcore := 1, ep := 1 }], nodes := [(0, die), (16, wheel)] }
def coll0 : CollOp := { member := 0, who := niReq0, kind := .allreduce, src := some (.spad 0), dst := some (.spad 0x1000), count := 2, wrote := [], acks := 0, sentWr := false }
def mergedNode : ColNode := { colNodeReset with starts := [(8, (0, 2, 1)), (9, (0, 2, 1))] }
theorem witness_collectives_up :
    (let s := collState 2 colNodeReset mergedNode; let g := getGroup s 7; let x := getNode g 16;
      g.st = 1 ∧ 16 = 16 + g.plane ∧ g.plane < 4 ∧ x.merged = false ∧ mergedStart g x = some (0, 2, 2) ∧ g.parent ≠ 7)
    ∧ (let s := collState 2 { colNodeReset with locals := [coll0] } colNodeReset; let g := getGroup s 7; let x := getNode g 0;
      nodeOp x = some (0, 2) ∧ 1 ∉ x.sent ∧ 1 < opIndices g 0 2 ∧ (localMembers g 0).all (fun m => x.locals.any fun o => o.member == m.index) = true
      ∧ (dieValue s g x 1).map (fun p => (p.2, decide (upSlots s g 0 + valueCells p.1 ≤ g.slots))) = some (false, true)) := by decide +kernel
theorem witness_collectives_down :
    (let s := collState 7 { colNodeReset with goIn := true } { mergedNode with merged := true }; let g := getGroup s 7
      (getNode g 0).go = false ∧ (getNode g 0).goIn = true ∧ g.parent = 7 ∧ (getNode g 16).go = false ∧ (getNode g 16).merged = true
      ∧ mergedStart g (getNode g 16) = some (0, 2, 2) ∧ rootAgrees g (0, 2, 2) = true)
    ∧ (let s := collState 2 colNodeReset { mergedNode with doneIn := some 0 }; let g := getGroup s 7; let x := getNode g 16;
      g.parent ≠ 7 ∧ x.doneIn = some 0 ∧ nodeOp x = some (0, 2)) := by decide +kernel


/-! ### The kiln, its role and its wicks -/

/-- Wick `ep` is lit under term 3 and expects FMSEQ 7. -/
def litWick (s : State) (ep : Nat) : State := modWick s ep fun w => { w with lit := true, expect := 7, term := 3 }
theorem witness_wick_commands :
    (∀ ep ∈ [15, 20, 16], WickTurn (litWick State.reset ep) ep 7 3) ∧ (15 : Nat) < 16
    ∧ (let s := setBank (litWick State.reset 20) 3 1 1; WickTurn s 20 7 3 ∧ bankState s 3 (1 % 2) = 1 ∧ bankState s 3 (1 - 1 % 2) ≠ 2)
    ∧ (0 < bits 4095 11 0 ∧ bits 4095 13 12 = 0 ∧ bits 4095 62 45 = 0)
    ∧ (let h := 4072 + 24 * 2 ^ 12; 0 < bits h 16 12 ∧ bits h 16 12 ≤ 24 ∧ bits h 11 0 + bits h 16 12 ≤ 4096 ∧ bits h 31 18 = 0 ∧ bits h 63 32 = 0
      ∧ bankState (litWick State.reset 20) 3 (bits h 17 17) < 2)
    ∧ (let h := 12 * 2 ^ 22 + 2 ^ 27; 0 < bits h 25 22 ∧ bits h 25 22 ≤ 12 ∧ bits h 63 28 = 0 ∧ memWordOk 0 = true ∧ bitAt h 27 = true ∧ bitAt h 26 = false)
    ∧ (let s := setBank State.reset 3 1 3; bankState s 3 1 = 3 ∧ fbit s (r_FAB_RT_STAT 3) f_FAB_RT_STAT_DRAINED = false ∧ oldCells s 3 = 0)
    ∧ (let s := fput State.reset r_KLN_ENUM f_KLN_ENUM_PKGV 1; fbit s r_KLN_ENUM f_KLN_ENUM_PKGV = true ∧ (getWick s 15).lit = false) := by
  unfold WickTurn; decide +kernel

/-- The kiln has package ID 0, role `role`, timebase `t`, and what `f` gives it. -/
def kilnIn (role : Nat) (t : W64) (f : KilnSt → KilnSt) : State :=
  modTb (modKln (fput (fput State.reset r_KLN_ENUM f_KLN_ENUM_PKGV 1) r_KLN_STAT f_KLN_STAT_ROLE role) f) fun x => { x with tb := t }
def part0 (seq : Nat) : LsrPart := { seq := seq, term := 0, cand := true, peer := none, pri := 0, links := List.replicate 24 0, heard := 0 }
theorem witness_numbering :
    (let e := rget State.reset r_KLN_ENUM; fldGet e f_KLN_ENUM_HEAD = 0 ∧ fldGet e f_KLN_ENUM_POSV = 0 ∧ fldGet e f_KLN_ENUM_CHAINV = 0)
    ∧ frameOk (0xA5 * 2 ^ 16 + 63 * 2 ^ 10 + 63 * 2 ^ 4 + 12) = true ∧ State.reset.kln.enumLast ≠ some 0
    ∧ (let s := modKln State.reset fun k => { k with enumLast := some 0xA50000 }; frameOk 0xA50000 = true ∧ s.kln.enumLast = some 0xA50000)
    ∧ (let s := kilnIn 0 32000 fun k => { k with enumOut := some (63, 62), enumSent := some 0 };
      s.kln.enumOut = some (63, 62) ∧ s.kln.enumSent = some 0 ∧ 32000 ≤ nsSince s 0)
    ∧ (let s := fput State.reset r_KLN_ENUM f_KLN_ENUM_HEAD 1; fldGet (rget s r_KLN_ENUM) f_KLN_ENUM_PKGV = 0 ∧ fldGet (rget s r_KLN_ENUM) f_KLN_ENUM_HEAD = 1) := by
  decide +kernel
theorem witness_discovery :
    (let s := linkIn 5 1000000; linkLive s 3 11 = true ∧ 1000000 ≤ nsSince s (tblGet (fun _ => (0, 0#64)) s.kln.helloSent (linkKey 3 11)).2
      ∧ bits ((([0x10] : List Nat)).getD 0 0) 7 0 = 0x10 ∧ kilnOn s = false)
    ∧ (let s := kilnIn 0 (2 ^ 40) fun k => { k with lsr := [(8191, part0 3)] };
      kilnOn s = true ∧ 4095 ≠ myPkg s ∧ 4095 ∉ s.kln.role.lost ∧ tblFind s.kln.lsr (2 * 4095 + 1) = some (part0 3)
      ∧ newer32 4 3 = true ∧ samePart (part0 3) { part0 4 with heard := s.tb.tb } = true ∧ newer32 3 3 = false
      ∧ 100000000 ≤ nsSince s s.kln.flooded ∧ 2000000 ≤ nsSince s s.kln.changed)
    ∧ (let s := kilnIn 3 0 fun k => { k with lsr := [(2, part0 0), (3, part0 0)] }; kilnOn s = true ∧ 1 ≠ myPkg s ∧ issuing s = true ∧ inTopo (topoOf s) 1 = true) := by
  decide +kernel
theorem witness_terms :
    (let s := fput (kilnIn 0 0 fun k => { k with lsr := [(0, part0 0), (1, part0 0)] }) r_KLN_STAT f_KLN_STAT_QUIET 1;
      kilnOn s = true ∧ kilnRole s = 0 ∧ fbit s r_KLN_STAT f_KLN_STAT_QUIET = true ∧ fbit s r_KLN_FMPKG f_KLN_FMPKG_ACTV = false ∧ s.kln.hello = []
      ∧ s.kln.ask = none ∧ fget s r_KLN_PAIR f_KLN_PAIR_WITK = 0 ∧ packages (topoOf s) = [myPkg s] ∧ (candidates s).any (fun c => c.1 == myPkg s) = true)
    ∧ (let s := kilnIn 0 0 fun k => { k with witTerm := 9, witGranted := true }; kilnOn s = true ∧ (9 = s.kln.witTerm ∨ (0 = 0 ∧ s.kln.witGranted = false)) ∧ 8 ≠ s.kln.witTerm)
    ∧ (let s := fput (fput (kilnIn 0 0 id) r_KLN_PAIR f_KLN_PAIR_WITK 1) r_KLN_PAIR f_KLN_PAIR_WIT 4095; fromWitness s 4095 = true)
    ∧ (let s := kilnIn 0 1000000 fun k => { k with ask := some (.solo, 0, 0) }; kilnOn s = true ∧ s.kln.ask = some (.solo, 0, 0) ∧ 1000000 ≤ nsSince s 0) := by
  decide +kernel
theorem witness_pairs :
    (let s := kilnIn 2 (2 ^ 50) id; kilnOn s = true ∧ isPair s = true ∧ 100000 ≤ nsSince s s.kln.beatOut ∧ s.kln.ask = none
      ∧ fget s r_KLN_TIMING f_KLN_TIMING_FMTMO * 1000000 ≤ nsSince s s.kln.beatIn ∧ kilnRole s = 2)
    ∧ (let s := fput (kilnIn 1 (2 ^ 60) fun k => { k with stopped := true }) r_KLN_STAT f_KLN_STAT_SWAPDEF 1; kilnOn s = true ∧ roleHeld s = true ∧ s.kln.ask = none
      ∧ fget s r_KLN_TIMING f_KLN_TIMING_SWAP * 60000000000 ≤ nsSince s s.kln.swapAt ∧ fbit s r_KLN_STAT f_KLN_STAT_SWAPDEF = true
      ∧ 1000000000 ≤ nsSince s s.kln.deferAt ∧ kilnRole s = 1 ∧ s.kln.stopped = true)
    ∧ (let s := kilnIn 2 10000000 fun k => { k with ask := some (.swap, 0, 0) }; s.kln.ask = some (.swap, 0, 0) ∧ 10000000 ≤ nsSince s 0)
    ∧ (let s := fput (fput (kilnIn 3 0 fun k => { k with lsr := [(2, part0 0), (3, part0 0)] }) r_KLN_PAIR f_KLN_PAIR_PEERV 1) r_KLN_PAIR f_KLN_PAIR_PEER 1;
      kilnOn s = true ∧ kilnRole s = 3 ∧ fbit s r_KLN_PAIR f_KLN_PAIR_PEERV = true ∧ inTopo (topoOf s) (kilnPeer s) = true)
    ∧ (∀ r ∈ [0, 4], let s := fput (kilnIn r 0 id) r_KLN_PAIR f_KLN_PAIR_PEERV 1
      kilnOn s = true ∧ kilnRole s = r ∧ fbit s r_KLN_PAIR f_KLN_PAIR_PEERV = true ∧ newerTerm (kilnTerm s) 0 = false ∧ roleHeld s = false ∧ s.kln.passed = none)
    ∧ (let s := kilnIn 1 0 fun k => { k with mirrors := [{ num := 5, sent := true, cmd := none, rack := none, done := none }] };
      kilnOn s = true ∧ kilnRole s = 1 ∧ s.kln.mirrors.any (fun m => m.num == 5 && m.sent) = true) := by
  decide +kernel

/-- The role has sent wick 20 of package 1, which is lit, the command of FMSEQ 7 at time 0. -/
def cmd0 : RoleCmd := { seq := 7, ty := 0x1F, words := [], sent := some 0 }
def lit0 : LitWick := { litReset with lit := true, out := [cmd0] }
def roleOver (t : W64) : State :=
  kilnIn 3 t fun k => { k with lsr := [(2, part0 0), (3, part0 0)], role := { k.role with lit := [(52, lit0)] } }
theorem witness_role :
    (let s := roleOver 10000000; issuing s = true ∧ roleHeld s = true ∧ kilnOn s = true ∧ wickKey 1 20 = 52
      ∧ getLit s 52 = some lit0 ∧ lit0.out.find? (fun c => c.seq == 7) = some cmd0 ∧ cmd0.sent = some 0 ∧ lit0.lit = true ∧ 10000000 ≤ nsSince s lit0.heard
      ∧ 500000 ≤ nsSince s 0 ∧ tblFind s.kln.role.reps 52 ≠ some 1)
    ∧ packageGone (roleOver 350000000) 1 = true
    ∧ (let s := kilnIn 3 (2 ^ 50) fun k => { k with role := { k.role with trig := some 0 } };
      s.kln.role.trig = some 0 ∧ issuing s = true ∧ s.kln.role.change = none ∧ fget s r_KLN_TIMING f_KLN_TIMING_RCHOLD * 100000 ≤ nsSince s 0)
    ∧ (let c : ChangeSt := { step := 6, epoch := 1, wait := [], drain := [], lastAck := 0, began := 0, again := [], skip := [] };
      let s := kilnIn 3 4100000 fun k => { k with role := { k.role with change := some c } };
      s.kln.role.change = some c ∧ issuing s = true ∧ c.step = 6 ∧ c.drain = [] ∧ 4100000 ≤ nsSince s c.lastAck) := by
  decide +kernel
/-- Channel `c` is bound to A side `a` and B side `b`, and its message waits with payload byte 0 = `op` (all payload words are listed, which makes their
reading short). -/
def asking (s : State) (c a b op : Nat) : State :=
  let s := fput (fput s (r_MBX_BIND c) f_MBX_BIND_AMID a) (r_MBX_BIND c) f_MBX_BIND_BMID b
  let s := fput s (r_MBX_ACK c) f_MBX_ACK_BUSY 1
  { s with regs := (List.range 64).map (fun k => (r_MBX_PAY c k, if k = 0 then BitVec.ofNat 32 op else 0#32)) ++ s.regs }
theorem witness_role_requests :
    (∀ p ∈ [((3 : Nat), (true : Bool)), (2, false), (0, false)], let s := asking (kilnIn p.1 0 id) 63 0 0x4000 5
      chanBound s 63 = true ∧ chanB s 63 = 0x4000 ∧ chanBusy s 63 = true ∧ kilnOn s = true ∧ (reqOf s 63).op = 5 ∧ roleHeld s = p.2 ∧ kilnRole s = p.1
      ∧ s.kln.role.req = none ∧ s.kln.passed = none) := by decide +kernel

/-! ### The lantern, mailboxes and field tests -/

/-- The lantern runs, and channel 63 holds a request of operation `op` from the physical function. -/
def atLantern (op : Nat) : State := asking (fput State.reset r_TNT_LAN_STAT f_TNT_LAN_STAT_BOOT 1) 63 0 0x5000 op
/-- Saggar 5 is ACTIVE on cluster 15 of die 3 and belongs to function 255; its next key drains. -/
def sagAt (s : State) : State :=
  modSag (fput (fput s (r_TNT_SG_STATE 5) f_TNT_SG_STATE_STATE 1) (r_TNT_SG_BIND 5) f_TNT_SG_BIND_FN 255) 5 fun g => { g with clmap := [(3, 15)], drain := some { slot := 9, id := 2 } }
/-- Saggar 0 is FREE and prepared for function 255 with room for 256 clusters. -/
def prepared (s : State) : State :=
  fput (fput (fput s (r_TNT_SG_BIND 0) f_TNT_SG_BIND_PREP 1) (r_TNT_SG_BIND 0) f_TNT_SG_BIND_FN 255) (r_TNT_SG_SAVE_SZ 0) f_TNT_SG_SAVE_SZ_SZ 1280
theorem witness_lantern_saggars :
    (let s := rput (atLantern 1) (r_MBX_PAY 63 1) 256; LanternTurn s 63 1 ∧ payByte s 63 1 < 128 ∧ payByte s 63 2 = 0 ∧ payNat s 63 4 2 = 256
      ∧ payZero s 63 3 4 = true ∧ payZero s 63 8 256 = true)
    ∧ (let s := sagAt (rput (atLantern 2) (r_MBX_PAY 63 0) 0x0502); LanternTurn s 63 2 ∧ payByte s 63 1 = 5 ∧ payZero s 63 2 256 = true ∧ sgState s 5 = 1
      ∧ sliceOf s 5 = none ∧ sgDiesStill s 5 = true ∧ sgInUse s 5 = false)
    ∧ (let s := sagAt (rput (atLantern 3) (r_MBX_PAY 63 0) 0x0503); LanternTurn s 63 3 ∧ payByte s 63 1 = 5 ∧ payZero s 63 2 256 = true ∧ sgState s 5 = 1
      ∧ sgDiesStill s 5 = true ∧ sgInUse s 5 = false)
  := by
  unfold LanternTurn; decide +kernel
theorem witness_lantern_zeroise :
    (let s := sagAt (rput (atLantern 4) (r_MBX_PAY 63 0) 0x0504); LanternTurn s 63 4 ∧ payByte s 63 1 = 5 ∧ payZero s 63 2 256 = true ∧ sgState s 5 ≠ 0)
    ∧ (let s := rput (atLantern 4) (r_MBX_PAY 63 0) 0xFE04; LanternTurn s 63 4 ∧ payByte s 63 1 = 0xFE ∧ payZero s 63 2 256 = true) := by
  unfold LanternTurn; decide +kernel
theorem witness_lantern_wick :
    (let s := prepared (litWick (fput State.reset r_TNT_LAN_STAT f_TNT_LAN_STAT_BOOT 1) 16); let h := 255 * 2 ^ 10 + 1 * 2 ^ 18
      WickTurn s 16 7 3 ∧ lanternUp s = true ∧ lanternBusy s = false ∧ bits h 63 27 = 0 ∧ 0 < bits h 26 18 ∧ bits h 26 18 ≤ 256 ∧ sgOfSlice s (bits h 9 0) = none
      ∧ preparedFor s (bits h 17 10) = some 0 ∧ (carve (wickAt s 16 7 3 8) 0 (bits h 26 18) 0 (some (bits h 9 0))).2 = 0)
    ∧ (let s := litWick (fput sliced r_TNT_LAN_STAT f_TNT_LAN_STAT_BOOT 1) 16; WickTurn s 16 7 3 ∧ lanternUp s = true ∧ lanternBusy s = false ∧ bits 1023 63 10 = 0
      ∧ sgOfSlice s (bits 1023 9 0) = some 5 ∧ sgDiesStill s 5 = true ∧ sgState s 5 = 1 ∧ sgInUse s 5 = false)
    ∧ (let s := sagAt State.reset; (getSag s 5).drain = some { slot := 9, id := 2 } ∧ (s.mem.acc.map fun p => boundTo 9 p.2) = [] ∧ sgDiesStill s 5 = true
      ∧ s.lnt.rekeyWait = none ∧ s.lnt.release = [])
    ∧ ((127 : Nat) < 128 ∧ sgState State.reset 127 = 0) := by
  unfold WickTurn; decide +kernel
theorem witness_lantern_objects :
    (let s := rput (atLantern 5) (r_MBX_PAY 63 4) 65640; LanternTurn s 63 5 ∧ objectOf s 63 = some (0, 65640))
    ∧ (let s := rput (atLantern 6) (r_MBX_PAY 63 4) 0x8000000; LanternTurn s 63 6 ∧ objectOf s 63 = some (0, 2 ^ 27))
    ∧ (LanternTurn (atLantern 7) 63 7 ∧ payZero (atLantern 7) 63 1 256 = true)
    ∧ (let s := fput State.reset r_TNT_LAN_STAT f_TNT_LAN_STAT_BOOT 2; fget s r_TNT_LAN_STAT f_TNT_LAN_STAT_BOOT = 2) := by
  unfold LanternTurn; decide +kernel
theorem witness_attestation :
    (∀ st ∈ [1, 2, 3], let s := modLnt (atLantern 0) fun l => { l with spdm := [(255, st)], sess := [{ fn := 255, id := 1, open_ := false }, { fn := 0, id := 2, open_ := true }] }
      lanternUp s = true ∧ spdmStage s 255 = st ∧ (255 : Nat) < 256 ∧ (s.lnt.sess.filter fun x => x.fn == 255).length < 2
      ∧ sessOf s 255 1 = some { fn := 255, id := 1, open_ := false } ∧ inSession s 0 2 = true ∧ 16 ∈ indices 255)
    ∧ (let s := modPin State.reset fun p => { p with dyn := some 8 }; let b : List Byte := [15, 0, 0, 0xC0, 0]
      s.pin.dyn.isSome = true ∧ 5 ≤ b.length ∧ 1 ≤ leAt b 0 1 ∧ leAt b 0 1 ≤ 15 ∧ leAt b 3 1 / 64 = 3) := by decide +kernel

theorem witness_mailboxes :
    (chanLocked State.reset 63 = false ∧ chanBusy State.reset 63 = false ∧ chanPend State.reset 63 = 0#32
      ∧ mbxMid 255 = true ∧ mbxMid 0x4002 = true ∧ (255 : Nat) ≠ 0x4002 ∧ nineth State.reset 63 255 = false ∧ nineth State.reset 63 0x4002 = false)
    ∧ (let s := rput State.reset r_MBX_LOCK_HI 0x80000000; chanLocked s 63 = true)
    ∧ (let s := atLantern 1; isB s 63 0x5000 = true ∧ isA s 63 0 = true ∧ isB s 63 0 = false ∧ chanBusy s 63 = true ∧ (0 : Nat) ≠ kilnLocal
      ∧ isA s 63 255 = false ∧ isB s 63 255 = false ∧ chanA s 63 ≠ kilnLocal ∧ rget s (r_MBX_DB_MASK 63) &&& ~~~ 0#32 &&& chanPend s 63 = 0#32)
    ∧ (let s := fput (atLantern 1) (r_MBX_ACK 63) f_MBX_ACK_BUSY 0; isA s 63 0 = true ∧ chanBusy s 63 = false ∧ isB s 63 0x5000 = true)
    ∧ (let s := asking State.reset 63 0x4002 1 0; isA s 63 kilnLocal = true ∧ isB s 63 kilnLocal = false) := by decide +kernel

/-- A pattern set of two patterns that run nothing, and a machine that uses it; die 0 is fenced. -/
def pats : Memory := [(6, 2), (13, 1)]
def patternBytes : List Byte := ((patternAt pats 0).getD []).take 64
def testable : State :=
  let s := fput (fput State.reset r_TST_CTL f_TST_CTL_FTEN 1) r_TST_CFG f_TST_CFG_MAXDIE 1
  modTst (fput s (r_RST_DIE_STAT 0) f_RST_DIE_STAT_STATE 2) fun x => { x with slotA := some (1, pats) }
def underTest (t : W64) (n : Nat) : State :=
  modTb (modTst (modCore testable 102398 fun k => { k with mode := .test, threads := [(0, { threadReset with st := .halt })] }) fun x => { x with tests := [{ die := 15, cl := 15, pos := 16, core := 102398, pattern := n, began := 0, fails := 0, set := (1, pats) }] }) fun x => { x with tb := t }
theorem witness_field_tests :
    (let s := testable; (∃ cl pos, nextTest s 1 = some (cl, pos)) ∧ patSet s = some (1, pats) ∧ (patternAt pats 0).isSome = true ∧ fbit s r_TST_CTL f_TST_CTL_FTEN = true
      ∧ dieUp s 1 = true ∧ testsDie s 1 = false ∧ (∀ q < 1, testsDie s q = true ∨ dieUp s q = false ∨ nextTest s q = none)
      ∧ fget s r_PWR_STAT f_PWR_STAT_STATE = 0 ∧ s.tst.tests.length < fget s r_TST_CFG f_TST_CFG_MAXDIE) :=
  ⟨⟨0, 16, by decide +kernel⟩, by decide +kernel⟩
theorem witness_field_test_ends :
    (∀ n ∈ [0, 1], (let s := underTest 0 n; (s.tst.tests.find? (fun t => t.die == 15)).map (fun t => (t.core, t.pattern, t.fails)) = some (102398, n, 0)
      ∧ (patternAt pats n).isSome = true ∧ (patternAt pats (n + 1)).isSome = (n == 0)
      ∧ (let k := getCore s 102398; let p := (patternAt pats n).getD []
        allStopped k = true ∧ nothingOutstanding k = true ∧ stepEventsDue k = false ∧ nsSince s 0 ≤ fget s r_TST_CFG f_TST_CFG_TMO * 1000000
        ∧ (patternCrc k p).toNat = leAt p 24 8 ∧ k.step.toNat = leAt p 32 8 ∧ 0 = leAt p 40 4)))
    ∧ fget (underTest (2 ^ 50) 0) r_TST_CFG f_TST_CFG_TMO * 1000000 < nsSince (underTest (2 ^ 50) 0) 0
    ∧ (sgOfCluster (sagAt State.reset) 3 15).isSome = true
    ∧ (let v : W32 := fldSet (fldSet (fldSet (fldSet 0 f_TST_INJ_DIE 3) f_TST_INJ_CL 15) f_TST_INJ_SLOT 15) f_TST_INJ_KIND 2
      let c := coreId (fldGet v f_TST_INJ_DIE) (fldGet v f_TST_INJ_CL) (fldGet v f_TST_INJ_SLOT)
      (sgOfCluster (sagAt State.reset) (dieOf c) (clOf c)).isSome = true ∧ fldGet v f_TST_INJ_KIND = 2)
    ∧ (let s := asking State.reset 3 0 0x5000 1; chanBound s 3 = true ∧ chanBusy s 3 = true ∧ chanB s 3 = 0x5000 ∧ payByte s 3 0 = 1 ∧ payByte s 3 1 = 0
      ∧ payZero s 3 2 8 = true ∧ payNat s 3 8 8 % 64 = 0)
    ∧ payByte (asking State.reset 3 0 0x5000 2) 3 0 ≠ 1 := by decide +kernel

/-! ### Pilots, resets and the journal -/

/-- Endpoint `ep` of a module with a kiln is lit; its last rung was `k`; `t` nanoseconds have passed. -/
def watching (ep k : Nat) (t : W64) : State :=
  let i := watchIdx ep
  modWatch (fput (modWick (kilnIn 0 t id) ep fun w => { w with lit := true, period := 100 }) (r_RST_DIE_STAT i) f_RST_DIE_STAT_RUNG k) i fun w => { w with missed := 1 }
theorem witness_pilots :
    (let s := watching 20 0 100000; (getWick s 20).lit = true ∧ (getWick s 20).period * 1000 ≤ nsSince s (getWick s 20).lastPilot ∧ watched s 20 = true
      ∧ watchIdx 20 ≤ 20 ∧ watchPeriod s 20 * 1000 ≤ nsSince s (dieWatch s 19).seen)
    ∧ (∀ k ∈ [1, 2, 3, 4], rungDue (watching 15 (k - 1) (2 ^ 50)) 15 k = true)
    ∧ (dieWatch (watching 15 2 (2 ^ 50)) 15).cores = none
    ∧ (let s := modWatch (fput (modWick (kilnIn 0 (2 ^ 50) id) 16 fun w => { w with lit := true, period := 100 }) (r_RST_DIE_STAT 20) f_RST_DIE_STAT_RUNG 3) 20
        fun w => { w with missed := 1 }; rungDue s 16 4 = true)
    ∧ State.reset.rst.restarting = false ∧ (modRst State.reset fun r => { r with restarting := true }).rst.restarting = true := by decide +kernel
/-- Die `d`'s reset or fence is at phase `p`; its step 1 was at time 0 and `t` nanoseconds have passed. -/
def resetting (d p : Nat) (t : W64) (f : DieWatch → DieWatch) : State := modTb (modWatch State.reset d fun w => f { w with phase := p, step1 := some 0 }) fun x => { x with tb := t }
theorem witness_die_resets :
    (let s := resetting 15 0 (2 ^ 50) fun w => { w with waiting := some (3, true) }; (dieWatch s 15).waiting = some (3, true) ∧ (dieWatch s 15).phase = 0 ∧ dieState s 15 = 0
      ∧ (dieWatch s 15).step1 = some 0 ∧ fget s r_RST_LAD_B f_RST_LAD_B_HOLDOFF * 1000000 ≤ (s.tb.tb - 0).toNat)
    ∧ (let s := resetting 15 2 4999999 id; (dieWatch s 15).phase = 2 ∧ (s.tb.tb - (dieWatch s 15).since).toNat < 5000000)
    ∧ (let s := resetting 15 2 5000000 id; (dieWatch s 15).phase = 2 ∧ 5000000 ≤ (s.tb.tb - (dieWatch s 15).since).toNat)
    := by decide +kernel
theorem witness_die_holds :
    (let s := resetting 15 6 100000 id; (dieWatch s 15).phase = 6 ∧ (dieWatch s 15).fence = false ∧ 100000 ≤ (s.tb.tb - (dieWatch s 15).since).toNat)
    ∧ (dieWatch (resetting 15 8 0 id) 15).phase = 8
    ∧ (let s := resetting 15 6 0 fun w => { w with fence := true }; (dieWatch s 15).phase = 6 ∧ (dieWatch s 15).fence = true)
    ∧ (let s := fput (resetting 15 2 (2 ^ 50) id) (r_RST_DIE_STAT 15) f_RST_DIE_STAT_STATE 1; (dieWatch s 15).step1 = some 0
      ∧ fget s r_RST_LAD_B f_RST_LAD_B_CYC * 1000000 ≤ (s.tb.tb - 0).toNat ∧ (dieWatch s 15).fence = false ∧ dieState s 15 = 1)
    := by decide +kernel
theorem witness_die_fences :
    (let s := modRst State.reset fun r => { r with acts := [.fenceCore 4095 1] }; s.rst.acts = [.fenceCore 4095 1] ∧ posOf s 4095 ≠ 99 ∧ coreKeys s = [])
    ∧ (let s := modRst State.reset fun r => { r with acts := [.fenceWheel 3, .cycle] }; RstAct.fenceWheel 3 ∈ s.rst.acts ∧ RstAct.cycle ∈ s.rst.acts) := by
  decide +kernel
def ember0 : Ember := { die := 0, gen := 0, trig := 0, inc := false, began := 0, ended := 0, progress := [], faults := 0, records := [] }
theorem witness_embers_and_sharing :
    (emberSel (modRst State.reset fun r => { r with embers := [ember0] }) = some ember0 ∧ fbit State.reset r_RST_EMB_CTL f_RST_EMB_CTL_BUSY = false)
    ∧ (let s := fput State.reset r_RST_EMB_CTL f_RST_EMB_CTL_BUSY 1; fbit s r_RST_EMB_CTL f_RST_EMB_CTL_BUSY = true)
    ∧ (let s := modRst State.reset fun r => { r with retired := [(0, 1)] }; tblFind s.rst.retired (retSel s) = some 1)
    ∧ (let s := modTb (modCore (modCore State.reset 4095 fun k => { k with mode := .live, quantum := 2 ^ 20, stallAt := some 0 }) (4095 + 4096) fun k => { k with mode := .parked }) fun x => { x with tb := 2 ^ 40 };
      nextShared s 4095 = some 8191 ∧ dieUp s (dieOf 4095) = true ∧ (getCore s 4095).mode = .live ∧ quantumOf s (getCore s 4095).strm ≤ (getCore s 4095).quantum
      ∧ stepEventsDue (getCore s 4095) = false ∧ (getCore s 4095).stallAt = some 0 ∧ fget s r_RST_RUN f_RST_RUN_YIELD * 1000 ≤ (s.tb.tb - 0).toNat) := by decide +kernel

def cpl0 : Cpl := { seq := 0, ty := 0, status := 0, crc := 0, steps := 0, detail := 0, sqhead := 0, flags := 0 }
/-- A module of a pair whose twin is package 1; its pair state is `ps`, `t` nanoseconds have passed. -/
def twin (ps : Nat) (t : W64) (f : Journal → Journal) : State :=
  modTb (modJnl (fput (fput (fput State.reset r_JNL_PAIR f_JNL_PAIR_PEERV 1) r_JNL_PAIR f_JNL_PAIR_PEER 1) r_JNL_STAT f_JNL_STAT_PSTATE ps) f) fun x => { x with tb := t }
theorem witness_journal_alone :
    (mramOn State.reset = true ∧ (30719 : Nat) < 30720 ∧ 30719 ∉ State.reset.stm.jnl.failed)
    ∧ (let s := modJnl State.reset fun j => { j with recovered := false, streams := [] }; s.stm.jnl.recovered = false ∧ s.stm.jnl.streams = [])
    ∧ (let s := twin 0 100000 id; jnlPeerV s = true ∧ 100000 ≤ (s.tb.tb - s.stm.jnl.beatOut).toNat ∧ pstate s = 0)
    ∧ (let c : JCell := { kind := 0, words := [], sent := 0 }; let s := twin 0 1000000 fun j => { j with unacked := [c] }; s.stm.jnl.unacked[0]? = some c ∧ 1000000 ≤ (s.tb.tb - c.sent).toNat)
    ∧ (let s := twin 2 (2 ^ 60) id; soloed s = false ∧ jnlPeerV s = true ∧ fget s r_JNL_PAIR f_JNL_PAIR_TMO * 1000000 ≤ (s.tb.tb - s.stm.jnl.lastHeard).toNat)
    ∧ (let s := twin 3 0 fun j => { j with streams := [] }; soloed s = true ∧ twinStrms s = []) := by decide +kernel
theorem witness_journal_pair :
    (let s := fput (twin 2 0 id) (r_STM_CFG 65535) f_STM_CFG_MODE 1; soloed s = false ∧ 1 = jnlPeer s ∧ jnlPeerV s = true ∧ mramOn s = true ∧ pstate s ≠ 4 ∧ s.stm.jnl.answered = []
      ∧ stState s 65535 ≠ stRun ∧ stMode s 65535 = 1)
    ∧ (let s := fput (fput (twin 2 0 id) (r_STM_CFG 65535) f_STM_CFG_MODE 1) (r_STM_STAT 65535) f_STM_STAT_STATE 1; stState s 65535 = stRun ∧ stMode s 65535 = 1
      ∧ isHolder s 65535 = true ∧ getRec s 65535 5 = none ∧ getDone s 65535 5 = none)
    ∧ (let s := twin 2 0 fun j => { j with dones := [(doneSlot 7 5, { cpl0 with seq := 5 })], recs := [(recSlot 7 6, { rec0 1 with seq := 6 })] };
      soloed s = false ∧ mramOn s = true ∧ pstate s ≠ 4 ∧ twinned s 7 = false ∧ (getDone s 7 5).isSome = true ∧ getDone s 7 6 = none ∧ (getRec s 7 6).isSome = true)
    ∧ (let s := modStrm (twin 2 0 id) 7 fun x => { x with prepared := [({ rec0 1 with seq := 9 }, [], 0)] };
      soloed s = false ∧ mramOn s = true ∧ ((getStrm s 7).prepared.any fun q => q.1.seq == 9) = true)
    ∧ (let s := twin 4 0 fun j => { j with synced := 3 }; soloed s = false ∧ mramOn s = true ∧ pstate s = 4 ∧ 3 ≤ s.stm.jnl.synced) := by decide +kernel

/-! ### Power, faults, management, registers -/

theorem witness_rails :
    (State.reset.pin.mrst = none ∧ fbit State.reset r_PWR_STAT f_PWR_STAT_PFAIL = false)
    ∧ fbit (fput State.reset r_PWR_STAT f_PWR_STAT_PFAIL 1) r_PWR_STAT f_PWR_STAT_PFAIL = true
    ∧ (let s := modTb (modPwr State.reset fun p => { p with relAt := some 0 }) fun x => { x with tb := 10000000 }; s.pwr.relAt = some 0 ∧ 10000000 ≤ (s.tb.tb - 0).toNat)
    ∧ (dieServed State.reset 15 = true ∧ lowered State.reset 15 = false)
    ∧ (let s := fput (modTb State.reset fun x => { x with tb := 1000000 }) r_PWR_CAP f_PWR_CAP_CAPW 100;
      100000 ≤ (s.tb.tb - s.pwr.loopAt).toNat ∧ fget s r_PWR_CAP f_PWR_CAP_CAPW = 100 ∧ 15 ∈ servedDies s ∧ veff (setVeff s 15 11) 15 ≠ 10
      ∧ (let t := each (List.range 16) (fun s d => setVeff s d 10) s; ∀ d ∈ servedDies t, veff t d = 10)
      ∧ 96 * 100 < 100 * 97 ∧ 1000000 ≤ (s.tb.tb - s.pwr.raisedAt).toNat)
    ∧ 100 ≤ fget (fput State.reset (r_PWR_RAIL 15) f_PWR_RAIL_TJ 100) (r_PWR_RAIL 15) f_PWR_RAIL_TJ := by decide +kernel
theorem witness_power_states :
    (let s := modTb (modPwr (fput (fput State.reset r_PWR_PEER_TOL f_PWR_PEER_TOL_TOL 3000) r_PWR_CFG f_PWR_CFG_MAXST 3) fun p => { p with idleAt := some 0 }) fun x => { x with tb := 2 ^ 40 }
      let t := showTol s
      pwrState t = 0 ∧ t.pwr.idleAt = some 0 ∧ idleNow t = true ∧ fget t r_PWR_CFG f_PWR_CFG_IDLE * 1000 ≤ (t.tb.tb - 0).toNat ∧ powerTarget t = 3)
    ∧ (let s := fput (fput State.reset r_PWR_STAT f_PWR_STAT_STATE 2) r_PWR_CTL f_PWR_CTL_HOLD 1; pwrState (showTol s) ≠ 0 ∧ idleNow (showTol s) = false ∧ pwrState s ≠ 0
      ∧ wakes s .cell = true) := by decide +kernel

def event0 : Event := { src := 736, mid := 0, acct := 0, addr := 0, tb := 0, synd := 0, sg := none, slice := none, sub := 0, inj := false, born := none }
theorem witness_collector :
    ((0x8000#16).getLsbD 15 = true ∧ State.reset.flt.arm = none ∧ bits (0x8000#16).toNat 8 5 = tblGet (fun _ => 0) State.reset.flt.frameSeq 19
      ∧ crc4 (0x8000#16 ||| BitVec.ofNat 16 (crc4 0x8000#16)) = bits (0x8000#16 ||| BitVec.ofNat 16 (crc4 0x8000#16)).toNat 3 0
      ∧ crc4 (0x8000#16 ||| BitVec.ofNat 16 (15 - crc4 0x8000#16)) ≠ bits (0x8000#16 ||| BitVec.ofNat 16 (15 - crc4 0x8000#16)).toNat 3 0)
    ∧ ({ State.reset with evq := [event0] } : State).evq = event0 :: []
    ∧ (let s := modTb (modFlt State.reset fun f => { f with detail := some (event0, 0) }) fun x => { x with tb := 1000000 }; s.flt.detail = some (event0, 0) ∧ 1000000 ≤ nsSince s 0)
    ∧ (let v : W32 := fldSet (fldSet 0 f_FLT_INJ_SRC (srcDie 15 3)) f_FLT_INJ_MODE 1; let s := fput State.reset r_FLT_CFG f_FLT_CFG_INJEN 1
      fldGet v f_FLT_INJ_MODE ≠ 0 ∧ fbit s r_FLT_CFG f_FLT_CFG_INJEN = true ∧ fldGet v f_FLT_INJ_MODE ∈ injModes (fldGet v f_FLT_INJ_SRC) ∧ injHeld (fldGet v f_FLT_INJ_SRC) = true
      ∧ (3 : Nat) ∉ injModes (srcDie 15 3)) := by decide +kernel
def channels (a b halted : Nat) : State :=
  fput (fput (fput State.reset r_FLT_HALT_STAT f_FLT_HALT_STAT_A a) r_FLT_HALT_STAT f_FLT_HALT_STAT_B b) r_FLT_STAT f_FLT_STAT_HALTED halted
theorem witness_halt :
    (let s := channels 0 0 0; haltA s = false ∧ haltB s = false)
    ∧ (let s := modTb (modFlt (channels 0 1 0) fun f => { f with discSince := some 0 }) fun x => { x with tb := 2 ^ 40 };
      s.flt.discSince = some 0 ∧ s.flt.discRaised = false ∧ fget s r_FLT_HALT_CFG f_FLT_HALT_CFG_TDISC * 1000000 ≤ nsSince s 0)
    ∧ (let s := channels 1 1 0; haltA s = true ∧ haltB s = true ∧ fbit s r_FLT_STAT f_FLT_STAT_HALTED = false)
    ∧ (let s := channels 0 0 1; haltA s = false ∧ haltB s = false ∧ fbit s r_FLT_STAT f_FLT_STAT_HALTED = true)
    ∧ (let s := modTb (modFlt State.reset fun f => { f with released := some 0 }) fun x => { x with tb := 10000000 }; s.flt.released = some 0 ∧ 10000000 ≤ nsSince s 0) := by
  decide +kernel

/-- The management port is on; the kiln, whose tray controller is its witness, has asked for a term; `t` nanoseconds have passed. -/
def managed (t : W64) (f : FltSt → FltSt) : State :=
  modFlt (modPin (fput (fput (fput (kilnIn 0 t fun k => { k with ask := some (.solo, 0, 0) }) r_FLT_MGP_CTL f_FLT_MGP_CTL_EN 1) r_KLN_PAIR f_KLN_PAIR_WITK 2)
    r_FLT_MGP_CTL f_FLT_MGP_CTL_TPER 1) fun p => { p with sgmii := true }) f
/-- An IPv4 frame to address 0 that carries a KMP message of type 4 and no body. -/
def kmpAckFrame : List Byte := List.replicate 12 0 ++ [8, 0, 69, 0, 0, 44, 0, 0, 0, 0, 64, 17, 122, 194, 0, 0, 0, 0, 0, 0, 0, 0, 0, 0, 30, 64, 0, 24, 149, 45, 75, 77, 1, 4] ++ List.replicate 14 0
theorem witness_management :
    (let s := managed 0 id; mgpOn s = true ∧ dropReason s kmpAckFrame false = some 0
      ∧ dropReason s kmpAckFrame true = none ∧ etOf s kmpAckFrame ≠ 0x0806 ∧ isSolicit s kmpAckFrame = false ∧ beAt kmpAckFrame (l4Of s kmpAckFrame + 8 + 3) 1 = 4)
    ∧ (let m : KmpIn := { ty := 4, body := [0, 0, 0, 7], fromDst := true }
      let s := managed (2 ^ 40) fun f => { f with inbox := [m], unacked := [{ seq := 7, ty := 1, body := [], sent := 0 }] };
      s.flt.inbox = m :: [] ∧ m.body.length = 4 ∧ (s.flt.unacked.any fun u => u.seq == beAt m.body 0 4) = true
      ∧ s.flt.unacked.find? (fun u => u.seq == 7) = some { seq := 7, ty := 1, body := [], sent := 0 } ∧ 100000000 ≤ nsSince s 0
      ∧ fget s r_FLT_MGP_CTL f_FLT_MGP_CTL_TPER = 1 ∧ 1 * 1000000000 ≤ nsSince s s.flt.telem
      ∧ kilnOn s = true ∧ trayWitness s = true ∧ s.kln.ask.isSome = true ∧ s.flt.termreq = none)
    ∧ (let m : KmpIn := { ty := 0x21, body := [0, 0, 0, 1], fromDst := true }
      let s := managed 0 fun f => { f with inbox := [m, { m with ty := 0x22 }], termreq := some 0 };
      s.flt.inbox = m :: [{ m with ty := 0x22 }] ∧ trayWitness s = true ∧ s.flt.termreq.isSome = true ∧ kilnOn s = true ∧ 4 ≤ m.body.length)
    ∧ (let g : PatStage := { version := 1, size := 0, stack := 0, data := [], placed := [], last := 0 }
      let s := modTb (modTst State.reset fun t => { t with stage := some g }) fun x => { x with tb := 600000000000 };
      s.tst.stage = some g ∧ 600000000000 ≤ nsSince s g.last) := by decide +kernel
theorem witness_pattern_chunk :
    let m : KmpIn := { ty := 0x10, body := List.replicate 12 0 ++ [4, 0, 0, 0] ++ List.replicate 1024 0, fromDst := false }
    (managed 0 fun f => { f with inbox := [m] }).flt.inbox = m :: [] ∧ 1024 = beAt m.body 12 2 ∧ m.body.length = 16 + 1024 ∧ beAt m.body 14 2 = 0 ∧ beAt m.body 8 4 % 1024 = 0 := by
  decide +kernel

theorem witness_registers :
    (regRow 0xFFFFC).isNone = true ∧ (255 : Nat) < 256 ∧ (1#32).getLsbD 0 = true
    ∧ (∀ ep ∈ [16, 20], WickTurn (litWick State.reset ep) ep 7 3 ∧ (wickReg ep 0).isSome = true
      ∧ (match regWrite (midWick ep) ((wickReg ep 0).getD 0) 0 (wickAt (litWick State.reset ep) ep 7 3 2) with | .next _ => true | _ => false) = true)
    ∧ State.reset.pin.dyn = none ∧ (modPin State.reset fun p => { p with dyn := some 8 }).pin.dyn.isSome = true
    ∧ i3cAllowed r_PWR_CAP = true ∧ i3cAllowed r_PWR_STAT = false
    ∧ (match regWrite 0 r_PWR_CAP 0 State.reset with | .next _ => true | _ => false) = true := by
  unfold WickTurn; decide +kernel

end Sys2Proof.Tests
end

/-! PROOF. The laws of adding into a long register (spec/03_numbers_and_exact_sums.md R65). -/

namespace Sys2Proof.Machine

/-! ### What an addition leaves in each field -/

@[simp] theorem lrAdd_v (a b : LongReg) : (lrAdd a b).v = a.v + b.v := rfl
@[simp] theorem lrAdd_pinf (a b : LongReg) : (lrAdd a b).pinf = (a.pinf || b.pinf) := rfl
@[simp] theorem lrAdd_ninf (a b : LongReg) : (lrAdd a b).ninf = (a.ninf || b.ninf) := rfl
@[simp] theorem lrAdd_nan (a b : LongReg) : (lrAdd a b).nan = (a.nan || b.nan) := rfl

theorem longReg_ext {a b : LongReg} (hv : a.v = b.v) (hpinf : a.pinf = b.pinf) (hninf : a.ninf = b.ninf) (hnan : a.nan = b.nan) : a = b := by
  cases a
  cases b
  congr

theorem lrAdd_v_toNat (a b : LongReg) : (lrAdd a b).v.toNat = (a.v.toNat + b.v.toNat) % 2 ^ 640 := by
  -- At a variable width the library's power of 2 and the statement's are matched before 2 ^ 640 is a number to evaluate.
  have toNat_add (w : Nat) (x y : BitVec w) : (x + y).toNat = (x.toNat + y.toNat) % 2 ^ w := BitVec.toNat_add x y
  exact toNat_add 640 a.v b.v

/-! ### The addition is a commutative semigroup's -/

theorem lrAdd_comm (a b : LongReg) : lrAdd a b = lrAdd b a :=
  longReg_ext (BitVec.add_comm a.v b.v) (Bool.or_comm a.pinf b.pinf) (Bool.or_comm a.ninf b.ninf) (Bool.or_comm a.nan b.nan)

theorem lrAdd_assoc (a b c : LongReg) : lrAdd (lrAdd a b) c = lrAdd a (lrAdd b c) :=
  longReg_ext (BitVec.add_assoc a.v b.v c.v) (Bool.or_assoc a.pinf b.pinf c.pinf) (Bool.or_assoc a.ninf b.ninf c.ninf)
    (Bool.or_assoc a.nan b.nan c.nan)

/-- Two operands added one after the other may be exchanged: what carries the two laws to a whole list of additions. -/
theorem lrAdd_right_comm (a b c : LongReg) : lrAdd (lrAdd a b) c = lrAdd (lrAdd a c) b := by
  rw [lrAdd_assoc, lrAdd_comm b c, ← lrAdd_assoc]

theorem foldl_lrAdd_perm {l m : List LongReg} (h : l.Perm m) (a : LongReg) : l.foldl lrAdd a = m.foldl lrAdd a :=
  h.foldl_eq' (fun x _ y _ z => lrAdd_right_comm z x y) a

/-- Settles O8: the finite parts and the flags add field by field, so the addition is commutative and associative, and a permuted list of
operands gives the same long register. -/
theorem longRegisterSumsDoNotDependOnOrder : Obligations.LongRegisterSumsDoNotDependOnOrder := by
  unfold Obligations.LongRegisterSumsDoNotDependOnOrder
  exact ⟨fun a b => ⟨lrAdd_v_toNat a b, lrAdd_pinf a b, lrAdd_ninf a b, lrAdd_nan a b, lrAdd_comm a b⟩, lrAdd_assoc, fun _ _ a h => foldl_lrAdd_perm h a⟩

end Sys2Proof.Machine

/-! PROOF. Scalar arithmetic (spec/05_operation_set.md R141, R142): every operation with two sources issues with its result, what the
division corners give, and the results of ADD, SUB and MUL as wrapped sums, differences and products. -/

namespace Sys2Proof.Machine

/-! ### An operation sD = f sA b issues with its result -/

theorem opCmd_scalarBody {s : State} {c op lat : Nat} {w : OpWord} {f : W64 → W64 → W64} (h : OpAt op c w s) (hb : badB w = false)
    (hfree : RegsFree s c ([.s w.dst.toNat, .s w.sa.toNat] ++ (if w.md.getLsbD 0 then [] else [.s w.sb.toNat]))) :
    opCmd (scalarBody lat f) op none c w s
      = .next (issuedResult s c lat (.s w.dst.toNat (f (readS (thrNext s c) w.sa) (operandB (thrNext s c) w)))) := by
  obtain ⟨hdst, hsrc⟩ := List.forall_mem_cons.mp hfree
  have hwrites : RegsFree s c ((scalarBody lat f).writes w) := List.forall_mem_singleton.mpr hdst
  exact opCmd_issue (scalarBody lat f) op none c w s _ [] h rfl hsrc hwrites hb rfl rfl nofun rfl rfl

/-- Every row of Table 4 with two sources is an operation sD = f sA b of the row's code and latency. -/
theorem exec_scalarRow {r : ScalarRow} (hr : r ∈ scalarRows) (c : Nat) (w : OpWord) (s : State) :
    ∃ f, exec (r.cmd c w) s = opCmd (scalarBody r.lat f) r.op none c w s := by
  simp only [scalarRows, List.mem_cons, List.not_mem_nil, or_false] at hr
  obtain rfl | rfl | rfl | rfl | rfl | rfl | rfl | rfl | rfl | rfl | rfl | rfl | rfl | rfl | rfl | rfl | rfl | rfl | rfl | rfl := hr <;>
    exact ⟨_, rfl⟩

/-! ### ADD, SUB and MUL wrap -/

theorem add_eq_ofNat_mod (a b : W64) : a + b = BitVec.ofNat 64 ((a.toNat + b.toNat) % 2 ^ 64) := by
  rw [← BitVec.toNat_add, BitVec.ofNat_toNat, BitVec.setWidth_eq]

theorem sub_eq_ofInt_mod (a b : W64) : a - b = BitVec.ofInt 64 ((a.toInt - b.toInt) % 2 ^ 64) := by
  apply BitVec.eq_of_toInt_eq
  rw [BitVec.toInt_sub, BitVec.toInt_ofInt]
  exact (Int.emod_bmod _ (2 ^ 64)).symm

theorem mul_eq_ofNat_mod (a b : W64) : a * b = BitVec.ofNat 64 (a.toNat * b.toNat % 2 ^ 64) := by
  rw [← BitVec.toNat_mul, BitVec.ofNat_toNat, BitVec.setWidth_eq]

/-! ### The fixed results of division (R142) -/

theorem divS_by_zero (a : W64) {b : W64} (hb : b = 0) : divS a b = BitVec.ofInt 64 (-1) := if_pos hb
theorem divU_by_zero (a : W64) {b : W64} (hb : b = 0) : divU a b = 0xFFFFFFFFFFFFFFFF#64 := if_pos hb
theorem remS_by_zero (a : W64) {b : W64} (hb : b = 0) : remS a b = a := if_pos hb
theorem remU_by_zero (a : W64) {b : W64} (hb : b = 0) : remU a b = a := if_pos hb

theorem divS_overflow {a b : W64} (ha : a.toInt = -2 ^ 63) (hb : b.toInt = -1) : divS a b = BitVec.ofInt 64 (-2 ^ 63) := by
  obtain rfl : a = BitVec.intMin 64 := BitVec.eq_of_toInt_eq ha
  obtain rfl : b = -1 := BitVec.eq_of_toInt_eq hb
  decide

theorem remS_overflow {a b : W64} (ha : a.toInt = -2 ^ 63) (hb : b.toInt = -1) : remS a b = 0 := by
  obtain rfl : a = BitVec.intMin 64 := BitVec.eq_of_toInt_eq ha
  obtain rfl : b = -1 := BitVec.eq_of_toInt_eq hb
  decide

/-- Settles O11: each of the operations issues as sD = f sA b; ADD, SUB and MUL wrap, and the division corners are those of `divS`, `divU`,
`remS` and `remU`. -/
theorem scalarArithmeticWrapsAndDividesByZero : Obligations.ScalarArithmeticWrapsAndDividesByZero := by
  unfold Obligations.ScalarArithmeticWrapsAndDividesByZero
  intro s c w hbad hfree a b gives
  have issues {op lat : Nat} {f : W64 → W64 → W64} {v : W64} (h : OpAt op c w s) (hv : f a b = v) :
      opCmd (scalarBody lat f) op none c w s = gives lat v := hv ▸ opCmd_scalarBody h hbad hfree
  refine ⟨fun r hr h => ?rows, fun h => ?add, fun h => ?sub, fun h => ?mul, fun h => ⟨fun hb => ?divZero, fun ha hb => ?divOverflow⟩,
    fun h hb => ?divuZero, fun h => ⟨fun hb => ?remZero, fun ha hb => ?remOverflow⟩, fun h hb => ?remuZero⟩
  case rows =>
    obtain ⟨f, hf⟩ := exec_scalarRow hr c w s
    exact ⟨f a b, hf.trans (issues h rfl)⟩
  case add => exact (exec_add s c w).trans (issues h (add_eq_ofNat_mod a b))
  case sub => exact (exec_sub s c w).trans (issues h (sub_eq_ofInt_mod a b))
  case mul => exact (exec_mul s c w).trans (issues h (mul_eq_ofNat_mod a b))
  case divZero => exact (exec_div s c w).trans (issues h (divS_by_zero a hb))
  case divOverflow => exact (exec_div s c w).trans (issues h (divS_overflow ha hb))
  case divuZero => exact (exec_divu s c w).trans (issues h (divU_by_zero a hb))
  case remZero => exact (exec_rem s c w).trans (issues h (remS_by_zero a hb))
  case remOverflow => exact (exec_rem s c w).trans (issues h (remS_overflow ha hb))
  case remuZero => exact (exec_remu s c w).trans (issues h (remU_by_zero a hb))

end Sys2Proof.Machine

/-! PROOF. Writes of DET_CTL.LOCK (spec/08_determinism_and_replay.md R253). -/

namespace Sys2Proof.Machine

/-- A bit written into a field, of any width, is read back. -/
theorem fbit_fput_b2n (s : State) (off : Nat) (f : Fld) (b : Bool) (hl : f.lo ≤ f.hi) (hh : f.hi ≤ 31) : fbit (fput s off f (b2n b)) off f = b := by
  have hwidth : f.hi + 1 - f.lo ≠ 0 := by omega
  have hfits : b2n b < 2 ^ (f.hi + 1 - f.lo) := by
    cases b
    · exact Nat.two_pow_pos _
    · exact Nat.one_lt_two_pow hwidth
  rw [fbit, fget_fput_eq s off f _ hl hh, Nat.mod_eq_of_lt hfits]
  cases b <;> rfl

theorem lockSet_fput_lock (s : State) (b : Bool) : lockSet (fput s r_DET_CTL f_DET_CTL_LOCK (b2n b)) = b :=
  fbit_fput_b2n s r_DET_CTL f_DET_CTL_LOCK b (by decide) (by decide)

theorem lockSet_reset : lockSet State.reset = true := by decide

/-- The condition of R253, as the model evaluates it: every saggar is FREE. -/
theorem all_saggars_free_iff (s : State) : ((List.range 128).all fun n => sgState s n == 0) = true ↔ ∀ n, n < 128 → sgState s n = 0 := by
  simp only [List.all_eq_true, List.mem_range, beq_iff_eq]

/-! ### The three outcomes of DET_CTL_LOCK_WRITE -/

theorem execDetCtlLockWrite_unchanged {s : State} {v : W32} (h : v.getLsbD 0 = lockSet s) : execDetCtlLockWrite v s = .next s := if_pos h

theorem execDetCtlLockWrite_taken {s : State} {v : W32} (h : v.getLsbD 0 ≠ lockSet s) (hfree : ∀ n, n < 128 → sgState s n = 0) :
    execDetCtlLockWrite v s = .next (fput s r_DET_CTL f_DET_CTL_LOCK (b2n (v.getLsbD 0))) :=
  (if_neg h).trans (if_pos ((all_saggars_free_iff s).2 hfree))

theorem execDetCtlLockWrite_discarded {s : State} {v : W32} (h : v.getLsbD 0 ≠ lockSet s) {n : Nat} (hn : n < 128) (hbusy : sgState s n ≠ 0) :
    execDetCtlLockWrite v s = .next (fput s r_DET_STAT f_DET_STAT_LOCKERR 1) :=
  (if_neg h).trans (if_neg fun hall => hbusy ((all_saggars_free_iff s).1 hall n hn))

/-- Settles O9: a write's outcome is one of the three of `execDetCtlLockWrite`, and LOCK reads as the bit that is taken. -/
theorem lockChangesOnlyWhileSaggarsAreFree : Obligations.LockChangesOnlyWhileSaggarsAreFree := by
  unfold Obligations.LockChangesOnlyWhileSaggarsAreFree
  refine ⟨lockSet_reset, fun s v => ?_⟩
  rw [exec_detCtlLockWrite]
  refine ⟨fun hsame => ?unchanged, fun hchange hfree => ?taken, fun hchange ⟨n, hn, hbusy⟩ => ?discarded⟩
  case unchanged => exact execDetCtlLockWrite_unchanged hsame
  case taken => exact ⟨execDetCtlLockWrite_taken hchange hfree, lockSet_fput_lock s _⟩
  case discarded => exact execDetCtlLockWrite_discarded hchange hn hbusy

end Sys2Proof.Machine

/-! PROOF. The host's snuff request (spec/15_hangs_resets_degraded.md R465): writing RST_SNUFF leaves the saggars' slices as they are, so
whether a saggar is bound to the slice can be judged on the state before the write. -/

namespace Sys2Proof.Machine

/-! ### A slice's saggar depends on TNT_SG_BIND alone -/

theorem r_TNT_SG_BIND_ne_RST_SNUFF (n : Nat) : r_TNT_SG_BIND n ≠ r_RST_SNUFF := by
  unfold r_TNT_SG_BIND r_RST_SNUFF
  omega

theorem sliceOf_fput {off : Nat} (hoff : ∀ n, r_TNT_SG_BIND n ≠ off) (s : State) (f : Fld) (x sg : Nat) :
    sliceOf (fput s off f x) sg = sliceOf s sg := by
  unfold sliceOf fbit
  rw [fget_fput_ne _ _ _ _ _ _ (hoff sg), fget_fput_ne _ _ _ _ _ _ (hoff sg)]

theorem sgOfSlice_fput {off : Nat} (hoff : ∀ n, r_TNT_SG_BIND n ≠ off) (s : State) (f : Fld) (x slice : Nat) :
    sgOfSlice (fput s off f x) slice = sgOfSlice s slice := by
  unfold sgOfSlice
  simp only [sliceOf_fput hoff]

/-! ### The two outcomes of RST_SNUFF_GO -/

/-- SLICE has 10 bits, so a slice below 1024 is the one that is looked up and snuffed. -/
theorem execRstSnuffGo_eq {slice : Nat} (hslice : slice < 1024) (s : State) :
    execRstSnuffGo slice s =
      if (sgOfSlice s slice).isSome then .next (addAct (fput s r_RST_SNUFF f_RST_SNUFF_SLICE slice) (.snuff slice 0x0B))
      else .next (fput (fput s r_RST_SNUFF f_RST_SNUFF_SLICE slice) r_RST_SNUFF_STAT f_RST_SNUFF_STAT_ERR 1) := by
  unfold execRstSnuffGo
  simp only [sgOfSlice_fput r_TNT_SG_BIND_ne_RST_SNUFF, Nat.mod_eq_of_lt hslice]

theorem execRstSnuffGo_bound {slice g : Nat} {s : State} (hslice : slice < 1024) (hbound : sgOfSlice s slice = some g) :
    execRstSnuffGo slice s = .next (addAct (fput s r_RST_SNUFF f_RST_SNUFF_SLICE slice) (.snuff slice 0x0B)) :=
  (execRstSnuffGo_eq hslice s).trans (if_pos (Option.isSome_of_eq_some hbound))

theorem execRstSnuffGo_unbound {slice : Nat} {s : State} (hslice : slice < 1024) (hunbound : sgOfSlice s slice = none) :
    execRstSnuffGo slice s = .next (fput (fput s r_RST_SNUFF f_RST_SNUFF_SLICE slice) r_RST_SNUFF_STAT f_RST_SNUFF_STAT_ERR 1) :=
  (execRstSnuffGo_eq hslice s).trans (if_neg (Option.not_isSome_iff_eq_none.mpr hunbound))

/-- Settles O10: the slice written to RST_SNUFF is bound to the same saggar before and after the write, which decides between the two outcomes. -/
theorem hostSnuffsNeedABoundSlice : Obligations.HostSnuffsNeedABoundSlice := by
  unfold Obligations.HostSnuffsNeedABoundSlice
  intro s slice hslice
  rw [exec_rstSnuffGo]
  refine ⟨fun ⟨g, hbound⟩ => ?bound, fun hunbound => ?unbound⟩
  case bound => exact execRstSnuffGo_bound hslice hbound
  case unbound => exact execRstSnuffGo_unbound hslice hunbound

end Sys2Proof.Machine

/-! PROOF. The block as a whole (spec/00_scope.md R13; spec/02_steps_and_timebase.md R51): one step, the state after reset, the identity registers. -/

namespace Sys2Proof.Machine

/-! ### A step, and the state after reset -/

theorem step_nil {s : State} (h : s.pending = []) : step s = .next (tick s) := by unfold step; rw [h]

theorem step_cons {s : State} {i : Instr} {rest : List Instr} (h : s.pending = i :: rest) : step s = exec i { s with pending := rest } := by
  unfold step; rw [h]

/-- Settles O1: `step` on a queue with a front command. -/
theorem aStepPerformsTheFrontCommand : Obligations.AStepPerformsTheFrontCommand := by
  unfold Obligations.AStepPerformsTheFrontCommand
  exact fun _ _ _ h => step_cons h


theorem sgState_reset : ∀ n < 128, sgState State.reset n = 0 := by decide
theorem stState_reset_first : stState State.reset 0 = 0 := by decide
theorem stState_reset_last : stState State.reset 65535 = 0 := by decide
theorem tblFind_eq_none {α : Type} {t : Tbl α} {k : Nat} (h : ∀ p ∈ t, p.1 ≠ k) : tblFind t k = none := by
  induction t with
  | nil => rfl
  | cons p t ih =>
    obtain ⟨hp, ht⟩ := List.forall_mem_cons.mp h
    exact (if_neg hp).trans (ih ht)

theorem slotKey_reset_tenant (n : Nat) (hn : n < 256) : slotKey State.reset n = none := by
  refine tblFind_eq_none fun p hp => ?_
  obtain ⟨k, -, rfl⟩ := List.mem_map.mp hp
  simp only
  omega
theorem slotKey_reset_service : ∀ n < 16, slotKey State.reset (256 + n) = some n := by decide
/-- Settles O3: the reset state lists no register and no core, and its sixteen keys stand in the service slots. -/
theorem moduleResetLeaves : Obligations.ModuleResetLeaves := by
  unfold Obligations.ModuleResetLeaves
  exact ⟨rfl, rfl, rfl, lockSet_reset, sgState_reset, stState_reset_first, stState_reset_last, slotKey_reset_tenant, slotKey_reset_service,
    reset_mem_wf.1, rfl⟩

/-! ### The identity registers (R13) -/

theorem tblFind_of_fused {s : State} {off : Nat} (hs : Fused s) (hoff : off < 0x10000) : tblFind s.regs off = none := by
  refine tblFind_eq_none fun p hp heq => ?_
  have hlow : p ∈ fuses s := List.mem_filter.mpr ⟨hp, by simpa [heq] using hoff⟩
  rw [hs] at hlow
  exact List.not_mem_nil hlow

theorem rget_of_fused {s : State} {off : Nat} (hs : Fused s) (hoff : off < 0x10000) : rget s off = rget State.reset off := by
  unfold rget tblGet
  rw [tblFind_of_fused hs hoff]
  rfl

theorem regWrite_identity (mid : Nat) {off : Nat} (hoff : off < 0x10000) (v : W32) (s : State) : regWrite mid off v s = .next s := by
  have hblock : off / 0x10000 = 0 := Nat.div_eq_of_lt hoff
  have hbar : ¬ 0x100000 ≤ off := by omega
  unfold regWrite
  simp only [hbar, if_false, hblock, ite_self]

theorem exec_registerWrite_bar0 (off : Nat) (v : W32) (s : State) : exec (.registerWrite (.bar0 off) v) s = regWrite 0 off v s :=
  exec_registerWrite s (.bar0 off) v

/-- Settles O7: an identity register that is not listed reads as after reset, and `regWrite` gives its block no meaning. -/
theorem identityRegistersShowTheirFuses : Obligations.IdentityRegistersShowTheirFuses := by
  unfold Obligations.IdentityRegistersShowTheirFuses
  intro s off hs hoff
  refine ⟨rget_of_fused hs hoff, fun v => ?_⟩
  rw [exec_registerWrite_bar0, regWrite_identity 0 hoff]

/-! ### A nanosecond without a command (R51, log 17) -/

/-- Nothing but the registers of BAR0 differs. -/
def OnlyRegs (s t : State) : Prop := ∃ r, t = { s with regs := r }

theorem onlyRegs_refl (s : State) : OnlyRegs s s := ⟨s.regs, rfl⟩

theorem onlyRegs_trans {s t u : State} (hst : OnlyRegs s t) (htu : OnlyRegs t u) : OnlyRegs s u := by
  obtain ⟨_, rfl⟩ := hst
  obtain ⟨r, rfl⟩ := htu
  exact ⟨r, rfl⟩

theorem each_onlyRegs {α : Type} (l : List α) {f : State → α → State} (s : State) (h : ∀ t x, OnlyRegs t (f t x)) : OnlyRegs s (each l f s) := by
  unfold each
  induction l generalizing s with
  | nil => exact onlyRegs_refl s
  | cons x l ih => exact onlyRegs_trans (h s x) (ih (f s x))

theorem rput_onlyRegs (s : State) (off : Nat) (v : W32) : OnlyRegs s (rput s off v) := ⟨_, rfl⟩

theorem cadd_onlyRegs (s : State) (lo hi n : Nat) : OnlyRegs s (cadd s lo hi n) := onlyRegs_trans (rput_onlyRegs _ _ _) (rput_onlyRegs _ _ _)

theorem tickStall_onlyRegs (s : State) : OnlyRegs s (tickStall s) := by
  refine each_onlyRegs _ _ fun t w => ?_
  split
  · exact onlyRegs_refl t
  · refine each_onlyRegs _ _ fun u l => ?_
    split
    · exact cadd_onlyRegs _ _ _ _
    · exact onlyRegs_refl u

theorem tickTb_of_no_slew {t : TbSt} (h : t.slew = 0) (ppm : Nat) : (tickTb t ppm).tb = t.tb + 1 := by simp [tickTb, h]

/-- Settles O2: the stall counters of `tickStall` lie in BAR0, so the state after a tick differs in registers, timebase, slot counter and idle time alone. -/
theorem anEmptyQueueLetsANanosecondPass : Obligations.AnEmptyQueueLetsANanosecondPass := by
  unfold Obligations.AnEmptyQueueLetsANanosecondPass
  intro s hs
  obtain ⟨r, hr⟩ := tickStall_onlyRegs s
  refine ⟨tick s, step_nil hs, ?_⟩
  unfold tick
  rw [hr]
  exact ⟨rfl, fun h => tickTb_of_no_slew h _, hs, rfl, rfl, rfl, rfl, rfl, rfl, rfl, rfl⟩
end Sys2Proof.Machine

/-! PROOF. Totality: every command of spec/opcode_table.json answers a next state. What the commands of one kind share (`mbxAccess`,
`wickCommand`, `lanternTake`, …) is shown once; a command without a lemma below answers `.next` outright. -/

namespace Sys2Proof.Machine

/-- The command's outcome is a next state: it is neither a fault nor a refusal. -/
def Answers (o : Out) : Prop := ∃ t, o = .next t

theorem answers_next (t : State) : Answers (.next t) := ⟨t, rfl⟩

/-! ### Commands that decide between several next states -/

theorem execResultArrival_answers (c : Nat) (issue : W64) (s : State) : Answers (execResultArrival c issue s) := by
  unfold execResultArrival
  dsimp only
  (repeat' split) <;> exact answers_next _
theorem execScratchpadGrant_answers (c : Nat) (b : Nat) (ecc : Ecc) (s : State) : Answers (execScratchpadGrant c b ecc s) := by
  unfold execScratchpadGrant
  (repeat' split) <;> exact answers_next _
theorem execPostedPerformed_answers (c : Nat) (issue : W64) (s : State) : Answers (execPostedPerformed c issue s) := by
  unfold execPostedPerformed
  dsimp only
  (repeat' split) <;> exact answers_next _
theorem execWflushComplete_answers (c : Nat) (e : Nat) (s : State) : Answers (execWflushComplete c e s) := by
  unfold execWflushComplete
  dsimp only
  split <;> exact answers_next _
theorem execRepeatComplete_answers (c : Nat) (s : State) : Answers (execRepeatComplete c s) := by
  unfold execRepeatComplete
  dsimp only
  (repeat' split) <;> exact answers_next _
theorem execTranslateAccess_answers (id : Nat) (hit : Bool) (s : State) : Answers (execTranslateAccess id hit s) := by
  unfold execTranslateAccess
  dsimp only
  (repeat' split) <;> exact answers_next _
theorem execFaultTimeout_answers (tag : Nat) (s : State) : Answers (execFaultTimeout tag s) := by
  unfold execFaultTimeout
  split <;> exact answers_next _
theorem execMmuTwGo_answers (v : W32) (s : State) : Answers (execMmuTwGo v s) := by
  unfold execMmuTwGo
  (repeat' split) <;> exact answers_next _
theorem execTableWriterDone_answers (readOk : Bool) (s : State) : Answers (execTableWriterDone readOk s) := by
  unfold execTableWriterDone
  (repeat' split) <;> exact answers_next _
theorem execDmaUnitWrite_answers (i : Nat) (hit : Bool) (hostErr : Bool) (s : State) : Answers (execDmaUnitWrite i hit hostErr s) := by
  unfold execDmaUnitWrite
  dsimp only
  split <;> exact answers_next _
theorem execDmaTransferComplete_answers (i : Nat) (s : State) : Answers (execDmaTransferComplete i s) := by
  unfold execDmaTransferComplete
  dsimp only
  (repeat' split) <;> exact answers_next _
theorem execDramSlot_answers (stack : Nat) (pc : Nat) (code : SlotCode) (ecc : Ecc) (s : State) : Answers (execDramSlot stack pc code ecc s) := by
  unfold execDramSlot
  dsimp only
  (repeat' split) <;> exact answers_next _
theorem execTntPreemptSave_answers (sg : Nat) (s : State) : Answers (execTntPreemptSave sg s) := by
  unfold execTntPreemptSave
  dsimp only
  (repeat' split) <;> exact answers_next _
theorem execPreemptSaveComplete_answers (s : State) : Answers (execPreemptSaveComplete s) := by
  unfold execPreemptSaveComplete
  dsimp only
  split <;> exact answers_next _
theorem execTntPreemptRestore_answers (sg : Nat) (s : State) : Answers (execTntPreemptRestore sg s) := by
  unfold execTntPreemptRestore
  dsimp only
  (repeat' split) <;> exact answers_next _
theorem execRestoreComplete_answers (s : State) : Answers (execRestoreComplete s) := by
  unfold execRestoreComplete
  dsimp only
  split <;> exact answers_next _
theorem execFlr_answers (f : Nat) (s : State) : Answers (execFlr f s) := by
  unfold execFlr
  split <;> exact answers_next _
theorem execDbSqTail_answers (n : Nat) (v : W32) (s : State) : Answers (execDbSqTail n v s) := by
  unfold execDbSqTail
  dsimp only
  (repeat' split) <;> exact answers_next _
theorem execDbCqHead_answers (n : Nat) (v : W32) (s : State) : Answers (execDbCqHead n v s) := by
  unfold execDbCqHead
  dsimp only
  (repeat' split) <;> exact answers_next _
theorem execStmEnSet_answers (n : Nat) (s : State) : Answers (execStmEnSet n s) := by
  unfold execStmEnSet
  dsimp only
  (repeat' split) <;> exact answers_next _
theorem execStmFlush_answers (n : Nat) (s : State) : Answers (execStmFlush n s) := by
  unfold execStmFlush
  (repeat' split) <;> exact answers_next _
theorem execTntFnStrmWrite_answers (f : Nat) (v : W32) (s : State) : Answers (execTntFnStrmWrite f v s) := by
  unfold execTntFnStrmWrite
  dsimp only
  (repeat' split) <;> exact answers_next _
theorem execTntFnPortWrite_answers (f : Nat) (v : W32) (s : State) : Answers (execTntFnPortWrite f v s) := by
  unfold execTntFnPortWrite
  (repeat' split) <;> exact answers_next _
theorem execDescriptorFetch_answers (n : Nat) (hostErr : Bool) (badList : Option Nat) (s : State) : Answers (execDescriptorFetch n hostErr badList s) := by
  unfold execDescriptorFetch
  dsimp only
  (repeat' split) <;> exact answers_next _
theorem execAcceptCommit_answers (n : Nat) (bad : Nat) (lat : Nat) (s : State) : Answers (execAcceptCommit n bad lat s) := by
  unfold execAcceptCommit
  dsimp only
  (repeat' split) <;> exact answers_next _
theorem execNopItem_answers (n : Nat) (s : State) : Answers (execNopItem n s) := by
  unfold execNopItem
  split <;> exact answers_next _
theorem execRunItem_answers (n : Nat) (badList : Option Nat) (s : State) : Answers (execRunItem n badList s) := by
  unfold execRunItem
  split <;> exact answers_next _
theorem execLoadItem_answers (n : Nat) (badList : Option Nat) (s : State) : Answers (execLoadItem n badList s) := by
  unfold execLoadItem
  split <;> exact answers_next _
theorem execUnloadItem_answers (n : Nat) (s : State) : Answers (execUnloadItem n s) := by
  unfold execUnloadItem
  split <;> exact answers_next _
theorem execStepLimitReached_answers (n : Nat) (s : State) : Answers (execStepLimitReached n s) := by
  unfold execStepLimitReached
  split <;> exact answers_next _
theorem execItemCoresEnded_answers (n : Nat) (s : State) : Answers (execItemCoresEnded n s) := by
  unfold execItemCoresEnded
  dsimp only
  (repeat' split) <;> exact answers_next _
theorem execDoneCommit_answers (n : Nat) (s : State) : Answers (execDoneCommit n s) := by
  unfold execDoneCommit
  dsimp only
  (repeat' split) <;> exact answers_next _
theorem execCoalesceTimeout_answers (n : Nat) (s : State) : Answers (execCoalesceTimeout n s) := by
  unfold execCoalesceTimeout
  split <;> exact answers_next _
theorem execMsixMergedSend_answers (f : Nat) (v : Nat) (s : State) : Answers (execMsixMergedSend f v s) := by
  unfold execMsixMergedSend
  dsimp only
  split <;> exact answers_next _
theorem execDetCtlLockWrite_answers (v : W32) (s : State) : Answers (execDetCtlLockWrite v s) := by
  unfold execDetCtlLockWrite
  (repeat' split) <;> exact answers_next _
theorem execDetLogCfgWrite_answers (sg : Nat) (v : W32) (s : State) : Answers (execDetLogCfgWrite sg v s) := by
  unfold execDetLogCfgWrite
  dsimp only
  split <;> exact answers_next _
theorem execDetLogHeadWrite_answers (sg : Nat) (v : W32) (s : State) : Answers (execDetLogHeadWrite sg v s) := by
  unfold execDetLogHeadWrite
  dsimp only
  (repeat' split) <;> exact answers_next _
theorem execLogTailAdvance_answers (sg : Nat) (hostErr : Bool) (s : State) : Answers (execLogTailAdvance sg hostErr s) := by
  unfold execLogTailAdvance
  dsimp only
  (repeat' split) <;> exact answers_next _
theorem execDetRplGo_answers (v : W32) (s : State) : Answers (execDetRplGo v s) := by
  unfold execDetRplGo
  dsimp only
  (repeat' split) <;> exact answers_next _
theorem execDetRplAbort_answers (s : State) : Answers (execDetRplAbort s) := by
  unfold execDetRplAbort
  split <;> exact answers_next _
theorem execReplayItem_answers (hostErr : Bool) (s : State) : Answers (execReplayItem hostErr s) := by
  unfold execReplayItem
  (repeat' split) <;> exact answers_next _
theorem execStopPointReached_answers (hit : Bool) (hostErr : Bool) (s : State) : Answers (execStopPointReached hit hostErr s) := by
  unfold execStopPointReached
  dsimp only
  (repeat' split) <;> exact answers_next _
theorem execMTimeExchange_answers (s : State) : Answers (execMTimeExchange s) := by
  unfold execMTimeExchange
  (repeat' split) <;> exact answers_next _
theorem execMTime_answers (w : Nat) (l : Nat) (sub : Nat) (exch : Nat) (t1 : W64) (t2 : W64) (t3 : W64) (mpkg : Nat) (hops : Nat) (s : State) : Answers (execMTime w l sub exch t1 t2 t3 mpkg hops s) := by
  unfold execMTime
  (repeat' split) <;> exact answers_next _
theorem execPpsEdge_answers (rising : Bool) (s : State) : Answers (execPpsEdge rising s) := by
  unfold execPpsEdge
  dsimp only
  (repeat' split) <;> exact answers_next _
theorem execSignalDetect_answers (w : Nat) (l : Nat) (lanes : Nat) (s : State) : Answers (execSignalDetect w l lanes s) := by
  unfold execSignalDetect
  dsimp only
  (repeat' split) <;> exact answers_next _
theorem execTrainingFrame_answers (w : Nat) (l : Nat) (ctl : W32) (far : Bool) (s : State) : Answers (execTrainingFrame w l ctl far s) := by
  unfold execTrainingFrame
  dsimp only
  (repeat' split) <;> exact answers_next _
theorem execLinkTimeLimit_answers (w : Nat) (l : Nat) (s : State) : Answers (execLinkTimeLimit w l s) := by
  unfold execLinkTimeLimit
  (repeat' split) <;> exact answers_next _
theorem execBlockReceive_answers (w : Nat) (l : Nat) (b : Block) (s : State) : Answers (execBlockReceive w l b s) := by
  unfold execBlockReceive
  dsimp only
  (repeat' split) <;> exact answers_next _
theorem execReplayTimeout_answers (panel : Bool) (a : Nat) (b : Nat) (s : State) : Answers (execReplayTimeout panel a b s) := by
  unfold execReplayTimeout
  split <;> exact answers_next _
theorem execConfigRecord_answers (w : Nat) (l : Nat) (r : CfgRec) (s : State) : Answers (execConfigRecord w l r s) := by
  unfold execConfigRecord
  dsimp only
  (repeat' split) <;> exact answers_next _
theorem execPanelTransfer_answers (a : Nat) (b : Nat) (bad : Bool) (cvc : Nat) (s : State) : Answers (execPanelTransfer a b bad cvc s) := by
  unfold execPanelTransfer
  dsimp only
  (repeat' split) <;> exact answers_next _
theorem execCellAgeDiscard_answers (node : Nat) (port : Nat) (pos : Nat) (s : State) : Answers (execCellAgeDiscard node port pos s) := by
  unfold execCellAgeDiscard
  dsimp only
  (repeat' split) <;> exact answers_next _
theorem execMessageReassembled_answers (d : Nat) (i : Nat) (hit : Bool) (s : State) : Answers (execMessageReassembled d i hit s) := by
  unfold execMessageReassembled
  dsimp only
  (repeat' split) <;> exact answers_next _
theorem execResponseMatch_answers (d : Nat) (i : Nat) (s : State) : Answers (execResponseMatch d i s) := by
  unfold execResponseMatch
  dsimp only
  (repeat' split) <;> exact answers_next _
theorem execWheelRoute_answers (w : Nat) (port : Nat) (pos : Nat) (s : State) : Answers (execWheelRoute w port pos s) := by
  unfold execWheelRoute
  dsimp only
  (repeat' split) <;> exact answers_next _
theorem execOutputArbitrate_answers (node : Nat) (out : Nat) (s : State) : Answers (execOutputArbitrate node out s) := by
  unfold execOutputArbitrate
  dsimp only
  (repeat' split) <;> exact answers_next _
theorem execEceDecrease_answers (d : Nat) (pkg : Nat) (s : State) : Answers (execEceDecrease d pkg s) := by
  unfold execEceDecrease
  dsimp only
  (repeat' split) <;> exact answers_next _
theorem execEpochRetire_answers (told : Bool) (s : State) : Answers (execEpochRetire told s) := by
  unfold execEpochRetire
  (repeat' split) <;> exact answers_next _
theorem execColStartMerge_answers (node : Nat) (gn : Nat) (s : State) : Answers (execColStartMerge node gn s) := by
  unfold execColStartMerge
  dsimp only
  (repeat' split) <;> exact answers_next _
theorem execColDataReduce_answers (node : Nat) (gn : Nat) (i : Nat) (s : State) : Answers (execColDataReduce node gn i s) := by
  unfold execColDataReduce
  dsimp only
  (repeat' split) <;> exact answers_next _
theorem execColGo_answers (node : Nat) (gn : Nat) (s : State) : Answers (execColGo node gn s) := by
  unfold execColGo
  dsimp only
  (repeat' split) <;> exact answers_next _
theorem execColDone_answers (node : Nat) (gn : Nat) (s : State) : Answers (execColDone node gn s) := by
  unfold execColDone
  dsimp only
  (repeat' split) <;> exact answers_next _
theorem execSigAdd_answers (d : Nat) (i : Nat) (s : State) : Answers (execSigAdd d i s) := by
  unfold execSigAdd
  split <;> exact answers_next _
theorem execSigReset_answers (d : Nat) (i : Nat) (s : State) : Answers (execSigReset d i s) := by
  unfold execSigReset
  split <;> exact answers_next _
theorem execSigWait_answers (d : Nat) (i : Nat) (s : State) : Answers (execSigWait d i s) := by
  unfold execSigWait
  split <;> exact answers_next _
theorem execSigPoll_answers (d : Nat) (i : Nat) (s : State) : Answers (execSigPoll d i s) := by
  unfold execSigPoll
  split <;> exact answers_next _
theorem execSigClose_answers (d : Nat) (s : State) : Answers (execSigClose d s) := by
  unfold execSigClose
  dsimp only
  split <;> exact answers_next _
theorem execOrderedAtomicPerform_answers (d : Nat) (sg : Nat) (hit : Bool) (s : State) : Answers (execOrderedAtomicPerform d sg hit s) := by
  unfold execOrderedAtomicPerform
  dsimp only
  (repeat' split) <;> exact answers_next _
theorem execEnumFrameReceive_answers (f : Nat) (s : State) : Answers (execEnumFrameReceive f s) := by
  unfold execEnumFrameReceive
  dsimp only
  (repeat' split) <;> exact answers_next _
theorem execEnumFrameSend_answers (s : State) : Answers (execEnumFrameSend s) := by
  unfold execEnumFrameSend
  split <;> exact answers_next _
theorem execKlnEnumChainWrite_answers (c : BitVec 6) (s : State) : Answers (execKlnEnumChainWrite c s) := by
  unfold execKlnEnumChainWrite
  dsimp only
  (repeat' split) <;> exact answers_next _
theorem execHeadStrap_answers (s : State) : Answers (execHeadStrap s) := by
  unfold execHeadStrap
  dsimp only
  (repeat' split) <;> exact answers_next _
theorem execMHelloLink_answers (w : Nat) (l : Nat) (ws : List Nat) (s : State) : Answers (execMHelloLink w l ws s) := by
  unfold execMHelloLink
  dsimp only
  (repeat' split) <;> exact answers_next _
theorem execLight_answers (pkg : Nat) (ep : Nat) (first : Nat) (term : Nat) (act : Nat) (stby : Option Nat) (period : Nat) (epoch : Nat) (s : State) : Answers (execLight pkg ep first term act stby period epoch s) := by
  unfold execLight
  dsimp only
  (repeat' split) <;> exact answers_next _
theorem execLit_answers (pkg : Nat) (ep : Nat) (kind : Nat) (serial : Nat) (term : Nat) (fw : Nat) (s : State) : Answers (execLit pkg ep kind serial term fw s) := by
  unfold execLit
  dsimp only
  split <;> exact answers_next _
theorem execJoin_answers (pkg : Nat) (w : Nat) (l : Nat) (j : JoinSt) (s : State) : Answers (execJoin pkg w l j s) := by
  unfold execJoin
  dsimp only
  (repeat' split) <;> exact answers_next _
theorem execLsr_answers (spkg : Nat) (origin : Nat) (part : Nat) (p : LsrPart) (s : State) : Answers (execLsr spkg origin part p s) := by
  unfold execLsr
  dsimp only
  (repeat' split) <;> exact answers_next _
theorem execElection_answers (s : State) : Answers (execElection s) := by
  unfold execElection
  dsimp only
  (repeat' split) <;> exact answers_next _
theorem execWitnessRetry_answers (s : State) : Answers (execWitnessRetry s) := by
  unfold execWitnessRetry
  split <;> exact answers_next _
theorem execBeat_answers (recv : Bool) (spkg : Nat) (s : State) : Answers (execBeat recv spkg s) := by
  unfold execBeat
  split <;> exact answers_next _
theorem execMirror_answers (spkg : Nat) (num : Nat) (term : Nat) (m : MirrorIn) (s : State) : Answers (execMirror spkg num term m s) := by
  unfold execMirror
  dsimp only
  (repeat' split) <;> exact answers_next _
theorem execMack_answers (spkg : Nat) (num : Nat) (s : State) : Answers (execMack spkg num s) := by
  unfold execMack
  split <;> exact answers_next _
theorem execSync_answers (copy : Option (Nat × RoleSt)) (s : State) : Answers (execSync copy s) := by
  unfold execSync
  split <;> exact answers_next _
theorem execCommandResend_answers (pkg : Nat) (ep : Nat) (seq : Nat) (s : State) : Answers (execCommandResend pkg ep seq s) := by
  unfold execCommandResend
  dsimp only
  split <;> exact answers_next _
theorem execRecompute_answers (us : Nat) (pps : List Nat) (s : State) : Answers (execRecompute us pps s) := by
  unfold execRecompute
  split <;> exact answers_next _
theorem execRsp_answers (pkg : Nat) (ep : Nat) (ws : List Nat) (s : State) : Answers (execRsp pkg ep ws s) := by
  unfold execRsp
  dsimp only
  (repeat' split) <;> exact answers_next _
theorem execReport_answers (e : ReportEv) (s : State) : Answers (execReport e s) := by
  unfold execReport
  dsimp only
  (repeat' split) <;> exact answers_next _
theorem execMSnuff_answers (spkg : Nat) (slice : Nat) (origin : Nat) (number : Nat) (reason : Nat) (s : State) : Answers (execMSnuff spkg slice origin number reason s) := by
  unfold execMSnuff
  dsimp only
  split <;> exact answers_next _
theorem execSnuffOrigin_answers (s : State) : Answers (execSnuffOrigin s) := by
  unfold execSnuffOrigin
  split <;> exact answers_next _
theorem execRstSnuffGo_answers (slice : Nat) (s : State) : Answers (execRstSnuffGo slice s) := by
  unfold execRstSnuffGo
  dsimp only
  split <;> exact answers_next _
theorem execPilotSend_answers (ep : Nat) (s : State) : Answers (execPilotSend ep s) := by
  unfold execPilotSend
  dsimp only
  split <;> exact answers_next _
theorem execMPilot_answers (ep : Nat) (lit : Bool) (sick : Bool) (mask : BitVec 256) (s : State) : Answers (execMPilot ep lit sick mask s) := by
  unfold execMPilot
  (repeat' split) <;> exact answers_next _
theorem execRungContextAbort_answers (ep : Nat) (s : State) : Answers (execRungContextAbort ep s) := by
  unfold execRungContextAbort
  split <;> exact answers_next _
theorem execEngineReset_answers (ep : Nat) (s : State) : Answers (execEngineReset ep s) := by
  unfold execEngineReset
  split <;> exact answers_next _
theorem execSaggarFlush_answers (ep : Nat) (s : State) : Answers (execSaggarFlush ep s) := by
  unfold execSaggarFlush
  split <;> exact answers_next _
theorem execRungDieReset_answers (ep : Nat) (s : State) : Answers (execRungDieReset ep s) := by
  unfold execRungDieReset
  split <;> exact answers_next _
theorem execPowerCycle_answers (s : State) : Answers (execPowerCycle s) := by
  unfold execPowerCycle
  split <;> exact answers_next _
theorem execDieReset_answers (d : Nat) (s : State) : Answers (execDieReset d s) := by
  unfold execDieReset
  dsimp only
  (repeat' split) <;> exact answers_next _
theorem execResetHoldRelease_answers (d : Nat) (s : State) : Answers (execResetHoldRelease d s) := by
  unfold execResetHoldRelease
  dsimp only
  split <;> exact answers_next _
theorem execDieSelfTest_answers (d : Nat) (bad : List (Nat × Nat)) (dieBad : Bool) (s : State) : Answers (execDieSelfTest d bad dieBad s) := by
  unfold execDieSelfTest
  dsimp only
  (repeat' split) <;> exact answers_next _
theorem execRstDieReset_answers (d : Nat) (s : State) : Answers (execRstDieReset d s) := by
  unfold execRstDieReset
  (repeat' split) <;> exact answers_next _
theorem execRstDieFence_answers (d : Nat) (s : State) : Answers (execRstDieFence d s) := by
  unfold execRstDieFence
  (repeat' split) <;> exact answers_next _
theorem execCoreFence_answers (c : Nat) (s : State) : Answers (execCoreFence c s) := by
  unfold execCoreFence
  dsimp only
  (repeat' split) <;> exact answers_next _
theorem execDieFence_answers (d : Nat) (s : State) : Answers (execDieFence d s) := by
  unfold execDieFence
  dsimp only
  split <;> exact answers_next _
theorem execWheelFence_answers (w : Nat) (s : State) : Answers (execWheelFence w s) := by
  unfold execWheelFence
  split <;> exact answers_next _
theorem execQuantumSwitch_answers (c : Nat) (s : State) : Answers (execQuantumSwitch c s) := by
  unfold execQuantumSwitch
  split <;> exact answers_next _
theorem execYieldSwitch_answers (c : Nat) (s : State) : Answers (execYieldSwitch c s) := by
  unfold execYieldSwitch
  dsimp only
  split <;> exact answers_next _
theorem execRstEmbCtlGo_answers (s : State) : Answers (execRstEmbCtlGo s) := by
  unfold execRstEmbCtlGo
  (repeat' split) <;> exact answers_next _
theorem execKilnLockstepFault_answers (s : State) : Answers (execKilnLockstepFault s) := by
  unfold execKilnLockstepFault
  split <;> exact answers_next _
theorem execKilnRestart_answers (s : State) : Answers (execKilnRestart s) := by
  unfold execKilnRestart
  split <;> exact answers_next _
theorem execPfrelCycle_answers (s : State) : Answers (execPfrelCycle s) := by
  unfold execPfrelCycle
  split <;> exact answers_next _
theorem execJournalRecovery_answers (bad : List Nat) (s : State) : Answers (execJournalRecovery bad s) := by
  unfold execJournalRecovery
  split <;> exact answers_next _
theorem execRec_answers (spkg : Nat) (r : JRec) (s : State) : Answers (execRec spkg r s) := by
  unfold execRec
  dsimp only
  (repeat' split) <;> exact answers_next _
theorem execJrnlAck_answers (spkg : Nat) (n : Nat) (seq : Nat) (kind : Nat) (status : Nat) (s : State) : Answers (execJrnlAck spkg n seq kind status s) := by
  unfold execJrnlAck
  split <;> exact answers_next _
theorem execJrnlDone_answers (spkg : Nat) (n : Nat) (c : Cpl) (s : State) : Answers (execJrnlDone spkg n c s) := by
  unfold execJrnlDone
  split <;> exact answers_next _
theorem execJrnlState_answers (spkg : Nat) (n : Nat) (seq : Nat) (mode : Nat) (state : Nat) (s : State) : Answers (execJrnlState spkg n seq mode state s) := by
  unfold execJrnlState
  split <;> exact answers_next _
theorem execQuery_answers (spkg : Nat) (n : Nat) (seq : Nat) (s : State) : Answers (execQuery spkg n seq s) := by
  unfold execQuery
  split <;> exact answers_next _
theorem execSyncreq_answers (spkg : Nat) (s : State) : Answers (execSyncreq spkg s) := by
  unfold execSyncreq
  split <;> exact answers_next _
theorem execSyncend_answers (spkg : Nat) (count : Nat) (s : State) : Answers (execSyncend spkg count s) := by
  unfold execSyncend
  dsimp only
  (repeat' split) <;> exact answers_next _
theorem execJrnlResend_answers (i : Nat) (s : State) : Answers (execJrnlResend i s) := by
  unfold execJrnlResend
  split <;> exact answers_next _
theorem execTwinlost_answers (s : State) : Answers (execTwinlost s) := by
  unfold execTwinlost
  dsimp only
  (repeat' split) <;> exact answers_next _
theorem execRejoin_answers (s : State) : Answers (execRejoin s) := by
  unfold execRejoin
  (repeat' split) <;> exact answers_next _
theorem execKeyDrainErase_answers (sg : Nat) (s : State) : Answers (execKeyDrainErase sg s) := by
  unfold execKeyDrainErase
  dsimp only
  (repeat' split) <;> exact answers_next _
theorem execIdeKm_answers (f : Nat) (id : Nat) (port : Nat) (strm : Nat) (set1 : Bool) (s : State) : Answers (execIdeKm f id port strm set1 s) := by
  unfold execIdeKm
  (repeat' split) <;> exact answers_next _
theorem execMbxBind_answers (c : Nat) (v : W32) (s : State) : Answers (execMbxBind c v s) := by
  unfold execMbxBind
  dsimp only
  (repeat' split) <;> exact answers_next _
theorem execSherdExport_answers (c : Nat) (hostErr : Option Nat) (s : State) : Answers (execSherdExport c hostErr s) := by
  unfold execSherdExport
  dsimp only
  (repeat' split) <;> exact answers_next _
theorem execErrorLineFrame_answers (die : Nat) (frame : BitVec 16) (s : State) : Answers (execErrorLineFrame die frame s) := by
  unfold execErrorLineFrame
  dsimp only
  (repeat' split) <;> exact answers_next _
theorem execLineFault_answers (die : Nat) (stuck : Bool) (present : Bool) (s : State) : Answers (execLineFault die stuck present s) := by
  unfold execLineFault
  (repeat' split) <;> exact answers_next _
theorem execFaultEvent_answers (ctl : Option Nat) (detail : Bool) (s : State) : Answers (execFaultEvent ctl detail s) := by
  unfold execFaultEvent
  (repeat' split) <;> exact answers_next _
theorem execDetailTimeout_answers (s : State) : Answers (execDetailTimeout s) := by
  unfold execDetailTimeout
  split <;> exact answers_next _
theorem execFltInjGo_answers (v : W32) (s : State) : Answers (execFltInjGo v s) := by
  unfold execFltInjGo
  dsimp only
  (repeat' split) <;> exact answers_next _
theorem execHaltChannelChange_answers (b : Bool) (on : Bool) (s : State) : Answers (execHaltChannelChange b on s) := by
  unfold execHaltChannelChange
  dsimp only
  (repeat' split) <;> exact answers_next _
theorem execHaltDisc_answers (s : State) : Answers (execHaltDisc s) := by
  unfold execHaltDisc
  split <;> exact answers_next _
theorem execHaltResume_answers (s : State) : Answers (execHaltResume s) := by
  unfold execHaltResume
  split <;> exact answers_next _
theorem execMgpFrameReceive_answers (b : List Byte) (fcsOk : Bool) (s : State) : Answers (execMgpFrameReceive b fcsOk s) := by
  unfold execMgpFrameReceive
  dsimp only
  (repeat' split) <;> exact answers_next _
theorem execKmpResend_answers (seq : Nat) (s : State) : Answers (execKmpResend seq s) := by
  unfold execKmpResend
  split <;> exact answers_next _
theorem execFieldTestStart_answers (d : Nat) (s : State) : Answers (execFieldTestStart d s) := by
  unfold execFieldTestStart
  dsimp only
  (repeat' split) <;> exact answers_next _
theorem execFieldTestEnd_answers (d : Nat) (s : State) : Answers (execFieldTestEnd d s) := by
  unfold execFieldTestEnd
  dsimp only
  (repeat' split) <;> exact answers_next _
theorem execTstInjGo_answers (v : W32) (s : State) : Answers (execTstInjGo v s) := by
  unfold execTstInjGo
  dsimp only
  (repeat' split) <;> exact answers_next _
theorem execCapLoop_answers (pin : Nat) (vin : Nat) (s : State) : Answers (execCapLoop pin vin s) := by
  unfold execCapLoop
  dsimp only
  (repeat' split) <;> exact answers_next _
theorem execThermalThrottle_answers (d : Nat) (tj : Nat) (s : State) : Answers (execThermalThrottle d tj s) := by
  unfold execThermalThrottle
  dsimp only
  (repeat' split) <;> exact answers_next _
theorem execPwrRailVsetWrite_answers (d : Nat) (v : Nat) (s : State) : Answers (execPwrRailVsetWrite d v s) := by
  unfold execPwrRailVsetWrite
  split <;> exact answers_next _
theorem execPowerStateSelect_answers (s : State) : Answers (execPowerStateSelect s) := by
  unfold execPowerStateSelect
  dsimp only
  (repeat' split) <;> exact answers_next _
theorem execMrstN_answers (low : Bool) (s : State) : Answers (execMrstN low s) := by
  unfold execMrstN
  (repeat' split) <;> exact answers_next _
theorem execI3cRegisterRead_answers (off : Nat) (pecOk : Bool) (s : State) : Answers (execI3cRegisterRead off pecOk s) := by
  unfold execI3cRegisterRead
  (repeat' split) <;> exact answers_next _
theorem execMctpPacket_answers (b : List Byte) (pecOk : Bool) (s : State) : Answers (execMctpPacket b pecOk s) := by
  unfold execMctpPacket
  dsimp only
  (repeat' split) <;> exact answers_next _
theorem execHostPortLinkUp_answers (hp1 : Bool) (s : State) : Answers (execHostPortLinkUp hp1 s) := by
  unfold execHostPortLinkUp
  (repeat' split) <;> exact answers_next _
theorem execPpsLost_answers (s : State) : Answers (execPpsLost s) := by
  unfold execPpsLost
  split <;> exact answers_next _
theorem execHandoverTimeout_answers (s : State) : Answers (execHandoverTimeout s) := by
  unfold execHandoverTimeout
  split <;> exact answers_next _
theorem execJrnlBeatReceive_answers (spkg : Nat) (pst : Nat) (runner : Bool) (solo : Bool) (named : Nat) (s : State) : Answers (execJrnlBeatReceive spkg pst runner solo named s) := by
  unfold execJrnlBeatReceive
  dsimp only
  (repeat' split) <;> exact answers_next _
theorem execEmberCopyDone_answers (hostErr : Bool) (s : State) : Answers (execEmberCopyDone hostErr s) := by
  unfold execEmberCopyDone
  dsimp only
  (repeat' split) <;> exact answers_next _
theorem execMrstNReset_answers (s : State) : Answers (execMrstNReset s) := by
  unfold execMrstNReset
  split <;> exact answers_next _

/-! ### What the commands of one kind share -/

theorem when_answers (b : Bool) (s t : State) : Answers (when_ b s t) := answers_next _

theorem ite_answers {p : Prop} [Decidable p] {a b : Out} (ha : Answers a) (hb : Answers b) : Answers (if p then a else b) := by
  split
  · exact ha
  · exact hb

theorem andThen_answers {o : Out} {f : State → Out} (ho : Answers o) (hf : ∀ t, Answers (f t)) : Answers (andThen o f) := by
  obtain ⟨t, rfl⟩ := ho
  exact hf t

theorem mbxAccess_answers (c mid : Nat) (act : State → State) (s : State) : Answers (mbxAccess c mid act s) := by
  unfold mbxAccess
  (repeat' split) <;> exact answers_next _

theorem wickCommand_answers (ep seq term op : Nat) (act : State → State × Option (Nat × List Nat)) (s : State) :
    Answers (wickCommand ep seq term op act s) := by
  unfold wickCommand
  dsimp only
  (repeat' split) <;> exact answers_next _

theorem takeKmp_answers (ty : Nat) (act : KmpIn → State → Option State) (s : State) : Answers (takeKmp ty act s) := by
  unfold takeKmp
  dsimp only
  (repeat' split) <;> exact answers_next _

theorem lanternTake_answers (c op : Nat) (go : State → State) (s : State) : Answers (lanternTake c op go s) := by
  unfold lanternTake
  dsimp only
  (repeat' split) <;> exact answers_next _

theorem spdmTake_answers (f code need : Nat) (go : State → State) (s : State) : Answers (spdmTake f code need go s) := by
  unfold spdmTake
  dsimp only
  (repeat' split) <;> exact answers_next _

theorem sessionTake_answers (f code id : Nat) (go : State → State) (s : State) : Answers (sessionTake f code id go s) :=
  spdmTake_answers _ _ _ _ _

theorem execMEpoch_answers (ep : Nat) (seq : Nat) (term : Nat) (n : Nat) (s : State) : Answers (execMEpoch ep seq term n s) := wickCommand_answers _ _ _ _ _ _
theorem execRd32_answers (ep : Nat) (seq : Nat) (term : Nat) (off : Nat) (s : State) : Answers (execRd32 ep seq term off s) := wickCommand_answers _ _ _ _ _ _
theorem execWr32_answers (ep : Nat) (seq : Nat) (term : Nat) (off : Nat) (v : W32) (s : State) : Answers (execWr32 ep seq term off v s) := wickCommand_answers _ _ _ _ _ _
theorem execTerm_answers (ep : Nat) (seq : Nat) (term : Nat) (act : Nat) (stby : Option Nat) (s : State) : Answers (execTerm ep seq term act stby s) := wickCommand_answers _ _ _ _ _ _
theorem execDown_answers (ep : Nat) (seq : Nat) (term : Nat) (s : State) : Answers (execDown ep seq term s) := wickCommand_answers _ _ _ _ _ _
theorem execSpmrd_answers (ep : Nat) (seq : Nat) (term : Nat) (cl : Nat) (s : State) : Answers (execSpmrd ep seq term cl s) := wickCommand_answers _ _ _ _ _ _
theorem execMlist_answers (seq : Nat) (term : Nat) (ws : List Nat) (s : State) : Answers (execMlist seq term ws s) := wickCommand_answers _ _ _ _ _ _
theorem execGrpw_answers (ep : Nat) (seq : Nat) (term : Nat) (ws : List Nat) (s : State) : Answers (execGrpw ep seq term ws s) := wickCommand_answers _ _ _ _ _ _
theorem execTparent_answers (seq : Nat) (term : Nat) (wheel : Nat) (link : Nat) (master : Bool) (hops : Nat) (mpkg : Nat) (s : State) : Answers (execTparent seq term wheel link master hops mpkg s) := wickCommand_answers _ _ _ _ _ _
theorem execMRoute_answers (w : Nat) (seq : Nat) (term : Nat) (ws : List Nat) (s : State) : Answers (execMRoute w seq term ws s) := ite_answers (answers_next _) (wickCommand_answers _ _ _ _ _ _)
theorem execSgreq_answers (seq : Nat) (term : Nat) (ws : List Nat) (s : State) : Answers (execSgreq seq term ws s) := ite_answers (answers_next _) (wickCommand_answers _ _ _ _ _ _)
theorem execSgrel_answers (seq : Nat) (term : Nat) (ws : List Nat) (s : State) : Answers (execSgrel seq term ws s) := ite_answers (answers_next _) (wickCommand_answers _ _ _ _ _ _)
theorem execTermreq_answers (t : Nat) (requester : Nat) (s : State) : Answers (execTermreq t requester s) := ite_answers (answers_next _) (ite_answers (answers_next _) (answers_next _))
theorem execSgCreate_answers (c : Nat) (s : State) : Answers (execSgCreate c s) := lanternTake_answers _ _ _ _
theorem execSgDestroy_answers (c : Nat) (s : State) : Answers (execSgDestroy c s) := lanternTake_answers _ _ _ _
theorem execRekey_answers (c : Nat) (s : State) : Answers (execRekey c s) := lanternTake_answers _ _ _ _
theorem execZeroise_answers (c : Nat) (s : State) : Answers (execZeroise c s) := lanternTake_answers _ _ _ _
theorem execPkeyUpdate_answers (c : Nat) (hostErr : Bool) (s : State) : Answers (execPkeyUpdate c hostErr s) := lanternTake_answers _ _ _ _
theorem execFwUpdate_answers (c : Nat) (hostErr : Bool) (s : State) : Answers (execFwUpdate c hostErr s) := lanternTake_answers _ _ _ _
theorem execSvnCommit_answers (c : Nat) (s : State) : Answers (execSvnCommit c s) := lanternTake_answers _ _ _ _
theorem execGetVersion_answers (f : Nat) (s : State) : Answers (execGetVersion f s) := spdmTake_answers _ _ _ _ _
theorem execGetCapabilities_answers (f : Nat) (s : State) : Answers (execGetCapabilities f s) := spdmTake_answers _ _ _ _ _
theorem execNegotiateAlgorithms_answers (f : Nat) (s : State) : Answers (execNegotiateAlgorithms f s) := spdmTake_answers _ _ _ _ _
theorem execGetDigests_answers (f : Nat) (s : State) : Answers (execGetDigests f s) := spdmTake_answers _ _ _ _ _
theorem execGetCertificate_answers (f : Nat) (slot : Nat) (off : Nat) (len : Nat) (s : State) : Answers (execGetCertificate f slot off len s) := spdmTake_answers _ _ _ _ _
theorem execChallenge_answers (f : Nat) (slot : Nat) (nonce : List Byte) (s : State) : Answers (execChallenge f slot nonce s) := spdmTake_answers _ _ _ _ _
theorem execGetMeasurements_answers (f : Nat) (op : Nat) (s : State) : Answers (execGetMeasurements f op s) := spdmTake_answers _ _ _ _ _
theorem execKeyExchange_answers (f : Nat) (req : List Byte) (s : State) : Answers (execKeyExchange f req s) := spdmTake_answers _ _ _ _ _
theorem execFinish_answers (f : Nat) (id : Nat) (macOk : Bool) (s : State) : Answers (execFinish f id macOk s) := spdmTake_answers _ _ _ _ _
theorem execHeartbeat_answers (f : Nat) (id : Nat) (s : State) : Answers (execHeartbeat f id s) := sessionTake_answers _ _ _ _ _
theorem execKeyUpdate_answers (f : Nat) (id : Nat) (op : Nat) (s : State) : Answers (execKeyUpdate f id op s) := sessionTake_answers _ _ _ _ _
theorem execEndSession_answers (f : Nat) (id : Nat) (s : State) : Answers (execEndSession f id s) := sessionTake_answers _ _ _ _ _
theorem execMbxPayWrite_answers (c : Nat) (k : Nat) (mid : Nat) (v : W32) (s : State) : Answers (execMbxPayWrite c k mid v s) := mbxAccess_answers _ _ _ _
theorem execMbxDbSet_answers (c : Nat) (mid : Nat) (v : W32) (s : State) : Answers (execMbxDbSet c mid v s) := mbxAccess_answers _ _ _ _
theorem execMbxDbPend_answers (c : Nat) (mid : Nat) (v : W32) (s : State) : Answers (execMbxDbPend c mid v s) := mbxAccess_answers _ _ _ _
theorem execMbxDbMask_answers (c : Nat) (mid : Nat) (v : W32) (s : State) : Answers (execMbxDbMask c mid v s) := mbxAccess_answers _ _ _ _
theorem execMbxAckCode_answers (c : Nat) (mid : Nat) (code : Nat) (s : State) : Answers (execMbxAckCode c mid code s) := mbxAccess_answers _ _ _ _
theorem execMbxAckValidClear_answers (c : Nat) (mid : Nat) (s : State) : Answers (execMbxAckValidClear c mid s) := mbxAccess_answers _ _ _ _
theorem execKmpAck_answers (s : State) : Answers (execKmpAck s) := takeKmp_answers _ _ _
theorem execPatchunk_answers (s : State) : Answers (execPatchunk s) := takeKmp_answers _ _ _
theorem execKmpGrant_answers (s : State) : Answers (execKmpGrant s) := takeKmp_answers _ _ _
theorem execKmpDeny_answers (s : State) : Answers (execKmpDeny s) := takeKmp_answers _ _ _

/-! ### A write of a register (spec/00 R9) -/

theorem execStartUp_answers (n : Nat) (bad : List Nat) (badPos : List (Nat × Nat × Nat)) (s : State) : Answers (execStartUp n bad badPos s) := by
  unfold execStartUp
  (repeat' with_reducible apply ite_answers) <;> exact answers_next _

theorem writePwr_answers (off : Nat) (v : W32) (s : State) : Answers (writePwr off v s) := by
  unfold writePwr
  (repeat' with_reducible apply ite_answers) <;> try with_reducible exact answers_next _
  · exact andThen_answers (when_answers _ _ _) fun _ => ite_answers ⟨_, rfl⟩ (answers_next _)
  · exact ⟨_, rfl⟩
  · exact execPwrRailVsetWrite_answers _ _ _

theorem writeRst_answers (off : Nat) (v : W32) (s : State) : Answers (writeRst off v s) := by
  unfold writeRst
  dsimp only
  (repeat' with_reducible apply ite_answers) <;> try with_reducible exact answers_next _
  · exact execRstSnuffGo_answers _ _
  · exact execRstDieReset_answers _ _
  · exact execRstDieFence_answers _ _
  · exact ⟨_, rfl⟩
  · exact execRstEmbCtlGo_answers _

theorem writeFlt_answers (off : Nat) (v : W32) (s : State) : Answers (writeFlt off v s) := by
  unfold writeFlt
  (repeat' with_reducible apply ite_answers) <;> try with_reducible exact answers_next _
  · exact ⟨_, rfl⟩
  · exact ⟨_, rfl⟩
  · exact execFltInjGo_answers _ _

theorem writeTnt_answers (off : Nat) (v : W32) (s : State) : Answers (writeTnt off v s) := by
  unfold writeTnt
  dsimp only
  (repeat' with_reducible apply ite_answers) <;> try with_reducible exact answers_next _
  · exact execTntPreemptSave_answers _ _
  · exact execTntPreemptRestore_answers _ _
  · exact ⟨_, rfl⟩
  · exact execTntFnStrmWrite_answers _ _ _
  · exact execTntFnPortWrite_answers _ _ _

theorem writeMmu_answers (off : Nat) (v : W32) (s : State) : Answers (writeMmu off v s) := by
  unfold writeMmu
  (repeat' with_reducible apply ite_answers) <;> try with_reducible exact answers_next _
  · exact execMmuTwGo_answers _ _

theorem writeRplCtl_answers (v : W32) (s : State) : Answers (writeRplCtl v s) := by
  unfold writeRplCtl
  (repeat' with_reducible apply ite_answers) <;> try with_reducible exact answers_next _
  · exact execDetRplGo_answers _ _
  · exact andThen_answers (ite_answers (execDetRplAbort_answers _) (answers_next _)) fun _ => answers_next _

theorem writeDet_answers (off : Nat) (v : W32) (s : State) : Answers (writeDet off v s) := by
  unfold writeDet
  dsimp only
  (repeat' with_reducible apply ite_answers) <;> try with_reducible exact answers_next _
  · exact execDetCtlLockWrite_answers _ _
  · exact writeRplCtl_answers _ _
  · exact execDetLogCfgWrite_answers _ _ _
  · exact execDetLogHeadWrite_answers _ _ _

theorem writeKln_answers (off : Nat) (v : W32) (s : State) : Answers (writeKln off v s) := by
  unfold writeKln
  (repeat' with_reducible apply ite_answers) <;> try with_reducible exact answers_next _
  · exact andThen_answers (ite_answers ⟨_, rfl⟩ ⟨_, rfl⟩) fun _ => ite_answers ⟨_, rfl⟩ ⟨_, rfl⟩
  · exact execKlnEnumChainWrite_answers _ _

theorem writeFab_answers (off : Nat) (v : W32) (s : State) : Answers (writeFab off v s) := by
  unfold writeFab
  dsimp only
  (repeat' with_reducible apply ite_answers) <;> try with_reducible exact answers_next _
  · exact ⟨_, rfl⟩

theorem writeTst_answers (off : Nat) (v : W32) (s : State) : Answers (writeTst off v s) := by
  unfold writeTst
  dsimp only
  (repeat' with_reducible apply ite_answers) <;> try with_reducible exact answers_next _
  · exact ⟨_, rfl⟩
  · exact execTstInjGo_answers _ _

theorem writeJnl_answers (off : Nat) (v : W32) (s : State) : Answers (writeJnl off v s) := by
  unfold writeJnl
  (repeat' with_reducible apply ite_answers) <;> try with_reducible exact answers_next _
  · exact ⟨_, rfl⟩
  · exact execRejoin_answers _

theorem writeAck_answers (c mid : Nat) (v : W32) (s : State) : Answers (writeAck c mid v s) := mbxAccess_answers _ _ _ _

theorem writeWindow_answers (c o mid : Nat) (v : W32) (s : State) : Answers (writeWindow c o mid v s) := by
  unfold writeWindow
  (repeat' with_reducible apply ite_answers) <;> try with_reducible exact answers_next _
  · exact execMbxPayWrite_answers _ _ _ _ _
  · exact execMbxDbSet_answers _ _ _ _
  · exact execMbxDbPend_answers _ _ _ _
  · exact execMbxDbMask_answers _ _ _ _
  · exact andThen_answers (writeAck_answers _ _ _ _) fun _ => ite_answers (ite_answers (execMbxAckValidClear_answers _ _ _) (answers_next _)) (ite_answers (execMbxAckCode_answers _ _ _ _) (answers_next _))
  · exact mbxAccess_answers _ _ _ _
  · exact mbxAccess_answers _ _ _ _

theorem writeMbx_answers (off mid : Nat) (v : W32) (s : State) : Answers (writeMbx off mid v s) := by
  unfold writeMbx
  split
  · exact writeWindow_answers _ _ _ _ _
  · exact ite_answers (execMbxBind_answers _ _ _) (ite_answers ⟨_, rfl⟩ (ite_answers ⟨_, rfl⟩ ⟨_, rfl⟩))

theorem writeStmCtl_answers (n : Nat) (v : W32) (s : State) : Answers (writeStmCtl n v s) :=
  ite_answers (answers_next _) (andThen_answers (ite_answers (execStmEnSet_answers _ _) (ite_answers ⟨_, rfl⟩ (answers_next _)))
    fun _ => ite_answers (execStmFlush_answers _ _) (ite_answers ⟨_, rfl⟩ (answers_next _)))

theorem writeStm_answers (n o : Nat) (v : W32) (s : State) : Answers (writeStm n o v s) := by
  unfold writeStm
  dsimp only
  (repeat' with_reducible apply ite_answers) <;> try with_reducible exact answers_next _
  · exact writeStmCtl_answers _ _ _
  · exact ⟨_, rfl⟩
  · exact ⟨_, rfl⟩

theorem regWrite_answers (mid off : Nat) (v : W32) (s : State) : Answers (regWrite mid off v s) := by
  unfold regWrite
  refine ite_answers (answers_next _) (ite_answers (writeStm_answers _ _ _ _) ?_)
  split
  · exact writePwr_answers _ _ _
  · exact writeRst_answers _ _ _
  · exact writeFlt_answers _ _ _
  · exact writeMbx_answers _ _ _ _
  · exact writeTnt_answers _ _ _
  · exact writeMmu_answers _ _ _
  · exact writeDet_answers _ _ _
  · exact writeKln_answers _ _ _
  · exact writeFab_answers _ _ _
  · exact writeTst_answers _ _ _
  · exact writeJnl_answers _ _ _
  · exact answers_next _

theorem writeVf_answers (f off : Nat) (v : W32) (s : State) : Answers (writeVf f off v s) :=
  ite_answers (answers_next _) (regWrite_answers _ _ _ _)

theorem writeBar4_answers (f off : Nat) (v : W32) (s : State) : Answers (writeBar4 f off v s) := by
  unfold writeBar4
  (repeat' with_reducible apply ite_answers) <;> try with_reducible exact answers_next _
  · exact ⟨_, rfl⟩
  split
  · exact writeWindow_answers _ _ _ _ _
  · exact answers_next _

theorem execRegisterWrite_answers (t : WriteTo) (v : W32) (s : State) : Answers (execRegisterWrite t v s) := by
  cases t with
  | bar0 off => exact regWrite_answers _ _ _ _
  | vf f off => exact writeVf_answers _ _ _ _
  | bar4 f off => exact writeBar4_answers _ _ _ _
  | msixCap f => exact when_answers _ _ _
  | fnEnable f => exact when_answers _ _ _
  | host a => exact answers_next _

theorem execI3cRegisterWrite_answers (off : Nat) (v : W32) (pecOk : Bool) (s : State) : Answers (execI3cRegisterWrite off v pecOk s) :=
  ite_answers (regWrite_answers _ _ _ _) (answers_next _)

/-! ### Every command -/

theorem exec_answers : ∀ (i : Instr) (s : State), Answers (exec i s)
  | .nop c w, s => ⟨_, exec_nop s c w⟩
  | .add c w, s => ⟨_, exec_add s c w⟩
  | .sub c w, s => ⟨_, exec_sub s c w⟩
  | .and c w, s => ⟨_, exec_and s c w⟩
  | .or c w, s => ⟨_, exec_or s c w⟩
  | .xor c w, s => ⟨_, exec_xor s c w⟩
  | .shl c w, s => ⟨_, exec_shl s c w⟩
  | .shr c w, s => ⟨_, exec_shr s c w⟩
  | .sra c w, s => ⟨_, exec_sra s c w⟩
  | .slt c w, s => ⟨_, exec_slt s c w⟩
  | .sltu c w, s => ⟨_, exec_sltu s c w⟩
  | .seq c w, s => ⟨_, exec_seq s c w⟩
  | .min c w, s => ⟨_, exec_min s c w⟩
  | .max c w, s => ⟨_, exec_max s c w⟩
  | .movi c w, s => ⟨_, exec_movi s c w⟩
  | .movh c w, s => ⟨_, exec_movh s c w⟩
  | .mul c w, s => ⟨_, exec_mul s c w⟩
  | .mulh c w, s => ⟨_, exec_mulh s c w⟩
  | .mulhu c w, s => ⟨_, exec_mulhu s c w⟩
  | .div c w, s => ⟨_, exec_div s c w⟩
  | .divu c w, s => ⟨_, exec_divu s c w⟩
  | .rem c w, s => ⟨_, exec_rem s c w⟩
  | .remu c w, s => ⟨_, exec_remu s c w⟩
  | .popc c w, s => ⟨_, exec_popc s c w⟩
  | .ctz c w, s => ⟨_, exec_ctz s c w⟩
  | .beq c w, s => ⟨_, exec_beq s c w⟩
  | .bne c w, s => ⟨_, exec_bne s c w⟩
  | .blt c w, s => ⟨_, exec_blt s c w⟩
  | .bge c w, s => ⟨_, exec_bge s c w⟩
  | .bltu c w, s => ⟨_, exec_bltu s c w⟩
  | .bgeu c w, s => ⟨_, exec_bgeu s c w⟩
  | .jal c w, s => ⟨_, exec_jal s c w⟩
  | .jr c w, s => ⟨_, exec_jr s c w⟩
  | .halt c w, s => ⟨_, exec_halt s c w⟩
  | .brk c w, s => ⟨_, exec_brk s c w⟩
  | .stepw c w, s => ⟨_, exec_stepw s c w⟩
  | .tctlResume c w, s => ⟨_, exec_tctlResume s c w⟩
  | .tctlStop c w, s => ⟨_, exec_tctlStop s c w⟩
  | .tctlRead c w, s => ⟨_, exec_tctlRead s c w⟩
  | .tctlReadXpc c w, s => ⟨_, exec_tctlReadXpc s c w⟩
  | .tctlReadXinfo c w, s => ⟨_, exec_tctlReadXinfo s c w⟩
  | .ld c w, s => ⟨_, exec_ld s c w⟩
  | .st c w, s => ⟨_, exec_st s c w⟩
  | .vld c w, s => ⟨_, exec_vld s c w⟩
  | .vst c w, s => ⟨_, exec_vst s c w⟩
  | .vstm c w, s => ⟨_, exec_vstm s c w⟩
  | .lnld c w, s => ⟨_, exec_lnld s c w⟩
  | .lnst c w, s => ⟨_, exec_lnst s c w⟩
  | .fence c w, s => ⟨_, exec_fence s c w⟩
  | .mma c w, s => ⟨_, exec_mma s c w⟩
  | .wflush c w, s => ⟨_, exec_wflush s c w⟩
  | .rstore c w, s => ⟨_, exec_rstore s c w⟩
  | .xstore c w, s => ⟨_, exec_xstore s c w⟩
  | .spget c w, s => ⟨_, exec_spget s c w⟩
  | .spadd c w, s => ⟨_, exec_spadd s c w⟩
  | .mclr c w, s => ⟨_, exec_mclr s c w⟩
  | .lnadd c w, s => ⟨_, exec_lnadd s c w⟩
  | .lnmov c w, s => ⟨_, exec_lnmov s c w⟩
  | .lnclr c w, s => ⟨_, exec_lnclr s c w⟩
  | .lnneg c w, s => ⟨_, exec_lnneg s c w⟩
  | .lnlane c w, s => ⟨_, exec_lnlane s c w⟩
  | .lnrnd c w, s => ⟨_, exec_lnrnd s c w⟩
  | .vadd c w, s => ⟨_, exec_vadd s c w⟩
  | .vsub c w, s => ⟨_, exec_vsub s c w⟩
  | .vmul c w, s => ⟨_, exec_vmul s c w⟩
  | .vfma c w, s => ⟨_, exec_vfma s c w⟩
  | .vmin c w, s => ⟨_, exec_vmin s c w⟩
  | .vmax c w, s => ⟨_, exec_vmax s c w⟩
  | .vcvt c w, s => ⟨_, exec_vcvt s c w⟩
  | .viadd c w, s => ⟨_, exec_viadd s c w⟩
  | .vimul c w, s => ⟨_, exec_vimul s c w⟩
  | .vbcast c w, s => ⟨_, exec_vbcast s c w⟩
  | .vlane c w, s => ⟨_, exec_vlane s c w⟩
  | .vidx c w, s => ⟨_, exec_vidx s c w⟩
  | .vfn c w, s => ⟨_, exec_vfn s c w⟩
  | .vcmp c w, s => ⟨_, exec_vcmp s c w⟩
  | .vsel c w, s => ⟨_, exec_vsel s c w⟩
  | .vgath c w, s => ⟨_, exec_vgath s c w⟩
  | .vscat c w, s => ⟨_, exec_vscat s c w⟩
  | .vscadd c w, s => ⟨_, exec_vscadd s c w⟩
  | .xscadd c w, s => ⟨_, exec_xscadd s c w⟩
  | .dma c w, s => ⟨_, exec_dma s c w⟩
  | .signal c w, s => ⟨_, exec_signal s c w⟩
  | .wait c w, s => ⟨_, exec_wait s c w⟩
  | .sreset c w, s => ⟨_, exec_sreset s c w⟩
  | .spoll c w, s => ⟨_, exec_spoll s c w⟩
  | .frd c w, s => ⟨_, exec_frd s c w⟩
  | .fwr c w, s => ⟨_, exec_fwr s c w⟩
  | .fatomAdd64 c w, s => ⟨_, exec_fatomAdd64 s c w⟩
  | .fatomSwap64 c w, s => ⟨_, exec_fatomSwap64 s c w⟩
  | .fatomCas64 c w, s => ⟨_, exec_fatomCas64 s c w⟩
  | .fatomMin64 c w, s => ⟨_, exec_fatomMin64 s c w⟩
  | .fatomMax64 c w, s => ⟨_, exec_fatomMax64 s c w⟩
  | .fatomXadd c w, s => ⟨_, exec_fatomXadd s c w⟩
  | .send c w, s => ⟨_, exec_send s c w⟩
  | .recv c w, s => ⟨_, exec_recv s c w⟩
  | .probe c w, s => ⟨_, exec_probe s c w⟩
  | .collAllreduce c w, s => ⟨_, exec_collAllreduce s c w⟩
  | .collReduce c w, s => ⟨_, exec_collReduce s c w⟩
  | .collReducescatter c w, s => ⟨_, exec_collReducescatter s c w⟩
  | .collBroadcast c w, s => ⟨_, exec_collBroadcast s c w⟩
  | .collAllgather c w, s => ⟨_, exec_collAllgather s c w⟩
  | .collBarrier c w, s => ⟨_, exec_collBarrier s c w⟩
  | .collAlltoall c w, s => ⟨_, exec_collAlltoall s c w⟩
  | .rand c w, s => ⟨_, exec_rand s c w⟩
  | .vrand c w, s => ⟨_, exec_vrand s c w⟩
  | .steprd c w, s => ⟨_, exec_steprd s c w⟩
  | .tbrd c w, s => ⟨_, exec_tbrd s c w⟩
  | .flags c w, s => ⟨_, exec_flags s c w⟩
  | .tdw c w, s => ⟨_, exec_tdw s c w⟩
  | .tdr c w, s => ⟨_, exec_tdr s c w⟩
  | .bubble c, s => ⟨_, exec_bubble s c⟩
  | .resultArrival c issue, s => execResultArrival_answers c issue s
  | .gatedDelivery c, s => ⟨_, exec_gatedDelivery s c⟩
  | .scratchpadGrant c b ecc, s => execScratchpadGrant_answers c b ecc s
  | .externalWrite c b, s => ⟨_, exec_externalWrite s c b⟩
  | .postedPerformed c issue, s => execPostedPerformed_answers c issue s
  | .mmaDispatch c e, s => ⟨_, exec_mmaDispatch s c e⟩
  | .feederFetch c e, s => ⟨_, exec_feederFetch s c e⟩
  | .arrayStep c e, s => ⟨_, exec_arrayStep s c e⟩
  | .spillRetire c e, s => ⟨_, exec_spillRetire s c e⟩
  | .wflushDispatch c e, s => ⟨_, exec_wflushDispatch s c e⟩
  | .wflushComplete c e, s => execWflushComplete_answers c e s
  | .rstoreDispatch c e, s => ⟨_, exec_rstoreDispatch s c e⟩
  | .xstoreDispatch c e, s => ⟨_, exec_xstoreDispatch s c e⟩
  | .resultWordWrite c b, s => ⟨_, exec_resultWordWrite s c b⟩
  | .engineOpDispatch c e, s => ⟨_, exec_engineOpDispatch s c e⟩
  | .logicalCoreEnd c, s => ⟨_, exec_logicalCoreEnd s c⟩
  | .repeatComplete c, s => execRepeatComplete_answers c s
  | .translateAccess id hit, s => execTranslateAccess_answers id hit s
  | .faultRetry tag, s => ⟨_, exec_faultRetry s tag⟩
  | .faultRefuse tag, s => ⟨_, exec_faultRefuse s tag⟩
  | .faultTimeout tag, s => execFaultTimeout_answers tag s
  | .mmuTwGo v, s => execMmuTwGo_answers v s
  | .tableWriterDone readOk, s => execTableWriterDone_answers readOk s
  | .dmaUnitWrite i hit hostErr, s => execDmaUnitWrite_answers i hit hostErr s
  | .dmaTransferComplete i, s => execDmaTransferComplete_answers i s
  | .dramSlot stack pc code ecc, s => execDramSlot_answers stack pc code ecc s
  | .dramExactAddWrite stack pc, s => ⟨_, exec_dramExactAddWrite s stack pc⟩
  | .rmwWrite stack pc, s => ⟨_, exec_rmwWrite s stack pc⟩
  | .initFill k, s => ⟨_, exec_initFill s k⟩
  | .tntPreemptSave sg, s => execTntPreemptSave_answers sg s
  | .preemptSaveComplete, s => execPreemptSaveComplete_answers s
  | .tntPreemptRestore sg, s => execTntPreemptRestore_answers sg s
  | .restoreComplete, s => execRestoreComplete_answers s
  | .flr f, s => execFlr_answers f s
  | .dbSqTail n v, s => execDbSqTail_answers n v s
  | .dbCqHead n v, s => execDbCqHead_answers n v s
  | .stmEnSet n, s => execStmEnSet_answers n s
  | .stmEnClear n, s => ⟨_, exec_stmEnClear s n⟩
  | .stmFlush n, s => execStmFlush_answers n s
  | .stmResume n, s => ⟨_, exec_stmResume s n⟩
  | .stmSeqWrite n seq, s => ⟨_, exec_stmSeqWrite s n seq⟩
  | .tntFnStrmWrite f v, s => execTntFnStrmWrite_answers f v s
  | .tntFnPortWrite f v, s => execTntFnPortWrite_answers f v s
  | .descriptorFetch n hostErr badList, s => execDescriptorFetch_answers n hostErr badList s
  | .phaseRecheck n, s => ⟨_, exec_phaseRecheck s n⟩
  | .acceptCommit n bad lat, s => execAcceptCommit_answers n bad lat s
  | .nopItem n, s => execNopItem_answers n s
  | .runItem n badList, s => execRunItem_answers n badList s
  | .loadItem n badList, s => execLoadItem_answers n badList s
  | .unloadItem n, s => execUnloadItem_answers n s
  | .stepLimitReached n, s => execStepLimitReached_answers n s
  | .itemCoresEnded n, s => execItemCoresEnded_answers n s
  | .doneCommit n, s => execDoneCommit_answers n s
  | .coalesceTimeout n, s => execCoalesceTimeout_answers n s
  | .msixMergedSend f v, s => execMsixMergedSend_answers f v s
  | .budgetWindow f, s => ⟨_, exec_budgetWindow s f⟩
  | .detCtlLockWrite v, s => execDetCtlLockWrite_answers v s
  | .detLogCfgWrite sg v, s => execDetLogCfgWrite_answers sg v s
  | .detLogHeadWrite sg v, s => execDetLogHeadWrite_answers sg v s
  | .logTailAdvance sg hostErr, s => execLogTailAdvance_answers sg hostErr s
  | .detRplGo v, s => execDetRplGo_answers v s
  | .detRplAbort, s => execDetRplAbort_answers s
  | .replayItem hostErr, s => execReplayItem_answers hostErr s
  | .stopPointReached hit hostErr, s => execStopPointReached_answers hit hostErr s
  | .detTbLoRead, s => ⟨_, exec_detTbLoRead s⟩
  | .mTimeExchange, s => execMTimeExchange_answers s
  | .mTime w l sub exch t1 t2 t3 mpkg hops, s => execMTime_answers w l sub exch t1 t2 t3 mpkg hops s
  | .tbSyncTimeout, s => ⟨_, exec_tbSyncTimeout s⟩
  | .ppsEdge rising, s => execPpsEdge_answers rising s
  | .fabLnkEnWrite w l v, s => ⟨_, exec_fabLnkEnWrite s w l v⟩
  | .retrain w l, s => ⟨_, exec_retrain s w l⟩
  | .hwmclr w l, s => ⟨_, exec_hwmclr s w l⟩
  | .signalDetect w l lanes, s => execSignalDetect_answers w l lanes s
  | .trainingFrame w l ctl far, s => execTrainingFrame_answers w l ctl far s
  | .linkTimeLimit w l, s => execLinkTimeLimit_answers w l s
  | .linkRestartDelay w l, s => ⟨_, exec_linkRestartDelay s w l⟩
  | .blockReceive w l b, s => execBlockReceive_answers w l b s
  | .replayTimeout panel a b, s => execReplayTimeout_answers panel a b s
  | .configRecord w l r, s => execConfigRecord_answers w l r s
  | .linkLoss w l why, s => ⟨_, exec_linkLoss s w l why⟩
  | .holdExpiry w l, s => ⟨_, exec_holdExpiry s w l⟩
  | .panelTransfer a b bad cvc, s => execPanelTransfer_answers a b bad cvc s
  | .cellAgeDiscard node port pos, s => execCellAgeDiscard_answers node port pos s
  | .messageReassembled d i hit, s => execMessageReassembled_answers d i hit s
  | .responseMatch d i, s => execResponseMatch_answers d i s
  | .wheelRoute w port pos, s => execWheelRoute_answers w port pos s
  | .outputArbitrate node out, s => execOutputArbitrate_answers node out s
  | .eceDecrease d pkg, s => execEceDecrease_answers d pkg s
  | .rateIncrease d pkg, s => ⟨_, exec_rateIncrease s d pkg⟩
  | .mRoute w seq term ws, s => execMRoute_answers w seq term ws s
  | .mEpoch ep seq term n, s => execMEpoch_answers ep seq term n s
  | .drained w, s => ⟨_, exec_drained s w⟩
  | .epochRetire told, s => execEpochRetire_answers told s
  | .colStartMerge node gn, s => execColStartMerge_answers node gn s
  | .colDataReduce node gn i, s => execColDataReduce_answers node gn i s
  | .colGo node gn, s => execColGo_answers node gn s
  | .colDone node gn, s => execColDone_answers node gn s
  | .sigAdd d i, s => execSigAdd_answers d i s
  | .sigReset d i, s => execSigReset_answers d i s
  | .sigWait d i, s => execSigWait_answers d i s
  | .sigPoll d i, s => execSigPoll_answers d i s
  | .sigClose d, s => execSigClose_answers d s
  | .orderedAtomicPerform d sg hit, s => execOrderedAtomicPerform_answers d sg hit s
  | .enumFrameReceive f, s => execEnumFrameReceive_answers f s
  | .enumFrameSend, s => execEnumFrameSend_answers s
  | .klnEnumChainWrite c, s => execKlnEnumChainWrite_answers c s
  | .headStrap, s => execHeadStrap_answers s
  | .mHelloLink w l ws, s => execMHelloLink_answers w l ws s
  | .helloTimer w l, s => ⟨_, exec_helloTimer s w l⟩
  | .light pkg ep first term act stby period epoch, s => execLight_answers pkg ep first term act stby period epoch s
  | .lit pkg ep kind serial term fw, s => execLit_answers pkg ep kind serial term fw s
  | .join pkg w l j, s => execJoin_answers pkg w l j s
  | .lsr spkg origin part p, s => execLsr_answers spkg origin part p s
  | .lsrRefresh, s => ⟨_, exec_lsrRefresh s⟩
  | .quiet, s => ⟨_, exec_quiet s⟩
  | .election, s => execElection_answers s
  | .termreq t requester, s => execTermreq_answers t requester s
  | .grant spkg term, s => ⟨_, exec_grant s spkg term⟩
  | .deny spkg, s => ⟨_, exec_deny s spkg⟩
  | .witnessRetry, s => execWitnessRetry_answers s
  | .beat recv spkg, s => execBeat_answers recv spkg s
  | .beatTimeout, s => ⟨_, exec_beatTimeout s⟩
  | .mirror spkg num term m, s => execMirror_answers spkg num term m s
  | .mack spkg num, s => execMack_answers spkg num s
  | .sync copy, s => execSync_answers copy s
  | .swapTimer, s => ⟨_, exec_swapTimer s⟩
  | .swapnow, s => ⟨_, exec_swapnow s⟩
  | .handover spkg, s => ⟨_, exec_handover s spkg⟩
  | .abort spkg, s => ⟨_, exec_abort s spkg⟩
  | .commandResend pkg ep seq, s => execCommandResend_answers pkg ep seq s
  | .wickTimeout pkg ep, s => ⟨_, exec_wickTimeout s pkg ep⟩
  | .packageLost pkg, s => ⟨_, exec_packageLost s pkg⟩
  | .recomp, s => ⟨_, exec_recomp s⟩
  | .recompute us pps, s => execRecompute_answers us pps s
  | .rd32 ep seq term off, s => execRd32_answers ep seq term off s
  | .wr32 ep seq term off v, s => execWr32_answers ep seq term off v s
  | .term ep seq term act stby, s => execTerm_answers ep seq term act stby s
  | .down ep seq term, s => execDown_answers ep seq term s
  | .spmrd ep seq term cl, s => execSpmrd_answers ep seq term cl s
  | .mlist seq term ws, s => execMlist_answers seq term ws s
  | .grpw ep seq term ws, s => execGrpw_answers ep seq term ws s
  | .sgreq seq term ws, s => execSgreq_answers seq term ws s
  | .sgrel seq term ws, s => execSgrel_answers seq term ws s
  | .tparent seq term wheel link master hops mpkg, s => execTparent_answers seq term wheel link master hops mpkg s
  | .rsp pkg ep ws, s => execRsp_answers pkg ep ws s
  | .report e, s => execReport_answers e s
  | .rack ep num, s => ⟨_, exec_rack s ep num⟩
  | .sliceCreate c hostErr, s => ⟨_, exec_sliceCreate s c hostErr⟩
  | .sliceDestroy c, s => ⟨_, exec_sliceDestroy s c⟩
  | .sliceRecarve c hostErr, s => ⟨_, exec_sliceRecarve s c hostErr⟩
  | .groupCreate c hostErr, s => ⟨_, exec_groupCreate s c hostErr⟩
  | .groupDestroy c, s => ⟨_, exec_groupDestroy s c⟩
  | .mSnuff spkg slice origin number reason, s => execMSnuff_answers spkg slice origin number reason s
  | .snuffOrigin, s => execSnuffOrigin_answers s
  | .rstSnuffGo slice, s => execRstSnuffGo_answers slice s
  | .settleEnd job, s => ⟨_, exec_settleEnd s job⟩
  | .pilotSend ep, s => execPilotSend_answers ep s
  | .mPilot ep lit sick mask, s => execMPilot_answers ep lit sick mask s
  | .pilotPeriodMiss ep, s => ⟨_, exec_pilotPeriodMiss s ep⟩
  | .rungContextAbort ep, s => execRungContextAbort_answers ep s
  | .engineReset ep, s => execEngineReset_answers ep s
  | .saggarFlush ep, s => execSaggarFlush_answers ep s
  | .rungDieReset ep, s => execRungDieReset_answers ep s
  | .powerCycle, s => execPowerCycle_answers s
  | .dieReset d, s => execDieReset_answers d s
  | .emberDone d, s => ⟨_, exec_emberDone s d⟩
  | .emberAbandon d, s => ⟨_, exec_emberAbandon s d⟩
  | .resetHoldRelease d, s => execResetHoldRelease_answers d s
  | .dieSelfTest d bad dieBad, s => execDieSelfTest_answers d bad dieBad s
  | .dieResetTimeout d, s => ⟨_, exec_dieResetTimeout s d⟩
  | .rstDieReset d, s => execRstDieReset_answers d s
  | .rstDieFence d, s => execRstDieFence_answers d s
  | .coreFence c, s => execCoreFence_answers c s
  | .dieFence d, s => execDieFence_answers d s
  | .wheelFence w, s => execWheelFence_answers w s
  | .quantumSwitch c, s => execQuantumSwitch_answers c s
  | .yieldSwitch c, s => execYieldSwitch_answers c s
  | .rstRetValClr, s => ⟨_, exec_rstRetValClr s⟩
  | .rstEmbCtlGo, s => execRstEmbCtlGo_answers s
  | .kilnLockstepFault, s => execKilnLockstepFault_answers s
  | .kilnRestart, s => execKilnRestart_answers s
  | .spareMove blk count, s => ⟨_, exec_spareMove s blk count⟩
  | .pwrfailAssert, s => ⟨_, exec_pwrfailAssert s⟩
  | .pwrfailRelease, s => ⟨_, exec_pwrfailRelease s⟩
  | .pfrelCycle, s => execPfrelCycle_answers s
  | .inputUndervolt, s => ⟨_, exec_inputUndervolt s⟩
  | .inputOvervolt on, s => ⟨_, exec_inputOvervolt s on⟩
  | .railOutOfLimits rail on, s => ⟨_, exec_railOutOfLimits s rail on⟩
  | .journalRecovery bad, s => execJournalRecovery_answers bad s
  | .recCell spkg r, s => execRec_answers spkg r s
  | .jrnlAck spkg n seq kind status, s => execJrnlAck_answers spkg n seq kind status s
  | .jrnlDone spkg n c, s => execJrnlDone_answers spkg n c s
  | .jrnlState spkg n seq mode state, s => execJrnlState_answers spkg n seq mode state s
  | .jrnlBeat, s => ⟨_, exec_jrnlBeat s⟩
  | .query spkg n seq, s => execQuery_answers spkg n seq s
  | .syncreq spkg, s => execSyncreq_answers spkg s
  | .syncend spkg count, s => execSyncend_answers spkg count s
  | .jrnlResend i, s => execJrnlResend_answers i s
  | .twinlost, s => execTwinlost_answers s
  | .solo, s => ⟨_, exec_solo s⟩
  | .rejoin, s => execRejoin_answers s
  | .sgCreate c, s => execSgCreate_answers c s
  | .sgDestroy c, s => execSgDestroy_answers c s
  | .rekey c, s => execRekey_answers c s
  | .zeroise c, s => execZeroise_answers c s
  | .pkeyUpdate c hostErr, s => execPkeyUpdate_answers c hostErr s
  | .fwUpdate c hostErr, s => execFwUpdate_answers c hostErr s
  | .svnCommit c, s => execSvnCommit_answers c s
  | .keyDrainErase sg, s => execKeyDrainErase_answers sg s
  | .tntSgBindWrite n v, s => ⟨_, exec_tntSgBindWrite s n v⟩
  | .getVersion f, s => execGetVersion_answers f s
  | .getCapabilities f, s => execGetCapabilities_answers f s
  | .negotiateAlgorithms f, s => execNegotiateAlgorithms_answers f s
  | .getDigests f, s => execGetDigests_answers f s
  | .getCertificate f slot off len, s => execGetCertificate_answers f slot off len s
  | .challenge f slot nonce, s => execChallenge_answers f slot nonce s
  | .getMeasurements f op, s => execGetMeasurements_answers f op s
  | .keyExchange f req, s => execKeyExchange_answers f req s
  | .finish f id macOk, s => execFinish_answers f id macOk s
  | .heartbeat f id, s => execHeartbeat_answers f id s
  | .keyUpdate f id op, s => execKeyUpdate_answers f id op s
  | .endSession f id, s => execEndSession_answers f id s
  | .ideKm f id port strm set1, s => execIdeKm_answers f id port strm set1 s
  | .recoveryBundle b, s => ⟨_, exec_recoveryBundle s b⟩
  | .mbxBind c v, s => execMbxBind_answers c v s
  | .mbxLock hi v, s => ⟨_, exec_mbxLock s hi v⟩
  | .mbxPayWrite c k mid v, s => execMbxPayWrite_answers c k mid v s
  | .mbxDbSet c mid v, s => execMbxDbSet_answers c mid v s
  | .mbxDbPend c mid v, s => execMbxDbPend_answers c mid v s
  | .mbxDbMask c mid v, s => execMbxDbMask_answers c mid v s
  | .mbxAckCode c mid code, s => execMbxAckCode_answers c mid code s
  | .mbxAckValidClear c mid, s => execMbxAckValidClear_answers c mid s
  | .partyLost mid, s => ⟨_, exec_partyLost s mid⟩
  | .sherdExport c hostErr, s => execSherdExport_answers c hostErr s
  | .errorLineFrame die frame, s => execErrorLineFrame_answers die frame s
  | .lineFault die stuck present, s => execLineFault_answers die stuck present s
  | .faultEvent ctl detail, s => execFaultEvent_answers ctl detail s
  | .sramWriteback c b, s => ⟨_, exec_sramWriteback s c b⟩
  | .detailTimeout, s => execDetailTimeout_answers s
  | .fltSrcStatClear w v, s => ⟨_, exec_fltSrcStatClear s w v⟩
  | .capvClear, s => ⟨_, exec_capvClear s⟩
  | .fltInjGo v, s => execFltInjGo_answers v s
  | .haltChannelChange b on, s => execHaltChannelChange_answers b on s
  | .haltDisc, s => execHaltDisc_answers s
  | .haltAssert, s => ⟨_, exec_haltAssert s⟩
  | .haltRelease, s => ⟨_, exec_haltRelease s⟩
  | .haltResume, s => execHaltResume_answers s
  | .mgpFrameReceive b fcsOk, s => execMgpFrameReceive_answers b fcsOk s
  | .kmpAck, s => execKmpAck_answers s
  | .kmpResend seq, s => execKmpResend_answers seq s
  | .telem, s => ⟨_, exec_telem s⟩
  | .patchunk, s => execPatchunk_answers s
  | .patternStageTimeout, s => ⟨_, exec_patternStageTimeout s⟩
  | .kmpTermreq, s => ⟨_, exec_kmpTermreq s⟩
  | .kmpGrant, s => execKmpGrant_answers s
  | .kmpDeny, s => execKmpDeny_answers s
  | .transientWindow, s => ⟨_, exec_transientWindow s⟩
  | .fieldTestStart d, s => execFieldTestStart_answers d s
  | .fieldTestEnd d, s => execFieldTestEnd_answers d s
  | .fieldTestAbort d cl pos, s => ⟨_, exec_fieldTestAbort s d cl pos⟩
  | .ftnow, s => ⟨_, exec_ftnow s⟩
  | .tstInjGo v, s => execTstInjGo_answers v s
  | .capLoop pin vin, s => execCapLoop_answers pin vin s
  | .thermalThrottle d tj, s => execThermalThrottle_answers d tj s
  | .therm d, s => ⟨_, exec_therm s d⟩
  | .pwrRailVsetWrite d v, s => execPwrRailVsetWrite_answers d v s
  | .powerStateSelect, s => execPowerStateSelect_answers s
  | .wakeEvent w, s => ⟨_, exec_wakeEvent s w⟩
  | .pwrLtrWrite f v, s => ⟨_, exec_pwrLtrWrite s f v⟩
  | .pwrPeerTolWrite v, s => ⟨_, exec_pwrPeerTolWrite s v⟩
  | .pwrCtlWake, s => ⟨_, exec_pwrCtlWake s⟩
  | .pwrCtlHold on, s => ⟨_, exec_pwrCtlHold s on⟩
  | .perstAssert hp1, s => ⟨_, exec_perstAssert s hp1⟩
  | .perstDeassert hp1, s => ⟨_, exec_perstDeassert s hp1⟩
  | .mrstN low, s => execMrstN_answers low s
  | .refclkLoss on, s => ⟨_, exec_refclkLoss s on⟩
  | .entdaa a, s => ⟨_, exec_entdaa s a⟩
  | .setnewda a, s => ⟨_, exec_setnewda s a⟩
  | .rstdaa, s => ⟨_, exec_rstdaa s⟩
  | .getpid, s => ⟨_, exec_getpid s⟩
  | .getbcr, s => ⟨_, exec_getbcr s⟩
  | .getdcr, s => ⟨_, exec_getdcr s⟩
  | .getstatus, s => ⟨_, exec_getstatus s⟩
  | .i3cRegisterRead off pecOk, s => execI3cRegisterRead_answers off pecOk s
  | .i3cRegisterWrite off v pecOk, s => execI3cRegisterWrite_answers off v pecOk s
  | .mctpPacket b pecOk, s => execMctpPacket_answers b pecOk s
  | .sgmiiAutoneg speed full, s => ⟨_, exec_sgmiiAutoneg s speed full⟩
  | .startUp n bad badPos, s => execStartUp_answers n bad badPos s
  | .registerWrite t v, s => execRegisterWrite_answers t v s
  | .clusterMemoryServe d cl b ecc, s => ⟨_, exec_clusterMemoryServe s d cl b ecc⟩
  | .hostPortLinkDown hp1, s => ⟨_, exec_hostPortLinkDown s hp1⟩
  | .hostPortLinkUp hp1, s => execHostPortLinkUp_answers hp1 s
  | .ppsLost, s => execPpsLost_answers s
  | .swapDeferRetry, s => ⟨_, exec_swapDeferRetry s⟩
  | .handoverTimeout, s => execHandoverTimeout_answers s
  | .jrnlBeatReceive spkg pst runner solo named, s => execJrnlBeatReceive_answers spkg pst runner solo named s
  | .emberCopyDone hostErr, s => execEmberCopyDone_answers hostErr s
  | .mrstNReset, s => execMrstNReset_answers s

/-- Settles O4: the outcome of each command is `.next`, in every branch of its meaning. -/
theorem everyCommandAnswersANextState : Obligations.EveryCommandAnswersANextState := exec_answers

end Sys2Proof.Machine

/-! PROOF. What every command keeps: the queue of waiting commands and the identity registers (spec/00_scope.md R13). -/

namespace Sys2Proof.Machine

/-- The invariant of every step, command by command, from the laws of Laws/Kept*.lean. -/
theorem exec_kept (i : Instr) (s : State) (hf : Fused s) : outKept (kept s) (exec i s) := by
  cases i with
  | nop c w => exact execNop_kept c w s rfl
  | add c w => exact execAdd_kept c w s rfl
  | sub c w => exact execSub_kept c w s rfl
  | and c w => exact execAnd_kept c w s rfl
  | or c w => exact execOr_kept c w s rfl
  | xor c w => exact execXor_kept c w s rfl
  | shl c w => exact execShl_kept c w s rfl
  | shr c w => exact execShr_kept c w s rfl
  | sra c w => exact execSra_kept c w s rfl
  | slt c w => exact execSlt_kept c w s rfl
  | sltu c w => exact execSltu_kept c w s rfl
  | seq c w => exact execSeq_kept c w s rfl
  | min c w => exact execMin_kept c w s rfl
  | max c w => exact execMax_kept c w s rfl
  | movi c w => exact execMovi_kept c w s rfl
  | movh c w => exact execMovh_kept c w s rfl
  | mul c w => exact execMul_kept c w s rfl
  | mulh c w => exact execMulh_kept c w s rfl
  | mulhu c w => exact execMulhu_kept c w s rfl
  | div c w => exact execDiv_kept c w s rfl
  | divu c w => exact execDivu_kept c w s rfl
  | rem c w => exact execRem_kept c w s rfl
  | remu c w => exact execRemu_kept c w s rfl
  | popc c w => exact execPopc_kept c w s rfl
  | ctz c w => exact execCtz_kept c w s rfl
  | beq c w => exact execBeq_kept c w s rfl
  | bne c w => exact execBne_kept c w s rfl
  | blt c w => exact execBlt_kept c w s rfl
  | bge c w => exact execBge_kept c w s rfl
  | bltu c w => exact execBltu_kept c w s rfl
  | bgeu c w => exact execBgeu_kept c w s rfl
  | jal c w => exact execJal_kept c w s rfl
  | jr c w => exact execJr_kept c w s rfl
  | halt c w => exact execHalt_kept c w s rfl
  | brk c w => exact execBrk_kept c w s rfl
  | stepw c w => exact execStepw_kept c w s rfl
  | tctlResume c w => exact execTctlResume_kept c w s rfl
  | tctlStop c w => exact execTctlStop_kept c w s rfl
  | tctlRead c w => exact execTctlRead_kept c w s rfl
  | tctlReadXpc c w => exact execTctlReadXpc_kept c w s rfl
  | tctlReadXinfo c w => exact execTctlReadXinfo_kept c w s rfl
  | ld c w => exact execLd_kept c w s rfl
  | st c w => exact execSt_kept c w s rfl
  | vld c w => exact execVld_kept c w s rfl
  | vst c w => exact execVst_kept c w s rfl
  | vstm c w => exact execVstm_kept c w s rfl
  | lnld c w => exact execLnld_kept c w s rfl
  | lnst c w => exact execLnst_kept c w s rfl
  | fence c w => exact execFence_kept c w s rfl
  | mma c w => exact execMma_kept c w s rfl
  | wflush c w => exact execWflush_kept c w s rfl
  | rstore c w => exact execRstore_kept c w s rfl
  | xstore c w => exact execXstore_kept c w s rfl
  | spget c w => exact execSpget_kept c w s rfl
  | spadd c w => exact execSpadd_kept c w s rfl
  | mclr c w => exact execMclr_kept c w s rfl
  | lnadd c w => exact execLnadd_kept c w s rfl
  | lnmov c w => exact execLnmov_kept c w s rfl
  | lnclr c w => exact execLnclr_kept c w s rfl
  | lnneg c w => exact execLnneg_kept c w s rfl
  | lnlane c w => exact execLnlane_kept c w s rfl
  | lnrnd c w => exact execLnrnd_kept c w s rfl
  | vadd c w => exact execVadd_kept c w s rfl
  | vsub c w => exact execVsub_kept c w s rfl
  | vmul c w => exact execVmul_kept c w s rfl
  | vfma c w => exact execVfma_kept c w s rfl
  | vmin c w => exact execVmin_kept c w s rfl
  | vmax c w => exact execVmax_kept c w s rfl
  | vcvt c w => exact execVcvt_kept c w s rfl
  | viadd c w => exact execViadd_kept c w s rfl
  | vimul c w => exact execVimul_kept c w s rfl
  | vbcast c w => exact execVbcast_kept c w s rfl
  | vlane c w => exact execVlane_kept c w s rfl
  | vidx c w => exact execVidx_kept c w s rfl
  | vfn c w => exact execVfn_kept c w s rfl
  | vcmp c w => exact execVcmp_kept c w s rfl
  | vsel c w => exact execVsel_kept c w s rfl
  | vgath c w => exact execVgath_kept c w s rfl
  | vscat c w => exact execVscat_kept c w s rfl
  | vscadd c w => exact execVscadd_kept c w s rfl
  | xscadd c w => exact execXscadd_kept c w s rfl
  | dma c w => exact execDma_kept c w s rfl
  | signal c w => exact execSignal_kept c w s rfl
  | wait c w => exact execWait_kept c w s rfl
  | sreset c w => exact execSreset_kept c w s rfl
  | spoll c w => exact execSpoll_kept c w s rfl
  | frd c w => exact execFrd_kept c w s rfl
  | fwr c w => exact execFwr_kept c w s rfl
  | fatomAdd64 c w => exact execFatomAdd64_kept c w s rfl
  | fatomSwap64 c w => exact execFatomSwap64_kept c w s rfl
  | fatomCas64 c w => exact execFatomCas64_kept c w s rfl
  | fatomMin64 c w => exact execFatomMin64_kept c w s rfl
  | fatomMax64 c w => exact execFatomMax64_kept c w s rfl
  | fatomXadd c w => exact execFatomXadd_kept c w s rfl
  | send c w => exact execSend_kept c w s rfl
  | recv c w => exact execRecv_kept c w s rfl
  | probe c w => exact execProbe_kept c w s rfl
  | collAllreduce c w => exact execCollAllreduce_kept c w s rfl
  | collReduce c w => exact execCollReduce_kept c w s rfl
  | collReducescatter c w => exact execCollReducescatter_kept c w s rfl
  | collBroadcast c w => exact execCollBroadcast_kept c w s rfl
  | collAllgather c w => exact execCollAllgather_kept c w s rfl
  | collBarrier c w => exact execCollBarrier_kept c w s rfl
  | collAlltoall c w => exact execCollAlltoall_kept c w s rfl
  | rand c w => exact execRand_kept c w s rfl
  | vrand c w => exact execVrand_kept c w s rfl
  | steprd c w => exact execSteprd_kept c w s rfl
  | tbrd c w => exact execTbrd_kept c w s rfl
  | flags c w => exact execFlags_kept c w s rfl
  | tdw c w => exact execTdw_kept c w s rfl
  | tdr c w => exact execTdr_kept c w s rfl
  | bubble c => exact execBubble_kept c s rfl
  | resultArrival c issue => exact execResultArrival_kept c issue s rfl
  | gatedDelivery c => exact execGatedDelivery_kept c s rfl
  | scratchpadGrant c b ecc => exact execScratchpadGrant_kept c b ecc s rfl
  | externalWrite c b => exact execExternalWrite_kept c b s rfl
  | postedPerformed c issue => exact execPostedPerformed_kept c issue s rfl
  | mmaDispatch c e => exact execMmaDispatch_kept c e s rfl
  | feederFetch c e => exact execFeederFetch_kept c e s rfl
  | arrayStep c e => exact execArrayStep_kept c e s rfl
  | spillRetire c e => exact execSpillRetire_kept c e s rfl
  | wflushDispatch c e => exact execWflushDispatch_kept c e s rfl
  | wflushComplete c e => exact execWflushComplete_kept c e s rfl
  | rstoreDispatch c e => exact execRstoreDispatch_kept c e s rfl
  | xstoreDispatch c e => exact execXstoreDispatch_kept c e s rfl
  | resultWordWrite c b => exact execResultWordWrite_kept c b s rfl
  | engineOpDispatch c e => exact execEngineOpDispatch_kept c e s rfl
  | logicalCoreEnd c => exact execLogicalCoreEnd_kept c s rfl
  | repeatComplete c => exact execRepeatComplete_kept c s rfl
  | translateAccess id hit => exact execTranslateAccess_kept id hit s rfl
  | faultRetry tag => exact execFaultRetry_kept tag s rfl
  | faultRefuse tag => exact execFaultRefuse_kept tag s rfl
  | faultTimeout tag => exact execFaultTimeout_kept tag s rfl
  | mmuTwGo v => exact execMmuTwGo_kept v s rfl
  | tableWriterDone readOk => exact execTableWriterDone_kept readOk s rfl
  | dmaUnitWrite i hit hostErr => exact execDmaUnitWrite_kept i hit hostErr s rfl
  | dmaTransferComplete i => exact execDmaTransferComplete_kept i s rfl
  | dramSlot stack pc code ecc => exact execDramSlot_kept stack pc code ecc s rfl
  | dramExactAddWrite stack pc => exact execDramExactAddWrite_kept stack pc s rfl
  | rmwWrite stack pc => exact execRmwWrite_kept stack pc s rfl
  | initFill k => exact execInitFill_kept k s rfl
  | tntPreemptSave sg => exact execTntPreemptSave_kept sg s rfl
  | preemptSaveComplete => exact execPreemptSaveComplete_kept s rfl
  | tntPreemptRestore sg => exact execTntPreemptRestore_kept sg s rfl
  | restoreComplete => exact execRestoreComplete_kept s rfl
  | flr f => exact execFlr_kept f s rfl
  | dbSqTail n v => exact execDbSqTail_kept n v s rfl
  | dbCqHead n v => exact execDbCqHead_kept n v s rfl
  | stmEnSet n => exact execStmEnSet_kept n s rfl
  | stmEnClear n => exact execStmEnClear_kept n s rfl
  | stmFlush n => exact execStmFlush_kept n s rfl
  | stmResume n => exact execStmResume_kept n s rfl
  | stmSeqWrite n seq => exact execStmSeqWrite_kept n seq s rfl
  | tntFnStrmWrite f v => exact execTntFnStrmWrite_kept f v s rfl
  | tntFnPortWrite f v => exact execTntFnPortWrite_kept f v s rfl
  | descriptorFetch n hostErr badList => exact execDescriptorFetch_kept n hostErr badList s rfl
  | phaseRecheck n => exact execPhaseRecheck_kept n s rfl
  | acceptCommit n bad lat => exact execAcceptCommit_kept n bad lat s rfl
  | nopItem n => exact execNopItem_kept n s rfl
  | runItem n badList => exact execRunItem_kept n badList s rfl
  | loadItem n badList => exact execLoadItem_kept n badList s rfl
  | unloadItem n => exact execUnloadItem_kept n s rfl
  | stepLimitReached n => exact execStepLimitReached_kept n s rfl
  | itemCoresEnded n => exact execItemCoresEnded_kept n s rfl
  | doneCommit n => exact execDoneCommit_kept n s rfl
  | coalesceTimeout n => exact execCoalesceTimeout_kept n s rfl
  | msixMergedSend f v => exact execMsixMergedSend_kept f v s rfl
  | budgetWindow f => exact execBudgetWindow_kept f s rfl
  | detCtlLockWrite v => exact execDetCtlLockWrite_kept v s rfl
  | detLogCfgWrite sg v => exact execDetLogCfgWrite_kept sg v s rfl
  | detLogHeadWrite sg v => exact execDetLogHeadWrite_kept sg v s rfl
  | logTailAdvance sg hostErr => exact execLogTailAdvance_kept sg hostErr s rfl
  | detRplGo v => exact execDetRplGo_kept v s rfl
  | detRplAbort => exact execDetRplAbort_kept s rfl
  | replayItem hostErr => exact execReplayItem_kept hostErr s rfl
  | stopPointReached hit hostErr => exact execStopPointReached_kept hit hostErr s rfl
  | detTbLoRead => exact execDetTbLoRead_kept s rfl
  | mTimeExchange => exact execMTimeExchange_kept s rfl
  | mTime w l sub exch t1 t2 t3 mpkg hops => exact execMTime_kept w l sub exch t1 t2 t3 mpkg hops s rfl
  | tbSyncTimeout => exact execTbSyncTimeout_kept s rfl
  | ppsEdge rising => exact execPpsEdge_kept rising s rfl
  | fabLnkEnWrite w l v => exact execFabLnkEnWrite_kept w l v s rfl
  | retrain w l => exact execRetrain_kept w l s rfl
  | hwmclr w l => exact execHwmclr_kept w l s rfl
  | signalDetect w l lanes => exact execSignalDetect_kept w l lanes s rfl
  | trainingFrame w l ctl far => exact execTrainingFrame_kept w l ctl far s rfl
  | linkTimeLimit w l => exact execLinkTimeLimit_kept w l s rfl
  | linkRestartDelay w l => exact execLinkRestartDelay_kept w l s rfl
  | blockReceive w l b => exact execBlockReceive_kept w l b s rfl
  | replayTimeout panel a b => exact execReplayTimeout_kept panel a b s rfl
  | configRecord w l r => exact execConfigRecord_kept w l r s rfl
  | linkLoss w l why => exact execLinkLoss_kept w l why s rfl
  | holdExpiry w l => exact execHoldExpiry_kept w l s rfl
  | panelTransfer a b bad cvc => exact execPanelTransfer_kept a b bad cvc s rfl
  | cellAgeDiscard node port pos => exact execCellAgeDiscard_kept node port pos s rfl
  | messageReassembled d i hit => exact execMessageReassembled_kept d i hit s rfl
  | responseMatch d i => exact execResponseMatch_kept d i s rfl
  | wheelRoute w port pos => exact execWheelRoute_kept w port pos s rfl
  | outputArbitrate node out => exact execOutputArbitrate_kept node out s rfl
  | eceDecrease d pkg => exact execEceDecrease_kept d pkg s rfl
  | rateIncrease d pkg => exact execRateIncrease_kept d pkg s rfl
  | mRoute w seq term ws => exact execMRoute_kept w seq term ws s rfl
  | mEpoch ep seq term n => exact execMEpoch_kept ep seq term n s rfl
  | drained w => exact execDrained_kept w s rfl
  | epochRetire told => exact execEpochRetire_kept told s rfl
  | colStartMerge node gn => exact execColStartMerge_kept node gn s rfl
  | colDataReduce node gn i => exact execColDataReduce_kept node gn i s rfl
  | colGo node gn => exact execColGo_kept node gn s rfl
  | colDone node gn => exact execColDone_kept node gn s rfl
  | sigAdd d i => exact execSigAdd_kept d i s rfl
  | sigReset d i => exact execSigReset_kept d i s rfl
  | sigWait d i => exact execSigWait_kept d i s rfl
  | sigPoll d i => exact execSigPoll_kept d i s rfl
  | sigClose d => exact execSigClose_kept d s rfl
  | orderedAtomicPerform d sg hit => exact execOrderedAtomicPerform_kept d sg hit s rfl
  | enumFrameReceive f => exact execEnumFrameReceive_kept f s rfl
  | enumFrameSend => exact execEnumFrameSend_kept s rfl
  | klnEnumChainWrite c => exact execKlnEnumChainWrite_kept c s rfl
  | headStrap => exact execHeadStrap_kept s rfl
  | mHelloLink w l ws => exact execMHelloLink_kept w l ws s rfl
  | helloTimer w l => exact execHelloTimer_kept w l s rfl
  | light pkg ep first term act stby period epoch => exact execLight_kept pkg ep first term act stby period epoch s rfl
  | lit pkg ep kind serial term fw => exact execLit_kept pkg ep kind serial term fw s rfl
  | join pkg w l j => exact execJoin_kept pkg w l j s rfl
  | lsr spkg origin part p => exact execLsr_kept spkg origin part p s rfl
  | lsrRefresh => exact execLsrRefresh_kept s rfl
  | quiet => exact execQuiet_kept s rfl
  | election => exact execElection_kept s rfl
  | termreq t requester => exact execTermreq_kept t requester s rfl
  | grant spkg term => exact execGrant_kept spkg term s rfl
  | deny spkg => exact execDeny_kept spkg s rfl
  | witnessRetry => exact execWitnessRetry_kept s rfl
  | beat recv spkg => exact execBeat_kept recv spkg s rfl
  | beatTimeout => exact execBeatTimeout_kept s rfl
  | mirror spkg num term m => exact execMirror_kept spkg num term m s rfl
  | mack spkg num => exact execMack_kept spkg num s rfl
  | sync copy => exact execSync_kept copy s rfl
  | swapTimer => exact execSwapTimer_kept s rfl
  | swapnow => exact execSwapnow_kept s rfl
  | handover spkg => exact execHandover_kept spkg s rfl
  | abort spkg => exact execAbort_kept spkg s rfl
  | commandResend pkg ep seq => exact execCommandResend_kept pkg ep seq s rfl
  | wickTimeout pkg ep => exact execWickTimeout_kept pkg ep s rfl
  | packageLost pkg => exact execPackageLost_kept pkg s rfl
  | recomp => exact execRecomp_kept s rfl
  | recompute us pps => exact execRecompute_kept us pps s rfl
  | rd32 ep seq term off => exact execRd32_kept ep seq term off s rfl
  | wr32 ep seq term off v => exact execWr32_kept ep seq term off v s rfl
  | term ep seq term act stby => exact execTerm_kept ep seq term act stby s rfl
  | down ep seq term => exact execDown_kept ep seq term s rfl
  | spmrd ep seq term cl => exact execSpmrd_kept ep seq term cl s rfl
  | mlist seq term ws => exact execMlist_kept seq term ws s rfl
  | grpw ep seq term ws => exact execGrpw_kept ep seq term ws s rfl
  | sgreq seq term ws => exact execSgreq_kept seq term ws s rfl
  | sgrel seq term ws => exact execSgrel_kept seq term ws s rfl
  | tparent seq term wheel link master hops mpkg => exact execTparent_kept seq term wheel link master hops mpkg s rfl
  | rsp pkg ep ws => exact execRsp_kept pkg ep ws s rfl
  | report e => exact execReport_kept e s rfl
  | rack ep num => exact execRack_kept ep num s rfl
  | sliceCreate c hostErr => exact execSliceCreate_kept c hostErr s rfl
  | sliceDestroy c => exact execSliceDestroy_kept c s rfl
  | sliceRecarve c hostErr => exact execSliceRecarve_kept c hostErr s rfl
  | groupCreate c hostErr => exact execGroupCreate_kept c hostErr s rfl
  | groupDestroy c => exact execGroupDestroy_kept c s rfl
  | mSnuff spkg slice origin number reason => exact execMSnuff_kept spkg slice origin number reason s rfl
  | snuffOrigin => exact execSnuffOrigin_kept s rfl
  | rstSnuffGo slice => exact execRstSnuffGo_kept slice s rfl
  | settleEnd job => exact execSettleEnd_kept job s rfl
  | pilotSend ep => exact execPilotSend_kept ep s rfl
  | mPilot ep lit sick mask => exact execMPilot_kept ep lit sick mask s rfl
  | pilotPeriodMiss ep => exact execPilotPeriodMiss_kept ep s rfl
  | rungContextAbort ep => exact execRungContextAbort_kept ep s rfl
  | engineReset ep => exact execEngineReset_kept ep s rfl
  | saggarFlush ep => exact execSaggarFlush_kept ep s rfl
  | rungDieReset ep => exact execRungDieReset_kept ep s rfl
  | powerCycle => exact execPowerCycle_kept s rfl
  | dieReset d => exact execDieReset_kept d s rfl
  | emberDone d => exact execEmberDone_kept d s rfl
  | emberAbandon d => exact execEmberAbandon_kept d s rfl
  | resetHoldRelease d => exact execResetHoldRelease_kept d s rfl
  | dieSelfTest d bad dieBad => exact execDieSelfTest_kept d bad dieBad s rfl
  | dieResetTimeout d => exact execDieResetTimeout_kept d s rfl
  | rstDieReset d => exact execRstDieReset_kept d s rfl
  | rstDieFence d => exact execRstDieFence_kept d s rfl
  | coreFence c => exact execCoreFence_kept c s rfl
  | dieFence d => exact execDieFence_kept d s rfl
  | wheelFence w => exact execWheelFence_kept w s rfl
  | quantumSwitch c => exact execQuantumSwitch_kept c s rfl
  | yieldSwitch c => exact execYieldSwitch_kept c s rfl
  | rstRetValClr => exact execRstRetValClr_kept s rfl
  | rstEmbCtlGo => exact execRstEmbCtlGo_kept s rfl
  | kilnLockstepFault => exact execKilnLockstepFault_kept s rfl
  | kilnRestart => exact execKilnRestart_kept s rfl
  | spareMove blk count => exact execSpareMove_kept blk count s rfl
  | pwrfailAssert => exact execPwrfailAssert_kept s rfl
  | pwrfailRelease => exact execPwrfailRelease_kept s rfl
  | pfrelCycle => exact execPfrelCycle_kept s rfl
  | inputUndervolt => exact execInputUndervolt_kept s rfl
  | inputOvervolt on => exact execInputOvervolt_kept on s rfl
  | railOutOfLimits rail on => exact execRailOutOfLimits_kept rail on s rfl
  | journalRecovery bad => exact execJournalRecovery_kept bad s rfl
  | recCell spkg r => exact execRec_kept spkg r s rfl
  | jrnlAck spkg n seq kind status => exact execJrnlAck_kept spkg n seq kind status s rfl
  | jrnlDone spkg n c => exact execJrnlDone_kept spkg n c s rfl
  | jrnlState spkg n seq mode state => exact execJrnlState_kept spkg n seq mode state s rfl
  | jrnlBeat => exact execJrnlBeat_kept s rfl
  | query spkg n seq => exact execQuery_kept spkg n seq s rfl
  | syncreq spkg => exact execSyncreq_kept spkg s rfl
  | syncend spkg count => exact execSyncend_kept spkg count s rfl
  | jrnlResend i => exact execJrnlResend_kept i s rfl
  | twinlost => exact execTwinlost_kept s rfl
  | solo => exact execSolo_kept s rfl
  | rejoin => exact execRejoin_kept s rfl
  | sgCreate c => exact execSgCreate_kept c s rfl
  | sgDestroy c => exact execSgDestroy_kept c s rfl
  | rekey c => exact execRekey_kept c s rfl
  | zeroise c => exact execZeroise_kept c s rfl
  | pkeyUpdate c hostErr => exact execPkeyUpdate_kept c hostErr s rfl
  | fwUpdate c hostErr => exact execFwUpdate_kept c hostErr s rfl
  | svnCommit c => exact execSvnCommit_kept c s rfl
  | keyDrainErase sg => exact execKeyDrainErase_kept sg s rfl
  | tntSgBindWrite n v => exact execTntSgBindWrite_kept n v s rfl
  | getVersion f => exact execGetVersion_kept f s rfl
  | getCapabilities f => exact execGetCapabilities_kept f s rfl
  | negotiateAlgorithms f => exact execNegotiateAlgorithms_kept f s rfl
  | getDigests f => exact execGetDigests_kept f s rfl
  | getCertificate f slot off len => exact execGetCertificate_kept f slot off len s rfl
  | challenge f slot nonce => exact execChallenge_kept f slot nonce s rfl
  | getMeasurements f op => exact execGetMeasurements_kept f op s rfl
  | keyExchange f req => exact execKeyExchange_kept f req s rfl
  | finish f id macOk => exact execFinish_kept f id macOk s rfl
  | heartbeat f id => exact execHeartbeat_kept f id s rfl
  | keyUpdate f id op => exact execKeyUpdate_kept f id op s rfl
  | endSession f id => exact execEndSession_kept f id s rfl
  | ideKm f id port strm set1 => exact execIdeKm_kept f id port strm set1 s rfl
  | recoveryBundle b => exact execRecoveryBundle_kept b s rfl
  | mbxBind c v => exact execMbxBind_kept c v s rfl
  | mbxLock hi v => exact execMbxLock_kept hi v s rfl
  | mbxPayWrite c k mid v => exact execMbxPayWrite_kept c k mid v s rfl
  | mbxDbSet c mid v => exact execMbxDbSet_kept c mid v s rfl
  | mbxDbPend c mid v => exact execMbxDbPend_kept c mid v s rfl
  | mbxDbMask c mid v => exact execMbxDbMask_kept c mid v s rfl
  | mbxAckCode c mid code => exact execMbxAckCode_kept c mid code s rfl
  | mbxAckValidClear c mid => exact execMbxAckValidClear_kept c mid s rfl
  | partyLost mid => exact execPartyLost_kept mid s rfl
  | sherdExport c hostErr => exact execSherdExport_kept c hostErr s rfl
  | errorLineFrame die frame => exact execErrorLineFrame_kept die frame s rfl
  | lineFault die stuck present => exact execLineFault_kept die stuck present s rfl
  | faultEvent ctl detail => exact execFaultEvent_kept ctl detail s rfl
  | sramWriteback c b => exact execSramWriteback_kept c b s rfl
  | detailTimeout => exact execDetailTimeout_kept s rfl
  | fltSrcStatClear w v => exact execFltSrcStatClear_kept w v s rfl
  | capvClear => exact execCapvClear_kept s rfl
  | fltInjGo v => exact execFltInjGo_kept v s rfl
  | haltChannelChange b on => exact execHaltChannelChange_kept b on s rfl
  | haltDisc => exact execHaltDisc_kept s rfl
  | haltAssert => exact execHaltAssert_kept s rfl
  | haltRelease => exact execHaltRelease_kept s rfl
  | haltResume => exact execHaltResume_kept s rfl
  | mgpFrameReceive b fcsOk => exact execMgpFrameReceive_kept b fcsOk s rfl
  | kmpAck => exact execKmpAck_kept s rfl
  | kmpResend seq => exact execKmpResend_kept seq s rfl
  | telem => exact execTelem_kept s rfl
  | patchunk => exact execPatchunk_kept s rfl
  | patternStageTimeout => exact execPatternStageTimeout_kept s rfl
  | kmpTermreq => exact execKmpTermreq_kept s rfl
  | kmpGrant => exact execKmpGrant_kept s rfl
  | kmpDeny => exact execKmpDeny_kept s rfl
  | transientWindow => exact execTransientWindow_kept s rfl
  | fieldTestStart d => exact execFieldTestStart_kept d s rfl
  | fieldTestEnd d => exact execFieldTestEnd_kept d s rfl
  | fieldTestAbort d cl pos => exact execFieldTestAbort_kept d cl pos s rfl
  | ftnow => exact execFtnow_kept s rfl
  | tstInjGo v => exact execTstInjGo_kept v s rfl
  | capLoop pin vin => exact execCapLoop_kept pin vin s rfl
  | thermalThrottle d tj => exact execThermalThrottle_kept d tj s rfl
  | therm d => exact execTherm_kept d s rfl
  | pwrRailVsetWrite d v => exact execPwrRailVsetWrite_kept d v s rfl
  | powerStateSelect => simp [exec_powerStateSelect]
  | wakeEvent w => exact execWakeEvent_kept w s rfl
  | pwrLtrWrite f v => exact execPwrLtrWrite_kept f v s rfl
  | pwrPeerTolWrite v => exact execPwrPeerTolWrite_kept v s rfl
  | pwrCtlWake => exact execPwrCtlWake_kept s rfl
  | pwrCtlHold on => exact execPwrCtlHold_kept on s rfl
  | perstAssert hp1 => exact execPerstAssert_kept hp1 s rfl
  | perstDeassert hp1 => exact execPerstDeassert_kept hp1 s rfl
  | mrstN low => exact execMrstN_kept low s hf rfl
  | refclkLoss on => exact execRefclkLoss_kept on s rfl
  | entdaa a => exact execEntdaa_kept a s rfl
  | setnewda a => exact execSetnewda_kept a s rfl
  | rstdaa => exact execRstdaa_kept s rfl
  | getpid => exact execGetpid_kept s rfl
  | getbcr => exact execGetbcr_kept s rfl
  | getdcr => exact execGetdcr_kept s rfl
  | getstatus => exact execGetstatus_kept s rfl
  | i3cRegisterRead off pecOk => exact execI3cRegisterRead_kept off pecOk s rfl
  | i3cRegisterWrite off v pecOk => exact execI3cRegisterWrite_kept off v pecOk s rfl
  | mctpPacket b pecOk => exact execMctpPacket_kept b pecOk s rfl
  | sgmiiAutoneg speed full => exact execSgmiiAutoneg_kept speed full s rfl
  | startUp n bad badPos => exact execStartUp_kept n bad badPos s hf rfl
  | registerWrite t v => exact execRegisterWrite_kept t v s rfl
  | clusterMemoryServe d cl b ecc => exact execClusterMemoryServe_kept d cl b ecc s rfl
  | hostPortLinkDown hp1 => exact execHostPortLinkDown_kept hp1 s rfl
  | hostPortLinkUp hp1 => exact execHostPortLinkUp_kept hp1 s rfl
  | ppsLost => exact execPpsLost_kept s rfl
  | swapDeferRetry => exact execSwapDeferRetry_kept s rfl
  | handoverTimeout => exact execHandoverTimeout_kept s rfl
  | jrnlBeatReceive spkg pst runner solo named => exact execJrnlBeatReceive_kept spkg pst runner solo named s rfl
  | emberCopyDone hostErr => exact execEmberCopyDone_kept hostErr s rfl
  | mrstNReset => exact execMrstNReset_kept s hf rfl

theorem fuses_eq_nil_of_kept {s t : State} (hs : Fused s) (h : kept t = kept s) : Fused t :=
  (congrArg Prod.snd h).trans hs

theorem exec_next_kept {i : Instr} {s t : State} (hs : Fused s) (h : exec i s = .next t) : kept t = kept s := by
  have hkept := exec_kept i s hs
  rwa [h] at hkept

/-- Settles O6: no command touches `pending` or a register below 0x10000 (a module reset leaves none listed). -/
theorem commandsLeaveTheQueue : Obligations.CommandsLeaveTheQueue := by
  unfold Obligations.CommandsLeaveTheQueue
  intro i s t hs h
  have hkept := exec_next_kept hs h
  exact ⟨congrArg Prod.fst hkept, fuses_eq_nil_of_kept hs hkept⟩

/-- Settles O5: a step performs a command or is a tick, and both keep the identity registers. -/
theorem everyStepKeepsTheFusedRegisters : Obligations.EveryStepKeepsTheFusedRegisters := by
  unfold Obligations.EveryStepKeepsTheFusedRegisters
  intro s t hs h
  cases hq : s.pending with
  | nil =>
    rw [step_nil hq] at h
    obtain rfl := Host.Outcome.next.inj h
    exact fuses_eq_nil_of_kept hs (tick_kept s)
  | cons i rest =>
    rw [step_cons hq] at h
    have hrest : Fused { s with pending := rest } := hs
    exact fuses_eq_nil_of_kept hrest (exec_next_kept hrest h)
end Sys2Proof.Machine

/-! PROOF. The issue of an operation (spec/05_operation_set.md R135 to R139): the conditions of `opCmd_issue` in the forms in which the
statements give them. -/

namespace Sys2Proof.Machine

/-! ### Registers that an earlier operation may still write (R137) -/

theorem regsFree_mono {s : State} {c : Nat} {l m : List RegName} (h : RegsFree s c l) (hsub : m ⊆ l) : RegsFree s c m :=
  fun r hr => h r (hsub hr)

theorem regsFree_nil (s : State) (c : Nat) : RegsFree s c [] := fun _ h => absurd h List.not_mem_nil

/-! ### An operation that goes on at PC + 8 -/

section
variable {b : Body} {op c : Nat} {md : Option Nat} {w : OpWord} {s : State} {k : Core} {rs : List OutReq}

theorem opCmd_issuedOut (h : OpAt op c w s) (hmd : (md.all fun m => m == w.md.toNat) = true)
    (hreads : RegsFree s c (b.reads w)) (hwrites : RegsFree s c (b.writes w))
    (hlegal : b.illegal (ctxNow s c) (coreNext s c) (thrOf s c) w = false)
    (hchecks : b.checks (ctxNow s c) (coreNext s c) (thrOf s c) w = [])
    (hready : b.ready (ctxNow s c) (coreNext s c) (thrOf s c) w = true)
    (hposts : b.posts (ctxNow s c) (coreNext s c) (thrOf s c) w = true → PostRoom s c)
    (heffect : b.effect (ctxNow s c) (coreNext s c) (thrOf s c) w = (k, rs)) (hstep : k.step = (coreNext s c).step)
    (htarget : b.target (coreNext s c) (thrOf s c) w = none) (hwait : b.wait (coreNext s c) (thrOf s c) w = none) :
    opCmd b op md c w s = .next (issuedOut s c k rs) := by
  rw [opCmd_issue b op md c w s k rs h hmd hreads hwrites hlegal hchecks hready hposts heffect hstep, htarget, hwait]
  rfl

/-- The operation needs no resource, passes without further checks and hands nothing out. -/
theorem opCmd_issued (h : OpAt op c w s) (hreads : RegsFree s c (b.reads w)) (hwrites : RegsFree s c (b.writes w))
    (hlegal : b.illegal (ctxNow s c) (coreNext s c) (thrOf s c) w = false)
    (hchecks : b.checks (ctxNow s c) (coreNext s c) (thrOf s c) w = [])
    (hready : b.ready (ctxNow s c) (coreNext s c) (thrOf s c) w = true)
    (hposts : b.posts (ctxNow s c) (coreNext s c) (thrOf s c) w = false)
    (heffect : b.effect (ctxNow s c) (coreNext s c) (thrOf s c) w = (k, [])) (hstep : k.step = (coreNext s c).step)
    (htarget : b.target (coreNext s c) (thrOf s c) w = none) (hwait : b.wait (coreNext s c) (thrOf s c) w = none) :
    opCmd b op none c w s = .next (issued s c k ((thrNext s c).pc + 8)) :=
  opCmd_issuedOut h rfl hreads hwrites hlegal hchecks hready (fun hp => absurd hp (by simp [hposts])) heffect hstep htarget hwait

end

end Sys2Proof.Machine

/-! PROOF. Scalar operations (spec/05_operation_set.md R141, R142): the body of each row of Table 4 computes the row's function. -/

namespace Sys2Proof.Machine

/-! ### The functions of Table 4 as numbers -/

theorem shl_eq_ofNat (a b : W64) : a <<< (b.toNat % 64) = BitVec.ofNat 64 (a.toNat * 2 ^ (b.toNat % 64)) := by
  apply BitVec.eq_of_toNat_eq
  rw [BitVec.toNat_shiftLeft, Nat.shiftLeft_eq, BitVec.toNat_ofNat]

theorem shr_eq_ofNat (a b : W64) : a >>> (b.toNat % 64) = BitVec.ofNat 64 (a.toNat / 2 ^ (b.toNat % 64)) := by
  rw [← Nat.shiftRight_eq_div_pow, ← BitVec.toNat_ushiftRight, BitVec.ofNat_toNat, BitVec.setWidth_eq]

theorem sra_eq_ofInt (a b : W64) : a.sshiftRight (b.toNat % 64) = BitVec.ofInt 64 (a.toInt / 2 ^ (b.toNat % 64)) := by
  rw [show (2 : Int) ^ (b.toNat % 64) = ((2 ^ (b.toNat % 64) : Nat) : Int) by norm_cast, ← Int.shiftRight_eq_div_pow, ← BitVec.toInt_sshiftRight,
    BitVec.ofInt_toInt]

theorem b2w_decide (p : Prop) [Decidable p] : b2w (decide p) = oneIf p := by
  unfold b2w oneIf
  by_cases hp : p <;> simp [hp]

theorem divS_eq_quotS (a b : W64) : divS a b = quotS a b := by
  have hquot : a.sdiv b = BitVec.ofInt 64 (a.toInt.tdiv b.toInt) := by
    apply BitVec.eq_of_toInt_eq
    rw [BitVec.toInt_sdiv, BitVec.toInt_ofInt]
  unfold divS quotS
  rw [hquot]
  rfl

theorem divU_eq_quotU (a b : W64) : divU a b = quotU a b := by
  have hquot : a.udiv b = BitVec.ofNat 64 (a.toNat / b.toNat) := by
    rw [← BitVec.toNat_udiv, BitVec.ofNat_toNat, BitVec.setWidth_eq, BitVec.udiv_eq]
  unfold divU quotU
  rw [hquot]
  rfl

theorem remS_eq_restS (a b : W64) : remS a b = restS a b := by
  have hrest : a.srem b = BitVec.ofInt 64 (a.toInt.tmod b.toInt) := by rw [← BitVec.toInt_srem, BitVec.ofInt_toInt]
  unfold remS restS
  rw [hrest]

theorem remU_eq_restU (a b : W64) : remU a b = restU a b := by
  have hrest : a.umod b = BitVec.ofNat 64 (a.toNat % b.toNat) := by
    rw [← BitVec.toNat_umod, BitVec.ofNat_toNat, BitVec.setWidth_eq, BitVec.umod_eq]
  unfold remU restU
  rw [hrest]

/-! ### Bit counts -/

theorem popcount_eq_countP (n v : Nat) : popcount n v = (List.range n).countP fun i => v.testBit i := by
  induction n generalizing v with
  | zero => rfl
  | succ n ih =>
    rw [List.range_succ_eq_map, List.countP_cons, List.countP_map]
    have htail : ((fun i => v.testBit i) ∘ Nat.succ) = fun i => (v / 2).testBit i := funext fun i => Nat.testBit_succ v i
    rw [htail, ← ih, popcount, Nat.testBit_zero, Nat.add_comm]
    have hbit : v % 2 = 0 ∨ v % 2 = 1 := Nat.mod_two_eq_zero_or_one v
    obtain h | h := hbit <;> simp [h]

theorem ctz_eq_find (n v : Nat) : ctz n v = ((List.range n).find? fun i => v.testBit i).getD n := by
  induction n generalizing v with
  | zero => rfl
  | succ n ih =>
    rw [List.range_succ_eq_map, List.find?_cons, List.find?_map, Nat.testBit_zero, ctz, ih]
    have htail : ((fun i => v.testBit i) ∘ Nat.succ) = fun i => (v / 2).testBit i := funext fun i => Nat.testBit_succ v i
    rw [htail]
    by_cases hbit : v % 2 = 1
    · simp [hbit]
    · cases (List.range n).find? fun i => (v / 2).testBit i <;> simp [hbit, Nat.add_comm]

theorem popcount_toNat (x : W64) : popcount 64 x.toNat = (List.range 64).countP fun i => x.getLsbD i := popcount_eq_countP 64 x.toNat

theorem ctz_toNat (x : W64) : ctz 64 x.toNat = ((List.range 64).find? fun i => x.getLsbD i).getD 64 := ctz_eq_find 64 x.toNat

theorem append_low_eq_ofNat (x : W32) (y : W64) : (x ++ y.extractLsb' 0 32 : W64) = BitVec.ofNat 64 (x.toNat * 2 ^ 32 + y.toNat % 2 ^ 32) := by
  apply BitVec.eq_of_toNat_eq
  have hx := x.isLt
  rw [BitVec.toNat_append, BitVec.extractLsb'_toNat, Nat.shiftRight_zero, ← Nat.shiftLeft_add_eq_or_of_lt (Nat.mod_lt _ (Nat.two_pow_pos 32)),
    Nat.shiftLeft_eq, BitVec.toNat_ofNat]
  omega

/-! ### Each row of Table 4 -/

theorem exec_scalarRow_f {r : ScalarRow} (hr : r ∈ scalarRows) (c : Nat) (w : OpWord) (s : State) :
    exec (r.cmd c w) s = opCmd (scalarBody r.lat r.f) r.op none c w s := by
  have body {lat op : Nat} {f g : W64 → W64 → W64} (h : ∀ a b, f a b = g a b) :
      opCmd (scalarBody lat f) op none c w s = opCmd (scalarBody lat g) op none c w s := by rw [funext fun a => funext (h a)]
  simp only [scalarRows, List.mem_cons, List.not_mem_nil, or_false] at hr
  obtain rfl | rfl | rfl | rfl | rfl | rfl | rfl | rfl | rfl | rfl | rfl | rfl | rfl | rfl | rfl | rfl | rfl | rfl | rfl | rfl := hr
  · exact exec_add s c w
  · exact exec_sub s c w
  · exact exec_and s c w
  · exact exec_or s c w
  · exact exec_xor s c w
  · exact (exec_shl s c w).trans (body shl_eq_ofNat)
  · exact (exec_shr s c w).trans (body shr_eq_ofNat)
  · exact (exec_sra s c w).trans (body sra_eq_ofInt)
  · exact (exec_slt s c w).trans (body fun a b => b2w_decide (a.toInt < b.toInt))
  · exact (exec_sltu s c w).trans (body fun a b => b2w_decide (a.toNat < b.toNat))
  · exact (exec_seq s c w).trans (body fun a b => b2w_decide (a = b))
  · exact (exec_min s c w).trans (body fun a b => by simp [BitVec.slt])
  · exact (exec_max s c w).trans (body fun a b => by simp [BitVec.slt])
  · exact exec_mul s c w
  · exact exec_mulh s c w
  · exact exec_mulhu s c w
  · exact (exec_div s c w).trans (body divS_eq_quotS)
  · exact (exec_divu s c w).trans (body divU_eq_quotU)
  · exact (exec_rem s c w).trans (body remS_eq_restS)
  · exact (exec_remu s c w).trans (body remU_eq_restU)

/-! ### One source -/

theorem opCmd_unaryBody {s : State} {c op : Nat} {w : OpWord} {f : W64 → W64} (h : OpAt op c w s)
    (hlegal : badUnused { dst := true, sa := true } w = false) (hfree : RegsFree s c [.s w.dst.toNat, .s w.sa.toNat]) :
    opCmd (unaryBody f) op none c w s = .next (issuedResult s c 2 (.s w.dst.toNat (f (readS (thrNext s c) w.sa)))) :=
  opCmd_issued h (regsFree_mono hfree (by simp [unaryBody])) (regsFree_mono hfree (by simp [unaryBody])) hlegal rfl rfl rfl rfl rfl rfl rfl

/-- Settles O12: the rows of Table 4 with two sources by `exec_scalarRow_f`; the counts of ones and of trailing zeros by induction on the width. -/
theorem scalarOperationsWriteTheirResult : Obligations.ScalarOperationsWriteTheirResult := by
  unfold Obligations.ScalarOperationsWriteTheirResult
  refine ⟨fun r hr s c w h hlegal hfree => ?rows, fun s c w => ⟨fun h hlegal => ?nop, fun h hlegal hfree => ?movi, fun h hlegal hfree => ?movh,
    fun h hlegal hfree => ?popc, fun h hlegal hfree => ?ctz⟩⟩
  case rows => exact (exec_scalarRow_f hr c w s).trans (opCmd_scalarBody h hlegal hfree)
  case nop => exact (exec_nop s c w).trans (opCmd_issued h (regsFree_nil s c) (regsFree_nil s c) hlegal rfl rfl rfl rfl rfl rfl rfl)
  case movi => exact (exec_movi s c w).trans (opCmd_issued h (regsFree_nil s c) hfree hlegal rfl rfl rfl rfl rfl rfl rfl)
  case movh =>
    rw [← append_low_eq_ofNat]
    exact (exec_movh s c w).trans (opCmd_issued h (regsFree_mono hfree (by simp [bodyMovh])) (regsFree_mono hfree (by simp [bodyMovh])) hlegal
      rfl rfl rfl rfl rfl rfl rfl)
  case popc =>
    rw [exec_popc, ← popcount_toNat]
    exact opCmd_unaryBody h hlegal hfree
  case ctz =>
    rw [exec_ctz, ← ctz_toNat]
    exact opCmd_unaryBody h hlegal hfree

end Sys2Proof.Machine

/-! PROOF. Control flow and thread control (spec/05_operation_set.md R143, R144), and the raise of an exception at issue (R170). -/

namespace Sys2Proof.Machine

/-! ### An operation that names its next PC, and one that raises -/

section
variable {b : Body} {op c : Nat} {md : Option Nat} {w : OpWord} {s : State} {k : Core}

theorem opCmd_issuedTo {pc : W64} (h : OpAt op c w s) (hreads : RegsFree s c (b.reads w)) (hwrites : RegsFree s c (b.writes w))
    (hlegal : b.illegal (ctxNow s c) (coreNext s c) (thrOf s c) w = false)
    (hchecks : b.checks (ctxNow s c) (coreNext s c) (thrOf s c) w = [])
    (hready : b.ready (ctxNow s c) (coreNext s c) (thrOf s c) w = true)
    (hposts : b.posts (ctxNow s c) (coreNext s c) (thrOf s c) w = false)
    (heffect : b.effect (ctxNow s c) (coreNext s c) (thrOf s c) w = (k, [])) (hstep : k.step = (coreNext s c).step)
    (htarget : b.target (coreNext s c) (thrOf s c) w = some pc)
    (hwait : b.wait (coreNext s c) (thrOf s c) w = none) :
    opCmd b op none c w s = .next (issued s c k pc) := by
  rw [opCmd_issue b op none c w s k [] h rfl hreads hwrites hlegal hchecks hready (fun hp => absurd hp (by simp [hposts])) heffect hstep, htarget,
    hwait]
  rfl

theorem opCmd_raised {cause : Nat} {xinfo : W64} (h : OpAt op c w s) (hmd : (md.all fun m => m == w.md.toNat) = true)
    (hkind : issueKind b (ctxNow s c) (coreNext s c) (thrOf s c) w (opEncode op w) = .raise cause xinfo) :
    opCmd b op md c w s = .next (raised s c cause xinfo) := by
  obtain ⟨hready, hoffered, hfetch⟩ := h
  have hstep : stepIssue b (ctxNow s c) (getCore s c) w (opEncode op w)
      = some (endIssue (raiseAt (coreNext s c) (thrOf s c) cause xinfo), []) :=
    (if_pos (⟨hoffered, hfetch⟩ : threadOffered (coreNext s c) (thrOf s c) ∧ fetchAt (coreNext s c) (thrNext s c).pc = some (opEncode op w))).trans
      (by simp only [hkind, show beginStep (getCore s c) = coreNext s c from rfl, show offered (coreNext s c) = thrOf s c from rfl])
  unfold opCmd when_ opStep
  simp only [hready, hmd, Bool.and_self, if_true, show ctxOf s c (getCore s c) = ctxNow s c from rfl, hstep]
  rw [if_neg]
  · rfl
  · simp only [endIssue_step, raiseAt, modThread_step, coreNext_step]
    exact step_ne _

theorem reads_not_busy (hreads : RegsFree s c (b.reads w)) : (b.reads w).any (regBusy (coreNext s c) (thrOf s c)) = false :=
  List.any_eq_false.mpr fun r hr => by simp [hreads r hr]

/-- ILLEGAL comes before every other check (R171). -/
theorem opCmd_raised_illegal (h : OpAt op c w s) (hmd : (md.all fun m => m == w.md.toNat) = true) (hreads : RegsFree s c (b.reads w))
    (hillegal : b.illegal (ctxNow s c) (coreNext s c) (thrOf s c) w = true) :
    opCmd b op md c w s = .next (raised s c xIllegal (opEncode op w)) := by
  refine opCmd_raised h hmd ?_
  unfold issueKind
  simp [reads_not_busy hreads, hillegal, lowestCheck]

theorem opCmd_raised_check {cause : Nat} {xinfo : W64} (h : OpAt op c w s) (hmd : (md.all fun m => m == w.md.toNat) = true)
    (hreads : RegsFree s c (b.reads w)) (hlegal : b.illegal (ctxNow s c) (coreNext s c) (thrOf s c) w = false)
    (hcheck : lowestCheck (b.checks (ctxNow s c) (coreNext s c) (thrOf s c) w) = some (cause, xinfo)) :
    opCmd b op md c w s = .next (raised s c cause xinfo) := by
  refine opCmd_raised h hmd ?_
  unfold issueKind
  simp [reads_not_busy hreads, hlegal, hcheck]

end

/-- Only the thread of the step is changed by `issuedBy`. -/
theorem issuedBy_congr {s : State} {c : Nat} {k : Core} {f g : Thread → Thread} (h : f (getThread k (thrOf s c)) = g (getThread k (thrOf s c))) :
    issuedBy s c k f = issuedBy s c k g := by
  simp only [issuedBy, modThread, h]

/-! ### Branches -/

theorem branchTarget_eq (pc : W64) (w : OpWord) : branchTarget pc w = pc + BitVec.ofInt 64 (8 * w.imm.toInt) := by
  have hshift : w.imm.signExtend 64 <<< 3 = BitVec.ofInt 64 (8 * w.imm.toInt) := by
    rw [BitVec.shiftLeft_eq_mul_twoPow, BitVec.ofInt_mul, BitVec.mul_comm]
    rfl
  rw [branchTarget, hshift]

theorem exec_branchRow {r : BranchRow} (hr : r ∈ branchRows) (c : Nat) (w : OpWord) (s : State) :
    exec (r.cmd c w) s = opCmd (branchBody r.f) r.op none c w s := by
  have body {op : Nat} {f g : W64 → W64 → Bool} (h : ∀ a b, f a b = g a b) :
      opCmd (branchBody f) op none c w s = opCmd (branchBody g) op none c w s := by rw [funext fun a => funext (h a)]
  simp only [branchRows, List.mem_cons, List.not_mem_nil, or_false] at hr
  obtain rfl | rfl | rfl | rfl | rfl | rfl := hr
  · exact exec_beq s c w
  · exact (exec_bne s c w).trans (body fun a b => (decide_not (p := a = b)).symm)
  · exact exec_blt s c w
  · exact (exec_bge s c w).trans (body fun a b => by simp [BitVec.slt, ← decide_not])
  · exact exec_bltu s c w
  · exact (exec_bgeu s c w).trans (body fun a b => by simp [BitVec.ult, ← decide_not])

theorem branched_step (s : State) (c : Nat) : (branched s c).step = (coreNext s c).step := modThread_step _ _ _

theorem opCmd_branchBody {s : State} {c op : Nat} {w : OpWord} {f : W64 → W64 → Bool} (h : OpAt op c w s)
    (hlegal : badUnused { sa := true, sb := true, imm := true } w = false) (hfree : RegsFree s c [.s w.sa.toNat, .s w.sb.toNat]) :
    opCmd (branchBody f) op none c w s = .next (issued s c (branched s c)
      (if f (readS (thrNext s c) w.sa) (readS (thrNext s c) w.sb) then (thrNext s c).pc + BitVec.ofInt 64 (8 * w.imm.toInt)
       else (thrNext s c).pc + 8)) := by
  rw [← branchTarget_eq]
  split
  next htaken => exact opCmd_issuedTo h hfree (regsFree_nil s c) hlegal rfl rfl rfl rfl (branched_step s c) (if_pos htaken) rfl
  next hnot => exact opCmd_issued h hfree (regsFree_nil s c) hlegal rfl rfl rfl rfl (branched_step s c) (if_neg hnot) rfl

/-! ### JAL, JR, HALT, STEPW and BRK -/

theorem alignCheck_of_aligned {a : W64} {n : Nat} (h : a.toNat % n = 0) : alignCheck a n = [] := if_pos h

section
variable {s : State} {c : Nat} {w : OpWord}

theorem exec_jal_issued (h : OpAt 0x26 c w s) (hlegal : badUnused { dst := true, imm := true } w = false) (hfree : RegsFree s c [.s w.dst.toNat]) :
    exec (.jal c w) s = .next (issued s c (result (branched s c) (thrOf s c) 2 (.s w.dst.toNat ((thrNext s c).pc + 8)))
      ((thrNext s c).pc + BitVec.ofInt 64 (8 * w.imm.toInt))) := by
  rw [← branchTarget_eq]
  exact (exec_jal s c w).trans (opCmd_issuedTo h (regsFree_nil s c) hfree hlegal rfl rfl rfl rfl ((result_step _ _ _ _).trans (branched_step s c)) rfl rfl)

theorem exec_jr_issued (h : OpAt 0x27 c w s) (hlegal : badUnused { sa := true, imm := true } w = false) (hfree : RegsFree s c [.s w.sa.toNat])
    (haligned : (readS (thrNext s c) w.sa + w.imm.signExtend 64).toNat % 8 = 0) :
    exec (.jr c w) s = .next (issued s c (branched s c) (readS (thrNext s c) w.sa + w.imm.signExtend 64)) :=
  (exec_jr s c w).trans (opCmd_issuedTo h hfree (regsFree_nil s c) hlegal (alignCheck_of_aligned haligned) rfl rfl rfl (branched_step s c) rfl rfl)

theorem exec_halt_issued (h : OpAt 0x28 c w s) (hlegal : badUnused {} w = false) :
    exec (.halt c w) s = .next (issued s c (modThread (coreNext s c) (thrOf s c) fun t => { t with st := .halt }) ((thrNext s c).pc + 8)) :=
  (exec_halt s c w).trans (opCmd_issued h (regsFree_nil s c) (regsFree_nil s c) hlegal rfl rfl rfl rfl (modThread_step _ _ _) rfl rfl)

theorem exec_stepw_issued (h : OpAt 0x2B c w s) (hlegal : badUnused { sa := true, imm := true } w = false) (hfree : RegsFree s c [.s w.sa.toNat]) :
    exec (.stepw c w) s = .next (issuedBy s c (coreNext s c) fun t =>
      { t with pc := t.pc + 8, waitStep := some (readS t w.sa + w.imm.zeroExtend 64) }) := by
  rw [exec_stepw, execStepw, opCmd_issue bodyStepw 0x2B none c w s (coreNext s c) [] h rfl hfree (regsFree_nil s c) hlegal rfl rfl
    (absurd · Bool.false_ne_true) rfl rfl]
  exact congrArg Host.Outcome.next (issuedBy_congr rfl)

theorem exec_brk_raised (h : OpAt 0x29 c w s) (hlegal : badUnused { imm := true } w = false) :
    exec (.brk c w) s = .next (raised s c 8 (w.imm.zeroExtend 64)) :=
  (exec_brk s c w).trans (opCmd_raised_check h rfl (regsFree_nil s c) hlegal rfl)

end

/-! ### TCTL (R144) -/

theorem badTarget_eq_false {s : State} {c : Nat} {w : OpWord} (h : otherThread s c w) : badTarget (coreNext s c) (thrOf s c) w = false := by
  obtain ⟨hexists, hother⟩ := h
  unfold badTarget
  simpa using ⟨hexists, hother⟩

theorem opCmd_tctlBody {s : State} {c m : Nat} {w : OpWord} {resume : Bool} {f : Thread → W64} {act : Core → Nat → Nat → OpWord → List CtlPend}
    (h : OpAt 0x2A c w s) (hmd : w.md = BitVec.ofNat 4 m) (hm : m < 16)
    (hlegal : badUnused { dst := true, sa := true, sb := resume, md := true } w = false) (hother : otherThread s c w)
    (hdst : RegsFree s c [.s w.dst.toNat]) (hsrc : RegsFree s c (.s w.sa.toNat :: if resume then [.s w.sb.toNat] else [])) :
    opCmd (tctlBody resume f act) 0x2A (some m) c w s
      = .next (controlled s c w f (act (coreNext s c) (thrOf s c) (readS (thrNext s c) w.sa).toNat w)) := by
  refine opCmd_issuedOut h ?_ hsrc hdst ?_ rfl rfl (absurd · Bool.false_ne_true) rfl (by simp [tctlBody]) rfl rfl
  · simp [hmd, Nat.mod_eq_of_lt hm]
  · exact Bool.or_eq_false_iff.mpr ⟨hlegal, badTarget_eq_false hother⟩

/-- Settles O13: each body's next PC, thread and pending control as the statement names them. -/
theorem controlOperationsMoveThePc : Obligations.ControlOperationsMoveThePc := by
  unfold Obligations.ControlOperationsMoveThePc
  refine ⟨?rows, ?control, ?tctl⟩
  case rows =>
    intro r hr s c w t h hlegal hfree
    exact (exec_branchRow hr c w s).trans (opCmd_branchBody h hlegal hfree)
  case control =>
    intro s c w t
    exact ⟨exec_jal_issued, exec_jr_issued, exec_halt_issued, exec_stepw_issued, exec_brk_raised⟩
  case tctl =>
    intro s c w t state plain
    have hstate : (fun x : Thread => BitVec.ofNat 64 (stateCode x.st)) = state := by
      funext x
      cases hst : x.st <;> simp [state, stateCode, hst]
    have hread : (fun x : Thread => BitVec.ofNat 64 (stateCode x.st + 4 * b2n x.xovf + 256 * x.xcause.toNat))
        = fun x => state x + BitVec.ofNat 64 (4 * b2n x.xovf) + BitVec.ofNat 64 (256 * x.xcause.toNat) :=
      funext fun x => by rw [← hstate, BitVec.ofNat_add, BitVec.ofNat_add]
    have perform {m : Nat} {f : Thread → W64} {act : Core → Nat → Nat → OpWord → List CtlPend} (h : OpAt 0x2A c w s)
        (hmd : w.md = BitVec.ofNat 4 m) (hm : m < 16) (hplain : plain) :
        opCmd (tctlBody false f act) 0x2A (some m) c w s
          = .next (controlled s c w f (act (coreNext s c) (thrOf s c) (readS (thrNext s c) w.sa).toNat w)) := by
      obtain ⟨hlegal, hother, hfree⟩ := hplain
      exact opCmd_tctlBody h hmd hm hlegal hother (regsFree_mono hfree (by simp)) (regsFree_mono hfree (by simp))
    refine ⟨fun h hmd hlegal hother hfree => ?resume, fun h hmd hplain => ?stop, fun h hmd hplain => ?read, fun h hmd hplain => ?xpc,
      fun h hmd hplain => ?xinfo⟩
    case resume =>
      rw [exec_tctlResume, ← hstate]
      exact opCmd_tctlBody h hmd (by decide) hlegal hother (regsFree_mono hfree (by simp)) (regsFree_mono hfree (by simp))
    case stop =>
      rw [exec_tctlStop, ← hstate]
      exact perform h hmd (by decide) hplain
    case read =>
      rw [exec_tctlRead, ← hread]
      exact perform h hmd (by decide) hplain
    case xpc => exact (exec_tctlReadXpc s c w).trans (perform h hmd (by decide) hplain)
    case xinfo => exact (exec_tctlReadXinfo s c w).trans (perform h hmd (by decide) hplain)

end Sys2Proof.Machine

/-! PROOF. Loads, stores and FENCE (spec/05 R145 to R147). -/

namespace Sys2Proof.Machine

/-! ### Lengths of what a store writes -/

theorem leBytes_length (n v : Nat) : (leBytes n v).length = n := by
  induction n generalizing v with
  | zero => rfl
  | succ n ih => rw [leBytes, List.length_cons, ih]

theorem packLanes_length (f : Fmt) (v : BitVec 2048) (on : Nat → Bool) : (packLanes f v on).length = 8 * fmtWidth f := by
  unfold packLanes
  rw [List.length_zip, leBytes_length, leBytes_length, Nat.min_self]

/-! ### Fields of the operation word -/

theorem bits_eq_div (v hi lo : Nat) : bits v hi lo = v / 2 ^ lo % 2 ^ (hi + 1 - lo) := by rw [bits, Nat.shiftRight_eq_div_pow]

theorem bad8_eq_false {f : BitVec 5} (h : f.toNat < 8) : bad8 f = false := decide_eq_false (Nat.not_le.mpr h)
theorem bad16_eq_false {f : BitVec 5} (h : f.toNat < 16) : bad16 f = false := decide_eq_false (Nat.not_le.mpr h)

/-! ### An access that passes its checks (R145, R175) -/

section
variable {s : State} {c n al off : Nat} {a : W64} {g : Region}

theorem regionAt_of_accessTo (h : AccessTo s c a n al g) : regionAt (ctxNow s c) a n = g := by
  obtain ⟨_, hregion, _⟩ := h
  rw [regionAt, hregion, Option.getD_some]

theorem windowCheck_of_accessTo (h : AccessTo s c a n al g) : windowCheck (ctxNow s c) (coreNext s c) g n a = [] := by
  obtain ⟨_, _, _, hwindow⟩ := h
  cases g with
  | spad off =>
    refine if_neg fun hlocked => ?_
    obtain ⟨hlock, htouches⟩ := Bool.and_eq_true_iff.mp hlocked
    rw [hwindow off rfl hlock] at htouches
    exact Bool.false_ne_true htouches
  | cluster _ _ _ => rfl
  | tenant _ => rfl
  | host _ => rfl

theorem accessChecks_of_accessTo {spadOnly : Bool} (h : AccessTo s c a n al g) (hspad : spadOnly = true → isSpad g = true) :
    accessChecks (ctxNow s c) (coreNext s c) a n al spadOnly = [] := by
  have hwindow := windowCheck_of_accessTo h
  obtain ⟨haligned, hregion, hhost, _⟩ := h
  have hkind : (isHost g || (spadOnly && !isSpad g)) = false := by
    rw [hhost, Bool.false_or]
    cases spadOnly with
    | false => rfl
    | true => simp [hspad rfl]
  simp only [accessChecks, alignCheck_of_aligned haligned, hregion, hkind, hwindow, List.nil_append, Bool.false_eq_true, if_false]

theorem loadRoom_of_spadAccess {th : Nat} (h : SpadAccess s c a n al off) : loadRoom (ctxNow s c) (coreNext s c) th a n = true := by
  obtain ⟨haccess, hbanks⟩ := h
  rw [loadRoom, regionAt_of_accessTo haccess]
  exact hbanks

theorem loadRoom_of_farLoad (h : FarLoad s c a n al g) : loadRoom (ctxNow s c) (coreNext s c) (thrOf s c) a n = true := by
  obtain ⟨haccess, hfar, hroom⟩ := h
  rw [loadRoom, regionAt_of_accessTo haccess]
  cases g with
  | spad off => exact absurd hfar (by simp [isSpad])
  | cluster _ _ _ => exact hroom
  | tenant _ => exact hroom
  | host _ => exact hroom

theorem loadEffect_of_spadAccess {x : Core} {th : Nat} {k : LoadKind} (h : SpadAccess s c a n al off) :
    loadEffect (ctxNow s c) x th a n k = (addLoad x th k (wordsOf off n), []) := by
  rw [loadEffect, regionAt_of_accessTo h.1]

theorem loadEffect_of_farLoad {x : Core} {th : Nat} {k : LoadKind} (h : FarLoad s c a n al g) :
    loadEffect (ctxNow s c) x th a n k = (addGated x th (classOf (ctxNow s c) g) (.load k), loadReqs a n g) := by
  obtain ⟨haccess, hfar, _⟩ := h
  rw [loadEffect, regionAt_of_accessTo haccess]
  cases g with
  | spad off => exact absurd hfar (by simp [isSpad])
  | cluster _ _ _ => rfl
  | tenant _ => rfl
  | host _ => rfl

theorem storeRoom_of_spadAccess (h : SpadAccess s c a n al off) : storeRoom (ctxNow s c) (coreNext s c) a n = true := by
  obtain ⟨haccess, hbanks⟩ := h
  rw [storeRoom, regionAt_of_accessTo haccess]
  exact hbanks

theorem storeRoom_of_farStore (h : FarStore s c a n al g) : storeRoom (ctxNow s c) (coreNext s c) a n = true := by
  obtain ⟨haccess, hfar, _⟩ := h
  rw [storeRoom, regionAt_of_accessTo haccess]
  cases g with
  | spad off => exact absurd hfar (by simp [isSpad])
  | cluster _ _ _ => rfl
  | tenant _ => rfl
  | host _ => rfl

theorem storePosts_of_spadAccess (h : SpadAccess s c a n al off) : storePosts (ctxNow s c) a n = false := by
  rw [storePosts, regionAt_of_accessTo h.1]
  rfl

theorem storeEffect_of_spadAccess {x : Core} {th : Nat} {bs : List MByte} (h : SpadAccess s c a bs.length al off) :
    storeEffect (ctxNow s c) x th a bs = (pushSpad x (storeWords x th off bs), []) := by
  rw [storeEffect, regionAt_of_accessTo h.1]
  rfl

theorem storeEffect_of_farStore {x : Core} {th : Nat} {bs : List MByte} (h : FarStore s c a bs.length al g) :
    storeEffect (ctxNow s c) x th a bs = (addPosted x th (classOf (ctxNow s c) g) a false, storeReqs a bs g) := by
  obtain ⟨haccess, hfar, _⟩ := h
  rw [storeEffect, regionAt_of_accessTo haccess]
  cases g with
  | spad off => exact absurd hfar (by simp [isSpad])
  | cluster _ _ _ => rfl
  | tenant _ => rfl
  | host _ => rfl

end

/-! ### A load and a store in general (R145) -/

section
variable {b : Body} {op c n al : Nat} {w : OpWord} {s : State} {a : W64}

theorem opCmd_load {k : LoadKind} {spadOnly : Bool} (h : OpAt op c w s) (hreads : RegsFree s c (b.reads w)) (hwrites : RegsFree s c (b.writes w))
    (hlegal : b.illegal (ctxNow s c) (coreNext s c) (thrOf s c) w = false)
    (hchecks : b.checks (ctxNow s c) (coreNext s c) (thrOf s c) w = accessChecks (ctxNow s c) (coreNext s c) a n al spadOnly)
    (hready : b.ready (ctxNow s c) (coreNext s c) (thrOf s c) w = loadRoom (ctxNow s c) (coreNext s c) (thrOf s c) a n)
    (hposts : b.posts (ctxNow s c) (coreNext s c) (thrOf s c) w = false)
    (heffect : b.effect (ctxNow s c) (coreNext s c) (thrOf s c) w = loadEffect (ctxNow s c) (coreNext s c) (thrOf s c) a n k)
    (htarget : b.target (coreNext s c) (thrOf s c) w = none) (hwait : b.wait (coreNext s c) (thrOf s c) w = none) :
    (∀ off, SpadAccess s c a n al off →
      opCmd b op none c w s = .next (issuedOut s c (addLoad (coreNext s c) (thrOf s c) k (wordsOf off n)) []))
    ∧ (∀ g, spadOnly = false → FarLoad s c a n al g →
      opCmd b op none c w s
        = .next (issuedOut s c (addGated (coreNext s c) (thrOf s c) (classOf (ctxNow s c) g) (.load k)) (loadReqs a n g))) := by
  have hnoPost : b.posts (ctxNow s c) (coreNext s c) (thrOf s c) w = true → PostRoom s c := fun hp => absurd hp (by simp [hposts])
  refine ⟨fun off haccess => ?spad, fun g hany haccess => ?far⟩
  case spad =>
    exact opCmd_issuedOut h rfl hreads hwrites hlegal (hchecks.trans (accessChecks_of_accessTo haccess.1 fun _ => rfl))
      (hready.trans (loadRoom_of_spadAccess haccess)) hnoPost (heffect.trans (loadEffect_of_spadAccess haccess)) rfl htarget hwait
  case far =>
    exact opCmd_issuedOut h rfl hreads hwrites hlegal
      (hchecks.trans (accessChecks_of_accessTo haccess.1 fun honly => absurd honly (by simp [hany])))
      (hready.trans (loadRoom_of_farLoad haccess)) hnoPost (heffect.trans (loadEffect_of_farLoad haccess)) rfl htarget hwait

theorem opCmd_store {bs : List MByte} (h : OpAt op c w s) (hreads : RegsFree s c (b.reads w)) (hwrites : b.writes w = [])
    (hlegal : b.illegal (ctxNow s c) (coreNext s c) (thrOf s c) w = false)
    (hchecks : b.checks (ctxNow s c) (coreNext s c) (thrOf s c) w = accessChecks (ctxNow s c) (coreNext s c) a bs.length al false)
    (hready : b.ready (ctxNow s c) (coreNext s c) (thrOf s c) w = storeRoom (ctxNow s c) (coreNext s c) a bs.length)
    (hposts : b.posts (ctxNow s c) (coreNext s c) (thrOf s c) w = storePosts (ctxNow s c) a bs.length)
    (heffect : b.effect (ctxNow s c) (coreNext s c) (thrOf s c) w = storeEffect (ctxNow s c) (coreNext s c) (thrOf s c) a bs)
    (htarget : b.target (coreNext s c) (thrOf s c) w = none) (hwait : b.wait (coreNext s c) (thrOf s c) w = none) :
    (∀ off, SpadAccess s c a bs.length al off →
      opCmd b op none c w s = .next (issuedOut s c (pushSpad (coreNext s c) (storeWords (coreNext s c) (thrOf s c) off bs)) []))
    ∧ (∀ g, FarStore s c a bs.length al g →
      opCmd b op none c w s
        = .next (issuedOut s c (addPosted (coreNext s c) (thrOf s c) (classOf (ctxNow s c) g) a false) (storeReqs a bs g))) := by
  have hwritten : RegsFree s c (b.writes w) := by rw [hwrites]; exact regsFree_nil s c
  refine ⟨fun off haccess => ?spad, fun g haccess => ?far⟩
  case spad =>
    exact opCmd_issuedOut h rfl hreads hwritten hlegal (hchecks.trans (accessChecks_of_accessTo haccess.1 nofun))
      (hready.trans (storeRoom_of_spadAccess haccess)) (fun hp => absurd hp (by simp [hposts, storePosts_of_spadAccess haccess]))
      (heffect.trans (storeEffect_of_spadAccess haccess)) rfl htarget hwait
  case far =>
    exact opCmd_issuedOut h rfl hreads hwritten hlegal (hchecks.trans (accessChecks_of_accessTo haccess.1 nofun))
      (hready.trans (storeRoom_of_farStore haccess)) (fun _ => haccess.2.2) (heffect.trans (storeEffect_of_farStore haccess)) rfl htarget hwait

end

/-! ### The rows of Table 7 -/

theorem exec_loadRow {r : LoadRow} (hr : r ∈ loadRows) {s : State} {c : Nat} {w : OpWord} (h : OpAt r.op c w s) (hlegal : r.legal w = true)
    (hfree : RegsFree s c [r.dest w, .s w.sa.toNat]) :
    (∀ off, SpadAccess s c (effAddr (thrNext s c) w) (r.size w) (r.align w) off →
      exec (r.cmd c w) s = .next (issuedOut s c
        (addLoad (coreNext s c) (thrOf s c) (r.kind w (effAddr (thrNext s c) w)) (wordsOf off (r.size w))) []))
    ∧ (∀ g, r.spadOnly = false → FarLoad s c (effAddr (thrNext s c) w) (r.size w) (r.align w) g →
      exec (r.cmd c w) s = .next (issuedOut s c
        (addGated (coreNext s c) (thrOf s c) (classOf (ctxNow s c) g) (.load (r.kind w (effAddr (thrNext s c) w))))
        (loadReqs (effAddr (thrNext s c) w) (r.size w) g))) := by
  simp only [loadRows, List.mem_cons, List.not_mem_nil, or_false] at hr
  have hreads : RegsFree s c [.s w.sa.toNat] := regsFree_mono hfree (by simp)
  have hwrites : RegsFree s c [r.dest w] := regsFree_mono hfree (by simp)
  obtain rfl | rfl | rfl := hr
  · exact opCmd_load (b := bodyLd) h hreads hwrites (by simpa [bodyLd] using hlegal) rfl rfl rfl rfl rfl rfl
  · exact opCmd_load (b := bodyVld) h hreads hwrites (by simpa [bodyVld, bad8, and_assoc] using hlegal) rfl rfl rfl rfl rfl rfl
  · exact opCmd_load (b := bodyLnld) h hreads hwrites (by simpa [bodyLnld, bad16] using hlegal) rfl rfl rfl rfl rfl rfl

theorem exec_storeRow {r : StoreRow} (hr : r ∈ storeRows) {s : State} {c : Nat} {w : OpWord} (h : OpAt r.op c w s) (hlegal : r.legal w = true)
    (hfree : RegsFree s c (r.srcs w)) {bs : List MByte} (hbs : bs = r.bytes (coreNext s c) (thrNext s c) w) :
    (∀ off, SpadAccess s c (effAddr (thrNext s c) w) bs.length (r.align w) off →
      exec (r.cmd c w) s = .next (issuedOut s c (pushSpad (coreNext s c) (storeWords (coreNext s c) (thrOf s c) off bs)) []))
    ∧ (∀ g, FarStore s c (effAddr (thrNext s c) w) bs.length (r.align w) g →
      exec (r.cmd c w) s = .next (issuedOut s c
        (addPosted (coreNext s c) (thrOf s c) (classOf (ctxNow s c) g) (effAddr (thrNext s c) w) false)
        (storeReqs (effAddr (thrNext s c) w) bs g))) := by
  simp only [storeRows, List.mem_cons, List.not_mem_nil, or_false] at hr
  obtain rfl | rfl | rfl := hr
  · have hlen : bs.length = widthOf w := by rw [hbs, List.length_map, leBytes_length]; rfl
    have hlegal' : bodySt.illegal (ctxNow s c) (coreNext s c) (thrOf s c) w = false := by
      obtain ⟨hunused, hmod⟩ : badUnused { sa := true, sb := true, md := true, imm := true } w = false ∧ w.md.toNat < 4 := by
        simpa using hlegal
      have hbits : bits w.md.toNat 3 2 = 0 := by rw [bits_eq_div]; omega
      simp [bodySt, hunused, hbits]
    exact opCmd_store (b := bodySt) h hfree rfl hlegal' (by rw [hlen]; rfl) (by rw [hlen]; rfl) (by rw [hlen]; rfl) (by rw [hbs]; rfl) rfl rfl
  · have hlen : bs.length = laneBytes w := by rw [hbs, packLanes_length]; rfl
    exact opCmd_store (b := bodyVst) h hfree rfl (by simpa [bodyVst, bad8, and_assoc] using hlegal) (by rw [hlen]; rfl) (by rw [hlen]; rfl)
      (by rw [hlen]; rfl) (by rw [hbs]; rfl) rfl rfl
  · have hlen : bs.length = laneBytes w := by rw [hbs, packLanes_length]; rfl
    exact opCmd_store (b := bodyVstm) h hfree rfl (by simpa [bodyVstm, bad8, and_assoc] using hlegal) (by rw [hlen]; rfl) (by rw [hlen]; rfl)
      (by rw [hlen]; rfl) (by rw [hbs]; rfl) rfl rfl

/-! ### LNST (R146, R93) -/

theorem exec_lnst_issued {s : State} {c off : Nat} {w : OpWord} (h : OpAt 0x36 c w s)
    (hlegal : badUnused { sa := true, sb := true, imm := true } w = false) (hsource : w.sb.toNat < 16)
    (hfree : RegsFree s c [.s w.sa.toNat, .ln w.sb.toNat]) (hport : portFree (coreNext s c) = true)
    (haccess : SpadAccess s c (effAddr (thrNext s c) w) 128 64 off) :
    exec (.lnst c w) s = .next (issuedOut s c (pushSpad { coreNext s c with portLeft := 1 } (storeWords (coreNext s c) (thrOf s c) off
      ((wordBytes (wideEncode (readLn (coreNext s c) w.sb.toNat)).1 ++ wordBytes (wideEncode (readLn (coreNext s c) w.sb.toNat)).2).map mOn))) []) := by
  have hready : (portFree (coreNext s c) && storeRoom (ctxNow s c) (coreNext s c) (effAddr (thrNext s c) w) 128) = true := by
    rw [hport, storeRoom_of_spadAccess haccess]
    rfl
  have hlen : ((wordBytes (wideEncode (readLn (coreNext s c) w.sb.toNat)).1
      ++ wordBytes (wideEncode (readLn (coreNext s c) w.sb.toNat)).2).map mOn).length = 128 := by
    rw [List.length_map, List.length_append, wordBytes, wordBytes, leBytes_length, leBytes_length]
  rw [← hlen] at haccess
  exact (exec_lnst s c w).trans (opCmd_issuedOut (b := bodyLnst) h rfl hfree (regsFree_nil s c)
    (Bool.or_eq_false_iff.mpr ⟨hlegal, bad16_eq_false hsource⟩) (by rw [hlen] at haccess; exact accessChecks_of_accessTo haccess.1 fun _ => rfl)
    hready (absurd · Bool.false_ne_true) (storeEffect_of_spadAccess haccess) rfl rfl rfl)

/-! ### FENCE (R147) -/

section
variable {s : State} {c : Nat} {w : OpWord}

theorem exec_fence_nothing (h : OpAt 0x37 c w s) (hlegal : badUnused { dst := true } w = false) (hfree : RegsFree s c [.s w.dst.toNat])
    (hcover : fenceCovers (coreNext s c) (thrOf s c) = []) :
    exec (.fence c w) s = .next (issuedResult s c 2 (.s w.dst.toNat 0)) :=
  (exec_fence s c w).trans (opCmd_issued (b := bodyFence) h (regsFree_nil s c) hfree hlegal rfl (by simp [bodyFence, hcover]) rfl
    (by simp [bodyFence, hcover]) rfl rfl rfl)

theorem exec_fence_gated (h : OpAt 0x37 c w s) (hlegal : badUnused { dst := true } w = false) (hfree : RegsFree s c [.s w.dst.toNat])
    (hcover : fenceCovers (coreNext s c) (thrOf s c) ≠ []) (hroom : gatedRoom (coreNext s c) (thrOf s c) = true) :
    exec (.fence c w) s = .next (issuedOut s c
      { addGated (coreNext s c) (thrOf s c) (maxClass (coreNext s c) (fenceCovers (coreNext s c) (thrOf s c)))
          (.fence w.dst.toNat ((fenceCovers (coreNext s c) (thrOf s c)).map Posted.issue)) with
        posted := (coreNext s c).posted.map fun p => if p.thread = thrOf s c then { p with fenced := true } else p } []) :=
  (exec_fence s c w).trans (opCmd_issuedOut (b := bodyFence) h rfl (regsFree_nil s c) hfree hlegal rfl (by simp [bodyFence, hroom])
    (absurd · Bool.false_ne_true) (if_neg (by simpa using hcover)) rfl rfl rfl)

end

/-- Settles O14: loads and stores by the rows of Table 7, LNST as a store that takes the port, FENCE by whether there is anything to cover. -/
theorem loadsStoresAndFencesAreIssued : Obligations.LoadsStoresAndFencesAreIssued := by
  unfold Obligations.LoadsStoresAndFencesAreIssued
  refine ⟨?loads, ?stores, ?others⟩
  case loads =>
    intro r hr s c w a n h hlegal hfree
    exact exec_loadRow hr h hlegal hfree
  case stores =>
    intro r hr s c w a bs h hlegal hfree
    exact exec_storeRow hr h hlegal hfree rfl
  case others =>
    intro s c w t k th a cover
    exact ⟨fun off => exec_lnst_issued, exec_fence_nothing, exec_fence_gated⟩

end Sys2Proof.Machine

/-! PROOF. Matrix engines and long registers (spec/05 R151 to R155). -/

namespace Sys2Proof.Machine

/-! ### The fields that name an engine, a set and an element (R151) -/

theorem dstEng_eq (w : OpWord) : dstEng w = w.dst.toNat % 4 := rfl
theorem dstSet_eq (w : OpWord) : dstSet w = w.dst.toNat / 4 % 2 := bits_eq_div _ _ _
theorem immEng_eq (w : OpWord) : immEng w = w.imm.toNat % 4 := rfl
theorem immSet_eq (w : OpWord) : immSet w = w.imm.toNat / 4 % 2 := bits_eq_div _ _ _
theorem immElem_eq (w : OpWord) : immElem w = w.imm.toNat / 16 % 512 := bits_eq_div _ _ _

theorem badDst_eq_false {w : OpWord} (h : w.dst.toNat < 8) : badDst w = false := by
  have hbits : bits w.dst.toNat 4 3 = 0 := by rw [bits_eq_div]; omega
  simp [badDst, hbits]

/-! ### An operation that takes a place in a queue -/

section
variable {s : State} {c : Nat} {w : OpWord}

theorem opCmd_queued {b : Body} {op e set : Nat} {k : EngKind} {storable flushed : Bool} (h : OpAt op c w s)
    (hreads : RegsFree s c (b.reads w)) (hwrites : RegsFree s c (b.writes w))
    (hlegal : b.illegal (ctxNow s c) (coreNext s c) (thrOf s c) w = false)
    (hchecks : b.checks (ctxNow s c) (coreNext s c) (thrOf s c) w = []) (hroom : QueueRoom s c e)
    (hready : b.ready (ctxNow s c) (coreNext s c) (thrOf s c) w = queueRoom (coreNext s c) e)
    (hposts : b.posts (ctxNow s c) (coreNext s c) (thrOf s c) w = false)
    (heffect : b.effect (ctxNow s c) (coreNext s c) (thrOf s c) w
      = (enqueue (coreNext s c) (thrOf s c) e set k storable flushed, []))
    (htarget : b.target (coreNext s c) (thrOf s c) w = none) (hwait : b.wait (coreNext s c) (thrOf s c) w = none) :
    opCmd b op none c w s = .next (queuedOn s c e set k storable flushed) :=
  opCmd_issued h hreads hwrites hlegal hchecks (hready.trans (decide_eq_true hroom)) hposts heffect rfl htarget hwait

theorem exec_mma_queued (h : OpAt 0x70 c w s) (hlegal : bodyMma.illegal (ctxNow s c) (coreNext s c) (thrOf s c) w = false)
    (hfree : RegsFree s c [.t w.sb.toNat, .t w.sc.toNat])
    (hdescriptors : descriptorCheck (readT (thrNext s c) w.sb) (readT (thrNext s c) w.sc) = [])
    (hpair : pairOk (tileFmt (tileOf (readT (thrNext s c) w.sb))) (tileFmt (tileOf (readT (thrNext s c) w.sc))) = true)
    (hwindows : mmaWindows (ctxNow s c) (coreNext s c) (tileOf (readT (thrNext s c) w.sb)) (tileOf (readT (thrNext s c) w.sc)) = [])
    (hroom : QueueRoom s c (dstEng w)) :
    exec (.mma c w) s = .next (queuedOn s c (dstEng w) (dstSet w)
      (.mma (tileOf (readT (thrNext s c) w.sb)) (tileOf (readT (thrNext s c) w.sc))
        (if w.md.getLsbD 0 then some (w.imm.extractLsb' 0 16).toInt else none)) false false) := by
  have hchecks : bodyMma.checks (ctxNow s c) (coreNext s c) (thrOf s c) w = [] := by
    simp only [bodyMma, show getThread (coreNext s c) (thrOf s c) = thrNext s c from rfl, hdescriptors, hpair, hwindows, if_true]
  exact (exec_mma s c w).trans (opCmd_queued h hfree (regsFree_nil s c) hlegal hchecks hroom rfl rfl rfl rfl rfl)

theorem exec_rstore_queued (h : OpAt 0x72 c w s) (hlegal : bodyRstore.illegal (ctxNow s c) (coreNext s c) (thrOf s c) w = false)
    (hfree : RegsFree s c (.s w.sa.toNat :: (if immMx w then [.s w.sb.toNat] else [])))
    (hdata : storeRegion (ctxNow s c) (coreNext s c) (readS (thrNext s c) w.sa) (64 * fmtWidth (immFmtOf w)) 64 = [])
    (hscales : immMx w = true → storeRegion (ctxNow s c) (coreNext s c) (readS (thrNext s c) w.sb) 16 16 = [])
    (hroom : QueueRoom s c (dstEng w)) :
    exec (.rstore c w) s = .next (queuedOn s c (dstEng w) (dstSet w)
      (.rstore (readS (thrNext s c) w.sa).toNat (if immMx w then (readS (thrNext s c) w.sb).toNat else 0) (immFmt w) (immModeOf w) (immScale w)
        (w.md.getLsbD 0) (genKey (coreNext s c) (thrOf s c)))
      (w.md.getLsbD 0) (w.md.getLsbD 0 && (getSet (getEng (coreNext s c) (dstEng w)) (dstSet w)).flushed)) := by
  have hchecks : bodyRstore.checks (ctxNow s c) (coreNext s c) (thrOf s c) w = [] := by
    simp only [bodyRstore, show getThread (coreNext s c) (thrOf s c) = thrNext s c from rfl, hdata, List.nil_append]
    split
    next hmx => exact hscales hmx
    next => rfl
  exact (exec_rstore s c w).trans (opCmd_queued h hfree (regsFree_nil s c) hlegal hchecks hroom rfl rfl rfl rfl rfl)

end

/-- Settles O15: each operation by `opCmd_queued`, with the engine, the set and the element that its fields name. -/
theorem engineOperationsQueue : Obligations.EngineOperationsQueue := by
  unfold Obligations.EngineOperationsQueue
  intro s c w
  simp only [← dstEng_eq, ← dstSet_eq, ← immEng_eq, ← immSet_eq, ← immElem_eq]
  refine ⟨exec_mma_queued, fun h hlegal hdst hroom => ?wflush, exec_rstore_queued, fun h hlegal hfree hregion hroom => ?xstore,
    fun h hlegal hdst himm hfree hroom => ?spget, fun h hlegal hsrc himm hfree hroom => ?spadd, fun h hlegal hdst hroom => ?mclr⟩
  case wflush =>
    exact (exec_wflush s c w).trans (opCmd_queued h (regsFree_nil s c) (regsFree_nil s c) (Bool.or_eq_false_iff.mpr ⟨hlegal, badDst_eq_false hdst⟩)
      rfl hroom rfl rfl rfl rfl rfl)
  case xstore => exact (exec_xstore s c w).trans (opCmd_queued h hfree (regsFree_nil s c) hlegal hregion hroom rfl rfl rfl rfl rfl)
  case spget =>
    exact (exec_spget s c w).trans (opCmd_queued h (regsFree_nil s c) hfree (by simp [bodySpget, hlegal, bad16_eq_false hdst, himm]) rfl hroom
      rfl rfl rfl rfl rfl)
  case spadd =>
    exact (exec_spadd s c w).trans (opCmd_queued h hfree (regsFree_nil s c) (by simp [bodySpadd, hlegal, bad16_eq_false hsrc, himm]) rfl hroom
      rfl rfl rfl rfl rfl)
  case mclr =>
    exact (exec_mclr s c w).trans (opCmd_queued h (regsFree_nil s c) (regsFree_nil s c) (Bool.or_eq_false_iff.mpr ⟨hlegal, badDst_eq_false hdst⟩)
      rfl hroom rfl rfl rfl rfl rfl)

/-! ### Long registers (R155) -/

section
variable {s : State} {c : Nat} {w : OpWord}

theorem opCmd_lnBody {op : Nat} {u : Uses} {srcs : OpWord → List Nat} {bad : OpWord → Bool} {f : Core → OpWord → LongReg} (h : OpAt op c w s)
    (hport : portFree (coreNext s c) = true) (hlegal : badUnused u w = false) (hdst : w.dst.toNat < 16) (hsrcs : bad w = false)
    (hfree : RegsFree s c (.ln w.dst.toNat :: (srcs w).map .ln)) :
    opCmd (lnBody u srcs bad f) op none c w s = .next (lauResult s c 1 4 (.ln w.dst.toNat (f (coreNext s c) w))) :=
  opCmd_issued h (regsFree_mono hfree (List.subset_cons_self _ _)) (regsFree_mono hfree (by simp [lnBody]))
    (by simp [lnBody, hlegal, bad16_eq_false hdst, hsrcs]) rfl hport rfl rfl rfl rfl rfl

theorem exec_lnlane_issued (hport : portFree (coreNext s c) = true) (h : OpAt 0x84 c w s)
    (hlegal : badUnused { dst := true, sa := true, sc := w.md.getLsbD 0, md := true } w = false) (hdst : w.dst.toNat < 16) (hsrc : w.sa.toNat < 8)
    (hmod : w.md.toNat < 4)
    (hfree : RegsFree s c ([.ln w.dst.toNat, .v w.sa.toNat] ++ if w.md.getLsbD 0 then [.s w.sc.toNat] else [])) :
    exec (.lnlane c w) s = .next (lauResult s c 4 6 (.ln w.dst.toNat (lrAdd (readLn (coreNext s c) w.dst.toNat) (lrSum
      ((laneIdx.filter fun l => !w.md.getLsbD 0 || (readS (thrNext s c) w.sc).getLsbD l).map fun l =>
        lrOfVal (laneVal (w.md.getLsbD 1) (lane (readV (thrNext s c) w.sa) l))))))) := by
  have hon : (fun l => !w.md.getLsbD 0 || (readS (thrNext s c) w.sc).getLsbD l)
      = fun l => if w.md.getLsbD 0 then (readS (thrNext s c) w.sc).getLsbD l else true := by
    funext l
    cases w.md.getLsbD 0 <;> simp
  have hbits : bits w.md.toNat 3 2 = 0 := by rw [bits_eq_div]; omega
  rw [hon]
  refine (exec_lnlane s c w).trans (opCmd_issued h (regsFree_mono hfree ?_) (regsFree_mono hfree (by simp [bodyLnlane]))
    (by simp only [bodyLnlane, hlegal, bad16_eq_false hdst, bad8_eq_false hsrc, hbits]; rfl) rfl hport rfl rfl rfl rfl rfl)
  intro r hr
  simpa [bodyLnlane, or_left_comm] using hr

theorem scheduleNv_step (k : Core) (n : W64) (th : Nat) (nv : Bool) : (scheduleNv k n th nv).step = k.step := by
  cases nv <;> rfl

end

/-- Settles O16: each operation by the value that it writes and the steps of the port that it takes. -/
theorem longRegisterOperations : Obligations.LongRegisterOperations := by
  unfold Obligations.LongRegisterOperations
  intro s c w hport k d a
  refine ⟨fun h hlegal hd ha hb hfree => ?lnadd, fun h hlegal hd ha hfree => ?lnmov, fun h hlegal hd hfree => ?lnclr,
    fun h hlegal hd ha hfree => ?lnneg, exec_lnlane_issued hport, fun h hlegal hfree => ?lnrnd⟩
  case lnadd =>
    exact (exec_lnadd s c w).trans (opCmd_lnBody h hport hlegal hd (Bool.or_eq_false_iff.mpr ⟨bad16_eq_false ha, bad16_eq_false hb⟩) hfree)
  case lnmov => exact (exec_lnmov s c w).trans (opCmd_lnBody h hport hlegal hd (bad16_eq_false ha) hfree)
  case lnclr => exact (exec_lnclr s c w).trans (opCmd_lnBody h hport hlegal hd rfl hfree)
  case lnneg => exact (exec_lnneg s c w).trans (opCmd_lnBody h hport hlegal hd (bad16_eq_false ha) hfree)
  case lnrnd =>
    exact (exec_lnrnd s c w).trans (opCmd_issued h (regsFree_mono hfree (by simp [bodyLnrnd, a])) (regsFree_mono hfree (by simp [bodyLnrnd, d])) hlegal
      rfl hport rfl rfl (scheduleNv_step _ _ _ _) rfl rfl)

end Sys2Proof.Machine

/-! PROOF. Vectors (spec/05 R156 to R158, spec/03 R87, R88). -/

namespace Sys2Proof.Machine

/-! ### The lanes of a vector and the bits of a mask -/

theorem lanesFrom_lt (n : Nat) (f : Nat → W32) : lanesFrom n f < 2 ^ (32 * n) := by
  induction n with
  | zero => exact Nat.one_pos
  | succ n ih =>
    rw [lanesFrom, Nat.shiftLeft_eq, show 32 * (n + 1) = 32 * n + 32 from rfl, Nat.pow_add]
    have hlane : (f n).toNat + 1 ≤ 2 ^ 32 := (f n).isLt
    calc lanesFrom n f + (f n).toNat * 2 ^ (32 * n) < ((f n).toNat + 1) * 2 ^ (32 * n) := by
          rw [Nat.add_one_mul (f n).toNat]
          omega
      _ ≤ 2 ^ 32 * 2 ^ (32 * n) := Nat.mul_le_mul_right _ hlane
      _ = 2 ^ (32 * n) * 2 ^ 32 := Nat.mul_comm _ _

theorem lanesFrom_lane {n l : Nat} (f : Nat → W32) (hl : l < n) : lanesFrom n f / 2 ^ (32 * l) % 2 ^ 32 = (f l).toNat := by
  induction n with
  | zero => exact absurd hl (Nat.not_lt_zero l)
  | succ n ih =>
    rw [lanesFrom, Nat.shiftLeft_eq]
    obtain hlt | rfl := Nat.lt_succ_iff_lt_or_eq.mp hl
    · have hpow : 2 ^ (32 * n) = 2 ^ (32 * l) * (2 ^ 32 * 2 ^ (32 * (n - l - 1))) := by
        rw [← Nat.pow_add, ← Nat.pow_add]
        congr 1
        omega
      rw [hpow, Nat.mul_left_comm, Nat.add_mul_div_left _ _ (Nat.two_pow_pos _), Nat.mul_left_comm, Nat.add_mul_mod_self_left, ih hlt]
    · rw [Nat.add_mul_div_right _ _ (Nat.two_pow_pos _), Nat.div_eq_of_lt (lanesFrom_lt l f), Nat.zero_add, Nat.mod_eq_of_lt (f l).isLt]

@[simp] theorem lane_ofLanes {l : Nat} (f : Nat → W32) (hl : l < 64) : lane (ofLanes f) l = f l := by
  have hfits : lanesFrom 64 f < 2 ^ 2048 := lanesFrom_lt 64 f
  apply BitVec.eq_of_toNat_eq
  rw [lane, ofLanes, BitVec.extractLsb'_toNat, BitVec.toNat_ofNat, Nat.mod_eq_of_lt hfits, Nat.shiftRight_eq_div_pow,
    lanesFrom_lane f hl]

/-- The sum of the powers of two of the selected lane numbers below `n`. -/
def maskBelow (f : Nat → Bool) (n : Nat) : Nat := (List.range n).foldl (fun acc l => if f l then acc + 2 ^ l else acc) 0

theorem maskBelow_succ (f : Nat → Bool) (n : Nat) : maskBelow f (n + 1) = if f n then maskBelow f n + 2 ^ n else maskBelow f n := by
  rw [maskBelow, List.range_succ, List.foldl_append]
  rfl

theorem maskBelow_lt (f : Nat → Bool) (n : Nat) : maskBelow f n < 2 ^ n := by
  induction n with
  | zero => exact Nat.one_pos
  | succ n ih => rw [maskBelow_succ, Nat.pow_succ]; split <;> omega

theorem testBit_maskBelow {n l : Nat} (f : Nat → Bool) (hl : l < n) : (maskBelow f n).testBit l = f l := by
  induction n with
  | zero => exact absurd hl (Nat.not_lt_zero l)
  | succ n ih =>
    rw [maskBelow_succ]
    obtain hlt | rfl := Nat.lt_succ_iff_lt_or_eq.mp hl
    · split
      · rw [Nat.add_comm, Nat.testBit_two_pow_add_gt hlt, ih hlt]
      · exact ih hlt
    · split
      next hf => rw [Nat.add_comm, Nat.testBit_two_pow_add_eq, Nat.testBit_lt_two_pow (maskBelow_lt f l), hf]; rfl
      next hf => rw [Nat.testBit_lt_two_pow (maskBelow_lt f l)]; simpa using hf

theorem getLsbD_maskOf {l : Nat} (f : Nat → Bool) (hl : l < 64) : (maskOf f).getLsbD l = f l := by
  rw [maskOf, BitVec.getLsbD_ofNat, show laneIdx.foldl (fun acc l => if f l then acc + 2 ^ l else acc) 0 = maskBelow f 64 from rfl,
    testBit_maskBelow f hl]
  simp [hl]

/-! ### Lane by lane (R156) -/

section
variable {s : State} {c op : Nat} {w : OpWord}

theorem opCmd_veBody {lat : Nat} {bad : OpWord → Bool} {srcs : OpWord → List RegName} {f : Core → Nat → OpWord → Nat → W32} (h : OpAt op c w s)
    (hlegal : bad w = false) (hdst : w.dst.toNat < 8) (hfree : RegsFree s c (.v w.dst.toNat :: srcs w)) (hve : (coreNext s c).veLeft = 0) :
    ∃ x : BitVec 2048, opCmd (veBody lat bad srcs f) op none c w s = .next (veResult s c 1 lat (.v w.dst.toNat x))
      ∧ ∀ l < 64, lane x l = f (coreNext s c) (thrOf s c) w l :=
  ⟨ofLanes (f (coreNext s c) (thrOf s c) w),
    opCmd_issued h (regsFree_mono hfree (List.subset_cons_self _ _)) (regsFree_mono hfree (by simp [veBody]))
      (Bool.or_eq_false_iff.mpr ⟨hlegal, bad8_eq_false hdst⟩) rfl (beq_iff_eq.mpr hve) rfl rfl rfl rfl rfl,
    fun _ hl => lane_ofLanes _ hl⟩

theorem opCmd_veBody_of {lat : Nat} {bad : OpWord → Bool} {srcs : OpWord → List RegName} {f : Core → Nat → OpWord → Nat → W32} {g : Nat → W32}
    {i : Instr} (hexec : exec i s = opCmd (veBody lat bad srcs f) op none c w s) (h : OpAt op c w s)
    (hlegal : bad w = false) (hdst : w.dst.toNat < 8) (hfree : RegsFree s c (.v w.dst.toNat :: srcs w)) (hve : (coreNext s c).veLeft = 0)
    (hlane : ∀ l, f (coreNext s c) (thrOf s c) w l = g l) :
    ∃ x : BitVec 2048, exec i s = .next (veResult s c 1 lat (.v w.dst.toNat x)) ∧ ∀ l < 64, lane x l = g l := by
  rw [hexec, ← funext hlane]
  exact opCmd_veBody h hlegal hdst hfree hve

end

theorem unusedOrBad8_eq_false {u : Uses} {w : OpWord} (hunused : badUnused u w = false) (hregs : vecRegs [.v w.sa.toNat, .v w.sb.toNat] = true) :
    (badUnused u w || bad8 w.sa || bad8 w.sb) = false := by
  obtain ⟨ha, hb⟩ : w.sa.toNat < 8 ∧ w.sb.toNat < 8 := by simpa [vecRegs] using hregs
  simp [hunused, bad8_eq_false ha, bad8_eq_false hb]

theorem unusedOrBad8_three_eq_false {u : Uses} {w : OpWord} (hunused : badUnused u w = false)
    (hregs : vecRegs [.v w.sa.toNat, .v w.sb.toNat, .v w.sc.toNat] = true) :
    (badUnused u w || bad8 w.sa || bad8 w.sb || bad8 w.sc) = false := by
  obtain ⟨ha, hb, hc⟩ : w.sa.toNat < 8 ∧ w.sb.toNat < 8 ∧ w.sc.toNat < 8 := by simpa [vecRegs] using hregs
  simp [hunused, bad8_eq_false ha, bad8_eq_false hb, bad8_eq_false hc]

theorem extractLow_eq_ofNat (x : W64) : x.extractLsb' 0 32 = BitVec.ofNat 32 x.toNat := by
  apply BitVec.eq_of_toNat_eq
  rw [BitVec.extractLsb'_toNat, Nat.shiftRight_zero, BitVec.toNat_ofNat]

/-- Settles O17: each row's body is a `veBody`, whose vector has the lanes that the row names. -/
theorem vectorOperationsWorkLaneByLane : Obligations.VectorOperationsWorkLaneByLane := by
  unfold Obligations.VectorOperationsWorkLaneByLane
  intro r hr s c w h hunused hdst hregs hmode hfree hve
  simp only [vecRows, List.mem_cons, List.not_mem_nil, or_false] at hr
  obtain rfl | rfl | rfl | rfl | rfl | rfl | rfl | rfl | rfl | rfl | rfl := hr
  case inl =>
    exact opCmd_veBody_of (exec_vadd s c w) h (Bool.or_eq_false_iff.mpr ⟨unusedOrBad8_eq_false hunused hregs, hmode rfl⟩) hdst hfree hve fun _ => rfl
  case inr.inl =>
    exact opCmd_veBody_of (exec_vsub s c w) h (Bool.or_eq_false_iff.mpr ⟨unusedOrBad8_eq_false hunused hregs, hmode rfl⟩) hdst hfree hve fun _ => rfl
  case inr.inr.inl =>
    exact opCmd_veBody_of (exec_vmul s c w) h (Bool.or_eq_false_iff.mpr ⟨unusedOrBad8_eq_false hunused hregs, hmode rfl⟩) hdst hfree hve fun _ => rfl
  case inr.inr.inr.inl =>
    exact opCmd_veBody_of (exec_vfma s c w) h (Bool.or_eq_false_iff.mpr ⟨unusedOrBad8_three_eq_false hunused hregs, hmode rfl⟩) hdst hfree hve
      fun _ => rfl
  · exact opCmd_veBody_of (exec_vmin s c w) h (unusedOrBad8_eq_false hunused hregs) hdst hfree hve fun _ => rfl
  · exact opCmd_veBody_of (exec_vmax s c w) h (unusedOrBad8_eq_false hunused hregs) hdst hfree hve fun _ => rfl
  · exact opCmd_veBody_of (exec_viadd s c w) h (unusedOrBad8_eq_false hunused hregs) hdst hfree hve fun _ => rfl
  · exact opCmd_veBody_of (exec_vimul s c w) h (unusedOrBad8_eq_false hunused hregs) hdst hfree hve fun _ => rfl
  · exact opCmd_veBody_of (exec_vbcast s c w) h hunused hdst hfree hve fun _ => extractLow_eq_ofNat _
  · exact opCmd_veBody_of (exec_vidx s c w) h hunused hdst hfree hve fun _ => rfl
  · exact opCmd_veBody_of (exec_vsel s c w) h (unusedOrBad8_eq_false hunused hregs) hdst hfree hve fun _ => rfl

/-! ### VCVT, VFN, VCMP and VLANE (R157, R88, R158, R156) -/

theorem cvtDst_eq (w : OpWord) : cvtDst w = w.imm.toNat / 16 % 16 := bits_eq_div _ _ _

/-- Settles O18: the vectors by `lane_ofLanes`, the mask by `getLsbD_maskOf`. -/
theorem vectorConversionsFunctionsAndMasks : Obligations.VectorConversionsFunctionsAndMasks := by
  unfold Obligations.VectorConversionsFunctionsAndMasks
  intro s c w hve
  have hfree : veFree (coreNext s c) = true := beq_iff_eq.mpr hve
  simp only [← cvtDst_eq]
  refine ⟨fun h hlegal hregs => ?vcvt, fun h hlegal hregs => ?vfn, fun h hlegal ha hb hregs => ?vcmp, fun h hlegal ha himm hregs => ?vlane⟩
  case vcvt =>
    exact ⟨_, (exec_vcvt s c w).trans (opCmd_issued h (regsFree_mono hregs (by simp [bodyVcvt])) (regsFree_mono hregs (by simp [bodyVcvt])) hlegal
      rfl hfree rfl rfl (scheduleNv_step _ _ _ _) rfl rfl), fun l hl => lane_ofLanes _ hl⟩
  case vfn =>
    exact ⟨_, (exec_vfn s c w).trans (opCmd_issued h (regsFree_mono hregs (by simp [bodyVfn])) (regsFree_mono hregs (by simp [bodyVfn])) hlegal
      rfl hfree rfl rfl rfl rfl rfl), fun l hl => lane_ofLanes _ hl⟩
  case vcmp =>
    exact ⟨_, (exec_vcmp s c w).trans (opCmd_issued h (regsFree_mono hregs (by simp [bodyVcmp])) (regsFree_mono hregs (by simp [bodyVcmp]))
      (by simp [bodyVcmp, hlegal, bad8_eq_false ha, bad8_eq_false hb]) rfl hfree rfl rfl rfl rfl rfl), fun l hl => getLsbD_maskOf _ hl⟩
  case vlane =>
    exact (exec_vlane s c w).trans (opCmd_issued h (regsFree_mono hregs (by simp [bodyVlane])) (regsFree_mono hregs (by simp [bodyVlane]))
      (by simp [bodyVlane, hlegal, bad8_eq_false ha, himm]) rfl hfree rfl rfl rfl rfl rfl)

end Sys2Proof.Machine

/-! PROOF. Gather (spec/05 R137, R159): a gather whose destination is still to be written does not issue. -/

namespace Sys2Proof.Machine

/-! ### A masked gather of no lane whose destination is still to be written -/

/-- VGATH v1 under the mask in s0, which is 0. -/
def gatherNoLane : OpWord := { dst := 1, sa := 0, sb := 0, sc := 0, md := 1, imm := 0 }
/-- A live core at that VGATH, with a result for v1 that arrives in step 2. -/
def gatherPendingCore : Core :=
  { coreReset with mode := .live, code := [opEncode 0x40 gatherNoLane], writes := [{ due := 2, thread := 0, val := .v 1 0 }] }
def gatherPending : State := setCore State.reset 0 gatherPendingCore

/-- The step counter of core 0 after a command. -/
def stepAfter (o : Out) : W64 :=
  match o with
  | .next t => (getCore t 0).step
  | _ => 0

theorem gatherPending_opAt : OpAt 0x40 0 gatherNoLane gatherPending := by unfold OpAt; decide +kernel

theorem gatherPending_readsFree : RegsFree gatherPending 0 (bodyVgath.reads gatherNoLane) := by unfold RegsFree; decide +kernel

theorem gatherPending_stands : stepAfter (exec (.vgath 0 gatherNoLane) gatherPending) = 0 := by decide +kernel

/-- Refutes O19: the second clause does not ask that the destination be free, and R137 holds the gather back while v1 is still to be written. -/
theorem not_gatherScatterAndExactAdd : ¬ Obligations.GatherScatterAndExactAdd := by
  unfold Obligations.GatherScatterAndExactAdd
  intro h
  obtain ⟨_, hempty, _⟩ := h gatherPending 0 gatherNoLane
  have hissues := congrArg stepAfter (hempty gatherPending_opAt (by decide +kernel) gatherPending_readsFree (by decide +kernel))
  rw [gatherPending_stands] at hissues
  exact absurd hissues (by decide +kernel)

end Sys2Proof.Machine

/-! PROOF. DMA, sync objects, the fabric, collectives, draws and tile registers (spec/05 R161 to R169). -/

namespace Sys2Proof.Machine

theorem regionAt_of_some {x : Ctx} {a : W64} {n : Nat} {g : Region} (h : regionOf x a n = some g) : regionAt x a n = g := by
  rw [regionAt, h, Option.getD_some]

theorem bits_eq_zero_of_lt {v hi lo : Nat} (h : v < 2 ^ lo) : bits v hi lo = 0 := by
  rw [bits_eq_div, Nat.div_eq_of_lt h, Nat.zero_mod]

theorem anyRegion_of_some {x : Ctx} {a : W64} {n : Nat} {g : Region} (h : regionOf x a n = some g) : anyRegion x a n = [] := by
  simp [anyRegion, h]

theorem isSpad_or_windowRoom {s : State} {c : Nat} {g : Region} (h : WindowRoom s c g) : (!isSpad g || windowRoom (coreNext s c)) = true := by
  cases hs : isSpad g with
  | false => rfl
  | true => exact h hs

theorem openWindow_step (k : Core) (th : Nat) (g : Region) (n : Nat) : (openWindow k th g n).step = k.step := by
  cases g <;> rfl

/-! ### Operations that wait for a result from outside, and posted ones -/

section
variable {b : Body} {op c : Nat} {md : Option Nat} {w : OpWord} {s : State} {rq : OutReq}

/-- A gated request whose destination is sD. -/
theorem opCmd_gated {cls : AccClass} (h : OpAt op c w s) (hmd : (md.all fun m => m == w.md.toNat) = true) (hreads : RegsFree s c (b.reads w))
    (hwrites : RegsFree s c (b.writes w)) (hlegal : b.illegal (ctxNow s c) (coreNext s c) (thrOf s c) w = false)
    (hchecks : b.checks (ctxNow s c) (coreNext s c) (thrOf s c) w = [])
    (hready : b.ready (ctxNow s c) (coreNext s c) (thrOf s c) w = true)
    (hposts : b.posts (ctxNow s c) (coreNext s c) (thrOf s c) w = false)
    (heffect : b.effect (ctxNow s c) (coreNext s c) (thrOf s c) w = (addGated (coreNext s c) (thrOf s c) cls (.scalar w.dst.toNat), [rq]))
    (htarget : b.target (coreNext s c) (thrOf s c) w = none) (hwait : b.wait (coreNext s c) (thrOf s c) w = none) :
    opCmd b op md c w s = .next (gatedOut s c (coreNext s c) cls w rq) :=
  opCmd_issuedOut h hmd hreads hwrites hlegal hchecks hready (fun hp => absurd hp (by simp [hposts])) heffect rfl htarget hwait

/-- A gated request that opens a window over its destination (R98). -/
theorem opCmd_gatedWindow {cls : AccClass} {g : Region} {n : Nat} (h : OpAt op c w s) (hreads : RegsFree s c (b.reads w))
    (hwrites : RegsFree s c (b.writes w)) (hlegal : b.illegal (ctxNow s c) (coreNext s c) (thrOf s c) w = false)
    (hchecks : b.checks (ctxNow s c) (coreNext s c) (thrOf s c) w = [])
    (hready : b.ready (ctxNow s c) (coreNext s c) (thrOf s c) w = true)
    (hposts : b.posts (ctxNow s c) (coreNext s c) (thrOf s c) w = false)
    (heffect : b.effect (ctxNow s c) (coreNext s c) (thrOf s c) w
      = (openWindow (addGated (coreNext s c) (thrOf s c) cls (.scalar w.dst.toNat)) (thrOf s c) g n, [rq]))
    (htarget : b.target (coreNext s c) (thrOf s c) w = none) (hwait : b.wait (coreNext s c) (thrOf s c) w = none) :
    opCmd b op none c w s
      = .next (issuedOut s c (openWindow (addGated (coreNext s c) (thrOf s c) cls (.scalar w.dst.toNat)) (thrOf s c) g n) [rq]) :=
  opCmd_issuedOut h rfl hreads hwrites hlegal hchecks hready (fun hp => absurd hp (by simp [hposts])) heffect (openWindow_step _ _ _ _) htarget hwait

/-- A posted operation. -/
theorem opCmd_posted {cls : AccClass} {a : W64} {signal : Bool} (h : OpAt op c w s) (hreads : RegsFree s c (b.reads w)) (hwrites : b.writes w = [])
    (hlegal : b.illegal (ctxNow s c) (coreNext s c) (thrOf s c) w = false)
    (hchecks : b.checks (ctxNow s c) (coreNext s c) (thrOf s c) w = [])
    (hready : b.ready (ctxNow s c) (coreNext s c) (thrOf s c) w = true) (hroom : PostRoom s c)
    (heffect : b.effect (ctxNow s c) (coreNext s c) (thrOf s c) w = (addPosted (coreNext s c) (thrOf s c) cls a signal, [rq]))
    (htarget : b.target (coreNext s c) (thrOf s c) w = none) (hwait : b.wait (coreNext s c) (thrOf s c) w = none) :
    opCmd b op none c w s = .next (issuedOut s c (addPosted (coreNext s c) (thrOf s c) cls a signal) [rq]) :=
  opCmd_issuedOut h rfl hreads (by rw [hwrites]; exact regsFree_nil s c) hlegal hchecks hready (fun _ => hroom) heffect rfl htarget hwait

end

/-! ### DMA, SIGNAL and SRESET (R161, R164) -/

section
variable {s : State} {c : Nat} {w : OpWord}

theorem exec_dma_issued {src dst : Region} {n : Nat} (h : OpAt 0x90 c w s)
    (hlegal : badUnused { dst := true, sa := true, sb := true, sc := true } w = false) (hfree : ThreeRegs s c w)
    (hn : n = (readS (thrNext s c) w.sc).toNat) (hpos : 0 < n) (hmax : n ≤ 2 ^ 30)
    (hsrc : regionOf (ctxNow s c) (readS (thrNext s c) w.sa) n = some src) (hdst : regionOf (ctxNow s c) (readS (thrNext s c) w.sb) n = some dst)
    (hopen : openCheck (ctxNow s c) (coreNext s c) dst n (readS (thrNext s c) w.sb) = []) (hgated : gatedRoom (coreNext s c) (thrOf s c) = true)
    (hqueue : (ctxNow s c).dmaFree = true) (hwindow : WindowRoom s c dst) :
    exec (.dma c w) s = .next (issuedOut s c
      (openWindow (addGated (coreNext s c) (thrOf s c) .dmaDone (.scalar w.dst.toNat)) (thrOf s c) dst n) [.dma src dst n]) := by
  subst hn
  refine (exec_dma s c w).trans (opCmd_gatedWindow (b := bodyDma) h (regsFree_mono hfree (by simp [bodyDma]))
    (regsFree_mono hfree (by simp [bodyDma])) hlegal ?checks ?ready rfl ?effect rfl rfl)
  all_goals simp only [bodyDma, show getThread (coreNext s c) (thrOf s c) = thrNext s c from rfl, regionAt_of_some hdst]
  case checks =>
    rw [if_neg (by omega), anyRegion_of_some hsrc, anyRegion_of_some hdst, hopen]
    rfl
  case ready =>
    rw [hgated, hqueue, isSpad_or_windowRoom hwindow]
    rfl
  case effect => rw [regionAt_of_some hsrc]

theorem exec_signal_issued (h : OpAt 0x91 c w s)
    (hunused : badUnused { sa := true, sb := !w.md.getLsbD 0, md := true, imm := w.md.getLsbD 0 } w = false) (hmod : w.md.toNat < 2)
    (hfree : RegsFree s c (.s w.sa.toNat :: if w.md.getLsbD 0 then [] else [.s w.sb.toNat])) (hroom : PostRoom s c) :
    exec (.signal c w) s = .next (issuedOut s c (addPosted (coreNext s c) (thrOf s c) .syncWait (readS (thrNext s c) w.sa) true)
      [.signal (readS (thrNext s c) w.sa) (if w.md.getLsbD 0 then w.imm.zeroExtend 64 else readS (thrNext s c) w.sb)]) := by
  have hlegal : bodySignal.illegal (ctxNow s c) (coreNext s c) (thrOf s c) w = false := by
    simp only [bodySignal, hunused, bits_eq_zero_of_lt (show w.md.toNat < 2 ^ 1 from hmod)]
    rfl
  exact (exec_signal s c w).trans (opCmd_posted h hfree rfl hlegal rfl rfl hroom rfl rfl rfl)

end

/-- Settles O20: each operation as a gated request or as a posted one. -/
theorem dmaSignalsAndTimebase : Obligations.DmaSignalsAndTimebase := by
  unfold Obligations.DmaSignalsAndTimebase
  intro s c w k t th
  refine ⟨fun src dst n => exec_dma_issued, exec_signal_issued, fun h hlegal hfree hroom => ?wait, fun h hlegal hfree hroom => ?sreset,
    fun h hunused hlock hfree hroom => ?spoll, fun h hlegal hfree hroom => ?tbrd⟩
  case wait =>
    exact (exec_wait s c w).trans (opCmd_gated h rfl (regsFree_mono hfree (by simp [bodyWait])) (regsFree_mono hfree (by simp [bodyWait])) hlegal rfl
      hroom rfl rfl rfl rfl)
  case sreset => exact (exec_sreset s c w).trans (opCmd_posted h hfree rfl hlegal rfl rfl hroom rfl rfl rfl)
  case spoll =>
    exact (exec_spoll s c w).trans (opCmd_gated h rfl (regsFree_mono hfree (by simp [bodySpoll])) (regsFree_mono hfree (by simp [bodySpoll]))
      (Bool.or_eq_false_iff.mpr ⟨hunused, hlock⟩) rfl hroom rfl rfl rfl rfl)
  case tbrd => exact (exec_tbrd s c w).trans (opCmd_gated h rfl (regsFree_nil s c) hfree hlegal rfl hroom rfl rfl rfl rfl)

end Sys2Proof.Machine

/-! PROOF. The fabric, collectives, draws and tile registers (spec/05 R161 to R169, spec/11 R348 to R356). -/

namespace Sys2Proof.Machine

/-! ### Atomics (R161 Table 15) -/

section
variable {s : State} {c : Nat} {w : OpWord} {g : Region}

theorem opCmd_fatomBody {kind : AtomKind} {m : Nat} (h : OpAt 0xA2 c w s) (hmd : w.md.toNat = m)
    (hlegal : badUnused { dst := true, sa := true, sb := true, sc := true, md := true } w = false) (hfree : ThreeRegs s c w)
    (haligned : (readS (thrNext s c) w.sc).toNat % 8 = 0) (hroom : gatedRoom (coreNext s c) (thrOf s c) = true) :
    opCmd (fatomBody kind) 0xA2 (some m) c w s = .next (gatedOut s c (coreNext s c) .fabric w
      (.fatom kind (readS (thrNext s c) w.sa) (readS (thrNext s c) w.dst) none (readS (thrNext s c) w.sb) (readS (thrNext s c) w.sc))) := by
  refine opCmd_gated h (by simp [hmd]) (regsFree_mono hfree ?_) (regsFree_mono hfree (by simp [fatomBody])) hlegal (alignCheck_of_aligned haligned)
    hroom rfl rfl rfl rfl
  by_cases hcas : kind == .cas64 <;> simp [fatomBody, hcas]

theorem exec_atomRow {r : AtomRow} (hr : r ∈ atomRows) (c : Nat) (w : OpWord) (s : State) :
    exec (r.cmd c w) s = opCmd (fatomBody r.kind) 0xA2 (some r.md) c w s := by
  simp only [atomRows, List.mem_cons, List.not_mem_nil, or_false] at hr
  obtain rfl | rfl | rfl | rfl | rfl := hr
  · exact exec_fatomAdd64 s c w
  · exact exec_fatomSwap64 s c w
  · exact exec_fatomCas64 s c w
  · exact exec_fatomMin64 s c w
  · exact exec_fatomMax64 s c w

theorem localCheck_eq_nil {a : W64} {n : Nat} (hregion : regionOf (ctxNow s c) a n = some g) (hhost : isHost g = false) (htenant : isTenant g = false) :
    localCheck (ctxNow s c) a n = [] := by
  simp [localCheck, hregion, hhost, htenant]

theorem exec_fatomXadd_issued (h : OpAt 0xA2 c w s) (hmd : w.md.toNat = 5)
    (hlegal : badUnused { dst := true, sa := true, sb := true, sc := true, md := true } w = false) (hfree : ThreeRegs s c w)
    (haligned : (readS (thrNext s c) w.sc).toNat % 64 = 0) (haccess : AccessTo s c (readS (thrNext s c) w.sa) 128 64 g)
    (hlocal : isTenant g = false) (hroom : gatedRoom (coreNext s c) (thrOf s c) = true) :
    exec (.fatomXadd c w) s = .next (gatedOut s c (coreNext s c) .fabric w
      (.fatom .xadd 0 0 (some g) (readS (thrNext s c) w.sb) (readS (thrNext s c) w.sc))) := by
  have hwindow := windowCheck_of_accessTo haccess
  have hregion := regionAt_of_accessTo haccess
  obtain ⟨hsource, hsome, hhost, _⟩ := haccess
  refine (exec_fatomXadd s c w).trans (opCmd_gated (b := bodyFatomXadd) h (by simp [hmd]) (regsFree_mono hfree (by simp [bodyFatomXadd]))
    (regsFree_mono hfree (by simp [bodyFatomXadd])) hlegal ?checks hroom rfl ?effect rfl rfl)
  all_goals simp only [bodyFatomXadd, show getThread (coreNext s c) (thrOf s c) = thrNext s c from rfl, hregion]
  case checks =>
    rw [alignCheck_of_aligned hsource, alignCheck_of_aligned haligned, localCheck_eq_nil hsome hhost hlocal, hwindow]
    rfl

/-! ### Transfers and messages (R161, R162, R165) -/

theorem badLen_of_localRange {a : W64} {n : Nat} (h : LocalRange s c a n g) : badLen n = false := by
  obtain ⟨_, hmult, hmin, hmax, _⟩ := h
  simp [badLen, hmult, hmin, hmax]

theorem alignCheck_of_localRange {a : W64} {n : Nat} (h : LocalRange s c a n g) : alignCheck a 8 = [] := alignCheck_of_aligned h.1

theorem regionAt_of_localRange {a : W64} {n : Nat} (h : LocalRange s c a n g) : regionAt (ctxNow s c) a n = g := by
  obtain ⟨_, _, _, _, hregion, _⟩ := h
  exact regionAt_of_some hregion

theorem localCheck_of_localRange {a : W64} {n : Nat} (h : LocalRange s c a n g) : localCheck (ctxNow s c) a n = [] := by
  obtain ⟨_, _, _, _, hregion, hhost, htenant⟩ := h
  exact localCheck_eq_nil hregion hhost htenant

theorem exec_frd_issued (hroom : gatedRoom (coreNext s c) (thrOf s c) = true) (h : OpAt 0xA0 c w s)
    (hlegal : badUnused { dst := true, sa := true, sb := true, sc := true, imm := true } w = false) (hfree : ThreeRegs s c w)
    (haligned : (readS (thrNext s c) w.sc).toNat % 8 = 0) (hrange : LocalRange s c (readS (thrNext s c) w.sa) w.imm.toNat g)
    (hopen : openCheck (ctxNow s c) (coreNext s c) g w.imm.toNat (readS (thrNext s c) w.sa) = []) (hwindow : WindowRoom s c g) :
    exec (.frd c w) s = .next (issuedOut s c
      (openWindow (addGated (coreNext s c) (thrOf s c) .fabric (.scalar w.dst.toNat)) (thrOf s c) g w.imm.toNat)
      [.frd g (readS (thrNext s c) w.sb) (readS (thrNext s c) w.sc) w.imm.toNat]) := by
  refine (exec_frd s c w).trans (opCmd_gatedWindow (b := bodyFrd) h (regsFree_mono hfree (by simp [bodyFrd]))
    (regsFree_mono hfree (by simp [bodyFrd])) hlegal ?checks ?ready rfl ?effect rfl rfl)
  all_goals simp only [bodyFrd, show getThread (coreNext s c) (thrOf s c) = thrNext s c from rfl, regionAt_of_localRange hrange]
  case checks =>
    rw [alignCheck_of_localRange hrange, alignCheck_of_aligned haligned, badLen_of_localRange hrange, localCheck_of_localRange hrange, hopen]
    rfl
  case ready =>
    rw [hroom, isSpad_or_windowRoom hwindow]
    rfl

theorem exec_fwr_issued (hroom : gatedRoom (coreNext s c) (thrOf s c) = true) (h : OpAt 0xA1 c w s)
    (hlegal : badUnused { dst := true, sa := true, sb := true, sc := true, imm := true } w = false) (hfree : ThreeRegs s c w)
    (haligned : (readS (thrNext s c) w.sc).toNat % 8 = 0) (hrange : LocalRange s c (readS (thrNext s c) w.sa) w.imm.toNat g)
    (hwindow : windowCheck (ctxNow s c) (coreNext s c) g w.imm.toNat (readS (thrNext s c) w.sa) = []) :
    exec (.fwr c w) s = .next (gatedOut s c (coreNext s c) .fabric w
      (.fwr g (readS (thrNext s c) w.sb) (readS (thrNext s c) w.sc) w.imm.toNat)) := by
  refine (exec_fwr s c w).trans (opCmd_gated (b := bodyFwr) h rfl (regsFree_mono hfree (by simp [bodyFwr]))
    (regsFree_mono hfree (by simp [bodyFwr])) hlegal ?checks hroom rfl ?effect rfl rfl)
  all_goals simp only [bodyFwr, show getThread (coreNext s c) (thrOf s c) = thrNext s c from rfl, regionAt_of_localRange hrange]
  case checks =>
    rw [alignCheck_of_localRange hrange, alignCheck_of_aligned haligned, badLen_of_localRange hrange, localCheck_of_localRange hrange, hwindow]
    rfl

theorem exec_send_issued (hroom : gatedRoom (coreNext s c) (thrOf s c) = true) (h : OpAt 0xA3 c w s)
    (hunused : badUnused { dst := true, sa := true, sb := true, sc := true, imm := true } w = false) (himm : w.imm.toNat < 65536)
    (hfree : ThreeRegs s c w) (hrange : LocalRange s c (readS (thrNext s c) w.sa) (readS (thrNext s c) w.sc).toNat g)
    (hwindow : windowCheck (ctxNow s c) (coreNext s c) g (readS (thrNext s c) w.sc).toNat (readS (thrNext s c) w.sa) = []) :
    exec (.send c w) s = .next (gatedOut s c (coreNext s c) .fabric w
      (.send g (readS (thrNext s c) w.sb) (readS (thrNext s c) w.sc).toNat (w.imm.toNat % 65536))) := by
  refine (exec_send s c w).trans (opCmd_gated (b := bodySend) h rfl (regsFree_mono hfree (by simp [bodySend]))
    (regsFree_mono hfree (by simp [bodySend])) ?legal ?checks hroom rfl ?effect rfl rfl)
  all_goals simp only [bodySend, show getThread (coreNext s c) (thrOf s c) = thrNext s c from rfl, regionAt_of_localRange hrange]
  case legal =>
    rw [hunused, bits_eq_zero_of_lt (show w.imm.toNat < 2 ^ 16 from himm)]
    rfl
  case checks =>
    rw [alignCheck_of_localRange hrange, badLen_of_localRange hrange, localCheck_of_localRange hrange, hwindow]
    rfl
  case effect => rfl

theorem exec_recv_issued (hroom : gatedRoom (coreNext s c) (thrOf s c) = true) (h : OpAt 0xA4 c w s)
    (hunused : badUnused { dst := true, sa := true, sb := true, sc := true, md := true, imm := true } w = false) (hmod : w.md.toNat < 2)
    (hlock : (ctxNow s c).lock = true → w.md.getLsbD 0 = false) (himm : w.imm.toNat < 65536) (hfree : ThreeRegs s c w)
    (hrange : LocalRange s c (readS (thrNext s c) w.sa) (readS (thrNext s c) w.sc).toNat g)
    (hopen : openCheck (ctxNow s c) (coreNext s c) g (readS (thrNext s c) w.sc).toNat (readS (thrNext s c) w.sa) = []) (hwindow : WindowRoom s c g) :
    exec (.recv c w) s = .next (issuedOut s c
      (openWindow (addGated (coreNext s c) (thrOf s c) .fabric (.scalar w.dst.toNat)) (thrOf s c) g (readS (thrNext s c) w.sc).toNat)
      [.recv g (w.md.getLsbD 0) (readS (thrNext s c) w.sb) (readS (thrNext s c) w.sc).toNat (w.imm.toNat % 65536)]) := by
  have hsource : ((ctxNow s c).lock && w.md.getLsbD 0) = false := by
    cases hset : (ctxNow s c).lock with
    | false => rfl
    | true => rw [hlock hset]; rfl
  refine (exec_recv s c w).trans (opCmd_gatedWindow (b := bodyRecv) h (regsFree_mono hfree (by simp [bodyRecv]))
    (regsFree_mono hfree (by simp [bodyRecv])) ?legal ?checks ?ready rfl ?effect rfl rfl)
  all_goals simp only [bodyRecv, show getThread (coreNext s c) (thrOf s c) = thrNext s c from rfl, regionAt_of_localRange hrange]
  case legal =>
    rw [hunused, bits_eq_zero_of_lt (show w.imm.toNat < 2 ^ 16 from himm), bits_eq_zero_of_lt (show w.md.toNat < 2 ^ 1 from hmod), hsource]
    rfl
  case checks =>
    rw [alignCheck_of_localRange hrange, badLen_of_localRange hrange, localCheck_of_localRange hrange, hopen]
    rfl
  case ready =>
    rw [hroom, isSpad_or_windowRoom hwindow]
    rfl
  case effect => rfl

theorem exec_probe_issued (hroom : gatedRoom (coreNext s c) (thrOf s c) = true) (h : OpAt 0xA5 c w s)
    (hunused : badUnused { dst := true, sb := true, md := true, imm := true } w = false) (hmod : w.md.toNat < 2) (hlock : (ctxNow s c).lock = false)
    (himm : w.imm.toNat < 65536) (hfree : RegsFree s c [.s w.dst.toNat, .s w.sb.toNat]) :
    exec (.probe c w) s = .next (gatedOut s c (coreNext s c) .fabric w
      (.probe (w.md.getLsbD 0) (readS (thrNext s c) w.sb) (w.imm.toNat % 65536))) := by
  have hlegal : bodyProbe.illegal (ctxNow s c) (coreNext s c) (thrOf s c) w = false := by
    simp only [bodyProbe, hunused, hlock, bits_eq_zero_of_lt (show w.imm.toNat < 2 ^ 16 from himm), bits_eq_zero_of_lt (show w.md.toNat < 2 ^ 1 from hmod)]
    rfl
  exact (exec_probe s c w).trans (opCmd_gated h rfl (regsFree_mono hfree (by simp [bodyProbe])) (regsFree_mono hfree (by simp [bodyProbe])) hlegal
    rfl hroom rfl rfl rfl rfl)

end

/-- Settles O21: each operation as a gated request of the fabric class. -/
theorem fabricOperationsAreSent : Obligations.FabricOperationsAreSent := by
  unfold Obligations.FabricOperationsAreSent
  refine ⟨⟨?atomics, fun s c w g => exec_fatomXadd_issued⟩, ?messages⟩
  case atomics =>
    intro r hr s c w t h hmd hlegal hfree haligned hroom
    exact (exec_atomRow hr c w s).trans (opCmd_fatomBody h hmd hlegal hfree haligned hroom)
  case messages =>
    intro s c w g k t th hroom all n tag
    exact ⟨exec_frd_issued hroom, exec_fwr_issued hroom, exec_send_issued hroom, exec_recv_issued hroom, exec_probe_issued hroom⟩

/-! ### Collectives (R161 Table 16, R348, R354, R356) -/

theorem exec_collRow {r : CollRow} (hr : r ∈ collRows) (c : Nat) (w : OpWord) (s : State) :
    exec (r.cmd c w) s = opCmd (collBody r.kind) 0xB0 (some r.md) c w s ∧ r.kind ≠ .barrier := by
  simp only [collRows, List.mem_cons, List.not_mem_nil, or_false] at hr
  obtain rfl | rfl | rfl | rfl | rfl | rfl := hr
  · exact ⟨exec_collAllreduce s c w, by decide⟩
  · exact ⟨exec_collReduce s c w, by decide⟩
  · exact ⟨exec_collReducescatter s c w, by decide⟩
  · exact ⟨exec_collBroadcast s c w, by decide⟩
  · exact ⟨exec_collAllgather s c w, by decide⟩
  · exact ⟨exec_collAlltoall s c w, by decide⟩

theorem bumpPhase_of_ne {x : Ctx} {k : Core} {kind : CollKind} {grp : W64} (h : kind ≠ .barrier) : bumpPhase x k kind grp = k := by
  unfold bumpPhase
  split
  · exact if_neg h
  · rfl

theorem collWindow_barrier (x : Ctx) (g n : Nat) (grp dst : W64) : collWindow x .barrier g n grp dst = none := by
  unfold collWindow
  cases x.group grp <;> rfl

section
variable {s : State} {c : Nat} {w : OpWord}

theorem opCmd_collBody {kind : CollKind} {m : Nat} (hkind : kind ≠ .barrier) (h : OpAt 0xB0 c w s) (hmd : w.md.toNat = m)
    (hunused : badUnused { dst := true, sa := true, sb := true, sc := true, md := true, imm := true } w = false) (himm : w.imm.toNat < 2 ^ 24)
    (hfree : ThreeRegs s c w) (hchecks : (collBody kind).checks (ctxNow s c) (coreNext s c) (thrOf s c) w = [])
    (hroom : gatedRoom (coreNext s c) (thrOf s c) = true)
    (hwindow : collWindow (ctxNow s c) kind (collUnit kind) (collCount w) (readS (thrNext s c) w.sa) (readS (thrNext s c) w.sc) = none
      ∨ windowRoom (coreNext s c) = true) :
    opCmd (collBody kind) 0xB0 (some m) c w s = .next (issuedOut s c
      (match collWindow (ctxNow s c) kind (collUnit kind) (collCount w) (readS (thrNext s c) w.sa) (readS (thrNext s c) w.sc) with
        | some p => openWindow (addGated (coreNext s c) (thrOf s c) .fabric (.scalar w.dst.toNat)) (thrOf s c) p.1 p.2
        | none => addGated (coreNext s c) (thrOf s c) .fabric (.scalar w.dst.toNat))
      [.coll kind (readS (thrNext s c) w.sa)
        (match (ctxNow s c).group (readS (thrNext s c) w.sa) with
          | some (m, root, _) => (collSpans kind (collCount w) m root).1.bind fun b => regionOf (ctxNow s c) (readS (thrNext s c) w.sb) b
          | none => none)
        (match (ctxNow s c).group (readS (thrNext s c) w.sa) with
          | some (m, root, _) => (collSpans kind (collCount w) m root).2.bind fun b => regionOf (ctxNow s c) (readS (thrNext s c) w.sc) b
          | none => none) (collCount w)]) := by
  have hne : (kind != .barrier) = true := by simp [hkind]
  refine opCmd_issuedOut h (by simp [hmd]) (regsFree_mono hfree (by simp [collBody, hkind])) (regsFree_mono hfree (by simp [collBody])) ?legal hchecks
    ?ready (absurd · Bool.false_ne_true) ?effect ?step rfl rfl
  case legal =>
    simp only [collBody, hne, hunused, bits_eq_zero_of_lt himm]
    rfl
  case ready =>
    simp only [collBody, show getThread (coreNext s c) (thrOf s c) = thrNext s c from rfl, hroom, Bool.true_and, Bool.or_eq_true,
      Option.isNone_iff_eq_none]
    exact hwindow
  case effect =>
    simp only [collBody, show getThread (coreNext s c) (thrOf s c) = thrNext s c from rfl, bumpPhase_of_ne hkind]
    cases collWindow (ctxNow s c) kind (collUnit kind) (collCount w) (readS (thrNext s c) w.sa) (readS (thrNext s c) w.sc) <;>
      cases (ctxNow s c).group (readS (thrNext s c) w.sa) <;> rfl
  case step =>
    cases collWindow (ctxNow s c) kind (collUnit kind) (collCount w) (readS (thrNext s c) w.sa) (readS (thrNext s c) w.sc) with
    | none => rfl
    | some p => exact openWindow_step _ _ _ _

theorem exec_collBarrier_issued (h : OpAt 0xB0 c w s) (hmd : w.md.toNat = 5)
    (hunused : badUnused { dst := true, sa := true, md := true } w = false) (hfree : RegsFree s c [.s w.dst.toNat, .s w.sa.toNat])
    (hroom : gatedRoom (coreNext s c) (thrOf s c) = true) :
    exec (.collBarrier c w) s = .next (gatedOut s c
      (match (ctxNow s c).group (readS (thrNext s c) w.sa) with
        | some (_, _, true) => { coreNext s c with aphase := (coreNext s c).aphase + 1 }
        | _ => coreNext s c) .fabric w (.coll .barrier (readS (thrNext s c) w.sa) none none 0)) := by
  have himm : w.imm = 0 := by
    have hfields := hunused
    simp only [badUnused, Bool.or_eq_false_iff, Bool.not_false, Bool.true_and, bne_eq_false_iff_eq] at hfields
    exact hfields.2
  have hcount : collCount w = 0 := by rw [collCount, himm]; rfl
  refine (exec_collBarrier s c w).trans (opCmd_issuedOut (b := bodyCollBarrier) h (by simp [hmd])
    (regsFree_mono hfree (by simp [bodyCollBarrier, collBody])) (regsFree_mono hfree (by simp [bodyCollBarrier, collBody])) ?legal rfl
    ?ready (absurd · Bool.false_ne_true) ?effect ?step rfl rfl)
  case legal =>
    simp only [bodyCollBarrier, collBody, show (CollKind.barrier != .barrier) = false from rfl, hunused, himm]
    rfl
  case ready =>
    simp only [bodyCollBarrier, collBody, hroom, collWindow_barrier]
    rfl
  case effect =>
    simp only [bodyCollBarrier, collBody, show getThread (coreNext s c) (thrOf s c) = thrNext s c from rfl, collWindow_barrier, hcount, bumpPhase]
    obtain hnone | ⟨⟨m, root, fence⟩, hsome⟩ := Option.eq_none_or_eq_some ((ctxNow s c).group (readS (thrNext s c) w.sa))
    · rw [hnone]
      rfl
    · rw [hsome]
      cases fence <;> rfl
  case step => split <;> rfl

end

/-- Settles O22: the barrier opens no window and has no extents; the others by their count and their group. -/
theorem collectives : Obligations.Collectives := by
  unfold Obligations.Collectives
  refine ⟨?rows, ?barrier⟩
  case rows =>
    intro r hr s c w k t th x n grp h hmd hunused himm hfree hchecks hroom hwindow
    obtain ⟨hexec, hkind⟩ := exec_collRow hr c w s
    exact hexec.trans (opCmd_collBody hkind h hmd hunused himm hfree hchecks hroom hwindow)
  case barrier =>
    intro s c w k grp h hmd hunused hfree hroom
    exact exec_collBarrier_issued h hmd hunused hfree hroom

/-! ### Draws, counters, flags and tile registers (R167 to R169) -/

section
variable {s : State} {c : Nat} {w : OpWord}

theorem opCmd_result {b : Body} {op lat : Nat} {r : RegVal} (h : OpAt op c w s) (hreads : RegsFree s c (b.reads w))
    (hwrites : RegsFree s c (b.writes w)) (hlegal : b.illegal (ctxNow s c) (coreNext s c) (thrOf s c) w = false)
    (hchecks : b.checks (ctxNow s c) (coreNext s c) (thrOf s c) w = [])
    (hready : b.ready (ctxNow s c) (coreNext s c) (thrOf s c) w = true)
    (hposts : b.posts (ctxNow s c) (coreNext s c) (thrOf s c) w = false)
    (heffect : b.effect (ctxNow s c) (coreNext s c) (thrOf s c) w = (result (coreNext s c) (thrOf s c) lat r, []))
    (htarget : b.target (coreNext s c) (thrOf s c) w = none) (hwait : b.wait (coreNext s c) (thrOf s c) w = none) :
    opCmd b op none c w s = .next (issuedResult s c lat r) :=
  opCmd_issued h hreads hwrites hlegal hchecks hready hposts heffect (result_step _ _ _ _) htarget hwait

theorem unusedOrMod_eq_false {u : Uses} (hunused : badUnused u w = false) (hmod : w.md.toNat < 2) :
    (badUnused u w || bits w.md.toNat 3 1 != 0) = false := by
  rw [hunused, bits_eq_zero_of_lt (show w.md.toNat < 2 ^ 1 from hmod)]
  rfl

theorem exec_vrand_issued (h : OpAt 0xC1 c w s) (hunused : badUnused { dst := true, sa := true, md := true } w = false) (hdst : w.dst.toNat < 8)
    (hmod : w.md.toNat < 8) (hfree : RegsFree s c [.v w.dst.toNat, .s w.sa.toNat]) (hve : (coreNext s c).veLeft = 0) :
    ∃ x : BitVec 2048, exec (.vrand c w) s = .next (veResult s c 1 10 (.v w.dst.toNat x))
      ∧ ∀ l < 64, let y := draw (genKey (coreNext s c) (thrOf s c)) (w.md.toNat % 4) (((readS (thrNext s c) w.sa).toNat + l) % 2 ^ 32)
        lane x l = if w.md.getLsbD 2 then unitFloat y else y := by
  have hhigh : w.md.getLsbD 3 = false := Nat.testBit_lt_two_pow hmod
  have hlegal : bodyVrand.illegal (ctxNow s c) (coreNext s c) (thrOf s c) w = false := by
    simp only [bodyVrand, hunused, bad8_eq_false hdst, hhigh]
    rfl
  exact ⟨_, (exec_vrand s c w).trans (opCmd_issued h (regsFree_mono hfree (by simp [bodyVrand])) (regsFree_mono hfree (by simp [bodyVrand]))
    hlegal rfl (beq_iff_eq.mpr hve) rfl rfl rfl rfl rfl), fun l hl => lane_ofLanes _ hl⟩

theorem exec_flags_issued (h : OpAt 0xC4 c w s) (hunused : badUnused { dst := true, md := true } w = false) (hmod : w.md.toNat < 2)
    (hfree : RegsFree s c [.s w.dst.toNat]) :
    let k1 := result (coreNext s c) (thrOf s c) 2 (.s w.dst.toNat (if (thrNext s c).nv then 1 else 0))
    exec (.flags c w) s
      = .next (issued s c (if w.md.getLsbD 0 then modThread k1 (thrOf s c) fun t => { t with nv := false } else k1) ((thrNext s c).pc + 8)) := by
  intro k1
  have hstep : (if w.md.getLsbD 0 then modThread k1 (thrOf s c) fun t => { t with nv := false } else k1).step = (coreNext s c).step := by
    split <;> simp only [k1, modThread_step, result_step]
  exact (exec_flags s c w).trans (opCmd_issued h (regsFree_nil s c) hfree (unusedOrMod_eq_false hunused hmod) rfl rfl rfl rfl hstep rfl rfl)

theorem half_eq_ofNat (x : BitVec 128) (high : Bool) :
    (if high then x.extractLsb' 64 64 else x.extractLsb' 0 64) = BitVec.ofNat 64 (x.toNat / if high then 2 ^ 64 else 1) := by
  cases high with
  | false =>
    apply BitVec.eq_of_toNat_eq
    simp
  | true =>
    apply BitVec.eq_of_toNat_eq
    simp [Nat.shiftRight_eq_div_pow]

theorem exec_tdr_issued (h : OpAt 0xC6 c w s) (hunused : badUnused { dst := true, sa := true, md := true } w = false) (hsrc : w.sa.toNat < 8)
    (hmod : w.md.toNat < 2) (hfree : RegsFree s c [.s w.dst.toNat, .t w.sa.toNat]) :
    exec (.tdr c w) s = .next (issuedResult s c 2 (.s w.dst.toNat
      (BitVec.ofNat 64 ((readT (thrNext s c) w.sa).toNat / (if w.md.getLsbD 0 then 2 ^ 64 else 1))))) := by
  have hlegal : bodyTdr.illegal (ctxNow s c) (coreNext s c) (thrOf s c) w = false := by
    simp only [bodyTdr, hunused, bad8_eq_false hsrc, bits_eq_zero_of_lt (show w.md.toNat < 2 ^ 1 from hmod)]
    rfl
  rw [← half_eq_ofNat]
  exact (exec_tdr s c w).trans (opCmd_result h (regsFree_mono hfree (by simp [bodyTdr])) (regsFree_mono hfree (by simp [bodyTdr])) hlegal
    rfl rfl rfl rfl rfl rfl)

end

/-- Settles O23: each operation by the result that it writes. -/
theorem drawsCountersAndTileRegisters : Obligations.DrawsCountersAndTileRegisters := by
  unfold Obligations.DrawsCountersAndTileRegisters
  intro s c w k t th g
  refine ⟨fun h hunused hmod hfree => ?rand, exec_vrand_issued, fun h hunused hmod hfree => ?steprd, exec_flags_issued,
    fun h hunused hdst hmod hfree => ?tdw, exec_tdr_issued⟩
  case rand =>
    exact (exec_rand s c w).trans (opCmd_result h (regsFree_mono hfree (by simp [bodyRand])) (regsFree_mono hfree (by simp [bodyRand]))
      (unusedOrMod_eq_false hunused hmod) rfl rfl rfl rfl rfl rfl)
  case steprd =>
    exact (exec_steprd s c w).trans (opCmd_result h (regsFree_nil s c) hfree (unusedOrMod_eq_false hunused hmod) rfl rfl rfl rfl rfl rfl)
  case tdw =>
    have hlegal : bodyTdw.illegal (ctxNow s c) (coreNext s c) (thrOf s c) w = false := by
      simp only [bodyTdw, hunused, bad8_eq_false hdst, bits_eq_zero_of_lt (show w.md.toNat < 2 ^ 1 from hmod)]
      rfl
    exact (exec_tdw s c w).trans (opCmd_result h (regsFree_mono hfree (by simp [bodyTdw])) (regsFree_mono hfree (by simp [bodyTdw])) hlegal
      rfl rfl rfl rfl rfl rfl)

end Sys2Proof.Machine

/-! PROOF. What an issue leaves as it was, and what raises (spec/04 R90, spec/05 R170, R171, R172). -/

namespace Sys2Proof.Machine

/-! ### The frame of an issue -/

/-- The end of a stall changes the count of stalled time alone. -/
theorem endStall_frame (s : State) (c : Nat) : ∃ tb regs, endStall s c = { s with tb := tb, regs := regs } ∧ tb.tb = s.tb.tb
    ∧ ∀ off, off ≠ r_DET_GSTALL_US → rget { s with tb := tb, regs := regs } off = rget s off := by
  unfold endStall
  split
  · exact ⟨_, _, rfl, rfl, fun _ _ => rfl⟩
  · exact ⟨_, _, rfl, rfl, fun off hoff => rget_rput_ne s _ off _ hoff⟩

theorem getCore_issuedBy (s : State) (c : Nat) (k : Core) (f : Thread → Thread) :
    getCore (issuedBy s c k f) c = { endIssue (modThread k (thrOf s c) fun t => countIssue (f t)) with active := s.tb.tb } :=
  getCore_setCore_eq _ _ _

theorem getThread_issuedBy (s : State) (c : Nat) (k : Core) (f : Thread → Thread) (th : Nat) :
    getThread (getCore (issuedBy s c k f) c) th = getThread (modThread k (thrOf s c) fun t => countIssue (f t)) th := by
  rw [getCore_issuedBy]
  rfl

theorem getThread_modThread_ne {k : Core} {th other : Nat} {f : Thread → Thread} (h : other ≠ th) :
    getThread (modThread k th f) other = getThread k other :=
  tblGet_set_ne _ _ _ _ _ h

/-- Settles O24: `issuedBy` sets one core of a state that differs from the first in the count of stalled time alone. -/
theorem issueFrame : Obligations.IssueFrame := by
  unfold Obligations.IssueFrame
  intro s c k f t
  obtain ⟨tb, regs, hend, htb, hregs⟩ := endStall_frame s c
  have ht : t = setCore { s with tb := tb, regs := regs } c
      { endIssue (modThread k (thrOf s c) fun t => countIssue (f t)) with active := s.tb.tb } := by rw [← hend]; rfl
  refine ⟨fun d hd => ?others, ?step, ?count, ?spad, ?ln, ?writes, ?gated, ?posted, ?spadQ, ?code, fun th hth => ?threads, ?rest⟩
  case others => rw [ht, getCore_setCore_ne _ _ _ _ hd]; rfl
  case step => rw [getCore_issuedBy]; rfl
  case count => rw [getThread_issuedBy, getThread_modThread]; rfl
  case threads => rw [getThread_issuedBy, getThread_modThread_ne hth]
  case rest =>
    rw [ht]
    exact ⟨rfl, rfl, rfl, rfl, rfl, rfl, rfl, rfl, rfl, rfl, rfl, rfl, rfl, rfl, rfl, rfl, htb, hregs⟩
  all_goals rw [getCore_issuedBy]; rfl

/-! ### What raises -/

theorem mem_of_lowestCheck {l : List (Nat × W64)} {y : Nat × W64} (h : lowestCheck l = some y) : y ∈ l := by
  induction l with
  | nil => exact absurd h (by simp [lowestCheck])
  | cons x xs ih =>
    rw [lowestCheck] at h
    cases hrest : lowestCheck xs with
    | none =>
      rw [hrest] at h
      exact List.mem_cons.mpr (.inl (Option.some.inj h).symm)
    | some z =>
      simp only [hrest] at h
      split at h
      · exact List.mem_cons.mpr (.inl (Option.some.inj h).symm)
      · exact List.mem_cons_of_mem _ (ih (hrest.trans h))

theorem lowestCheck_cons_of_le {x : Nat × W64} {l : List (Nat × W64)} (h : ∀ y ∈ l, x.1 ≤ y.1) : lowestCheck (x :: l) = some x := by
  rw [lowestCheck]
  cases hrest : lowestCheck l with
  | none => rfl
  | some y => exact if_pos (h y (mem_of_lowestCheck hrest))

/-- MISALIGNED comes before the other checks of an access. -/
theorem lowestCheck_accessChecks_of_misaligned {x : Ctx} {k : Core} {a : W64} {n al : Nat} {spadOnly : Bool} (h : a.toNat % al ≠ 0) :
    lowestCheck (accessChecks x k a n al spadOnly) = some (xMisaligned, a) := by
  rw [accessChecks, alignCheck, if_neg h]
  refine lowestCheck_cons_of_le fun y hy => ?_
  have hcause : y.1 = xAddress ∨ y.1 = xOpenWindow := by
    cases hregion : regionOf x a n with
    | none =>
      rw [hregion] at hy
      exact .inl (congrArg Prod.fst (List.mem_singleton.mp hy))
    | some r =>
      simp only [hregion] at hy
      split at hy
      · exact .inl (congrArg Prod.fst (List.mem_singleton.mp hy))
      · unfold windowCheck at hy
        split at hy
        · split at hy
          · exact .inr (congrArg Prod.fst (List.mem_singleton.mp hy))
          · exact absurd hy List.not_mem_nil
        · exact absurd hy List.not_mem_nil
  obtain h | h := hcause <;> simp [h, xMisaligned, xAddress, xOpenWindow]

theorem takeException_of_ne {t : Thread} {cause : Nat} {pc x : W64} (h : t.st ≠ .exc) :
    takeException t cause pc x = { t with st := .exc, xcause := BitVec.ofNat 8 cause, xpc := pc, xinfo := x } := by
  unfold takeException
  split
  next hexc => exact absurd hexc h
  next => rfl

/-- Settles O25: ILLEGAL by `opCmd_raised_illegal`, MISALIGNED by the order of the checks. -/
theorem reservedFieldsAndMisalignmentRaise : Obligations.ReservedFieldsAndMisalignmentRaise := by
  unfold Obligations.ReservedFieldsAndMisalignmentRaise
  refine ⟨⟨fun r hr s c w h hbad hfree => ?illegal, fun t cause pc x hst => ?first, fun t cause pc x hst => ?second⟩, ?misaligned⟩
  case illegal => exact (exec_scalarRow_f hr c w s).trans (opCmd_raised_illegal h rfl hfree hbad)
  case first => exact takeException_of_ne hst
  case second =>
    unfold takeException
    rw [hst]
  case misaligned =>
    intro s c w a h hunused hmod hfree hmis
    exact (exec_ld s c w).trans (opCmd_raised_check (b := bodyLd) h rfl hfree (Bool.or_eq_false_iff.mpr ⟨hunused, hmod⟩)
      (lowestCheck_accessChecks_of_misaligned hmis))

end Sys2Proof.Machine

/-! PROOF. Bubbles, posted operations, deliveries (spec/04 R90; spec/05 R139, R147, R174; spec/02 R44, R45). -/

namespace Sys2Proof.Machine

/-! ### The operation word read back (R134) -/

theorem toNat_opEncode {op : Nat} (hop : op < 256) (w : OpWord) : (opEncode op w).toNat
    = op * 2 ^ 56 + w.dst.toNat * 2 ^ 51 + w.sa.toNat * 2 ^ 46 + w.sb.toNat * 2 ^ 41 + w.sc.toNat * 2 ^ 36 + w.md.toNat * 2 ^ 32 + w.imm.toNat := by
  have hdst := w.dst.isLt
  have hsa := w.sa.isLt
  have hsb := w.sb.isLt
  have hsc := w.sc.isLt
  have hmd := w.md.isLt
  have himm := w.imm.isLt
  simp only [opEncode, BitVec.toNat_ofNat, Nat.shiftLeft_eq]
  omega

theorem toNat_extract (x : W64) (lo len : Nat) : (x.extractLsb' lo len).toNat = x.toNat / 2 ^ lo % 2 ^ len := by
  rw [BitVec.extractLsb'_toNat, Nat.shiftRight_eq_div_pow]

theorem opDecode_opEncode {op : Nat} (hop : op < 256) (w : OpWord) : opDecode (opEncode op w) = (op, w) := by
  have hdst := w.dst.isLt
  have hsa := w.sa.isLt
  have hsb := w.sb.isLt
  have hsc := w.sc.isLt
  have hmd := w.md.isLt
  have himm := w.imm.isLt
  have hword := toNat_opEncode hop w
  have field {len : Nat} (lo : Nat) {f : BitVec len} (h : (opEncode op w).toNat / 2 ^ lo % 2 ^ len = f.toNat) :
      (opEncode op w).extractLsb' lo len = f := BitVec.eq_of_toNat_eq ((toNat_extract _ _ _).trans h)
  refine Prod.ext ?_ ?_
  · rw [opDecode, toNat_extract, hword]
    omega
  · obtain ⟨dst, sa, sb, sc, md, imm⟩ := w
    simp only [opDecode, OpWord.mk.injEq]
    dsimp only at hword hdst hsa hsb hsc hmd himm
    refine ⟨field 51 ?_, field 46 ?_, field 41 ?_, field 36 ?_, field 32 ?_, field 0 ?_⟩ <;> rw [hword] <;> omega

/-! ### BUBBLE (R90) -/

section
variable {s : State} {c : Nat}

theorem scalarRow_reads {r : ScalarRow} (hr : r ∈ scalarRows) (m : Nat) (w : OpWord) :
    r.op < 256 ∧ ∃ b, bodyOf r.op m = some b ∧ .s w.sa.toNat ∈ b.reads w := by
  simp only [scalarRows, List.mem_cons, List.not_mem_nil, or_false] at hr
  obtain rfl | rfl | rfl | rfl | rfl | rfl | rfl | rfl | rfl | rfl | rfl | rfl | rfl | rfl | rfl | rfl | rfl | rfl | rfl | rfl := hr <;>
    exact ⟨by decide, _, rfl, List.mem_cons_self⟩

theorem issueKind_of_busy {b : Body} {x : Ctx} {k : Core} {th : Nat} {w : OpWord} {word : W64} {r : RegName} (hr : r ∈ b.reads w)
    (hbusy : regBusy k th r = true) : issueKind b x k th w word = .bubble :=
  if_pos (List.any_eq_true.mpr ⟨r, hr, hbusy⟩)

theorem exec_bubble_notOffered (hready : coreReady s c (getCore s c) = true) (hnot : threadOffered (coreNext s c) (thrOf s c) = false) :
    exec (.bubble c) s = .next (setCore (endStall s c) c (endIssue (coreNext s c))) := by
  have hstep : bubbleStep s c (getCore s c) = setCore (endStall s c) c (endIssue (coreNext s c)) := 
    if_pos (congrArg Bool.not hnot)
  rw [exec_bubble, execBubble, when_, hready, if_pos rfl, hstep]

theorem exec_bubble_waiting {r : ScalarRow} (hr : r ∈ scalarRows) {w : OpWord} (h : OpAt r.op c w s)
    (hbusy : regBusy (coreNext s c) (thrOf s c) (.s w.sa.toNat) = true) :
    exec (.bubble c) s = .next (setCore (endStall s c) c (endIssue (coreNext s c))) := by
  obtain ⟨hready, hoffered, hfetch⟩ := h
  obtain ⟨hop, b, hbody, hreads⟩ := scalarRow_reads hr w.md.toNat w
  have hstep : bubbleStep s c (getCore s c) = setCore (endStall s c) c (endIssue (coreNext s c)) := by
    unfold bubbleStep
    simp only [show beginStep (getCore s c) = coreNext s c from rfl, show offered (coreNext s c) = thrOf s c from rfl, hoffered,
      show (getThread (coreNext s c) (thrOf s c)).pc = (thrNext s c).pc from rfl, hfetch, opDecode_opEncode hop, hbody,
      issueKind_of_busy hreads hbusy, Bool.not_true, Bool.false_eq_true, if_false]
  rw [exec_bubble, execBubble, when_, hready, if_pos rfl, hstep]

/-- What a step without an issue leaves. -/
theorem bubble_leaves (s : State) (c : Nat) (k : Core) : let t := setCore (endStall s c) c (endIssue k)
    (getCore t c).step = k.step + 1 ∧ (∀ th, getThread (getCore t c) th = getThread k th) ∧ (getCore t c).spad = k.spad ∧ (getCore t c).ln = k.ln
      ∧ (getCore t c).gated = k.gated ∧ (getCore t c).posted = k.posted ∧ (getCore t c).writes = k.writes
      ∧ (∀ d, d ≠ c → getCore t d = getCore s d) ∧ t.mem = s.mem ∧ t.evq = s.evq ∧ t.lines = s.lines := by
  intro t
  obtain ⟨tb, regs, hend, _, _⟩ := endStall_frame s c
  have hcore : getCore t c = endIssue k := getCore_setCore_eq _ _ _
  rw [hcore]
  refine ⟨rfl, fun _ => rfl, rfl, rfl, rfl, rfl, rfl, fun d hd => ?_, ?_⟩
  · exact (getCore_setCore_ne _ _ _ _ hd).trans (by rw [hend]; rfl)
  · rw [show t = setCore (endStall s c) c (endIssue k) from rfl, hend]
    exact ⟨rfl, rfl, rfl⟩

/-! ### POSTED_PERFORMED and LOGICAL_CORE_END (R139, R147, R174) -/

theorem allStopped_of_forall {k : Core} (h : ∀ th < k.rl, (getThread k th).st ≠ .run) : allStopped k = true :=
  List.all_eq_true.mpr fun th hth => bne_iff_ne.mpr (h th (List.mem_range.mp hth))

theorem exec_logicalCoreEnd_ends (hmode : (getCore s c).mode = .live) (hup : dieUp s (dieOf c) = true)
    (hnodue : stepEventsDue (getCore s c) = false) (hstopped : ∀ th < (getCore s c).rl, (getThread (getCore s c) th).st ≠ .run)
    (hnothing : nothingOutstanding (getCore s c) = true) :
    exec (.logicalCoreEnd c) s = .next (setCore s c { getCore s c with mode := .over, ended := true }) := by
  simp [exec_logicalCoreEnd, execLogicalCoreEnd, when_, hmode, hup, hnodue, allStopped_of_forall hstopped, hnothing]

end

/-- Settles O26: a step without an issue, the end of a posted operation and the end of a logical core. -/
theorem bubblesPassAndPostedOperationsEnd : Obligations.BubblesPassAndPostedOperationsEnd := by
  unfold Obligations.BubblesPassAndPostedOperationsEnd
  refine ⟨?bubble, ?posted, fun s c => exec_logicalCoreEnd_ends⟩
  case bubble =>
    intro s c k hidle
    refine ⟨_, ?_, bubble_leaves s c k⟩
    obtain ⟨hready, hnot⟩ | ⟨r, hr, w, h, hbusy⟩ := hidle
    · exact exec_bubble_notOffered hready hnot
    · exact exec_bubble_waiting hr h hbusy
  case posted =>
    intro s c p k hfind hover
    rw [exec_postedPerformed]
    simp only [execPostedPerformed, show getCore s c = k from rfl, hfind]
    exact if_pos hover

/-! ### RESULT_ARRIVAL (R44, R97) -/

section
variable {s : State} {c : Nat} {g : Gated}

theorem exec_resultArrival_known {r : GResult} (hfind : (getCore s c).gated.find? (fun x => x.issue == g.issue && !x.arrived) = some g)
    (hext : (getCore s c).extQ.any (fun e => e.issue == g.issue) = false) (hfence : ∀ dst l, g.kind ≠ .fence dst l) (hresult : g.result = some r) :
    exec (.resultArrival c g.issue) s = .next (modCore s c fun k => withResult k g r) := by
  rw [exec_resultArrival]
  simp only [execResultArrival, hfind, hext, hresult, Bool.false_eq_true, if_false]
  cases hkind : g.kind with
  | fence dst l => exact absurd hkind (hfence dst l)
  | scalar dst => rfl
  | load lk => rfl

theorem exec_resultArrival_load {lk : LoadKind} (hfind : (getCore s c).gated.find? (fun x => x.issue == g.issue && !x.arrived) = some g)
    (hext : (getCore s c).extQ.any (fun e => e.issue == g.issue) = false) (hkind : g.kind = .load lk) (hresult : g.result = none)
    (hended : (accsOf s c g.issue).all (fun p => accEnded p.2) = true) :
    exec (.resultArrival c g.issue) s
      = .next (modCore (dropAccs s c g.issue) c fun k => withResult k g (loadResult (accsOf s c g.issue))) := by
  rw [exec_resultArrival]
  simp only [execResultArrival, hfind, hext, hkind, hresult, hended, Bool.false_eq_true, if_false, if_true]
  rfl

/-! ### GATED_DELIVERY (R45, R170) -/

theorem exec_gatedDelivery_first {rest : List Gated} (hmoves : coreMoves s c (getCore s c) = true)
    (hdue : dueGated (coreLock s (getCore s c)) (getCore s c) = g :: rest) (hhere : gatedHere (getCore s c) g = true)
    (hlog : logActive s (getCore s c).sg = false) :
    exec (.gatedDelivery c) s
      = .next (setCore (endStall s c) c { deliver (getCore s c) g with active := s.tb.tb, stallAt := none }) := by
  have hdelivery : logDelivery s (getCore s c) g = some s := by simp [logDelivery, hlog]
  have hstep : deliverStep s c (getCore s c) = setCore (endStall s c) c { deliver (getCore s c) g with active := s.tb.tb, stallAt := none } := by
    simp only [deliverStep, hdue, hhere, hdelivery, if_true]
  rw [exec_gatedDelivery, execGatedDelivery, when_, hmoves, if_pos rfl, hstep]

end

/-- The request and the windows of its operation leave the core. -/
def withoutRequest (k : Core) (g : Gated) : Core := { k with gated := k.gated.erase g, wins := k.wins.filter fun w => w.issue != g.issue }

section
variable {k : Core} {g : Gated} {dst : Nat}

theorem deliver_value {v : W64} (hkind : g.kind = .scalar dst) (hresult : g.result = some (.value v)) :
    deliver k g = modThread (withoutRequest k g) g.thread fun t => writeS t dst v := by
  simp only [deliver, hkind, hresult]
  rfl

theorem deliver_fail {x : W64} (hkind : g.kind = .scalar dst) (hresult : g.result = some (.fail x)) :
    deliver k g = modThread (withoutRequest k g) g.thread fun t => takeException t xAccess g.pc x := by
  simp only [deliver, hkind, hresult]
  rfl

/-- A delivery changes the request's thread, and else takes the request and its windows away. -/
theorem deliver_scalar (hkind : g.kind = .scalar dst) :
    deliver k g = withoutRequest k g ∨ ∃ f, deliver k g = modThread (withoutRequest k g) g.thread f := by
  cases hresult : g.result with
  | none => exact .inl (by simp only [deliver, hkind, hresult]; rfl)
  | some r =>
    cases r with
    | value v => exact .inr ⟨_, deliver_value hkind hresult⟩
    | fail x => exact .inr ⟨_, deliver_fail hkind hresult⟩
    | words ws => exact .inl (by simp only [deliver, hkind, hresult]; rfl)
    | done => exact .inl (by simp only [deliver, hkind, hresult]; rfl)

theorem readS_writeS {t : Thread} {v : W64} (hpos : 0 < dst) (hlt : dst < 32) : readS (writeS t dst v) (BitVec.ofNat 5 dst) = v := by
  have hnumber : (BitVec.ofNat 5 dst).toNat = dst := by rw [BitVec.toNat_ofNat]; omega
  have hnonzero : BitVec.ofNat 5 dst ≠ 0#5 := fun h => by
    have := congrArg BitVec.toNat h
    rw [hnumber] at this
    simp at this
    omega
  rw [readS, if_neg hnonzero, writeS, if_neg (by omega), hnumber]
  exact tblGet_set_eq _ _ _ _

end

/-- Settles O27: the arrival by the kind of the request, the delivery by its result. -/
theorem gatedResultsArriveAndAreDelivered : Obligations.GatedResultsArriveAndAreDelivered := by
  unfold Obligations.GatedResultsArriveAndAreDelivered
  refine ⟨?arrival, fun s c g rest => exec_gatedDelivery_first, ?delivery⟩
  case arrival =>
    intro s c g k hfind hext hfence
    exact ⟨fun r => exec_resultArrival_known hfind hext hfence, fun lk hkind => exec_resultArrival_load hfind hext hkind⟩
  case delivery =>
    intro k g dst hkind
    refine ⟨?_, ?_, ?_, ?_, ?_, fun v hresult hpos hlt => ?value, fun x hresult hst => ?fail⟩
    case value => rw [deliver_value hkind hresult, getThread_modThread, readS_writeS hpos hlt]
    case fail =>
      rw [deliver_fail hkind hresult, getThread_modThread]
      exact takeException_of_ne hst
    all_goals
      obtain h | ⟨f, h⟩ := deliver_scalar (k := k) hkind <;> rw [h] <;> rfl

end Sys2Proof.Machine

/-! PROOF. Banks and matrix engines between issues (spec/04 R94 to R113, spec/13 R415). -/

namespace Sys2Proof.Machine

theorem when_of_true {b : Bool} (h : b = true) (s t : State) : when_ b s t = .next t := by rw [when_, h, if_pos rfl]

/-! ### Banks (R96 to R98, R112, R415) -/

section
variable {s : State} {c b : Nat} {r : SpadReq}

theorem raiseMalformed_false (s : State) (src sg addr : Nat) : raiseMalformed s src sg addr false = s := rfl

theorem exec_scratchpadGrant_write {bs : List MByte} (hin : InStep s c) (hgrant : grantNext (getCore s c) b (nowOf (getCore s c)) = some r)
    (hact : r.act = .write bs) (ecc : Ecc) :
    exec (.scratchpadGrant c b ecc) s = .next (setCore s c { getCore s c with
      spadQ := (getCore s c).spadQ.erase r, served := bankOf r.addr :: (getCore s c).served, spad := memWriteEn (getCore s c).spad r.addr bs }) := by
  obtain ⟨hon, hwedged⟩ := hin
  have hreads : grantReads r = false := by simp [grantReads, hact]
  have hbanks : reqBanks r = [bankOf r.addr] := by simp [reqBanks, hact]
  rw [exec_scratchpadGrant]
  simp only [execScratchpadGrant, hon, hwedged, hgrant, hreads, grantStep, doGrant, hact, hbanks, Bool.not_false, Bool.and_self, Bool.and_false,
    Bool.false_eq_true, if_true, if_false]
  rfl

theorem exec_scratchpadGrant_lastRead {l : SpadLoad} (hin : InStep s c)
    (hgrant : grantNext (getCore s c) b (nowOf (getCore s c)) = some r) (hact : r.act = .read)
    (hload : (getCore s c).loads.find? (fun x => x.issue == r.issue) = some l)
    (harm : armedAt s [srcDie (dieOf c) 3, srcDie (dieOf c) 4] (some (clOf c, slotOf c)) = none) (hnarrow : ∀ d, l.kind ≠ .long d)
    (hlast : l.need.all (fun n => (tblFind (tblPut l.got (r.addr / 64) (spadWord (getCore s c).spad r.addr)) n).isSome) = true) :
    exec (.scratchpadGrant c b .clean) s = .next (setCore s c { getCore s c with
      spadQ := (getCore s c).spadQ.erase r, served := bankOf r.addr :: (getCore s c).served,
      loads := (getCore s c).loads.filter (fun q => q.issue != l.issue),
      writes := (getCore s c).writes ++
        [{ due := nowOf (getCore s c) + 6, thread := l.thread, val := loadValue l.kind (tblPut l.got (r.addr / 64) (spadWord (getCore s c).spad r.addr)) }] }) := by
  obtain ⟨hon, hwedged⟩ := hin
  have hreads : grantReads r = true := by simp [grantReads, hact]
  have hbanks : reqBanks r = [bankOf r.addr] := by simp [reqBanks, hact]
  have htail : loadTail l.kind = 6 := by
    unfold loadTail
    split
    next d hlong => exact absurd hlong (hnarrow d)
    next => rfl
  have hform : loadMalformed l.kind (tblPut l.got (r.addr / 64) (spadWord (getCore s c).spad r.addr)) = false := by
    unfold loadMalformed
    split
    next d hlong => exact absurd hlong (hnarrow d)
    next => rfl
  rw [exec_scratchpadGrant]
  simp only [execScratchpadGrant, hon, hwedged, hgrant, hreads, injected, harm, grantStep, doGrant, hact, hbanks, hload, hlast, htail, hform,
    Bool.not_false, Bool.and_self, Bool.and_true, if_true, show (Ecc.clean == .uncorrectable) = false from rfl,
    show (Ecc.clean == .corrected) = false from rfl, Bool.false_eq_true, if_false]
  rfl

theorem exec_externalWrite_oldest {r : ExtReq} (hon : coreOn s c = true) (hnext : extNext (getCore s c) b (nowOf (getCore s c)) = some r) :
    exec (.externalWrite c b) s = .next (setCore s c { getCore s c with
      extQ := (getCore s c).extQ.erase r, spad := memWriteEn (getCore s c).spad r.addr r.bytes, served := b :: (getCore s c).served }) := by
  rw [exec_externalWrite, execExternalWrite, when_of_true hon, modCore]
  simp only [extWrite, hnext]

theorem exec_resultWordWrite_next (hon : coreOn s c = true) (hslot : slotClass b (nowOf (getCore s c)) = .result) (hserved : b ∉ (getCore s c).served) :
    exec (.resultWordWrite c b) s = .next (setCore s c (resultWrite (getCore s c) b (nowOf (getCore s c)))) := by
  rw [exec_resultWordWrite, execResultWordWrite]
  exact when_of_true (by simp [hon, hslot, hserved]) _ _

theorem resultWrite_leaves {k : Core} {e : Nat} {n : W64} {r : ResWord} (hnext : resultNext k b n = some (e, r)) :
    (resultWrite k b n).spad = memWriteEn k.spad r.addr r.bytes ∧ (resultWrite k b n).served = b :: k.served
      ∧ (resultWrite k b n).threads = k.threads := by
  unfold resultWrite
  simp only [hnext]
  split
  · exact ⟨rfl, rfl, rfl⟩
  · split <;> exact ⟨rfl, rfl, rfl⟩

theorem exec_sramWriteback_due (hon : coreOn s c = true) (hwaits : b ∈ (getCore s c).writebacks)
    (hslot : slotClass b (nowOf (getCore s c)) = .thread) (hserved : b ∉ (getCore s c).served) :
    exec (.sramWriteback c b) s = .next (setCore s c { getCore s c with
      writebacks := (getCore s c).writebacks.filter (· != b), served := b :: (getCore s c).served }) := by
  rw [exec_sramWriteback, execSramWriteback]
  exact when_of_true (by simp [hon, writebackDue, hwaits, hslot, hserved]) _ _

end

/-- Settles O28: each bank by the class of its slot. -/
theorem banksServeTheirClasses : Obligations.BanksServeTheirClasses := by
  unfold Obligations.BanksServeTheirClasses
  refine ⟨fun s c b r bs => ?write, fun s c b r l => ?read, fun s c b r => exec_externalWrite_oldest, fun s c b e r => ?result,
    fun s c b => exec_sramWriteback_due, fun m a x bs => memRead_writeEn_out m a x bs⟩
  case write => exact exec_scratchpadGrant_write
  case read =>
    intro k got
    exact exec_scratchpadGrant_lastRead
  case result =>
    intro k hon hslot hserved hnext
    obtain ⟨hspad, hbank, hthreads⟩ := resultWrite_leaves hnext
    refine ⟨_, exec_resultWordWrite_next hon hslot hserved, ?_, ?_, ?_, fun d hd => getCore_setCore_ne _ _ _ _ hd, rfl⟩ <;> rw [getCore_setCore_eq]
    · exact hspad
    · exact hbank
    · exact hthreads

/-! ### Engines (R101 to R113, R404 to R406) -/

section
variable {s : State} {c e : Nat} {o : EngOp}

theorem engineEvent_of_due {due : Core → Engine → Bool} {f : Core → Engine → Core} (hon : coreOn s c = true) (he : e < 4)
    (hdue : due (getCore s c) (getEng (getCore s c) e) = true) :
    engineEvent s c e due f = .next (setCore s c (f (getCore s c) (getEng (getCore s c) e))) :=
  when_of_true (by simp [hon, he, hdue]) _ _

theorem dispatches_of_dispatching {kind : EngOp → Bool} (h : Dispatching s c e o) (hkind : kind o = true) :
    dispatches (getEng (getCore s c) e) kind = true := by
  obtain ⟨_, _, hmay, hhead⟩ := h
  simp [dispatches, hmay, hhead, hkind]

theorem engineEvent_of_dispatching {kind : EngOp → Bool} {f : Core → Engine → Core} (h : Dispatching s c e o) (hkind : kind o = true) :
    engineEvent s c e (fun _ x => dispatches x kind) f = .next (setCore s c (f (getCore s c) (getEng (getCore s c) e))) :=
  engineEvent_of_due h.1 h.2.1 (dispatches_of_dispatching h hkind)

theorem dispatchMma_eq {x : Engine} {n : W64} {a b : TileDesc} {fx : Option Int} (hhead : dispatchHead x = some o) (hkind : o.kind = .mma a b fx)
    (hroom : (getSet x o.set).log.length < 64) (hovf : (getSet x o.set).logovf = false) :
    dispatchMma x n = updOp (putSet { x with mayDispatch := false } o.set
      { getSet x o.set with log := (getSet x o.set).log ++ [.mma a b fx [] 0] }) o.issue fun p =>
        { p with disp := some n, log := some (getSet x o.set).log.length } := by
  have hspan : appendSpan (getSet x o.set) (.mma a b fx [] 0#32)
      = { getSet x o.set with log := (getSet x o.set).log ++ [.mma a b fx [] 0] } := if_pos ⟨hroom, hovf⟩
  simp only [dispatchMma, hhead, hkind, hspan, List.length_append, List.length_singleton, Nat.lt_add_one, if_true]

theorem dispatchFlush_eq {x : Engine} {n : W64} (hhead : dispatchHead x = some o) (hkind : o.kind = .wflush) :
    dispatchFlush x n = updOp { x with mayDispatch := false } o.issue fun p => { p with disp := some n } := by
  simp only [dispatchFlush, hhead, isFlush, hkind, if_true]

theorem dispatchStore_rstore {k : Core} {n : W64} {a sa f : Nat} {m : RMode} {i : Int} {kp : Bool} {key : GenKey}
    (hhead : dispatchHead (getEng k e) = some o) (hkind : o.kind = .rstore a sa f m i kp key)
    (hnv : (rstoreWords (getSet (getEng k e) o.set) o.issue a sa f m i key n).2 = []) :
    dispatchStore k e n = setEng k e (updOp { getEng k e with
      mayDispatch := false, results := (getEng k e).results ++ (rstoreWords (getSet (getEng k e) o.set) o.issue a sa f m i key n).1 }
      o.issue fun p => { p with disp := some n }) := by
  simp only [dispatchStore, hhead, hkind, hnv, List.foldl_nil]

theorem dispatchStore_xstore {k : Core} {n : W64} {a : Nat} {kp : Bool} (hhead : dispatchHead (getEng k e) = some o) (hkind : o.kind = .xstore a kp) :
    dispatchStore k e n = setEng k e (updOp { getEng k e with
      mayDispatch := false, results := (getEng k e).results ++ xstoreWords (getSet (getEng k e) o.set) o.issue a n }
      o.issue fun p => { p with disp := some n }) := by
  simp only [dispatchStore, hhead, hkind]

theorem spillRetire_eq {x : Engine} (hlatch : x.latch = []) :
    spillRetire x = (x.spillQ.take 16).foldl (fun x p => putSet x p.set (addSpill (getSet x p.set) p.elem (lrOfFin p.m p.e)))
      { x with spillQ := x.spillQ.drop 16, used := (x.spillQ.take 16).length, mayRetire := false } := by
  simp only [spillRetire, hlatch, List.take_nil, List.drop_nil, List.append_nil]

theorem arrayStep_eq {x : Engine} {a b : TileDesc} {fx : Option Int} (hactive : activeMma x = some o) (hkind : o.kind = .mma a b fx)
    (hmore : o.done + 1 ≠ arraySteps a b) (hslab : slabOf (pairRate a b) (o.done + 1) = slabOf (pairRate a b) o.done) :
    arrayStep x =
      let r := arrayProducts o.set (getSet x o.set) fx ((stepKs (pairRate a b) o.done).map (kOperands (bufLook x o.issue) a b))
      updOp (pushSpills (putSet { x with mayArray := false } o.set r.1) r.2) o.issue fun p => { p with done := o.done + 1 } := by
  simp only [arrayStep, hactive, hkind, if_neg hmore, if_pos hslab]

theorem feederFetch_eq {k : Core} {x : Engine} {n : W64} {a : Nat} (hnext : feedNext x e n = some (o, a)) :
    feederFetch k x e n = { putSet x o.set (logFetch (getSet x o.set) o.log a (spadWord k.spad a)) with
      fetched := true, fresh := some { issue := o.issue, addr := a, data := spadWord k.spad a } } := by
  simp only [feederFetch, hnext]

theorem dispatchSp_spget {k : Core} {n : W64} {ln el : Nat} (hhead : dispatchHead (getEng k e) = some o) (hkind : o.kind = .spget ln el) :
    dispatchSp k e n = { setEng k e (dropOp { getEng k e with mayDispatch := false } o.issue) with
      writes := k.writes ++ [{ due := n + 4, thread := o.thread, val := .ln ln (setSpill (getSet (getEng k e) o.set) el) }]
      portLeft := max k.portLeft 1 } := by
  simp only [dispatchSp, hhead, hkind]

theorem dispatchSp_spadd {k : Core} {n : W64} {v : LongReg} {el : Nat} (hhead : dispatchHead (getEng k e) = some o) (hkind : o.kind = .spadd v el) :
    dispatchSp k e n = { setEng k e (putSet (dropOp { getEng k e with mayDispatch := false } o.issue) o.set
        (appendSpan (addRow (addCol (addSpill (getSet (getEng k e) o.set) el v) (el % 32) v) (el / 32) v) (.spadd el v))) with
      portLeft := max k.portLeft 1 } := by
  simp only [dispatchSp, hhead, hkind]

theorem dispatchSp_mclr {k : Core} {n : W64} (hhead : dispatchHead (getEng k e) = some o) (hkind : o.kind = .mclr) :
    dispatchSp k e n = setEng k e (putSet (dropOp { getEng k e with mayDispatch := false } o.issue) o.set (emptySet (getSet (getEng k e) o.set))) := by
  simp only [dispatchSp, hhead, hkind]

end

/-- Settles O29: each command by the engine that its event leaves. -/
theorem enginesDispatchFeedStepAndRetire : Obligations.EnginesDispatchFeedStepAndRetire := by
  unfold Obligations.EnginesDispatchFeedStepAndRetire
  refine ⟨?dispatch, ?steps⟩
  case dispatch =>
    intro s c e o h k n x x0 set out
    obtain ⟨_, _, _, hhead⟩ := id h
    refine ⟨fun a b fx hkind hroom hovf => ?mma, fun hkind => ?wflush, fun a sa f m i kp key hkind hnv => ?rstore, fun a kp hkind => ?xstore,
      fun ln el hkind => ?spget, fun v el hkind => ?spadd, fun hkind => ?mclr⟩
    case mma =>
      rw [exec_mmaDispatch, execMmaDispatch, engineEvent_of_dispatching h (by simp [isMma, hkind]), dispatchMma_eq hhead hkind hroom hovf]
      rfl
    case wflush =>
      rw [exec_wflushDispatch, execWflushDispatch, engineEvent_of_dispatching h (by simp [isFlush, hkind]), dispatchFlush_eq hhead hkind]
      rfl
    case rstore =>
      rw [exec_rstoreDispatch, execRstoreDispatch, engineEvent_of_dispatching h (by simp [isRstore, hkind]), dispatchStore_rstore hhead hkind hnv]
      rfl
    case xstore =>
      rw [exec_xstoreDispatch, execXstoreDispatch, engineEvent_of_dispatching h (by simp [isXstore, hkind]), dispatchStore_xstore hhead hkind]
      rfl
    case spget =>
      rw [exec_engineOpDispatch, execEngineOpDispatch, engineEvent_of_dispatching h (by simp [isMma, isFlush, isStore, hkind]),
        dispatchSp_spget hhead hkind]
    case spadd =>
      rw [exec_engineOpDispatch, execEngineOpDispatch, engineEvent_of_dispatching h (by simp [isMma, isFlush, isStore, hkind]),
        dispatchSp_spadd hhead hkind]
    case mclr =>
      rw [exec_engineOpDispatch, execEngineOpDispatch, engineEvent_of_dispatching h (by simp [isMma, isFlush, isStore, hkind]),
        dispatchSp_mclr hhead hkind]
      rfl
  case steps =>
    intro s c e hon he k n x
    refine ⟨fun o a hfetched hnext => ?feeder, fun o a b fx hmay hactive hkind hmore hslab => ?array, fun hmay hidle hlatch hspills hlen => ?retire⟩
    case feeder =>
      rw [exec_feederFetch, execFeederFetch, engineEvent_of_due hon he (by simp [x, k, n] at hfetched hnext; simp [hfetched, hnext]), feederFetch_eq hnext]
      rfl
    case array =>
      rw [exec_arrayStep, execArrayStep, engineEvent_of_due hon he hmay, arrayStep_eq hactive hkind hmore hslab]
      rfl
    case retire =>
      rw [exec_spillRetire, execSpillRetire, engineEvent_of_due hon he (by simp [x, k] at hmay hidle hspills; simp [hmay, hidle, hspills]),
        spillRetire_eq hlatch]
      rfl

end Sys2Proof.Machine

/-! PROOF. Translation of accesses and resolution of faults (spec/06 R192 to R199). -/

namespace Sys2Proof.Machine

theorem fget_fadd_ne (s : State) {off o : Nat} (f g : Fld) (n : Nat) (h : o ≠ off) : fget (fadd s off f n) o g = fget s o g :=
  fget_fput_ne s off o f g _ h

theorem tblFind_map {α : Type} (f : α → α) (t : Tbl α) (k : Nat) : tblFind (tblMap f t) k = (tblFind t k).map f := by
  induction t with
  | nil => rfl
  | cons p t ih =>
    obtain ⟨a, v⟩ := p
    rw [tblFind, show tblMap f ((a, v) :: t) = (a, f v) :: tblMap f t from rfl, tblFind, ih]
    split <;> rfl

/-! ### What the MMU answers -/

/-- R191, R192: where a leaf of a level has the word of a VA. -/
def leafPlace (s : State) (sg va : Nat) (p : W64) (l : Nat) : Place :=
  { word := frameWord p (va % pageSize l)
    tail := if pteAcc p then some (frameWord p (va % pageSize l + pageSize l)) else none
    tag := tagOfSg s sg }

section
variable {s : State} {id va l : Nat} {a : Access} {p : W64}

theorem leafAns_permitted {sg : Nat} {n : Need} (hrd : n.rd = true → pteRd p = true) (hwr : n.wr = true → pteWr p = true) :
    leafAns s sg va n p l = (s, .ok (leafPlace s sg va p l)) := by
  have hread : (n.rd && !pteRd p) = false := by
    cases h : n.rd with
    | false => rfl
    | true => rw [hrd h]; rfl
  have hwrite : (n.wr && !pteWr p) = false := by
    cases h : n.wr with
    | false => rfl
    | true => rw [hwr h]; rfl
  simp only [leafAns, leafOut, hread, hwrite, Bool.false_eq_true, if_false, leafPlace]

theorem exec_translateAccess_ok {hit : Bool} {t : State} {q : Place} (h : Translating s id a va)
    (hans : translate s (dieOf a.core) a.sg va (needOf a.act) hit = (t, .ok q)) :
    exec (.translateAccess id hit) s = .next (setStage t id (.ready q)) := by
  obtain ⟨hacc, hloc, hwaits, hcore, hup⟩ := h
  rw [exec_translateAccess]
  simp only [execTranslateAccess, hacc, hloc, hwaits, hcore, hup, decide_true, Bool.and_self, if_true, hans]

theorem exec_translateAccess_fault {hit : Bool} {t : State} {k : Nat} (h : Translating s id a va)
    (hans : translate s (dieOf a.core) a.sg va (needOf a.act) hit = (t, .fault k l)) (hreplay : replayRefused t a = false) :
    let f := faultRecord t (dieOf a.core) a.sg k l (midCore a.core) 0 (needOf a.act).acct va
    exec (.translateAccess id hit) s
      = .next (let t := setStage f.1 id (.faulted f.2); if lockSet t then beginStall t a.core else t) := by
  obtain ⟨hacc, hloc, hwaits, hcore, hup⟩ := h
  rw [exec_translateAccess]
  simp only [execTranslateAccess, hacc, hloc, hwaits, hcore, hup, decide_true, Bool.and_self, if_true, hans, hreplay, Bool.false_eq_true, if_false]

theorem translate_hit {e : TbEntry} {d sg : Nat} {n : Need} (hlook : tbLook s d sg va = some e) (hrd : n.rd = true → pteRd e.leaf = true)
    (hwr : n.wr = true → pteWr e.leaf = true) : translate s d sg va n true = (s, .ok (leafPlace s sg va e.leaf (tbLevel e))) := by
  simp only [translate, hlook, if_true, leafAns_permitted hrd hwr]

theorem translate_miss (d sg : Nat) (n : Need) : translate s d sg va n false
    = walkAns (fadd s r_MMU_WCNT f_MMU_WCNT_CNT 1) d sg va n (walk (fadd s r_MMU_WCNT f_MMU_WCNT_CNT 1) sg va) := rfl

theorem leafPlace_congr {t : State} {sg : Nat} (h : t.sgs = s.sgs) : leafPlace t sg va p l = leafPlace s sg va p l := by
  simp only [leafPlace, tagOfSg, getSag, h]

theorem translate_walked {d sg : Nat} {n : Need} (hwalk : walk (fadd s r_MMU_WCNT f_MMU_WCNT_CNT 1) sg va = .leaf p l)
    (hrd : n.rd = true → pteRd p = true) (hwr : n.wr = true → pteWr p = true) : translate s d sg va n false
      = (tbInsert (fadd s r_MMU_WCNT f_MMU_WCNT_CNT 1) d { sg := sg, va := va / pageSize l * pageSize l, size := pageSize l, leaf := p },
          .ok (leafPlace s sg va p l)) := by
  rw [translate_miss, hwalk, walkAns, leafAns_permitted hrd hwr, leafPlace_congr]
  exact fadd_sgs s r_MMU_WCNT f_MMU_WCNT_CNT 1

theorem translate_absent {d sg : Nat} {n : Need} (hwalk : walk (fadd s r_MMU_WCNT f_MMU_WCNT_CNT 1) sg va = .absent l) :
    translate s d sg va n false = (fadd s r_MMU_WCNT f_MMU_WCNT_CNT 1, .fault 1 l) := by
  rw [translate_miss, hwalk, walkAns]

theorem replayRefused_fadd_walks (hreplay : replaying s a.sg = false) : replayRefused (fadd s r_MMU_WCNT f_MMU_WCNT_CNT 1) a = false := by
  have hsame : replaying (fadd s r_MMU_WCNT f_MMU_WCNT_CNT 1) a.sg = replaying s a.sg := by
    simp only [replaying, rplState]
    rw [fget_fadd_ne s _ _ _ (by decide), fget_fadd_ne s _ _ _ (by decide)]
  simp [replayRefused, hsame, hreplay]

end

/-! ### The resolution of a record (R199) -/

section
variable {s : State} {tag : Nat} {r : FaultRec}

theorem syncFpend_mem (s : State) : (syncFpend s).mem = s.mem := by simp [syncFpend]
theorem syncFpend_cores (s : State) : (syncFpend s).cores = s.cores := by simp [syncFpend]

/-- What a resolution leaves of the memory. -/
theorem resolveFault_mem (hrec : tblFind s.mem.faults tag = some r) (again : Bool) :
    (resolveFault s tag again).mem = resolveMem again tag s.mem := by
  simp only [resolveFault, hrec, syncFpend_mem]
  rfl

theorem resolveFault_cores (hrec : tblFind s.mem.faults tag = some r) (again : Bool) : (resolveFault s tag again).cores = s.cores := by
  simp only [resolveFault, hrec, syncFpend_cores]
  rfl

theorem getAcc_resolveFault (hrec : tblFind s.mem.faults tag = some r) (again : Bool) (id : Nat) :
    getAcc (resolveFault s tag again) id = (getAcc s id).map (resolveAcc again tag) := by
  rw [getAcc, resolveFault_mem hrec]
  exact tblFind_map _ _ _

theorem getAcc_resolveFault_held {id : Nat} {a : Access} (hrec : tblFind s.mem.faults tag = some r) (again : Bool) (hacc : getAcc s id = some a)
    (hheld : a.stage = .faulted (some tag)) :
    getAcc (resolveFault s tag again) id = some { a with stage := if again then .waiting else .failed false } := by
  rw [getAcc_resolveFault hrec, hacc, Option.map_some, resolveAcc, if_pos hheld]

theorem getAcc_resolveFault_other {id : Nat} {a : Access} (hrec : tblFind s.mem.faults tag = some r) (again : Bool) (hacc : getAcc s id = some a)
    (hother : a.stage ≠ .faulted (some tag)) : getAcc (resolveFault s tag again) id = some a := by
  rw [getAcc_resolveFault hrec, hacc, Option.map_some, resolveAcc, if_neg hother]

theorem refuseFault_eq (hrec : tblFind s.mem.faults tag = some r) : refuseFault s tag = resolveFault (logRefusal s tag r) tag false := by
  simp only [refuseFault, hrec]

end

/-- Settles O31: the translation by what the buffer or the walk gives, the resolution by the stage of each access. -/
theorem accessesAreTranslatedAndFaultsResolved : Obligations.AccessesAreTranslatedAndFaultsResolved := by
  unfold Obligations.AccessesAreTranslatedAndFaultsResolved
  refine ⟨?translate, ?resolve⟩
  case translate =>
    intro s id va a h d n
    exact ⟨fun e hlook hrd hwr => exec_translateAccess_ok h (translate_hit hlook hrd hwr),
      fun p l hwalk hrd hwr => exec_translateAccess_ok h (translate_walked hwalk hrd hwr),
      fun l hwalk hreplay => exec_translateAccess_fault h (translate_absent hwalk) (replayRefused_fadd_walks hreplay)⟩
  case resolve =>
    intro s tag r hrec
    refine ⟨⟨resolveFault s tag true, exec_faultRetry s tag, ?_, fun id a => getAcc_resolveFault_held hrec true,
      fun id a => getAcc_resolveFault_other hrec true, resolveFault_cores hrec true, ?_, ?_, ?_⟩, ?_, fun hdue => ?_,
      fun id a => getAcc_resolveFault_held hrec false⟩
    · rw [resolveFault_mem hrec]
      exact tblFind_erase_eq _ _
    · rw [resolveFault_mem hrec]
      rfl
    · rw [resolveFault_mem hrec]
      rfl
    · rw [resolveFault_mem hrec]
      rfl
    · rw [exec_faultRefuse, execFaultRefuse, refuseFault_eq hrec]
    · rw [exec_faultTimeout, execFaultTimeout]
      simp only [hrec, refuseFault_eq hrec]
      exact when_of_true (decide_eq_true hdue) _ _

end Sys2Proof.Machine

/-! PROOF. Cluster memory, DMA units and the table writer (spec/04 R129; spec/06 R194, R202; spec/13 R414). -/

namespace Sys2Proof.Machine

/-! ### CLUSTER_MEMORY_SERVE (R129) -/

theorem serveCluster_clean {s : State} {d cl b id off : Nat} {a : Access} (hold : clOldest s d cl b = some (id, a)) (hloc : a.loc = .cluster d cl off)
    (hbank : clBank off = b) (hbanks : clBanks a = [b]) (hform : (clEffect (clMem s d cl) off a.act).2.2 = false) :
    serveCluster s d cl b .clean
      = setStage (setClMem s d cl (clEffect (clMem s d cl) off a.act).1) id (.done (clEffect (clMem s d cl) off a.act).2.1) := by
  have hfirst : (clBanks a).all (fun x => (clOldest s d cl x).map Prod.fst == some id) = true := by simp [hbanks, hold]
  simp only [serveCluster, hold, hloc, hbank, hfirst, and_self, if_true, hform, raiseMalformed_false]
  rfl

theorem exec_clusterMemoryServe_clean {s : State} {d cl b id off : Nat} {a : Access} (hup : dieUp s d = true)
    (hold : clOldest s d cl b = some (id, a)) (hloc : a.loc = .cluster d cl off) (hbank : clBank off = b) (hbanks : clBanks a = [b])
    (harm : armedAt s [srcDie d 5, srcDie d 6] none = none) (hform : (clEffect (clMem s d cl) off a.act).2.2 = false) :
    exec (.clusterMemoryServe d cl b .clean) s
      = .next (setStage (setClMem s d cl (clEffect (clMem s d cl) off a.act).1) id (.done (clEffect (clMem s d cl) off a.act).2.1)) := by
  rw [exec_clusterMemoryServe, execClusterMemoryServe, when_of_true hup]
  simp only [hold, Option.isSome_some, if_true, injected, harm, serveCluster_clean hold hloc hbank hbanks hform]

theorem spadWord_wordStart (m : Memory) (off : Nat) : spadWord m (off / 64 * 64) = spadWord m off := by
  rw [spadWord, spadWord, Nat.mul_div_cancel _ (by decide : 0 < 64)]

/-- Settles O33: the oldest request of the bank by the effect of its action. -/
theorem clusterMemoryServesInOrder : Obligations.ClusterMemoryServesInOrder := by
  unfold Obligations.ClusterMemoryServesInOrder
  refine ⟨fun s d cl b id off a hup hold hloc hbank hbanks harm hform => exec_clusterMemoryServe_clean hup hold hloc hbank hbanks harm hform,
    fun m off bs x hout => memRead_writeEn_out m off x bs hout, fun m off => ⟨rfl, spadWord_wordStart m off⟩, fun s hwin => ?_⟩
  rw [exec_transientWindow, execTransientWindow]
  exact when_of_true (beq_iff_eq.mpr hwin) _ _

/-! ### DMA_UNIT_WRITE (R202) -/

theorem dmaUnit_written {s s1 s2 : State} {i : Nat} {x : Xfer} {hit p q : Bool} {bs ds : List Byte}
    (hread : agentRead s (xferAsker i x) (xferCore x).1 (regionAdd x.src x.done) (unitLen x) hit = .ok s1 bs p)
    (hwrite : agentWrite s1 (xferAsker i x) (xferCore x).1 (xferCore x).2.1 (xferCore x).2.2 (regionAdd x.dst x.done) (bs.map mOn) hit = .ok s2 ds q) :
    dmaUnit s i x hit false = crcItem (modDma s2 i fun g => dmaSetCur g { x with done := x.done + unitLen x }) x bs := by
  simp only [dmaUnit, Bool.false_and, Bool.false_eq_true, if_false, hread, hwrite]

theorem exec_dmaUnitWrite_written {s s1 s2 : State} {i : Nat} {x : Xfer} {hit p q : Bool} {bs ds : List Byte} (hi : i < 128)
    (hup : dieUp s (i / 8) = true) (hcur : dmaCur (getDma (modDma s i dmaChoose) i) = some x) (hgoes : dmaGoes (modDma s i dmaChoose) x = true)
    (hread : agentRead (modDma s i dmaChoose) (xferAsker i x) (xferCore x).1 (regionAdd x.src x.done) (unitLen x) hit = .ok s1 bs p)
    (hwrite : agentWrite s1 (xferAsker i x) (xferCore x).1 (xferCore x).2.1 (xferCore x).2.2 (regionAdd x.dst x.done) (bs.map mOn) hit = .ok s2 ds q) :
    exec (.dmaUnitWrite i hit false) s = .next (crcItem (modDma s2 i fun g => dmaSetCur g { x with done := x.done + unitLen x }) x bs) := by
  rw [exec_dmaUnitWrite, execDmaUnitWrite]
  simp only [hcur]
  rw [when_of_true (by simp [hi, hup, hgoes]), dmaUnit_written hread hwrite]

/-! ### The table writer (R194) -/

/-- A write of the control register keeps the fields below bit 24. -/
theorem toNat_and_low24 (v : W32) : (v &&& 0x00FFFFFF#32).toNat = v.toNat % 2 ^ 24 := by
  rw [BitVec.toNat_and]
  exact Nat.and_two_pow_sub_one_eq_mod v.toNat 24

theorem fldGet_low24 {f : Fld} (v : W32) (hlo : f.lo ≤ f.hi) (hhi : f.hi < 24) : fldGet (v &&& 0x00FFFFFF#32) f = fldGet v f := by
  rw [fldGet, fldGet, toNat_and_low24, bits_eq_div, bits_eq_div]
  have hsplit : 2 ^ 24 = 2 ^ f.lo * 2 ^ (24 - f.lo) := by rw [← Nat.pow_add]; congr 1; omega
  rw [hsplit, Nat.mod_mul_right_div_self, Nat.mod_mod_of_dvd]
  exact Nat.pow_dvd_pow 2 (by omega)

theorem fbit_fput_eq (s : State) {off x : Nat} {f : Fld} (hlo : f.lo ≤ f.hi) (hhi : f.hi ≤ 31) :
    fbit (fput s off f x) off f = (x % 2 ^ (f.hi + 1 - f.lo) != 0) := by
  rw [fbit, fget_fput_eq s off f x hlo hhi]

/-- R194: what GO starts the table writer with. -/
def twJobOf (s : State) (v : W32) : TwJob :=
  { dst := twDst s, src := twSrc s, data := BitVec.ofNat 64 (pairGet s r_MMU_TW_DATA_LO r_MMU_TW_DATA_HI)
    cnt := fldGet v f_MMU_TW_CTL_CNT, sg := fldGet v f_MMU_TW_CTL_SG }

/-- The table writer holds a job and shows itself busy. -/
def twStarted (s : State) (j : TwJob) : State :=
  fput (fput (fput (modMem s fun m => { m with tw := some j }) r_MMU_TW_STAT f_MMU_TW_STAT_BUSY 1) r_MMU_TW_STAT f_MMU_TW_STAT_ECODE 0)
    r_MMU_TW_CTL f_MMU_TW_CTL_GO 1

theorem exec_mmuTwGo_starts {s : State} {v : W32} (hgo : v.getLsbD 31 = true) (hidle : twBusy s = false) :
    exec (.mmuTwGo v) s = .next (twStarted (rput s r_MMU_TW_CTL (v &&& 0x00FFFFFF#32)) (twJobOf s v)) := by
  have hdst : twDst (rput s r_MMU_TW_CTL (v &&& 0x00FFFFFF#32)) = twDst s := by
    simp only [twDst, fget, rget_rput_ne s r_MMU_TW_CTL _ _ (by decide : r_MMU_TW_DST_LO ≠ r_MMU_TW_CTL),
      rget_rput_ne s r_MMU_TW_CTL _ _ (by decide : r_MMU_TW_DST_HI ≠ r_MMU_TW_CTL)]
  have hsrc : twSrc (rput s r_MMU_TW_CTL (v &&& 0x00FFFFFF#32)) = twSrc s := by
    simp only [twSrc, fget, rget_rput_ne s r_MMU_TW_CTL _ _ (by decide : r_MMU_TW_SRC_LO ≠ r_MMU_TW_CTL),
      rget_rput_ne s r_MMU_TW_CTL _ _ (by decide : r_MMU_TW_SRC_HI ≠ r_MMU_TW_CTL)]
  have hdata : pairGet (rput s r_MMU_TW_CTL (v &&& 0x00FFFFFF#32)) r_MMU_TW_DATA_LO r_MMU_TW_DATA_HI
      = pairGet s r_MMU_TW_DATA_LO r_MMU_TW_DATA_HI := by
    simp only [pairGet, rget_rput_ne s r_MMU_TW_CTL _ _ (by decide : r_MMU_TW_DATA_LO ≠ r_MMU_TW_CTL),
      rget_rput_ne s r_MMU_TW_CTL _ _ (by decide : r_MMU_TW_DATA_HI ≠ r_MMU_TW_CTL)]
  have hfield {f : Fld} (hlo : f.lo ≤ f.hi) (hhi : f.hi < 24) :
      fget (rput s r_MMU_TW_CTL (v &&& 0x00FFFFFF#32)) r_MMU_TW_CTL f = fldGet v f := by
    rw [fget, rget_rput_eq, fldGet_low24 v hlo hhi]
  rw [exec_mmuTwGo, execMmuTwGo]
  simp only [hidle, hgo, Bool.false_and, Bool.false_eq_true, if_false, if_true, hdst, hsrc, hdata,
    hfield (f := f_MMU_TW_CTL_CNT) (by decide) (by decide), hfield (f := f_MMU_TW_CTL_SG) (by decide) (by decide)]
  rfl

theorem twBusy_twStarted (s : State) (j : TwJob) : twBusy (twStarted s j) = true := by
  rw [twBusy, twStarted, fbit, fget_fput_ne _ _ _ _ _ _ (by decide), fget_fput_other _ _ _ _ _ (by decide) (by decide) (by decide) (by decide),
    fget_fput_eq _ _ _ _ (by decide) (by decide)]
  rfl

/-! ### Writes of DRAM words (R419, R524) -/

theorem tagLive_of_dramRead {s : State} {t : KeyTag} {word : Nat} {w : BitVec 512} (h : dramRead s t word = some w) : tagLive s t = true := by
  unfold dramRead at h
  split at h
  next hall =>
    simp only [Bool.and_eq_true] at hall
    exact hall.1.1
  next => exact absurd h (by simp)

/-- A word written under the tag of a live key reads back as written. -/
theorem dramRead_dramWrite_same {s : State} {t : KeyTag} (word : Nat) (x : BitVec 512) (hlive : tagLive s t = true) :
    dramRead (dramWrite s t word x) t word = some x := by
  have hwrite : dramWrite s t word x = modMem s fun m => clearPoison { m with dram := tblPut m.dram word { data := x, key := t.id } } word :=
    if_pos hlive
  have hkey : tagLive (dramWrite s t word x) t = true := by rw [hwrite]; exact hlive
  have hpoison : poisoned (dramWrite s t word x) word = false := by
    rw [hwrite]
    simp [poisoned, modMem, clearPoison, tblModify]
  have hlost : (dramWrite s t word x).mem.lost.contains word = false := by
    rw [hwrite]
    simp [modMem, clearPoison]
  have htext : dramText (dramWrite s t word x) t.id word = x := by
    rw [hwrite]
    simp [dramText, modMem, clearPoison]
  simp only [dramRead, hkey, hpoison, hlost, htext, Bool.not_false, Bool.and_self, if_true]

/-- What a read of a word depends on. -/
theorem dramRead_congr {s t : State} (hkeys : t.keys = s.keys) (hdram : t.mem.dram = s.mem.dram) (hpoison : t.mem.poison = s.mem.poison)
    (hlost : t.mem.lost = s.mem.lost) (k : KeyTag) (word : Nat) : dramRead t k word = dramRead s k word := by
  simp only [dramRead, dramText, tagLive, slotKey, poisoned, hkeys, hdram, hpoison, hlost]
  rfl

theorem tblGet_map_nil {α : Type} (f : List α → List α) (hf : f [] = []) (t : Tbl (List α)) (k : Nat) :
    tblGet (fun _ => []) (tblMap f t) k = f (tblGet (fun _ => []) t k) := by
  rw [tblGet, tblGet, tblFind_map]
  cases tblFind t k with
  | none => exact hf.symm
  | some v => rfl

/-! ### TABLE_WRITER_DONE (R194) -/

/-- The table writer is done with a saggar's entries. -/
def twEnded (s : State) (sg : Nat) : State :=
  fput (fput (dropTrans (modMem s fun m => { m with tw := none }) sg) r_MMU_TW_STAT f_MMU_TW_STAT_BUSY 0) r_MMU_TW_CTL f_MMU_TW_CTL_GO 0

theorem exec_tableWriterDone_single {s : State} {j : TwJob} {w : BitVec 512} (ok : Bool) (hjob : s.mem.tw = some j) (hcnt : j.cnt = 0)
    (hdata : j.dst % 2 ^ 36 + 8 ≤ serviceBase) (hservice : stackInService s (j.dst / 2 ^ 36) = true)
    (hread : dramRead s (serviceTag s 0) (j.dst / 64) = some w) :
    exec (.tableWriterDone ok) s = .next (twEnded
      (dramWrite s (serviceTag s 0) (j.dst / 64) (mergeWord w (j.dst % 64) ((leBytes 8 j.data.toNat).map mOn))) j.sg) := by
  have hwrite : twWrite s j.dst [j.data]
      = (dramWrite s (serviceTag s 0) (j.dst / 64) (mergeWord w (j.dst % 64) ((leBytes 8 j.data.toNat).map mOn)), 0) := by
    simp only [twWrite, if_neg (Nat.not_lt.mpr hdata), hservice, hread, Bool.not_true, Bool.false_eq_true, if_false]
  rw [exec_tableWriterDone, execTableWriterDone]
  simp only [hjob, hcnt, bne_self_eq_false, Bool.false_and, Bool.false_eq_true, if_false, if_true, hwrite]
  rfl

theorem twBusy_twEnded (s : State) (sg : Nat) : twBusy (twEnded s sg) = false := by
  rw [twBusy, twEnded, fbit, fget_fput_ne _ _ _ _ _ _ (by decide), fget_fput_eq _ _ _ _ (by decide) (by decide)]
  rfl

theorem twEnded_mem (s : State) (sg : Nat) :
    (twEnded s sg).mem = { s.mem with tw := none, tbuf := tblMap (fun l => l.filter fun e => e.sg != sg) s.mem.tbuf } := by
  rw [twEnded, fput_mem, fput_mem]
  rfl

theorem twEnded_keys (s : State) (sg : Nat) : (twEnded s sg).keys = s.keys := by
  rw [twEnded, fput_keys, fput_keys]
  rfl

theorem dramWrite_tbuf (s : State) (t : KeyTag) (word : Nat) (x : BitVec 512) : (dramWrite s t word x).mem.tbuf = s.mem.tbuf := by
  unfold dramWrite
  split <;> rfl

/-- Settles O34: the unit by its read and its write, GO by its job, the single entry by the word that it merges into. -/
theorem dmaAndTableWriterMoveData : Obligations.DmaAndTableWriterMoveData := by
  unfold Obligations.DmaAndTableWriterMoveData
  refine ⟨?unit, fun s v hgo hidle hzero => ?start, fun s j ok hjob hcnt hdata hservice w hread => ?done⟩
  case unit =>
    intro s i x hit s1 s2 bs ds p q s' at' hi hup hcur hgoes hread hwrite
    exact exec_dmaUnitWrite_written hi hup hcur hgoes hread hwrite
  case start =>
    refine ⟨_, exec_mmuTwGo_starts hgo hidle, twBusy_twStarted _ _, ?_, ?_, ?_⟩ <;> rw [twStarted]
    · rw [fput_mem, fput_mem, fput_mem]
      rfl
    · rw [fput_cores, fput_cores, fput_cores]
      rfl
    · rw [fput_mem, fput_mem, fput_mem]
      rfl
  case done =>
    have hlive := tagLive_of_dramRead hread
    refine ⟨_, exec_tableWriterDone_single ok hjob hcnt hdata hservice hread, twBusy_twEnded _ _, ?_, ?_, fun d => ?_⟩
    · rw [twEnded_mem]
    · rw [dramRead_congr (twEnded_keys _ _) (by rw [twEnded_mem]) (by rw [twEnded_mem]) (by rw [twEnded_mem])]
      exact dramRead_dramWrite_same _ _ hlive
    · rw [twEnded_mem, dramWrite_tbuf]
      exact tblGet_map_nil _ rfl _ _

end Sys2Proof.Machine

/-! PROOF. Start-up and the pins (O38): the bundle that step 3 runs, the stack that the init fill has written, the pins, and what a module
reset keeps. -/
namespace Sys2Proof.Machine

/-! ### Start-up -/

theorem fusedSvn_fput_other (s : State) {f : Fld} (x : Nat) (hlo : f.lo ≤ f.hi) (hhi : f.hi ≤ 31)
    (hdisj : f.hi < f_TNT_LAN_STAT_SVN.lo ∨ f_TNT_LAN_STAT_SVN.hi < f.lo) : fusedSvn (fput s r_TNT_LAN_STAT f x) = fusedSvn s :=
  fget_fput_other s r_TNT_LAN_STAT f f_TNT_LAN_STAT_SVN x hlo hhi (by decide) hdisj

theorem bootHeld_lnt (s : State) (n code : Nat) : (bootHeld s n code).lnt = s.lnt := by simp [bootHeld]
theorem bootHeld_boot (s : State) (n code : Nat) : (bootHeld s n code).boot = s.boot := by simp [bootHeld]

theorem bootDone_lnt (s : State) (n : Nat) : (bootDone s n).lnt = s.lnt := by
  simp only [bootDone, fput_lnt]; split <;> split <;> simp
theorem bootDone_steps (s : State) (n : Nat) : (bootDone s n).boot.steps = addOnce s.boot.steps n := by
  simp only [bootDone, fput_boot]; split <;> split <;> simp

theorem mem_addOnce {α : Type} [DecidableEq α] (l : List α) (x : α) : x ∈ addOnce l x := by
  rw [addOnce]; split
  · assumption
  · simp

/-- The bundle that the selection bit `x` names. -/
def bundleAt (s : State) (x : Bool) : List Byte := if x then s.lnt.bundleB else s.lnt.bundleA

theorem bootRom_takesABundle (s : State) (hnew : 3 ∉ s.boot.steps) :
    (bootRom s).lnt.running = (if bundleBoots s (bundleAt s (hdrPick s.lnt)) then bundleAt s (hdrPick s.lnt)
      else if bundleBoots s (bundleAt s (!hdrPick s.lnt)) then bundleAt s (!hdrPick s.lnt) else s.lnt.running)
    ∧ (3 ∈ (bootRom s).boot.steps ↔
        (bundleBoots s (bundleAt s (hdrPick s.lnt)) || bundleBoots s (bundleAt s (!hdrPick s.lnt))) = true) := by
  have hstep (b : List Byte) : bundleBoots (fput s r_TNT_LAN_STAT f_TNT_LAN_STAT_FSTEP 2) b = bundleBoots s b := by
    rw [bundleBoots, bundleBoots, fusedSvn_fput_other s 2 (by decide) (by decide) (by decide)]
  unfold bootRom
  simp only [hstep, ← bundleAt.eq_1]
  by_cases hsel : bundleBoots s (bundleAt s (hdrPick s.lnt)) = true
  · simp [hsel, bootDone_lnt, bootDone_steps, mem_addOnce]
  · by_cases hother : bundleBoots s (bundleAt s (!hdrPick s.lnt)) = true
    · simp [hsel, hother, bootDone_lnt, bootDone_steps, mem_addOnce]
    · simp [hsel, hother, bootHeld_lnt, bootHeld_boot, hnew]

theorem exec_startUp_waited {s : State} {n : Nat} (hn : n ∈ [2, 6, 11, 12, 14, 15, 17, 18, 19]) (hnew : n ∉ s.boot.steps) (hready : bootReady s n = true)
    (hup : s.stm.jnl.failAt = none) (hholds : bootHolds s n = true) : exec (.startUp n [] []) s = .next (bootDone s n) := by
  rw [exec_startUp]
  simp only [List.mem_cons, List.not_mem_nil, or_false] at hn
  rcases hn with rfl | rfl | rfl | rfl | rfl | rfl | rfl | rfl | rfl <;>
    simp [execStartUp, hnew, hready, hup, hholds, when_]

/-! ### The init fill -/

theorem tblFind_filter_key {α : Type} (p : Nat → Bool) (t : Tbl α) (k : Nat) :
    tblFind (t.filter fun x => p x.1) k = if p k then tblFind t k else none := by
  induction t with
  | nil => simp [tblFind]
  | cons x xs ih =>
    obtain ⟨a, v⟩ := x
    by_cases ha : a = k
    · subst ha; by_cases hp : p a = true <;> simp_all [tblFind]
    · by_cases hp : p a = true <;> simp_all [tblFind]

/-- The state that INIT_FILL of stack `k` leaves. -/
def initFilled (s : State) (k : Nat) : State :=
  { s with
    mem := { s.mem with dram := s.mem.dram.filter fun (p : Nat × DWord) => stackOf p.1 != k, poison := tblErase s.mem.poison k, lost := s.mem.lost.filter fun w => stackOf w != k }
    boot := { s.boot with fill := s.boot.fill.filter (· != k) } }

theorem exec_initFill_written {s : State} {k : Nat} (hfill : k ∈ s.boot.fill) (hstep : 5 ∈ s.boot.steps) :
    ∃ t, exec (.initFill k) s = .next t ∧ k ∉ t.boot.fill
      ∧ (∀ w, stackOf w = k → tblFind t.mem.dram w = none) ∧ (∀ w, stackOf w ≠ k → tblFind t.mem.dram w = tblFind s.mem.dram w)
      ∧ t.cores = s.cores ∧ t.regs = s.regs ∧ t.mem.cl = s.mem.cl := by
  have hdue : (s.boot.fill.contains k && s.boot.steps.contains 5) = true := by simp [hfill, hstep]
  have hread (w : Nat) := tblFind_filter_key (fun w => stackOf w != k) s.mem.dram w
  refine ⟨initFilled s k, by rw [exec_initFill]; exact when_of_true hdue s _, by simp [initFilled], ?_, ?_, rfl, rfl, rfl⟩
  · intro w hw
    exact (hread w).trans (if_neg (by simp [hw]))
  · intro w hw
    exact (hread w).trans (if_pos (by simp [hw]))

/-! ### Module reset -/

theorem moduleReset_keeps (s : State) :
    (moduleReset s).mem.host = s.mem.host ∧ (moduleReset s).sent = s.sent ∧ (moduleReset s).pending = s.pending
      ∧ (moduleReset s).stm.jnl.recs = s.stm.jnl.recs ∧ (moduleReset s).rst.embers = s.rst.embers ∧ (moduleReset s).lnt.bundleA = s.lnt.bundleA := by
  simp [moduleReset, keptJournal]

theorem moduleReset_clears (s : State) : (moduleReset s).cores = [] ∧ (moduleReset s).mem.dram = [] ∧ (moduleReset s).pin.mrst = none := by
  simp [moduleReset, State.reset, memReset, pinReset]

/-- Settles O38, by the cases of Table 1's steps and of the pins; what a module reset keeps is read off `moduleReset`. -/
theorem startUpAndPins : Obligations.StartUpAndPins := by
  unfold Obligations.StartUpAndPins
  refine ⟨fun s n hnew hready hup => ⟨fun hn => exec_startUp_waited hn hnew hready hup, ?_, ?_⟩, fun s k => exec_initFill_written, fun s hp1 => ⟨?_, ?_⟩,
    fun s => ⟨?_, fun hpin hpwr => ?_⟩, fun s t hpin hhigh hlate => ?_, fun s on full speed => ⟨?_, ?_⟩⟩
  · rintro rfl
    obtain ⟨hrun, hdone⟩ := bootRom_takesABundle s hnew
    exact ⟨bootRom s, by rw [exec_startUp]; simp [execStartUp, hnew, hready, hup], hrun, hdone⟩
  · rintro rfl
    rw [exec_startUp]; simp [execStartUp, hnew, hready, hup]
  · rw [exec_perstAssert]; rfl
  · rw [exec_perstDeassert]; rfl
  · rw [exec_mrstN, execMrstN]; rfl
  · rw [exec_mrstN]; simp [execMrstN, hpin, hpwr]
  · obtain ⟨hhost, hsent, hpending, hrecs, hembers, hbundle⟩ := moduleReset_keeps s
    obtain ⟨hcores, hdram, hmrst⟩ := moduleReset_clears s
    refine ⟨moduleReset s, ?_, hhost, hsent, hpending, hrecs, hembers, hbundle, hcores, hdram, hmrst⟩
    rw [exec_mrstNReset, execMrstNReset, hpin]
    exact when_of_true (by rw [hhigh, decide_eq_true hlate]; rfl) s _
  · rw [exec_sgmiiAutoneg, execSgmiiAutoneg]
  · rw [exec_refclkLoss, execRefclkLoss]

end Sys2Proof.Machine

/-! PROOF. The timebase (O41): what its registers show, the exchange with the parent, and the 1PPS input. -/
namespace Sys2Proof.Machine

/-! ### Registers and events -/

theorem rget_congr {s t : State} (h : t.regs = s.regs) (off : Nat) : rget t off = rget s off := by rw [rget, rget, h]
theorem fget_congr {s t : State} (h : t.regs = s.regs) (off : Nat) (f : Fld) : fget t off f = fget s off f := by rw [fget, fget, rget_congr h]
theorem fbit_congr {s t : State} (h : t.regs = s.regs) (off : Nat) (f : Fld) : fbit t off f = fbit s off f := by rw [fbit, fbit, fget_congr h]

theorem fbit_fput_other (s : State) {off x : Nat} {f g : Fld} (hf : f.lo ≤ f.hi) (hh : f.hi ≤ 31) (hg : g.lo ≤ g.hi)
    (hdisj : f.hi < g.lo ∨ g.hi < f.lo) : fbit (fput s off f x) off g = fbit s off g := by
  rw [fbit, fbit, fget_fput_other s off f g x hf hh hg hdisj]

theorem pairGet_rput_rput (s : State) {lo hi : Nat} (a b : W32) (hne : lo ≠ hi) :
    pairGet (rput (rput s lo a) hi b) lo hi = a.toNat + b.toNat * 2 ^ 32 := by
  rw [pairGet, rget_rput_ne _ _ _ _ hne, rget_rput_eq, rget_rput_eq]

theorem pairGet_pairPut (s : State) {lo hi v : Nat} (hne : lo ≠ hi) (hv : v < 2 ^ 64) : pairGet (pairPut s lo hi v) lo hi = v := by
  rw [pairPut, pairGet_rput_rput s _ _ hne, BitVec.toNat_ofNat, BitVec.toNat_ofNat]
  omega

theorem pairGet_fput_ne (s : State) {off lo hi x : Nat} {f : Fld} (hlo : lo ≠ off) (hhi : hi ≠ off) : pairGet (fput s off f x) lo hi = pairGet s lo hi := by
  rw [pairGet, pairGet, fput, rget_rput_ne _ _ _ _ hlo, rget_rput_ne _ _ _ _ hhi]

theorem pairGet_congr {s t : State} (h : t.regs = s.regs) (lo hi : Nat) : pairGet t lo hi = pairGet s lo hi := by
  rw [pairGet, pairGet, rget_congr h, rget_congr h]

/-- A source of CTL reaches the collector's queue. -/
theorem raiseSrc_srcCtl (s : State) (off : Nat) : raiseSrc s (srcCtl off) = { s with evq := s.evq ++ [eventOf s (srcCtl off)] } := by
  rw [raiseSrc, raise, if_pos]
  exact Nat.le_add_right 736 off

theorem raiseSrc_srcCtl_evq (s : State) (off : Nat) : ∃ e, e.src = srcCtl off ∧ (raiseSrc s (srcCtl off)).evq = s.evq ++ [e] :=
  ⟨_, rfl, by rw [raiseSrc_srcCtl]⟩

theorem raiseSrc_srcCtl_regs (s : State) (off : Nat) : (raiseSrc s (srcCtl off)).regs = s.regs := by rw [raiseSrc_srcCtl]

/-! ### Synchronisation -/

theorem toNat_low_add_high (x : W64) : (x.truncate 32 : W32).toNat + (x.extractLsb' 32 32).toNat * 2 ^ 32 = x.toNat := by
  rw [toNat_extract, BitVec.truncate_eq_setWidth, BitVec.toNat_setWidth]
  have := x.isLt
  omega

theorem tbLost_stat (s : State) :
    fbit (tbLost s) r_DET_TB_STAT f_DET_TB_STAT_SYNCED = false ∧ fbit (tbLost s) r_DET_TB_STAT f_DET_TB_STAT_LOST = true := by
  have hregs : (tbLost s).regs = (fput (fput s r_DET_TB_STAT f_DET_TB_STAT_SYNCED 0) r_DET_TB_STAT f_DET_TB_STAT_LOST 1).regs := by
    simp only [tbLost]
    split
    · exact raiseSrc_srcCtl_regs _ _
    · rfl
  constructor
  · rw [fbit_congr hregs, fbit_fput_other _ (by decide) (by decide) (by decide) (by decide), fbit_fput_eq _ (by decide) (by decide)]; rfl
  · rw [fbit_congr hregs, fbit_fput_eq _ (by decide) (by decide)]; rfl

theorem tbLost_event {s : State} (hsynced : fbit s r_DET_TB_STAT f_DET_TB_STAT_SYNCED = true) : ∃ e, e.src = 751 ∧ (tbLost s).evq = s.evq ++ [e] := by
  obtain ⟨e, hsrc, hevq⟩ := raiseSrc_srcCtl_evq (fput (fput s r_DET_TB_STAT f_DET_TB_STAT_SYNCED 0) r_DET_TB_STAT f_DET_TB_STAT_LOST 1) 15
  exact ⟨e, hsrc, by rw [tbLost, if_pos hsynced, hevq]; simp⟩

theorem exec_mTimeExchange_due {s : State} {k : Nat} (hparent : s.tb.parent = some k) (hon : kilnOn s = true) (hdue : 1000000 ≤ nsSince s s.tb.exchAt) :
    let n := (s.tb.exch + 1) % 65536
    exec .mTimeExchange s = .next (sendLocal (modTb s fun t => { t with exch := n, exchAt := s.tb.tb, t1 := some s.tb.tb })
      16 0x1C 0xFFF 16 (k / 12) (k % 12) [n * 2 ^ 16, s.tb.tb.toNat]) := by
  intro n
  rw [exec_mTimeExchange]
  simp only [execMTimeExchange, hparent, hon, hdue, decide_true, Bool.and_self, if_true, Nat.zero_add, modTb_tb, n]

theorem exec_mTime_request {s : State} {w l e : Nat} {t1 t2 t3 : W64} {mpkg hops : Nat} (hon : kilnOn s = true) (hw : w < 4) (hl : l < 12)
    (hlive : linkLive s w l = true) : exec (.mTime w l 0 e t1 t2 t3 mpkg hops) s = .next (sendLocal s 16 0x1C 0xFFF 16 w l
      [1 + e * 2 ^ 16, t1.toNat, s.tb.tb.toNat, s.tb.tb.toNat, 0,
       (if fbit s r_DET_TB_STAT f_DET_TB_STAT_MASTER then myPkg s else s.tb.mpkg) + fget s r_DET_TB_STAT f_DET_TB_STAT_HOPS * 2 ^ 12]) := by
  rw [exec_mTime, execMTime]; simp [hon, hw, hl, hlive]

theorem exec_mTime_reply {s : State} {w l e : Nat} {t1 t2 t3 : W64} {mpkg hops : Nat} (hon : kilnOn s = true) (hw : w < 4) (hl : l < 12)
    (hlive : linkLive s w l = true) (ht1 : s.tb.t1 = some t1) (hparent : s.tb.parent = some (linkKey w l)) (hexch : e = s.tb.exch) :
    exec (.mTime w l 1 e t1 t2 t3 mpkg hops) s = .next (takeOffset (fput (modTb s fun t => { t with t1 := none, lastTime := s.tb.tb, mpkg := mpkg })
        r_DET_TB_STAT f_DET_TB_STAT_HOPS (min 255 (hops + 1))) ((((t2.toNat : Int) - t1.toNat) - ((s.tb.tb.toNat : Int) - t3.toNat)) / 2)) := by
  rw [exec_mTime, execMTime]; simp [hon, hw, hl, hlive, ht1, hparent, hexch]

/-! ### 1PPS -/

/-- A valid edge: latched, PPS_SEEN; a master slews toward the second. -/
def ppsLatched (s : State) : State :=
  fput (pairPut (modTb s fun t => { t with lastPps := some s.tb.tb }) r_DET_TB_PPS_LO r_DET_TB_PPS_HI s.tb.tb.toNat) r_DET_TB_STAT f_DET_TB_STAT_PPS_SEEN 1

theorem exec_ppsEdge_valid {s : State} {rising : Bool} (hen : fbit s r_DET_TB_CFG f_DET_TB_CFG_PPS_EN = true)
    (hedge : rising = true ↔ fget s r_DET_TB_CFG f_DET_TB_CFG_PPS_EDGE = 0)
    (hlast : s.tb.lastPps = none ∨ ∃ t, s.tb.lastPps = some t ∧ 999999000 ≤ (s.tb.tb - t).toNat ∧ (s.tb.tb - t).toNat ≤ 1000001000) :
    ∃ t, exec (.ppsEdge rising) s = .next t ∧ t.regs = (ppsLatched s).regs ∧ t.tb.tb = s.tb.tb ∧ t.tb.lastPps = some s.tb.tb ∧ t.cores = s.cores := by
  have htaken : (!fbit s r_DET_TB_CFG f_DET_TB_CFG_PPS_EN || (fget s r_DET_TB_CFG f_DET_TB_CFG_PPS_EDGE == 0) != rising) = false := by
    have : (fget s r_DET_TB_CFG f_DET_TB_CFG_PPS_EDGE == 0) = rising := by rw [Bool.eq_iff_iff, hedge, beq_iff_eq]
    simp [hen, this]
  have hgood : (match s.tb.lastPps with
      | some t => decide (999999000 ≤ (s.tb.tb - t).toNat) && decide ((s.tb.tb - t).toNat ≤ 1000001000)
      | none => true) = true := by
    rcases hlast with hnone | ⟨t, hsome, hlo, hhi⟩
    · rw [hnone]
    · rw [hsome]; exact Bool.and_eq_true_iff.mpr ⟨decide_eq_true hlo, decide_eq_true hhi⟩
  rw [exec_ppsEdge]
  unfold execPpsEdge
  rw [htaken]
  simp only [Bool.false_eq_true, if_false]
  rw [show ∀ b x y, b = true → (if !b then x else y) = (y : Out) from fun b x y h => by rw [h]; rfl]
  · split
    · exact ⟨_, rfl, rfl, by simp [pairPut], by simp [pairPut], by simp [pairPut]⟩
    · exact ⟨_, rfl, rfl, by simp [pairPut], by simp [pairPut], by simp [pairPut]⟩
  · exact hgood

theorem ppsLatched_regs (s : State) : pairGet (ppsLatched s) r_DET_TB_PPS_LO r_DET_TB_PPS_HI = s.tb.tb.toNat
    ∧ fbit (ppsLatched s) r_DET_TB_STAT f_DET_TB_STAT_PPS_SEEN = true := by
  constructor
  · rw [ppsLatched, pairGet_fput_ne _ (by decide) (by decide), pairGet_pairPut _ (by decide) s.tb.tb.isLt]
  · rw [ppsLatched, fbit_fput_eq _ (by decide) (by decide)]; rfl

theorem exec_ppsLost_late {s : State} {t : W64} (hlast : s.tb.lastPps = some t) (hen : fbit s r_DET_TB_CFG f_DET_TB_CFG_PPS_EN = true)
    (hseen : fbit s r_DET_TB_STAT f_DET_TB_STAT_PPS_SEEN = true) (hlate : 1000001000 < nsSince s t) :
    exec .ppsLost s = .next (raiseSrc (modTb (fput s r_DET_TB_STAT f_DET_TB_STAT_PPS_SEEN 0) fun t => { t with lastPps := none }) (srcCtl 16)) := by
  rw [exec_ppsLost, execPpsLost, hlast]
  exact when_of_true (by rw [hen, hseen, decide_eq_true hlate]; rfl) s _

/-- Settles O41, command by command: each equation of the model under the clause's conditions, and the register fields that it leaves. -/
theorem timebaseCommands : Obligations.TimebaseCommands := by
  unfold Obligations.TimebaseCommands
  refine ⟨fun s => ⟨by rw [exec_detTbLoRead, execDetTbLoRead], ?_⟩, fun s k => exec_mTimeExchange_due,
    fun s w l e t1 t2 t3 mpkg hops hon hw hl hlive => ⟨exec_mTime_request hon hw hl hlive, exec_mTime_reply hon hw hl hlive⟩, ?_, ?_, ?_⟩
  · rw [pairGet_rput_rput s _ _ (by decide)]
    exact toNat_low_add_high s.tb.tb
  · intro s hparent hlate
    obtain ⟨hsynced, hlost⟩ := tbLost_stat s
    refine ⟨tbLost s, ?_, hsynced, hlost, tbLost_event⟩
    rw [exec_tbSyncTimeout, execTbSyncTimeout]
    exact when_of_true (by rw [hparent, decide_eq_true hlate]; rfl) s _
  · intro s rising hen hedge hlast
    obtain ⟨t, hexec, hregs, htb, hpps, hcores⟩ := exec_ppsEdge_valid hen hedge hlast
    obtain ⟨hpair, hseen⟩ := ppsLatched_regs s
    exact ⟨t, hexec, by rw [pairGet_congr hregs, hpair], by rw [fbit_congr hregs, hseen], htb, hpps, hcores⟩
  · intro s t hlast hen hseen hlate
    obtain ⟨e, hsrc, hevq⟩ := raiseSrc_srcCtl_evq (modTb (fput s r_DET_TB_STAT f_DET_TB_STAT_PPS_SEEN 0) fun t => { t with lastPps := none }) 16
    refine ⟨_, exec_ppsLost_late hlast hen hseen hlate, ?_, e, hsrc, by rw [hevq]; simp⟩
    rw [fbit_congr (raiseSrc_srcCtl_regs _ _), fbit_congr (modTb_regs _ _), fbit_fput_eq _ (by decide) (by decide)]; rfl

end Sys2Proof.Machine

/-! PROOF. The recorder and the replay engine (O39): the log that opens, its head and tail, and the replay's GO, items, stop point and abort. -/
namespace Sys2Proof.Machine

/-! ### The recorder -/

theorem getLog_modLog_same (s : State) (sg : Nat) (f : LogSt → LogSt) : getLog (modLog s sg f) sg = f (getLog s sg) := by
  simp [getLog, modLog, tblModify]

theorem getLog_congr {s t : State} (h : t.stm = s.stm) (sg : Nat) : getLog t sg = getLog s sg := by rw [getLog, getLog, h]

theorem modLog_regs (s : State) (sg : Nat) (f : LogSt → LogSt) : (modLog s sg f).regs = s.regs := rfl
theorem modLog_cores (s : State) (sg : Nat) (f : LogSt → LogSt) : (modLog s sg f).cores = s.cores := rfl
theorem modLog_mem (s : State) (sg : Nat) (f : LogSt → LogSt) : (modLog s sg f).mem = s.mem := rfl

theorem buf_logPut (s : State) (sg ty : Nat) (body : List Byte) : (getLog (logPut s sg ty body) sg).buf = (getLog s sg).buf ++ [(ty, body)] := by
  rw [logPut, getLog_modLog_same]

/-- The state in which a log that is free opens: its size taken, EN set, DATA as written. -/
def logConfigured (s : State) (sg : Nat) (v : W32) : State :=
  modLog (fput (fput (fput s (r_DET_LOG_CFG sg) f_DET_LOG_CFG_SZLOG (fldGet v f_DET_LOG_CFG_SZLOG)) (r_DET_LOG_CFG sg) f_DET_LOG_CFG_EN 1)
    (r_DET_LOG_CFG sg) f_DET_LOG_CFG_DATA (fldGet v f_DET_LOG_CFG_DATA)) sg fun l => { l with dead := false }

theorem logActive_logConfigured (s : State) (sg : Nat) (v : W32) : logActive (logConfigured s sg v) sg = logActive s sg := by
  have hne : r_DET_LOG_STAT sg ≠ r_DET_LOG_CFG sg := by unfold r_DET_LOG_STAT r_DET_LOG_CFG; omega
  rw [logActive, logConfigured, fbit_congr (modLog_regs _ _ _), fbit, fget_fput_ne _ _ _ _ _ _ hne, fget_fput_ne _ _ _ _ _ _ hne,
    fget_fput_ne _ _ _ _ _ _ hne]
  rfl

theorem exec_detLogCfgWrite_opens {s : State} {sg : Nat} {v : W32} (hsg : sg < 128) (hen : v.getLsbD 8 = true) (hlock : lockSet s = true)
    (hsize : 16 ≤ fldGet v f_DET_LOG_CFG_SZLOG) (hclosed : logActive s sg = false) (hoff : fldGet (rget s (r_DET_LOG_CFG sg)) f_DET_LOG_CFG_EN = 0) :
    exec (.detLogCfgWrite sg v) s = .next (openLog (logConfigured s sg v) sg (v.getLsbD 9)) := by
  have hactive := (logActive_logConfigured s sg v).trans hclosed
  rw [exec_detLogCfgWrite, execDetLogCfgWrite]
  rw [logConfigured] at hactive ⊢
  simp [hsg, hen, hlock, hclosed, hoff, Nat.not_lt.mpr hsize, b2n, hactive]

/-- The registers of a log that opens: LSN 0, ACTIVE. -/
def logOpened (s : State) (sg : Nat) : State :=
  fput (pairPut s (r_DET_LOG_LSN_LO sg) (r_DET_LOG_LSN_HI sg) 0) (r_DET_LOG_STAT sg) f_DET_LOG_STAT_ACTIVE 1

theorem openLog_regs (s : State) (sg : Nat) (data : Bool) : (openLog s sg data).regs = (logOpened s sg).regs := by
  simp only [openLog, logPut, modLog_regs, logOpened]

theorem rget_pairPut_ne (s : State) {lo hi v off : Nat} (hlo : off ≠ lo) (hhi : off ≠ hi) : rget (pairPut s lo hi v) off = rget s off := by
  rw [pairPut, rget_rput_ne _ _ _ _ hhi, rget_rput_ne _ _ _ _ hlo]

theorem openLog_leaves (s : State) (sg : Nat) (data : Bool) : logActive (openLog s sg data) sg = true
    ∧ rget (openLog s sg data) (r_DET_LOG_CFG sg) = rget s (r_DET_LOG_CFG sg)
    ∧ (∃ a b, (getLog (openLog s sg data) sg).buf = (getLog s sg).buf ++ [(1, a), (6, b)])
    ∧ (openLog s sg data).cores = s.cores ∧ (openLog s sg data).mem = s.mem := by
  have hstat : r_DET_LOG_CFG sg ≠ r_DET_LOG_STAT sg := by unfold r_DET_LOG_CFG r_DET_LOG_STAT; omega
  have hlo : r_DET_LOG_CFG sg ≠ r_DET_LOG_LSN_LO sg := by unfold r_DET_LOG_CFG r_DET_LOG_LSN_LO; omega
  have hhi : r_DET_LOG_CFG sg ≠ r_DET_LOG_LSN_HI sg := by unfold r_DET_LOG_CFG r_DET_LOG_LSN_HI; omega
  refine ⟨?_, ?_, ?_, ?_, ?_⟩
  · rw [logActive, fbit_congr (openLog_regs s sg data), logOpened, fbit_fput_eq _ (by decide) (by decide)]; rfl
  · rw [rget_congr (openLog_regs s sg data), logOpened, fput, rget_rput_ne _ _ _ _ hstat, rget_pairPut_ne _ hlo hhi]
  · refine ⟨startBody (logOpened s sg) sg data, mapBody (mapNow (logOpened s sg) sg), ?_⟩
    rw [openLog, getLog_modLog_same, buf_logPut, buf_logPut, List.append_assoc, getLog_congr (s := s) (by simp [pairPut])]
    rfl
  · simp only [openLog, logPut, modLog_cores, fput_cores]; simp [pairPut]
  · simp only [openLog, logPut, modLog_mem, fput_mem]; simp [pairPut]

theorem logSize_logConfigured (s : State) (sg : Nat) (v : W32) : logSize (logConfigured s sg v) sg = 2 ^ fldGet v f_DET_LOG_CFG_SZLOG := by
  have hlt : fldGet v f_DET_LOG_CFG_SZLOG < 2 ^ 5 := Nat.mod_lt _ (by decide)
  rw [logSize, logConfigured, fget_congr (modLog_regs _ _ _), fget_fput_other _ _ _ _ _ (by decide) (by decide) (by decide) (by decide),
    fget_fput_other _ _ _ _ _ (by decide) (by decide) (by decide) (by decide), fget_fput_eq _ _ _ _ (by decide) (by decide)]
  exact congrArg (2 ^ ·) (Nat.mod_eq_of_lt hlt)

theorem logConfigured_leaves (s : State) (sg : Nat) (v : W32) : (getLog (logConfigured s sg v) sg).buf = (getLog s sg).buf
    ∧ (logConfigured s sg v).cores = s.cores ∧ (logConfigured s sg v).mem = s.mem := by
  refine ⟨?_, ?_, ?_⟩
  · rw [logConfigured, getLog_modLog_same, getLog_congr (s := s) (by simp)]
  · rw [logConfigured, modLog_cores]; simp
  · rw [logConfigured, modLog_mem]; simp

theorem exec_detLogHeadWrite_range {sg : Nat} (hsg : sg < 128) (s : State) (v : W32) :
    let h := 16 * fldGet v f_DET_LOG_HEAD_HEAD; let z := logSize s sg
    exec (.detLogHeadWrite sg v) s = .next
      (if h < z ∧ (h + z - logHead s sg) % z ≤ (logTail s sg + z - logHead s sg) % z then fput s (r_DET_LOG_HEAD sg) f_DET_LOG_HEAD_HEAD (h / 16)
       else fput s (r_DET_LOG_STAT sg) f_DET_LOG_STAT_HEADERR 1) := by
  intro h z
  rw [exec_detLogHeadWrite, execDetLogHeadWrite, if_pos hsg, show h / 16 = fldGet v f_DET_LOG_HEAD_HEAD by omega]
  by_cases hin : h < z ∧ (h + z - logHead s sg) % z ≤ (logTail s sg + z - logHead s sg) % z
  · rw [if_pos (by simpa using hin), if_pos hin]
  · rw [if_neg (by simpa using hin), if_neg hin]

theorem exec_logTailAdvance_put {s : State} {sg ty : Nat} {body : List Byte} {rest : List (Nat × List Byte)}
    (hbuf : (getLog s sg).buf = (ty, body) :: rest) (hsg : sg < 128) (halive : (getLog s sg).dead = false) (hup : hostUp s (fnOf s sg) = true)
    (hfits : logTail s sg + (16 + (padTo16 body).length) ≤ logSize s sg)
    (hroom : (logTail s sg + logSize s sg - logHead s sg) % logSize s sg + (16 + (padTo16 body).length) < logSize s sg) :
    exec (.logTailAdvance sg false) s = .next (fput (ringPut (modLog s sg fun l => { l with buf := rest }) sg ty body) (r_DET_LOG_STAT sg) f_DET_LOG_STAT_BLOCK 0) := by
  rw [exec_logTailAdvance, execLogTailAdvance, hbuf]
  simp only [if_neg (Nat.not_lt.mpr hfits), Nat.add_zero, halive, hup, decide_eq_false (Nat.not_le.mpr hroom), decide_eq_false (Nat.not_le.mpr hsg)]
  rfl

/-! ### The replay engine -/

theorem exec_detRplGo_starting {s : State} {v : W32} (hgo : v.getLsbD 8 = true) (habort : v.getLsbD 9 = false) (hrunning : rplState s ≠ 1)
    (hstopped : rplState s ≠ 2) : let s' := rput s r_DET_RPL_CTL (v &&& 0x00000CFF#32)
    (lockSet s' = false → exec (.detRplGo v) s = .next (rplFail s' 1))
    ∧ (lockSet s' = true → sgState s' (rplSg s') = 1 → fnBusy s' (fnOf s' (rplSg s')) = false →
      ∃ t, exec (.detRplGo v) s = .next t ∧ rplState t = 1 ∧ t.stm.rpl = replayReset ∧ rget t r_DET_RPL_ITEMS = 0 ∧ rget t r_DET_RPL_MISCNT = 0) := by
  intro s'
  have hstate : rplState s' ≠ 2 := by rwa [rplState, fget, rget_rput_ne _ _ _ _ (by decide)]
  have hgoing : exec (.detRplGo v) s = (if !lockSet s' then .next (rplFail s' 1)
      else if sgState s' (rplSg s') != 1 || fnBusy s' (fnOf s' (rplSg s')) then .next (rplFail s' 2)
      else .next (fput (setRplState (rput (rput (modRpl s' fun _ => replayReset) r_DET_RPL_ITEMS 0) r_DET_RPL_MISCNT 0) 1 0)
        r_DET_RPL_STAT f_DET_RPL_STAT_MAPSAME 0)) := by
    rw [exec_detRplGo, execDetRplGo, hgo, habort, beq_false_of_ne hrunning]
    exact if_neg hstate
  refine ⟨fun hlock => by rw [hgoing, hlock]; rfl, fun hlock hsg hidle => ⟨_, by rw [hgoing, hlock, hsg, hidle]; rfl, ?_, ?_, ?_, ?_⟩⟩
  · rw [rplState, setRplState, fget_fput_other _ _ _ _ _ (by decide) (by decide) (by decide) (by decide),
      fget_fput_other _ _ _ _ _ (by decide) (by decide) (by decide) (by decide), fget_fput_eq _ _ _ _ (by decide) (by decide)]; rfl
  · simp [setRplState, modRpl]
  · simp only [setRplState, fput]
    rw [rget_rput_ne _ _ _ _ (by decide), rget_rput_ne _ _ _ _ (by decide), rget_rput_ne _ _ _ _ (by decide), rget_rput_ne _ _ _ _ (by decide), rget_rput_eq]
  · simp only [setRplState, fput]
    rw [rget_rput_ne _ _ _ _ (by decide), rget_rput_ne _ _ _ _ (by decide), rget_rput_ne _ _ _ _ (by decide), rget_rput_eq]

theorem exec_replayItem_running {s : State} (hrun : rplState s = 1) (hbound : sgState s (rplSg s) = 1) (hfree : sgHeld s (rplSg s) = false)
    (hup : hostUp s (fnOf s (rplSg s)) = true) :
    (∀ r, (getStrm s 65536).run = some r → r.phase = .finished → exec (.replayItem false) s = .next (replayEnd s r))
    ∧ ((getStrm s 65536).run = none → (getStrm s 65536).accepted = [] → exec (.replayItem false) s = .next (replayAdvance (rplLen s / 16 + 2) s)) := by
  have hon : rplState s = 1 ∧ sgState s (rplSg s) = 1 ∧ (!sgHeld s (rplSg s)) = true ∧ hostUp s (fnOf s (rplSg s)) = true :=
    ⟨hrun, hbound, by rw [hfree]; rfl, hup⟩
  constructor
  · intro r hitem hphase
    rw [exec_replayItem, execReplayItem, if_pos hon, hitem]
    exact if_pos hphase
  · intro hnone hempty
    rw [exec_replayItem, execReplayItem, if_pos hon, hnone, hempty]; rfl

theorem exec_stopPointReached_dumps {s s1 : State} {x : Nat × Option Nat × W64 × W64 × Nat} {run : RunSt} {c : Nat} {g : Region} {bs : List Byte} {bad hit : Bool}
    (hstop : s.stm.rpl.stop = some x) (hrun : (getStrm s 65536).run = some run)
    (hcore : (itemCores s 65536).find? (fun c => (getCore s c).lcore == x.1) = some c) (hrpl : rplState s = 1) (hreached : stopReached s x = true)
    (hquiet : ∀ c ∈ itemCores s 65536, stepEventsDue (getCore s c) = false) (hup : hostUp s (fnOf s run.sg) = true) :
    let s' := each ((itemCores s 65536).filter fun c => (getCore s c).mode == .live) (fun s c => modCore s c fun k => { k with mode := .stopped }) s
    regionOf (ctxOf s' c (getCore s c)) x.2.2.2.1 x.2.2.2.2 = some g →
    agentRead s' { die := dieOf c, sg := run.sg, mid := midSfe, src := 2 } c g x.2.2.2.2 hit = .ok s1 bs bad →
    exec (.stopPointReached hit false) s = .next (setRplState (modRpl (hostWrite s1 (hostAt s1 r_DET_RPL_DUMP_LO r_DET_RPL_DUMP_HI)
      (dumpBytes s1 run (getCore s c) x bs)) fun r => { r with stop := none }) 2 0) := by
  intro s' hregion hread
  have hdue : rplState s = 1 ∧ stopReached s x = true
      ∧ ((itemCores s 65536).all fun c => !stepEventsDue (getCore s c) || (getCore s c).mode != .live) = true ∧ hostUp s (fnOf s run.sg) = true :=
    ⟨hrpl, hreached, List.all_eq_true.mpr fun c hc => by rw [hquiet c hc]; rfl, hup⟩
  rw [exec_stopPointReached, execStopPointReached, hstop, hrun]
  simp only [hcore, if_pos hdue]
  rw [hregion]
  simp only [Bool.false_eq_true, if_false]
  rw [hread]

theorem getStrm_modStrm_same (s : State) (n : Nat) (f : Strm → Strm) : getStrm (modStrm s n f) n = f (getStrm s n) := by
  simp [getStrm, modStrm, setStrm]

theorem exec_detRplAbort_stopped {s : State} (hstopped : rplState s = 2) :
    ∃ t, exec .detRplAbort s = .next t ∧ rplState t = 0 ∧ fget t r_DET_RPL_STAT f_DET_RPL_STAT_ECODE = 10 ∧ (getStrm t 65536).accepted = [] := by
  refine ⟨_, by rw [exec_detRplAbort, execDetRplAbort, if_pos hstopped], ?_, ?_, ?_⟩
  · rw [rplState, setRplState, fget_fput_other _ _ _ _ _ (by decide) (by decide) (by decide) (by decide), fget_fput_eq _ _ _ _ (by decide) (by decide)]; rfl
  · rw [setRplState, fget_fput_eq _ _ _ _ (by decide) (by decide)]; rfl
  · rw [setRplState, getStrm, fput_stm, fput_stm, ← getStrm, getStrm_modStrm_same]

/-- Settles O39, command by command: the equation of the model under the clause's conditions, then the register fields that it leaves. -/
theorem logAndReplay : Obligations.LogAndReplay := by
  unfold Obligations.LogAndReplay
  refine ⟨?_, fun s sg v hsg => exec_detLogHeadWrite_range hsg s v, fun s sg ty body rest => exec_logTailAdvance_put, fun s v => exec_detRplGo_starting,
    fun s => exec_replayItem_running, fun s s1 x run c g bs bad hit => exec_stopPointReached_dumps, fun s => exec_detRplAbort_stopped⟩
  intro s sg v hsg hen hlock hsize hclosed hoff
  obtain ⟨hactive, hcfg, ⟨a, b, hbuf⟩, hcores, hmem⟩ := openLog_leaves (logConfigured s sg v) sg (v.getLsbD 9)
  obtain ⟨hbuf', hcores', hmem'⟩ := logConfigured_leaves s sg v
  refine ⟨_, exec_detLogCfgWrite_opens hsg hen hlock hsize hclosed hoff, hactive, ?_, ⟨a, b, by rw [hbuf, hbuf']⟩, hcores.trans hcores', hmem.trans hmem'⟩
  rw [logSize, fget, hcfg]
  exact logSize_logConfigured s sg v

end Sys2Proof.Machine

/-! PROOF. Cells on a wheel and the rates toward packages (O43). -/
namespace Sys2Proof.Machine

/-! ### Wheels -/

/-- Node `16 + w` is wheel `w`. -/
theorem wheelNode {w : Nat} (hw : w < 4) : 16 ≤ 16 + w ∧ 16 + w < 20 := ⟨Nat.le_add_right 16 w, Nat.add_lt_add_left hw 16⟩

theorem exec_wheelRoute_at {s : State} {w port pos : Nat} {c : LCell} (hw : w < 4) (hcell : (wheelIn s w port)[pos]? = some c) (hport : port < 33) :
    (∀ ch, routeCell s w port c.cell none = .choose ch → exec (.wheelRoute w port pos) s = .next (modWheel s w fun x => setChoice x port pos ch))
    ∧ (routeCell s w port c.cell none = .drop → exec (.wheelRoute w port pos) s = .next (wheelDropHdr (wheelTake s w port pos c) w port c)) := by
  have hroute : exec (.wheelRoute w port pos) s = execWheelRoute w port pos s := exec_wheelRoute ..
  constructor
  · intro ch hchoice
    rw [hroute]
    simp only [execWheelRoute, if_pos hw, hcell, if_neg (Nat.ne_of_lt hport), hchoice]
  · intro hdrop
    rw [hroute]
    simp only [execWheelRoute, if_pos hw, hcell, if_neg (Nat.ne_of_lt hport), hdrop]

theorem exec_outputArbitrate_wheel {s : State} {w out : Nat} {r : Ready} (hw : w < 4)
    (hready : arbitrate s.tb.tb (lastOf s (16 + w) out) (lastPortOf s (16 + w) out) (wheelReady s w out) = some r) :
    exec (.outputArbitrate (16 + w) out) s = .next (wheelSend s w out r) := by
  rw [exec_outputArbitrate, execOutputArbitrate, if_pos (wheelNode hw)]
  simp only [Nat.add_sub_cancel_left, hready]

theorem exec_cellAgeDiscard_wheel {s : State} {w port pos : Nat} {c : LCell} (hw : w < 4) (hcell : (wheelIn s w port)[pos]? = some c)
    (hold : tooOld c s.tb.tb = true) (hport : 12 ≤ port) :
    exec (.cellAgeDiscard (16 + w) port pos) s = .next (cellLoss (wheelTake s w port pos c) (srcWheel w 6) c) := by
  rw [exec_cellAgeDiscard, execCellAgeDiscard, if_pos (wheelNode hw)]
  simp only [Nat.add_sub_cancel_left, hcell, hold, if_true, if_neg (Nat.not_lt.mpr hport)]

/-! ### Rates -/

@[simp] theorem getNi_setNi_same (s : State) (d : Nat) (n : Ni) : getNi (setNi s d n) d = n := by simp [getNi, setNi, modFab]
@[simp] theorem getNi_modNi_same (s : State) (d : Nat) (f : Ni → Ni) : getNi (modNi s d f) d = f (getNi s d) := getNi_setNi_same s d _
@[simp] theorem setNi_regs (s : State) (d : Nat) (n : Ni) : (setNi s d n).regs = s.regs := rfl
@[simp] theorem modNi_regs (s : State) (d : Nat) (f : Ni → Ni) : (modNi s d f).regs = s.regs := rfl

theorem getRate_setRate_same (s : State) (d pkg : Nat) (r : RateSt) : getRate (setRate s d pkg r) d pkg = r := by
  simp [getRate, setRate]
theorem getRate_setRate_ne (s : State) (d : Nat) {pkg q : Nat} (r : RateSt) (h : q ≠ pkg) : getRate (setRate s d pkg r) d q = getRate s d q := by
  simp [getRate, setRate, tblGet_set_ne, h]
theorem ece_setRate (s : State) (d pkg : Nat) (r : RateSt) : (getNi (setRate s d pkg r) d).ece = (getNi s d).ece := by simp [setRate]

/-- The NI state after the marks from `pkg` are acted on. -/
def eceTaken (s : State) (d pkg : Nat) : State := setNi s d { getNi s d with ece := (getNi s d).ece.filter (· != pkg) }

theorem getRate_eceTaken (s : State) (d pkg q : Nat) : getRate (eceTaken s d pkg) d q = getRate s d q := by simp [getRate, eceTaken]

/-- The rate after a decrease: less its share, no lower than RMIN; the time of the decrease is noted. -/
def decreased (s : State) (r : RateSt) : RateSt :=
  { rate := max (fget s r_FAB_CC_CTL f_FAB_CC_CTL_RMIN) (r.rate - r.rate >>> fget s r_FAB_CC_CTL f_FAB_CC_CTL_MD), lastDec := s.tb.tb,
    lastInc := r.lastInc, tokens := tokensNow s r, filled := s.tb.tb }

theorem exec_eceDecrease_first {s : State} {d pkg : Nat} (hmark : pkg ∈ (getNi s d).ece) (hen : fbit s r_FAB_CC_CTL f_FAB_CC_CTL_EN = true)
    (hfirst : (getRate s d pkg).lastDec = 0) :
    exec (.eceDecrease d pkg) s = .next (setRate (eceTaken s d pkg) d pkg (decreased (eceTaken s d pkg) (getRate (eceTaken s d pkg) d pkg))) := by
  rw [exec_eceDecrease, execEceDecrease, if_neg (by simp [hmark]), ← eceTaken]
  exact if_pos (by rw [fbit_congr (show (eceTaken s d pkg).regs = s.regs from rfl), getRate_eceTaken, hen, hfirst]; rfl)

theorem exec_rateIncrease_due {s : State} {d pkg : Nat} (hen : fbit s r_FAB_CC_CTL f_FAB_CC_CTL_EN = true) (hbelow : (getRate s d pkg).rate < 1024)
    (hdue : fget s r_FAB_CC_TIME f_FAB_CC_TIME_AIINT * 1000 ≤ (s.tb.tb - laterTb (getRate s d pkg).lastDec (getRate s d pkg).lastInc).toNat) :
    ∃ x, exec (.rateIncrease d pkg) s = .next (setRate s d pkg x) ∧ x.rate = min 1024 ((getRate s d pkg).rate + fget s r_FAB_CC_AI f_FAB_CC_AI_AI) :=
  ⟨_, when_of_true (by rw [hen, decide_eq_true hbelow, decide_eq_true hdue]; rfl) s _, rfl⟩

/-- Settles O43: routing and arbitration are the wheel's equations; the rates are read back from the table that `setRate` writes. -/
theorem cellsAreRoutedAndRated : Obligations.CellsAreRoutedAndRated := by
  unfold Obligations.CellsAreRoutedAndRated
  refine ⟨fun s w port pos c => exec_wheelRoute_at, fun s w out r => exec_outputArbitrate_wheel, fun s w port pos c => exec_cellAgeDiscard_wheel,
    fun s d pkg => ⟨fun hmark hen hfirst => ?_, fun hen hbelow hdue => ?_⟩⟩
  · refine ⟨_, exec_eceDecrease_first hmark hen hfirst, ?_, rfl, by rw [getRate_setRate_same, getRate_eceTaken]; rfl, fun q hq => by rw [getRate_setRate_ne _ _ _ hq, getRate_eceTaken]⟩
    rw [ece_setRate, eceTaken]; simp
  · obtain ⟨x, hexec, hrate⟩ := exec_rateIncrease_due hen hbelow hdue
    exact ⟨_, hexec, by rw [getRate_setRate_same, hrate], fun q hq => getRate_setRate_ne _ _ _ hq, rfl⟩

end Sys2Proof.Machine

/-! PROOF. Sync objects and messages at their endpoints (O44). -/
namespace Sys2Proof.Machine

/-! ### Sync objects -/

section Sync
variable {s : State} {d i op : Nat} {o : SyncOp}

theorem getSync_modSync_same (s : State) (d : Nat) (f : SyncDie → SyncDie) : getSync (modSync s d f) d = f (getSync s d) := by
  simp [getSync, modSync, setSync, modFab]

/-- Taking an operation from the queue leaves the counters. -/
theorem syncCnt_syncTaken (s : State) (d i : Nat) (o : SyncOp) : syncCnt (getSync (syncTaken s d o) d) i = syncCnt (getSync s d) i := by
  rw [syncTaken, getSync_modSync_same]; rfl

theorem lockSet_syncTaken (s : State) (d : Nat) (o : SyncOp) : lockSet (syncTaken s d o) = lockSet s := rfl

/-- An operation on an object bound to its saggar is performed on the state without it. -/
theorem syncTake_of_ready (h : SyncReady s d i op o) (f : State → State) : syncTake s d o f = f (syncTaken s d o) := by
  obtain ⟨-, -, hidx, howner⟩ := h
  rw [syncTake, syncTaken, syncBound, howner, decide_eq_true hidx]
  exact if_pos (by simp)

theorem syncHead_of_ready (h : SyncReady s d i op o) : (if dieUp s d then syncHead s d i op else none) = some o := by
  obtain ⟨hup, hhead, -, -⟩ := h
  rw [if_pos hup, hhead]

theorem exec_sigAdd_ready (h : SyncReady s d i 0 o) : exec (.sigAdd d i) s =
    .next (wakeWaits (syncAnswer (modSync (syncTaken s d o) d fun x => setCnt x i (syncCnt (getSync s d) i + o.operand)) d o 0 0) d i) := by
  rw [exec_sigAdd, execSigAdd, syncHead_of_ready h]
  simp only [syncTake_of_ready h]
  rw [modSync, modSync, syncCnt_syncTaken]

theorem exec_sigReset_ready (h : SyncReady s d i 1 o) : exec (.sigReset d i) s =
    .next (syncAnswer (modSync (syncTaken s d o) d fun x => setCnt x i 0) d o 0 0) := by
  rw [exec_sigReset, execSigReset, syncHead_of_ready h]
  simp only [syncTake_of_ready h]

theorem exec_sigWait_ready (h : SyncReady s d i 2 o) : exec (.sigWait d i) s =
    .next (if o.operand.toNat ≤ (syncCnt (getSync s d) i).toNat
      then syncAnswer (syncTaken s d o) d o 0 (if lockSet s then o.operand else syncCnt (getSync s d) i)
      else modSync (syncTaken s d o) d fun x => { x with waits := x.waits ++ [o] }) := by
  rw [exec_sigWait, execSigWait, syncHead_of_ready h]
  simp only [syncTake_of_ready h, syncCnt_syncTaken, waitValue, lockSet_syncTaken]

theorem exec_sigPoll_ready (h : SyncReady s d i 3 o) : exec (.sigPoll d i) s = .next (syncAnswer (syncTaken s d o) d o 0 (syncCnt (getSync s d) i)) := by
  rw [exec_sigPoll, execSigPoll, syncHead_of_ready h]
  simp only [syncTake_of_ready h, syncCnt_syncTaken]

end Sync

/-! ### Messages -/

section Messages
variable {s s1 : State} {d i : Nat} {r : Reasm} {hit : Bool}

theorem exec_messageReassembled_performed (hat : (getNi s d).reasm[i]? = some r) (hwhole : reasmWhole r = true)
    (hclass : cellClass r.first.ty = some 0 ∨ cellClass r.first.ty = some 1) (hdie : dieState s d ≠ 1) (hkept : r.refused = false) (hfree : r.hold = none)
    (hdone : performWhole (setNi s d { getNi s d with reasm := (getNi s d).reasm.eraseIdx i }) d (reasmMsg r) hit = .done s1) :
    exec (.messageReassembled d i hit) s = .next s1 := by
  have htake : (cellClass r.first.ty = some 0 ∨ cellClass r.first.ty = some 1) ∧ reasmWhole r = true ∧ (dieState s d != 1) = true :=
    ⟨hclass, hwhole, bne_iff_ne.mpr hdie⟩
  rw [exec_messageReassembled, execMessageReassembled]
  simp only [hat, if_pos htake, hkept, hfree, hdone, Bool.false_eq_true, if_false]

theorem exec_responseMatch_whole (hat : (getNi s d).reasm[i]? = some r) (hwhole : reasmWhole r = true) (hclass : cellClass r.first.ty = some 2)
    (hece : (reasmMsg r).ece = false) :
    let s' := setNi s d { getNi s d with reasm := (getNi s d).reasm.eraseIdx i }
    (∀ o, tblFind (getNi s d).out (reasmMsg r).mseq = some o → o.gen = (reasmMsg r).gen → (reasmMsg r).gen = genOf s d →
      exec (.responseMatch d i) s = .next (niRetry (takeResponse s' d (reasmMsg r).mseq o (reasmMsg r)) d))
    ∧ (tblFind (getNi s d).out (reasmMsg r).mseq = none →
      exec (.responseMatch d i) s = .next (modNi s' d fun n => { n with late := n.late + 1 })) := by
  intro s'
  have hexec : exec (.responseMatch d i) s = execResponseMatch d i s := exec_responseMatch ..
  have hrsp : cellClass r.first.ty = some 2 ∧ reasmWhole r = true := ⟨hclass, hwhole⟩
  constructor
  · intro o hout hgen hgen'
    rw [hexec]
    simp only [execResponseMatch, hat, if_pos hrsp, hece, hout, if_pos (And.intro hgen hgen'), Bool.false_eq_true, if_false, s']
  · intro hout
    rw [hexec]
    simp only [execResponseMatch, hat, if_pos hrsp, hece, hout, Bool.false_eq_true, if_false, s']

theorem exec_sigClose_head {ph cnt : Nat} {m : Msg} {rest : List (Msg × Nat × Nat)} (hcloses : (getNi s d).closes = (m, ph, cnt) :: rest)
    (hheld : cnt ≤ ((getNi s d).atoms.filter fun a => a.phase == ph && a.msg.spkg == m.spkg && a.msg.sep == m.sep && a.msg.slice == m.slice).length) :
    exec (.sigClose d) s = .next (answerMsg (setNi s d { getNi s d with closes := rest }) d m 0x0A [statusWord 0 0 0] []) := by
  rw [exec_sigClose, execSigClose]
  simp only [hcloses, List.find?_cons, decide_eq_true hheld, List.erase_cons_head]

theorem exec_orderedAtomicPerform_first {sg : Nat} {a : HeldAtom}
    (hfirst : heldFirst ((getNi s d).atoms.filter fun a => decide (a.phase < tblGet (fun _ => 0) (getNi s d).phaseGone sg) && sgOfSlice s a.msg.slice == some sg) = some a)
    (hdone : performAtom (modNi s d fun n => { n with atoms := n.atoms.erase a }) d sg a.msg hit = .done s1) :
    exec (.orderedAtomicPerform d sg hit) s = .next s1 := by
  rw [exec_orderedAtomicPerform, execOrderedAtomicPerform]
  simp only [hfirst, hdone]

end Messages

/-- Settles O44: the operation that is ready is taken and performed; each message's equation holds under its conditions. -/
theorem syncObjectsCountAndMessagesArePerformed : Obligations.SyncObjectsCountAndMessagesArePerformed := by
  unfold Obligations.SyncObjectsCountAndMessagesArePerformed
  refine ⟨fun s d i o => ⟨exec_sigAdd_ready, exec_sigReset_ready, fun h hreached => ?_, fun h hbelow => ?_, exec_sigPoll_ready⟩,
    fun s s1 d i r hit hat hwhole => ⟨exec_messageReassembled_performed hat hwhole, exec_responseMatch_whole hat hwhole⟩,
    fun s d ph cnt m rest => exec_sigClose_head, fun s s1 d sg a hit => exec_orderedAtomicPerform_first⟩
  · rw [exec_sigWait_ready h, if_pos hreached]
  · rw [exec_sigWait_ready h, if_neg (Nat.not_le.mpr hbelow)]

end Sys2Proof.Machine

/-! PROOF. Package numbers and discovery (O47). -/
namespace Sys2Proof.Machine

/-! ### Enumeration -/

section Enumeration
variable {s : State}

theorem exec_enumFrameReceive_good {f : Nat} (hhead : fldGet (rget s r_KLN_ENUM) f_KLN_ENUM_HEAD = 0)
    (hposv : fldGet (rget s r_KLN_ENUM) f_KLN_ENUM_POSV = 0) (hok : frameOk f = true) :
    (s.kln.enumLast ≠ some f → exec (.enumFrameReceive f) s = .next (modKln s fun k => { k with enumLast := some f }))
    ∧ (s.kln.enumLast = some f → fldGet (rget s r_KLN_ENUM) f_KLN_ENUM_CHAINV = 0 → exec (.enumFrameReceive f) s = .next
        (takePkg (fput (takePos s (bits f 15 10) (bits f 9 4)) r_KLN_ENUM f_KLN_ENUM_CHAIN (bits f 15 10)) (bits f 15 10) (bits f 9 4))) := by
  have hexec : exec (.enumFrameReceive f) s = execEnumFrameReceive f s := exec_enumFrameReceive ..
  constructor
  · intro hnew
    rw [hexec]; simp [execEnumFrameReceive, hhead, hposv, hok, hnew]
  · intro hagain hchain
    rw [hexec]; simp [execEnumFrameReceive, hhead, hposv, hok, hagain, hchain]

theorem exec_enumFrameSend_due {c p : Nat} (hout : s.kln.enumOut = some (c, p))
    (hdue : s.kln.enumSent = none ∨ ∃ t, s.kln.enumSent = some t ∧ 32000 ≤ nsSince s t) :
    let body := c * 2 ^ 10 + p * 2 ^ 4
    exec .enumFrameSend s = .next (modKln (emitSent s (.enum (0xA5 * 2 ^ 16 + body + bitCount (body / 16) 12 % 16))) fun k => { k with enumSent := some s.tb.tb }) := by
  rw [exec_enumFrameSend, execEnumFrameSend, hout]
  rcases hdue with hnone | ⟨t, hsome, hlate⟩
  · exact when_of_true (by rw [hnone]) s _
  · exact when_of_true (by rw [hsome]; exact decide_eq_true hlate) s _

theorem exec_klnEnumChainWrite_head {c : BitVec 6} (hpkgv : fldGet (rget s r_KLN_ENUM) f_KLN_ENUM_PKGV = 0)
    (hhead : fldGet (rget s r_KLN_ENUM) f_KLN_ENUM_HEAD = 1) : exec (.klnEnumChainWrite c) s =
      .next (takePkg (takePos (fput (fput s r_KLN_ENUM f_KLN_ENUM_CHAIN c.toNat) r_KLN_ENUM f_KLN_ENUM_CHAINV 1) c.toNat 0) c.toNat 0) := by
  rw [exec_klnEnumChainWrite]
  simp only [execKlnEnumChainWrite, hpkgv, hhead, if_true, if_neg (show ¬ (0 : Nat) = 1 by decide)]

theorem exec_headStrap_unplaced (hposv : fldGet (rget s r_KLN_ENUM) f_KLN_ENUM_POSV = 0) (hchainv : fldGet (rget s r_KLN_ENUM) f_KLN_ENUM_CHAINV = 0) :
    exec .headStrap s = .next (fput s r_KLN_ENUM f_KLN_ENUM_HEAD 1) := by
  rw [exec_headStrap]
  simp only [execHeadStrap, hposv, hchainv, if_neg (show ¬ (0 : Nat) = 1 by decide)]

end Enumeration

/-! ### Hellos -/

section Hellos
variable {s : State} {w l : Nat}

theorem exec_helloTimer_due (hw : w < 4) (hl : l < 12) (hdue : 1000000 ≤ nsSince s (tblGet (fun _ => (0, 0#64)) s.kln.helloSent (linkKey w l)).2) :
    exec (.helloTimer w l) s = .next (sendHello s w l) := by
  rw [exec_helloTimer, execHelloTimer]
  exact when_of_true (by rw [decide_eq_true hw, decide_eq_true hl, decide_eq_true hdue]; rfl) s _

theorem sendHello_leaves (s : State) (w l : Nat) : (sendHello s w l).regs = s.regs ∧ (sendHello s w l).rst = s.rst ∧ (sendHello s w l).fab = s.fab
    ∧ (sendHello s w l).kln.hello = s.kln.hello := by
  unfold sendHello
  split <;> exact ⟨rfl, rfl, rfl, rfl⟩

theorem kilnOn_congr {s t : State} (hregs : t.regs = s.regs) (hrst : t.rst = s.rst) : kilnOn t = kilnOn s := by
  rw [kilnOn, kilnOn, hrst, fbit_congr hregs]

/-- The neighbour's state that a hello of the words `ws` gives on link `l` of wheel `w`. -/
def helloOf (s : State) (w l : Nat) (ws : List Nat) : HelloSt :=
  { pkg := bits (ws.getD 0 0) 19 8, pkgv := bitAt (ws.getD 0 0) 20, wheel := bits (ws.getD 0 0) 22 21, link := bits (ws.getD 0 0) 26 23, serial := ws.getD 1 0,
    twoWay := bitAt (ws.getD 2 0) 12 && bits (ws.getD 2 0) 11 0 == myPkg s && bits (ws.getD 2 0) 14 13 == w && bits (ws.getD 2 0) 18 15 == l,
    cand := bitAt (ws.getD 3 0) 0, term := bits (ws.getD 3 0) 45 22, act := if bitAt (ws.getD 3 0) 58 then some (bits (ws.getD 3 0) 57 46) else none }
/-- The state once it is noted, at the link and in the kiln. -/
def helloNoted (s : State) (w l : Nat) (h : HelloSt) : State :=
  modKln (modLink s (linkKey w l) fun x => { x with peer := some (h.pkg, h.wheel, h.link) }) fun k => { k with hello := tblPut k.hello (linkKey w l) h }

theorem helloNoted_holds (s : State) (w l : Nat) (h : HelloSt) : tblFind (helloNoted s w l h).kln.hello (linkKey w l) = some h
    ∧ (getLink (helloNoted s w l h) (linkKey w l)).peer = some (h.pkg, h.wheel, h.link) := by
  constructor
  · exact tblFind_put_eq _ _ _
  · simp [helloNoted, getLink, modLink, modFab, tblModify]

/-- A hello that names a new neighbour is answered with one of this module. -/
def helloTaken (s : State) (w l : Nat) (h : HelloSt) : State :=
  if (getLink s (linkKey w l)).peer == some (h.pkg, h.wheel, h.link) then helloNoted s w l h else sendHello (helloNoted s w l h) w l

theorem helloTaken_leaves (s : State) (w l : Nat) (h : HelloSt) : (helloTaken s w l h).regs = s.regs ∧ (helloTaken s w l h).rst = s.rst
    ∧ (helloTaken s w l h).fab = (helloNoted s w l h).fab ∧ (helloTaken s w l h).kln.hello = (helloNoted s w l h).kln.hello := by
  rw [helloTaken]
  split
  · exact ⟨rfl, rfl, rfl, rfl⟩
  · exact sendHello_leaves (helloNoted s w l h) w l

theorem exec_mHelloLink_alone {ws : List Nat} (hw : w < 4) (hl : l < 12) (hlive : linkLive s w l = true) (hty : bits (ws.getD 0 0) 7 0 = 0x10)
    (hoff : kilnOn s = false) : exec (.mHelloLink w l ws) s = .next (helloTaken s w l (helloOf s w l ws)) := by
  have hdue : (!(decide (w < 4) && decide (l < 12) && linkLive s w l) || bits (ws.getD 0 0) 7 0 != 0x10) = false := by
    rw [decide_eq_true hw, decide_eq_true hl, hlive, hty]; rfl
  obtain ⟨hregs, hrst, -, -⟩ := helloTaken_leaves s w l (helloOf s w l ws)
  have hoff' : (!kilnOn (helloTaken s w l (helloOf s w l ws))) = true := by rw [kilnOn_congr hregs hrst, hoff]; rfl
  rw [exec_mHelloLink]
  unfold execMHelloLink
  simp only [hdue, Bool.false_eq_true, if_false]
  exact if_pos hoff'

theorem exec_mHelloLink_notes {ws : List Nat} (hw : w < 4) (hl : l < 12) (hlive : linkLive s w l = true) (hty : bits (ws.getD 0 0) 7 0 = 0x10)
    (hoff : kilnOn s = false) :
    ∃ t h, exec (.mHelloLink w l ws) s = .next t ∧ tblFind t.kln.hello (linkKey w l) = some h ∧ h.pkg = bits (ws.getD 0 0) 19 8 ∧ h.serial = ws.getD 1 0
      ∧ (getLink t (linkKey w l)).peer = some (h.pkg, h.wheel, h.link) := by
  obtain ⟨hhello, hpeer⟩ := helloNoted_holds s w l (helloOf s w l ws)
  obtain ⟨-, -, hfab, hkept⟩ := helloTaken_leaves s w l (helloOf s w l ws)
  exact ⟨_, helloOf s w l ws, exec_mHelloLink_alone hw hl hlive hty hoff, by rw [hkept, hhello], rfl, rfl, by rw [getLink, hfab, ← getLink, hpeer]⟩

end Hellos

/-! ### Link state -/

section LinkState
variable {s : State}

theorem exec_lsr_same {k o part : Nat} {p q : LsrPart} (hon : kilnOn s = true) (hpart : part < 2) (hother : o ≠ myPkg s) (hthere : o ∉ s.kln.role.lost)
    (hold : tblFind s.kln.lsr (2 * o + part) = some q) (hnewer : newer32 p.seq q.seq = true) (hsame : samePart q { p with heard := s.tb.tb } = true) :
    exec (.lsr k o part p) s = .next (floodPart (modRole (modKln s fun x => { x with lsr := tblPut x.lsr (2 * o + part) { p with heard := s.tb.tb } })
      fun r => { r with lost := r.lost.filter (· != o) }) o part (some k)) := by
  have htaken : (!kilnOn s || decide (2 ≤ part) || o == myPkg s || (tblFind s.kln.lsr (2 * o + part)).any fun q => !newer32 p.seq q.seq) = false := by
    rw [hon, decide_eq_false (Nat.not_le.mpr hpart), beq_false_of_ne hother, hold, Option.any_some, hnewer]; rfl
  have hquiet : (s.kln.role.lost.contains o || !(tblFind s.kln.lsr (2 * o + part)).any fun q => samePart q { p with heard := s.tb.tb }) = false := by
    rw [hold, Option.any_some, hsame]; simpa using hthere
  rw [exec_lsr]
  simp only [execLsr, htaken, modKln_kln, hquiet, Bool.false_eq_true, if_false]

theorem exec_lsr_old {k o part : Nat} {p q : LsrPart} (hold : tblFind s.kln.lsr (2 * o + part) = some q) (hnot : newer32 p.seq q.seq = false) :
    exec (.lsr k o part p) s = .next s := by
  have hkept : (!kilnOn s || decide (2 ≤ part) || o == myPkg s || (tblFind s.kln.lsr (2 * o + part)).any fun q => !newer32 p.seq q.seq) = true := by
    rw [hold, Option.any_some, hnot]; exact Bool.or_true _
  rw [exec_lsr]
  simp only [execLsr, hkept, if_true]

theorem exec_join_heard {pkg w l : Nat} {j : JoinSt} (hon : kilnOn s = true) (hother : pkg ≠ myPkg s) (hissuing : issuing s = true)
    (hin : inTopo (topoOf s) pkg = true) : exec (.join pkg w l j) s = .next (joinTp s pkg l j) := by
  rw [exec_join, execJoin, hon, if_neg hother]
  exact when_of_true (by rw [hissuing, hin]; rfl) s _

end LinkState

/-- Settles O47, command by command under the clause's conditions; a hello is read back from the tables that `helloNoted` writes. -/
theorem packageNumbersAndDiscovery : Obligations.PackageNumbersAndDiscovery := by
  unfold Obligations.PackageNumbersAndDiscovery
  refine ⟨fun s f => exec_enumFrameReceive_good, fun s c p => exec_enumFrameSend_due, fun s c => exec_klnEnumChainWrite_head, fun s => exec_headStrap_unplaced,
    fun s w l hw hl hlive => ⟨exec_helloTimer_due hw hl, fun ws => exec_mHelloLink_notes hw hl hlive⟩,
    fun s k o part p hon hpart hother hthere => ⟨fun q => exec_lsr_same hon hpart hother hthere, fun q => exec_lsr_old⟩, fun s hon => ⟨fun hdue => ?_, fun hdue => ?_⟩,
    fun s pkg w l j => exec_join_heard⟩
  · rw [exec_lsrRefresh, execLsrRefresh]
    exact when_of_true (by rw [hon, decide_eq_true hdue]; rfl) s _
  · rw [exec_quiet, execQuiet]
    exact when_of_true (by rw [hon, decide_eq_true hdue]; rfl) s _

end Sys2Proof.Machine

/-! PROOF. What SPDM and MCTP answer (O51). -/
namespace Sys2Proof.Machine

section Spdm
variable {s : State} {f : Nat}

/-- A function's request is taken once its negotiation has come as far as the request needs. -/
theorem spdmTake_of_stage {need : Nat} (code : Nat) (go : State → State) (hup : lanternUp s = true) (hf : f < 256) (hstage : need ≤ spdmStage s f) :
    spdmTake f code need go s = .next (go s) := by
  rw [spdmTake, requested, spdmTaken, if_pos hf, if_pos hf, hup]
  exact if_neg (Nat.not_lt.mpr hstage)

theorem spdmTake_of_early {need : Nat} (code : Nat) (go : State → State) (hup : lanternUp s = true) (hf : f < 256) (hstage : spdmStage s f < need) :
    spdmTake f code need go s = .next (spdmError s 4) := by
  rw [spdmTake, requested, spdmTaken, if_pos hf, if_pos hf, hup]
  exact if_pos hstage

theorem sessionTake_of_open {id : Nat} (code : Nat) (go : State → State) (hup : lanternUp s = true) (hf : f < 256) (hstage : 3 ≤ spdmStage s f)
    (hopen : inSession s f id = true) : sessionTake f code id go s = .next (go s) := by
  rw [sessionTake, spdmTake_of_stage code _ hup hf hstage, if_neg (Nat.not_le.mpr hf), if_pos hopen]

theorem leBytes_one (n : Nat) : leBytes 1 n = [BitVec.ofNat 8 n] := by simp [leBytes]

/-! ### Negotiation -/

theorem exec_getVersion_up (hup : lanternUp s = true) (hf : f < 256) : exec (.getVersion f) s = .next (spdmReply (setSpdm s f 1) 0x04 [0x13#8]) := by
  rw [exec_getVersion, execGetVersion, spdmTake_of_stage _ _ hup hf (Nat.zero_le _), leBytes_one]

theorem exec_getCapabilities_stage (hup : lanternUp s = true) (hf : f < 256) (hstage : 1 ≤ spdmStage s f) :
    exec (.getCapabilities f) s = .next (spdmReply (setSpdm s f (max 2 (spdmStage s f))) 0x61 []) := by
  rw [exec_getCapabilities, execGetCapabilities, spdmTake_of_stage _ _ hup hf hstage]

theorem exec_negotiateAlgorithms_stage (hup : lanternUp s = true) (hf : f < 256) (hstage : 2 ≤ spdmStage s f) :
    exec (.negotiateAlgorithms f) s = .next (spdmReply (setSpdm s f 3) 0x63 []) := by
  rw [exec_negotiateAlgorithms, execNegotiateAlgorithms, spdmTake_of_stage _ _ hup hf hstage]

theorem exec_getCertificate_early (hup : lanternUp s = true) (hf : f < 256) (hstage : spdmStage s f < 3) (slot off len : Nat) :
    exec (.getCertificate f slot off len) s = .next (spdmError s 4) := by
  rw [exec_getCertificate, execGetCertificate, spdmTake_of_early _ _ hup hf hstage]

/-! ### Once the negotiation is complete -/

theorem exec_getDigests_negotiated (hup : lanternUp s = true) (hf : f < 256) (hstage : 3 ≤ spdmStage s f) :
    exec (.getDigests f) s = .next (spdmReply s 0x01 (1#8 :: Config.sha384 (certs s))) := by
  rw [exec_getDigests, execGetDigests, spdmTake_of_stage _ _ hup hf hstage, leBytes_one]; rfl

theorem exec_getCertificate_negotiated (hup : lanternUp s = true) (hf : f < 256) (hstage : 3 ≤ spdmStage s f) (off len : Nat) :
    exec (.getCertificate f 0 off len) s = .next (if off < (certs s).length then spdmReply s 0x02 (((certs s).drop off).take len) else spdmError s 1) := by
  rw [exec_getCertificate, execGetCertificate, spdmTake_of_stage _ _ hup hf hstage]
  simp only [true_and]

theorem exec_challenge_negotiated (hup : lanternUp s = true) (hf : f < 256) (hstage : 3 ≤ spdmStage s f) (nonce : List Byte) :
    exec (.challenge f 0 nonce) s = .next (spdmReply s 0x03 (Config.sha384 (certs s) ++ Config.aliasAnswer s.lnt.running nonce)) := by
  rw [exec_challenge, execChallenge, spdmTake_of_stage _ _ hup hf hstage]; rfl

theorem index_bounds {op : Nat} (h : op ∈ indices f) : op ≠ 0 ∧ op ≠ 255 := by
  rw [indices, List.mem_append] at h
  constructor <;> rintro rfl <;> split at h <;> simp at h

theorem exec_getMeasurements_index (hup : lanternUp s = true) (hf : f < 256) (hstage : 3 ≤ spdmStage s f) {op : Nat} (hop : op ∈ indices f) :
    exec (.getMeasurements f op) s = .next (spdmReply s 0x60 (1#8 :: measureBlock s f op)) := by
  obtain ⟨hzero, hall⟩ := index_bounds hop
  rw [exec_getMeasurements, execGetMeasurements, spdmTake_of_stage _ _ hup hf hstage, if_neg hzero, if_neg hall, if_pos (List.contains_iff_mem.mpr hop), leBytes_one]
  rfl

/-! ### Sessions -/

theorem exec_keyExchange_negotiated (hup : lanternUp s = true) (hf : f < 256) (hstage : 3 ≤ spdmStage s f) (req : List Byte)
    (hroom : (s.lnt.sess.filter fun x => x.fn == f).length < 2) : exec (.keyExchange f req) s = .next (spdmReply
      (modLnt s fun l => { l with sess := l.sess ++ [{ fn := f, id := l.nextSess, open_ := false }], nextSess := l.nextSess + 1 }) 0x64
      (leBytes 2 s.lnt.nextSess ++ Config.aliasAnswer s.lnt.running req)) := by
  rw [exec_keyExchange, execKeyExchange, spdmTake_of_stage _ _ hup hf hstage, if_neg (Nat.not_le.mpr hf), if_neg (Nat.not_le.mpr hroom)]
  rfl

theorem exec_finish_verified (hup : lanternUp s = true) (hf : f < 256) (hstage : 3 ≤ spdmStage s f) {id : Nat} {x : SpdmSess} (hsess : sessOf s f id = some x)
    (hnew : x.open_ = false) : exec (.finish f id true) s = .next (spdmReply
      (modLnt s fun l => { l with sess := l.sess.map fun y => if y = x then { y with open_ := true } else y }) 0x65 []) := by
  rw [exec_finish, execFinish, spdmTake_of_stage _ _ hup hf hstage, if_neg (Nat.not_le.mpr hf), hsess]
  simp only [hnew, Bool.false_eq_true, if_false, if_true]

theorem exec_heartbeat_open (hup : lanternUp s = true) (hf : f < 256) (hstage : 3 ≤ spdmStage s f) {id : Nat} (hopen : inSession s f id = true) :
    exec (.heartbeat f id) s = .next (spdmReply s 0x68 []) := by
  rw [exec_heartbeat, execHeartbeat, sessionTake_of_open _ _ hup hf hstage hopen]

theorem exec_keyUpdate_open (hup : lanternUp s = true) (hf : f < 256) (hstage : 3 ≤ spdmStage s f) {id op : Nat} (hopen : inSession s f id = true)
    (hlo : 1 ≤ op) (hhi : op ≤ 3) : exec (.keyUpdate f id op) s = .next (spdmReply s 0x69 (leBytes 1 op)) := by
  rw [exec_keyUpdate, execKeyUpdate, sessionTake_of_open _ _ hup hf hstage hopen, if_pos ⟨hlo, hhi⟩]

/-- The sessions of others: what END_SESSION leaves. -/
def sessDropped (s : State) (f id : Nat) : State := modLnt s fun l => { l with sess := l.sess.filter fun y => !(y.fn == f && y.id == id) }

theorem inSession_sessDropped (s : State) (f id : Nat) : inSession (sessDropped s f id) f id = false := by
  have hnone : sessOf (sessDropped s f id) f id = none := by
    rw [sessOf, List.find?_eq_none]
    intro y hy
    have hother := (List.mem_filter.mp hy).2
    rw [Bool.not_eq_true'] at hother
    rw [hother]
    exact Bool.false_ne_true
  rw [inSession, hnone]; rfl

theorem exec_endSession_open (hup : lanternUp s = true) (hf : f < 256) (hstage : 3 ≤ spdmStage s f) {id : Nat} (hopen : inSession s f id = true) :
    exec (.endSession f id) s = .next (spdmReply (sessDropped s f id) 0x6C []) := by
  rw [exec_endSession, execEndSession, sessionTake_of_open _ _ hup hf hstage hopen]; rfl

/-- The key set `set1` of a stream is enabled. -/
def ideEnabled (s : State) (port strm : Nat) (set1 : Bool) : State :=
  modLnt s fun l => { l with ide := tblModify (fun _ => (false, false)) l.ide (port * 16 + strm) fun p => if set1 then (p.1, true) else (true, p.2) }

theorem ideEnabled_set (s : State) (port strm : Nat) (set1 : Bool) :
    let p := tblGet (fun _ => (false, false)) (ideEnabled s port strm set1).lnt.ide (port * 16 + strm)
    (if set1 then p.2 else p.1) = true := by
  simp only [ideEnabled, modLnt_lnt, tblModify, tblGet_set_eq]
  cases set1 <;> rfl

theorem exec_ideKm_enables (hup : lanternUp s = true) {id port strm : Nat} {set1 : Bool} (hopen : inSession s f id = true) (hpf : f = 0) (hport : port < 2)
    (hstrm : strm < 16) : exec (.ideKm f id port strm set1) s = .next (spdmReply (ideEnabled s port strm set1) 0x7E []) := by
  rw [exec_ideKm, execIdeKm, hup]
  have htaken : f = 0 ∧ inSession s f id = true ∧ port < 2 ∧ strm < 16 := ⟨hpf, hopen, hport, hstrm⟩
  exact if_pos htaken

end Spdm

/-! ### MCTP -/

theorem exec_mctpPacket_whole {s : State} {b : List Byte} (haddr : s.pin.dyn.isSome = true) (hlen : 5 ≤ b.length) (hlo : 1 ≤ leAt b 0 1) (hhi : leAt b 0 1 ≤ 15)
    (hflags : leAt b 3 1 / 64 = 3) : exec (.mctpPacket b true) s = .next (modPin s fun p => { p with mctpPart := none, mctp := p.mctp ++ [b.drop 4] }) := by
  have hsom : bitAt (leAt b 3 1) 7 = true := by rw [bitAt, Nat.testBit_eq_decide_div_mod_eq]; exact decide_eq_true (by omega)
  have heom : bitAt (leAt b 3 1) 6 = true := by rw [bitAt, Nat.testBit_eq_decide_div_mod_eq]; exact decide_eq_true (by omega)
  rw [exec_mctpPacket]
  simp only [execMctpPacket, haddr, decide_eq_true hlen, decide_eq_true hlo, decide_eq_true hhi, hsom, heom, Bool.and_self, Bool.not_true,
    Bool.false_eq_true, if_false, if_true]

/-- Settles O51: each request is taken at its stage of the negotiation (`spdmTake_of_stage`), those of a session in an open one. -/
theorem attestationAnswers : Obligations.AttestationAnswers := by
  unfold Obligations.AttestationAnswers
  refine ⟨fun s f hup hf => ⟨exec_getVersion_up hup hf, exec_getCapabilities_stage hup hf, exec_negotiateAlgorithms_stage hup hf,
    exec_getCertificate_early hup hf, fun hstage => ⟨exec_getDigests_negotiated hup hf hstage, exec_getCertificate_negotiated hup hf hstage,
      exec_challenge_negotiated hup hf hstage, fun op => exec_getMeasurements_index hup hf hstage, exec_keyExchange_negotiated hup hf hstage,
      fun id x => exec_finish_verified hup hf hstage, fun id hopen => ⟨exec_heartbeat_open hup hf hstage hopen,
        fun op => exec_keyUpdate_open hup hf hstage hopen, ⟨_, exec_endSession_open hup hf hstage hopen, inSession_sessDropped s f id⟩,
        fun port strm set1 hpf hport hstrm =>
          ⟨_, _, exec_ideKm_enables hup hopen hpf hport hstrm, rfl, ideEnabled_set s port strm set1⟩⟩⟩⟩, fun s b => exec_mctpPacket_whole⟩

end Sys2Proof.Machine

/-! PROOF. The input, the rails, the cap and the thermal limit (O56). -/
namespace Sys2Proof.Machine

/-! ### Level sources -/

section Levels
variable {s : State}

theorem setLive_regs (s : State) (src : Nat) (on : Bool) : (setLive s src on).regs = s.regs := rfl
theorem setLive_stm (s : State) (src : Nat) (on : Bool) : (setLive s src on).stm = s.stm := rfl
theorem setLive_tb (s : State) (src : Nat) (on : Bool) : (setLive s src on).tb = s.tb := rfl

theorem srcLive_setLive_true (s : State) (src : Nat) : srcLive (setLive s src true) src = true := by
  rw [srcLive, List.contains_iff_mem]
  exact mem_addOnce _ _

theorem raise_regs (s : State) (e : Event) : (raise s e).regs = s.regs := by unfold raise; split <;> rfl
theorem raise_stm (s : State) (e : Event) : (raise s e).stm = s.stm := by unfold raise; split <;> rfl
theorem raise_tb (s : State) (e : Event) : (raise s e).tb = s.tb := by unfold raise; split <;> rfl

theorem levelSrc_regs (s : State) (off : Nat) (on : Bool) (sub : Nat) : (levelSrc s off on sub).regs = s.regs := by
  cases on
  · rfl
  · exact (setLive_regs _ _ _).trans (raise_regs s _)
theorem levelSrc_stm (s : State) (off : Nat) (on : Bool) (sub : Nat) : (levelSrc s off on sub).stm = s.stm := by
  cases on
  · rfl
  · exact (setLive_stm _ _ _).trans (raise_stm s _)
theorem levelSrc_tb (s : State) (off : Nat) (on : Bool) (sub : Nat) : (levelSrc s off on sub).tb = s.tb := by
  cases on
  · rfl
  · exact (setLive_tb _ _ _).trans (raise_tb s _)

theorem srcLive_levelSrc (s : State) (off sub : Nat) : srcLive (levelSrc s off true sub) (srcCtl off) = true := srcLive_setLive_true _ _

/-- The input fails: PFAIL, the level source, and the time from which the MRAM's energy counts. -/
theorem pwrfail_fails (hpin : s.pin.mrst = none) (hup : fbit s r_PWR_STAT f_PWR_STAT_PFAIL = false) :
    fbit (pwrfail s) r_PWR_STAT f_PWR_STAT_PFAIL = true ∧ srcLive (pwrfail s) (srcCtl 12) = true
      ∧ (pwrfail s).stm.jnl.failAt = (if s.stm.jnl.failAt.isSome then s.stm.jnl.failAt else some s.tb.tb) := by
  have heq : pwrfail s = modJnl (levelSrc (fput s r_PWR_STAT f_PWR_STAT_PFAIL 1) 12 true 0) fun j =>
      { j with failAt := if j.failAt.isSome then j.failAt else some (levelSrc (fput s r_PWR_STAT f_PWR_STAT_PFAIL 1) 12 true 0).tb.tb } := by
    rw [pwrfail, hpin, hup]; rfl
  refine ⟨?_, ?_, ?_⟩
  · rw [heq, modJnl, fbit_congr (modStm_regs _ _), fbit_congr (levelSrc_regs _ _ _ _), fbit_fput_eq _ (by decide) (by decide)]; rfl
  · rw [heq, srcLive, modJnl, modStm_flt, ← srcLive]; exact srcLive_levelSrc _ 12 0
  · rw [heq, modJnl, modStm_stm, levelSrc_stm, levelSrc_tb, fput_stm, fput_tb]

/-- The input is back: PFAIL falls, PFREL stands, and the release is timed. -/
def powerReleased (s : State) : State :=
  modPwr (levelSrc (fput (fput s r_PWR_STAT f_PWR_STAT_PFAIL 0) r_PWR_STAT f_PWR_STAT_PFREL 1) 12 false 0) fun p => { p with relAt := some s.tb.tb }

theorem exec_pwrfailRelease_failed (hfail : fbit s r_PWR_STAT f_PWR_STAT_PFAIL = true) : exec .pwrfailRelease s = .next (powerReleased s) := by
  rw [exec_pwrfailRelease, execPwrfailRelease]
  exact when_of_true hfail s _

theorem powerReleased_leaves (s : State) : fbit (powerReleased s) r_PWR_STAT f_PWR_STAT_PFAIL = false
    ∧ fbit (powerReleased s) r_PWR_STAT f_PWR_STAT_PFREL = true ∧ (powerReleased s).pwr.relAt = some s.tb.tb := by
  have hregs : (powerReleased s).regs = (fput (fput s r_PWR_STAT f_PWR_STAT_PFAIL 0) r_PWR_STAT f_PWR_STAT_PFREL 1).regs :=
    (modPwr_regs _ _).trans (levelSrc_regs _ _ _ _)
  refine ⟨?_, ?_, rfl⟩
  · rw [fbit_congr hregs, fbit_fput_other _ (by decide) (by decide) (by decide) (by decide), fbit_fput_eq _ (by decide) (by decide)]; rfl
  · rw [fbit_congr hregs, fbit_fput_eq _ (by decide) (by decide)]; rfl

theorem exec_pfrelCycle_due {t : W64} (hrel : s.pwr.relAt = some t) (hdue : 10000000 ≤ (s.tb.tb - t).toNat) :
    exec .pfrelCycle s = .next (addAct (modPwr s fun p => { p with relAt := none }) .cycle) := by
  rw [exec_pfrelCycle, execPfrelCycle, hrel]
  exact when_of_true (decide_eq_true hdue) s _

end Levels

/-! ### Core rails -/

section Rails
variable {s : State} {d : Nat}

theorem dieServed_fput_rail (s : State) (f : Fld) (x e : Nat) (hd : d < 16) : dieServed (fput s (r_PWR_RAIL d) f x) e = dieServed s e := by
  have hgrade : r_ID_GRADE ≠ r_PWR_RAIL d := by unfold r_ID_GRADE r_PWR_RAIL; omega
  have hstat : r_RST_DIE_STAT e ≠ r_PWR_RAIL d := by unfold r_RST_DIE_STAT r_PWR_RAIL; omega
  rw [dieServed, dieServed, dieState, dieState, fget_fput_ne _ _ _ _ _ _ hgrade, fget_fput_ne _ _ _ _ _ _ hstat]

theorem lowered_fput (s : State) (off : Nat) (f : Fld) (x e : Nat) : lowered (fput s off f x) e = lowered s e := by rw [lowered, lowered, fput_pwr]

theorem exec_pwrRailVsetWrite_served {v : Nat} (hd : d < 16) (hlo : 10 ≤ v) (hhi : v ≤ 80) (hserved : dieServed s d = true) (hfull : lowered s d = false) :
    exec (.pwrRailVsetWrite d v) s = .next (showCapped (setVeff (fput s (r_PWR_RAIL d) f_PWR_RAIL_VSET v) d v)) := by
  rw [exec_pwrRailVsetWrite, execPwrRailVsetWrite, if_neg (by omega)]
  simp only [dieServed_fput_rail s _ _ _ hd, hserved, lowered_fput, hfull, Bool.not_true, Bool.false_eq_true, if_false]

theorem exec_pwrRailVsetWrite_reserved {v : Nat} (h : 16 ≤ d ∨ v < 10 ∨ 80 < v) : exec (.pwrRailVsetWrite d v) s = .next s := by
  rw [exec_pwrRailVsetWrite, execPwrRailVsetWrite, if_pos h]

end Rails

/-! ### The cap -/

section Cap
variable {s : State} {pin vin : Nat}

/-- The input's power and voltage are shown, and the loop's time noted. -/
def capSeen (s : State) (pin vin : Nat) : State :=
  modPwr (fput (fput s r_PWR_IN f_PWR_IN_PIN pin) r_PWR_IN f_PWR_IN_VIN vin) fun p => { p with loopAt := s.tb.tb }

theorem exec_capLoop_due (hdue : 100000 ≤ (s.tb.tb - s.pwr.loopAt).toNat) : let t := capSeen s pin vin; let cap := fget t r_PWR_CAP f_PWR_CAP_CAPW
    exec (.capLoop pin vin) s = (if cap ≠ 0 ∧ cap < pin then
        .next (showCapped (if (servedDies t).all fun d => veff t d == 10 then fput t r_PWR_STAT f_PWR_STAT_CAPLIM 1 else each (servedDies t) capDown t))
      else if (cap = 0 ∨ pin * 100 < cap * 97) ∧ 1000000 ≤ (t.tb.tb - t.pwr.raisedAt).toNat then
        .next (showCapped (each (servedDies t) railUp (modPwr t fun p => { p with raisedAt := t.tb.tb })))
      else .next t) := by
  rw [exec_capLoop]
  exact if_neg (Nat.not_lt.mpr hdue)

theorem capSeen_times (s : State) (pin vin : Nat) : (capSeen s pin vin).tb = s.tb ∧ (capSeen s pin vin).pwr.raisedAt = s.pwr.raisedAt := by
  simp [capSeen]

theorem exec_capLoop_above (hdue : 100000 ≤ (s.tb.tb - s.pwr.loopAt).toNat) (hcap : fget (capSeen s pin vin) r_PWR_CAP f_PWR_CAP_CAPW ≠ 0)
    (habove : fget (capSeen s pin vin) r_PWR_CAP f_PWR_CAP_CAPW < pin) : exec (.capLoop pin vin) s = .next (showCapped
      (if (servedDies (capSeen s pin vin)).all fun d => veff (capSeen s pin vin) d == 10 then fput (capSeen s pin vin) r_PWR_STAT f_PWR_STAT_CAPLIM 1
        else each (servedDies (capSeen s pin vin)) capDown (capSeen s pin vin))) := by
  rw [exec_capLoop_due hdue, if_pos ⟨hcap, habove⟩]

theorem exec_capLoop_below (hdue : 100000 ≤ (s.tb.tb - s.pwr.loopAt).toNat)
    (hbelow : pin * 100 < fget (capSeen s pin vin) r_PWR_CAP f_PWR_CAP_CAPW * 97) (hraise : 1000000 ≤ (s.tb.tb - s.pwr.raisedAt).toNat) :
    exec (.capLoop pin vin) s = .next (showCapped (each (servedDies (capSeen s pin vin)) railUp (modPwr (capSeen s pin vin) fun p => { p with raisedAt := s.tb.tb }))) := by
  obtain ⟨htb, hraised⟩ := capSeen_times s pin vin
  rw [exec_capLoop_due hdue, if_neg (by omega), htb, hraised, if_pos ⟨Or.inr hbelow, hraise⟩]

end Cap

/-! ### The thermal limit -/

section Thermal
variable {s : State} {d : Nat}

/-- A hot die is noted and shown THROT. -/
def throttled (s : State) (d : Nat) : State := fput (modPwr s fun p => { p with hot := addOnce p.hot d }) r_PWR_STAT f_PWR_STAT_THROT 1
/-- It is lowered by 10 mV. -/
def cooled (s : State) (d : Nat) : State :=
  modPwr (setVeff s d (max 10 (veff s d - 2))) fun p => { p with warm := addOnce p.warm d, coolAt := tblPut p.coolAt d s.tb.tb }
/-- Its temperature is shown; THERM stands while a die has 100 °C. -/
def heatShown (s : State) (d tj : Nat) : State :=
  let t := fput s (r_PWR_RAIL d) f_PWR_RAIL_TJ tj
  if (List.range 16).any fun k => decide (100 ≤ fget t (r_PWR_RAIL k) f_PWR_RAIL_TJ) then t else setLive t (srcCtl 14) false

theorem next_ite (p : Prop) [Decidable p] (x y : State) : (.next (if p then x else y) : Out) = .next x ∨ (.next (if p then x else y) : Out) = .next y := by
  by_cases hp : p
  · exact Or.inl (by rw [if_pos hp])
  · exact Or.inr (by rw [if_neg hp])

theorem exec_thermalThrottle_hot {tj : Nat} (hd : d < 16) (hhot : 95 ≤ tj) :
    exec (.thermalThrottle d tj) s = .next (cooled (throttled (heatShown s d tj) d) d) ∨ exec (.thermalThrottle d tj) s = .next (throttled (heatShown s d tj) d) := by
  rw [exec_thermalThrottle, execThermalThrottle, if_neg (Nat.not_le.mpr hd)]
  simp only [decide_eq_true hhot, Bool.true_or, Bool.not_true, Bool.false_eq_true, if_false]
  rw [← heatShown, ← throttled, ← cooled]
  exact next_ite _ _ _

theorem throttled_leaves (s : State) (hd : d < 16) : fget (throttled s d) r_PWR_STAT f_PWR_STAT_THROT = 1 ∧ d ∈ (throttled s d).pwr.hot
    ∧ fget (throttled s d) (r_PWR_RAIL d) f_PWR_RAIL_TJ = fget s (r_PWR_RAIL d) f_PWR_RAIL_TJ := by
  have hne : r_PWR_RAIL d ≠ r_PWR_STAT := by unfold r_PWR_RAIL r_PWR_STAT; omega
  refine ⟨?_, mem_addOnce _ _, ?_⟩
  · rw [throttled, fget_fput_eq _ _ _ _ (by decide) (by decide)]; rfl
  · rw [throttled, fget_fput_ne _ _ _ _ _ _ hne, fget_congr (modPwr_regs _ _)]

theorem cooled_leaves (s : State) (d : Nat) : fget (cooled s d) r_PWR_STAT f_PWR_STAT_THROT = fget s r_PWR_STAT f_PWR_STAT_THROT ∧ (cooled s d).pwr.hot = s.pwr.hot
    ∧ fget (cooled s d) (r_PWR_RAIL d) f_PWR_RAIL_TJ = fget s (r_PWR_RAIL d) f_PWR_RAIL_TJ := by
  have hne : r_PWR_STAT ≠ r_PWR_RAIL d := by unfold r_PWR_RAIL r_PWR_STAT; omega
  refine ⟨?_, rfl, ?_⟩
  · rw [cooled, fget_congr (modPwr_regs _ _), setVeff, fget_fput_ne _ _ _ _ _ _ hne]
  · rw [cooled, fget_congr (modPwr_regs _ _), setVeff, fget_fput_other _ _ _ _ _ (by decide) (by decide) (by decide) (by decide)]

theorem heatShown_shows (s : State) {tj : Nat} (htj : tj < 256) : fget (heatShown s d tj) (r_PWR_RAIL d) f_PWR_RAIL_TJ = tj := by
  have hregs : (heatShown s d tj).regs = (fput s (r_PWR_RAIL d) f_PWR_RAIL_TJ tj).regs := by
    simp only [heatShown]
    split
    · rfl
    · exact setLive_regs _ _ _
  rw [fget_congr hregs, fget_fput_eq _ _ _ _ (by decide) (by decide)]
  exact Nat.mod_eq_of_lt htj

theorem exec_therm_hot (hd : d < 16) (hhot : 100 ≤ fget s (r_PWR_RAIL d) f_PWR_RAIL_TJ) : exec (.therm d) s = .next (levelSrc s 14 true d) := by
  rw [exec_therm, execTherm]
  exact when_of_true (by rw [decide_eq_true hd, decide_eq_true hhot]; rfl) s _

end Thermal

/-- Settles O56: the input's failure and return, the level sources, the rails, the cap loop and the thermal limit, each by its own equation. -/
theorem inputRailsCapAndTemperature : Obligations.InputRailsCapAndTemperature := by
  unfold Obligations.InputRailsCapAndTemperature
  refine ⟨fun s => ⟨fun hpin hup i hi => ?_, fun hfail => ⟨_, exec_pwrfailRelease_failed hfail, powerReleased_leaves s⟩, fun t => exec_pfrelCycle_due, ?_, ?_, fun r => ?_⟩,
    fun s d v => exec_pwrRailVsetWrite_served, fun s d v => exec_pwrRailVsetWrite_reserved, ?_, ?_, fun s d => exec_therm_hot⟩
  · refine ⟨pwrfail s, ?_, pwrfail_fails hpin hup⟩
    simp only [List.mem_cons, List.not_mem_nil, or_false] at hi
    rcases hi with rfl | rfl
    · rw [exec_pwrfailAssert, execPwrfailAssert]
    · rw [exec_inputUndervolt, execInputUndervolt]
  · rw [exec_inputOvervolt]; rfl
  · rw [exec_inputOvervolt]; rfl
  · rw [exec_railOutOfLimits]; rfl
  · intro s pin vin hdue t cap
    refine ⟨fun hcap habove ⟨d, hd, hveff⟩ => ?_, fun hcap habove hlow => ?_, fun _ => exec_capLoop_below hdue⟩
    · rw [exec_capLoop_above hdue hcap habove, if_neg]; rfl
      rw [List.all_eq_true]
      exact fun h => hveff (beq_iff_eq.mp (h d hd))
    · rw [exec_capLoop_above hdue hcap habove, if_pos]; rfl
      exact List.all_eq_true.mpr fun d hd => beq_iff_eq.mpr (hlow d hd)
  · intro s d tj hd hhot htj
    obtain ⟨hthrot, hmem, htemp⟩ := throttled_leaves (heatShown s d tj) hd
    have hshown := htemp.trans (heatShown_shows s htj)
    rcases exec_thermalThrottle_hot (s := s) hd hhot with hexec | hexec
    · obtain ⟨hthrot', hhot', htemp'⟩ := cooled_leaves (throttled (heatShown s d tj) d) d
      exact ⟨_, hexec, hthrot'.trans hthrot, hhot' ▸ hmem, htemp'.trans hshown⟩
    · exact ⟨_, hexec, hthrot, hmem, hshown⟩

end Sys2Proof.Machine

/-! PROOF. The management port and KMP (O59). -/
namespace Sys2Proof.Machine

/-! ### Frames -/

section Frames
variable {s : State} {b : List Byte} {ok : Bool}

theorem exec_mgpFrameReceive_failed {r : Nat} (hon : mgpOn s = true) (hfails : dropReason s b ok = some r) :
    exec (.mgpFrameReceive b ok) s = .next (dropFrame s r) := by
  rw [exec_mgpFrameReceive, execMgpFrameReceive, hon, hfails]; rfl

theorem exec_mgpFrameReceive_kmp (hon : mgpOn s = true) :
    let k := l4Of s b + 8
    dropReason s b ok = none → etOf s b ≠ 0x0806 → isSolicit s b = false → beAt b (k + 3) 1 ∈ [4, 0x10, 0x21, 0x22] → exec (.mgpFrameReceive b ok) s = .next
      (modFlt s fun f => { f with inbox := f.inbox ++ [{ ty := beAt b (k + 3) 1, body := (b.drop (k + 16)).take (beAt b (k + 4) 2), fromDst := fromDst s b }] }) := by
  intro k hpasses harp hnd hty
  have hty' : [4, 0x10, 0x21, 0x22].contains (beAt b (k + 3) 1) = true := List.contains_iff_mem.mpr hty
  rw [exec_mgpFrameReceive, execMgpFrameReceive, hon, hpasses]
  simp only [Bool.not_true, Bool.false_eq_true, if_false, if_neg harp, hnd]
  exact if_pos hty'

end Frames

/-! ### KMP messages -/

section Messages
variable {s : State} {m : KmpIn} {ms : List KmpIn}

/-- The oldest message has left the inbox. -/
def kmpTaken (s : State) (ms : List KmpIn) : State := modFlt s fun f => { f with inbox := ms }

theorem takeKmp_head {ty : Nat} {act : KmpIn → State → Option State} {t : State} (hin : s.flt.inbox = m :: ms) (hty : m.ty = ty)
    (hact : act m (kmpTaken s ms) = some t) : takeKmp ty act s = .next (frameTaken t) := by
  rw [takeKmp, hin]
  simp only [if_pos hty]
  rw [← kmpTaken, hact]

theorem kmpTaken_congr (s : State) (ms : List KmpIn) : (kmpTaken s ms).regs = s.regs ∧ (kmpTaken s ms).rst = s.rst
    ∧ (kmpTaken s ms).flt.termreq = s.flt.termreq ∧ (kmpTaken s ms).flt.unacked = s.flt.unacked := ⟨rfl, rfl, rfl, rfl⟩

theorem exec_kmpAck_held (hin : s.flt.inbox = m :: ms) (hty : m.ty = 4) (hfrom : m.fromDst = true) (hlen : m.body.length = 4)
    (hheld : ∃ u ∈ s.flt.unacked, u.seq = beAt m.body 0 4) : exec .kmpAck s =
      .next (frameTaken (modFlt (kmpTaken s ms) fun f => { f with unacked := f.unacked.filter fun u => u.seq != beAt m.body 0 4 })) := by
  obtain ⟨u, hu, hseq⟩ := hheld
  have hany : (kmpTaken s ms).flt.unacked.any (fun u => u.seq == beAt m.body 0 4) = true := List.any_eq_true.mpr ⟨u, hu, beq_iff_eq.mpr hseq⟩
  rw [exec_kmpAck, execKmpAck]
  exact takeKmp_head hin hty (if_pos (by rw [hfrom, hlen, hany]; rfl))

theorem exec_patchunk_whole (hin : s.flt.inbox = m :: ms) (hty : m.ty = 0x10) {n : Nat} (hn : n = beAt m.body 12 2) (hlen : m.body.length = 16 + n)
    (hzero : beAt m.body 14 2 = 0) (haligned : beAt m.body 8 4 % 1024 = 0) (hwhole : n = 1024) :
    let r := chunk (kmpTaken s ms) (beAt m.body 0 4) (beAt m.body 4 4) (beAt m.body 8 4) (m.body.drop 16)
    exec .patchunk s = .next (frameTaken (kmpSend r.1 0x11 (beBytes 4 (beAt m.body 0 4) ++ beBytes 4 (beAt m.body 8 4) ++ beBytes 1 r.2))) := by
  rw [exec_patchunk, execPatchunk]
  refine takeKmp_head hin hty ?_
  simp only [← hn, hlen, hzero, haligned, hwhole]
  rfl

/-- An answer of the tray controller is taken while the kiln waits for one. -/
theorem witnessSays_waiting (act : State → Nat → State) (hfrom : m.fromDst = true) (htray : trayWitness s = true) (hasked : s.flt.termreq.isSome = true)
    (hon : kilnOn s = true) (hlen : 4 ≤ m.body.length) :
    witnessSays act m (kmpTaken s ms) = some (act (modFlt (kmpTaken s ms) fun f => { f with termreq := none }) (beAt m.body 0 4 % 2 ^ 24)) := by
  obtain ⟨hregs, hrst, hreq, -⟩ := kmpTaken_congr s ms
  rw [witnessSays, hreq, kilnOn_congr hregs hrst, hfrom, hon, hasked, decide_eq_true hlen, trayWitness, fget_congr hregs, ← trayWitness, htray]
  rfl

theorem exec_kmpGrant_waiting (hin : s.flt.inbox = m :: ms) (hty : m.ty = 0x21) (hfrom : m.fromDst = true) (htray : trayWitness s = true)
    (hasked : s.flt.termreq.isSome = true) (hon : kilnOn s = true) (hlen : 4 ≤ m.body.length) : exec .kmpGrant s =
      .next (frameTaken (grantTerm (modFlt (kmpTaken s ms) fun f => { f with termreq := none }) (beAt m.body 0 4 % 2 ^ 24))) := by
  rw [exec_kmpGrant, execKmpGrant]
  exact takeKmp_head hin hty (witnessSays_waiting grantTerm hfrom htray hasked hon hlen)

theorem exec_kmpDeny_waiting (hin : s.flt.inbox = m :: ms) (hty : m.ty = 0x22) (hfrom : m.fromDst = true) (htray : trayWitness s = true)
    (hasked : s.flt.termreq.isSome = true) (hon : kilnOn s = true) (hlen : 4 ≤ m.body.length) : exec .kmpDeny s =
      .next (frameTaken (denyTerm (modFlt (kmpTaken s ms) fun f => { f with termreq := none }))) := by
  rw [exec_kmpDeny, execKmpDeny]
  exact takeKmp_head hin hty (witnessSays_waiting (fun s _ => denyTerm s) hfrom htray hasked hon hlen)

end Messages

/-! ### What the port sends by itself -/

section Sending
variable {s : State}

theorem exec_kmpResend_due {q : Nat} {u : KmpMsg} (hon : mgpOn s = true) (hheld : s.flt.unacked.find? (fun u => u.seq == q) = some u)
    (hdue : 100000000 ≤ nsSince s u.sent) : exec (.kmpResend q) s = .next
      (kmpFrame (modFlt s fun f => { f with unacked := f.unacked.map fun x => if x.seq = q then { x with sent := s.tb.tb } else x }) u.ty u.seq true u.body) := by
  rw [exec_kmpResend, execKmpResend, hheld]
  exact when_of_true (by rw [hon, decide_eq_true hdue]; rfl) s _

theorem exec_telem_due (hon : mgpOn s = true) : let p := fget s r_FLT_MGP_CTL f_FLT_MGP_CTL_TPER
    p ≠ 0 → p * 1000000000 ≤ nsSince s s.flt.telem → exec .telem s = .next (kmpSend (modFlt s fun f => { f with telem := s.tb.tb }) 3 (telemBody s)) := by
  intro p hset hdue
  rw [exec_telem, execTelem]
  exact when_of_true (by rw [hon, bne_iff_ne.mpr hset, decide_eq_true hdue]; rfl) s _

theorem exec_kmpTermreq_asking (hmgp : mgpOn s = true) (hon : kilnOn s = true) (htray : trayWitness s = true) (hask : s.kln.ask.isSome = true)
    (hfirst : s.flt.termreq = none) : exec .kmpTermreq s = .next
      (kmpSend (modFlt s fun f => { f with termreq := some s.kln.held }) 0x20 (beBytes 4 s.kln.held ++ beBytes 2 (myPkg s) ++ beBytes 2 (kilnPeer s))) := by
  rw [exec_kmpTermreq, execKmpTermreq]
  exact when_of_true (by rw [hon, hmgp, htray, hask, hfirst]; rfl) s _

theorem exec_patternStageTimeout_stale {g : PatStage} (hstage : s.tst.stage = some g) (hstale : 600000000000 ≤ nsSince s g.last) :
    exec .patternStageTimeout s = .next (modTst s fun t => { t with stage := none }) := by
  rw [exec_patternStageTimeout, execPatternStageTimeout]
  exact when_of_true (by rw [hstage, Option.any_some, decide_eq_true hstale]) s _

end Sending

/-- Settles O59: a message at the head of the inbox is taken by the step of its type (`takeKmp_head`); the rest are the commands' equations. -/
theorem managementMessagesAreTakenAndSent : Obligations.ManagementMessagesAreTakenAndSent := by
  unfold Obligations.ManagementMessagesAreTakenAndSent
  exact ⟨fun s b ok hon => ⟨fun r => exec_mgpFrameReceive_failed hon, exec_mgpFrameReceive_kmp hon⟩,
    fun s m ms hin => ⟨exec_kmpAck_held hin, fun hty n => exec_patchunk_whole hin hty, fun hfrom htray hasked hon hlen =>
      ⟨fun hty => exec_kmpGrant_waiting hin hty hfrom htray hasked hon hlen, fun hty => exec_kmpDeny_waiting hin hty hfrom htray hasked hon hlen⟩⟩,
    fun s hon => ⟨fun q u => exec_kmpResend_due hon, exec_telem_due hon, exec_kmpTermreq_asking hon⟩, fun s g => exec_patternStageTimeout_stale⟩

end Sys2Proof.Machine

/-! PROOF. The journal and its twin (O55): the cells that a module sends leave the state of the pair; what a record, a BEAT, a transfer and
the loss of the twin leave. -/
namespace Sys2Proof.Machine

/-! ### What the journal's cells leave -/

/-- Nothing of the pair's state differs: JNL_STAT, the twin's last BEAT, and when it came. -/
def PairKept (s t : State) : Prop :=
  rget t r_JNL_STAT = rget s r_JNL_STAT ∧ t.stm.jnl.twin = s.stm.jnl.twin ∧ t.stm.jnl.lastHeard = s.stm.jnl.lastHeard

theorem pairKept_refl (s : State) : PairKept s s := ⟨rfl, rfl, rfl⟩

theorem pairKept_trans {s t u : State} (hst : PairKept s t) (htu : PairKept t u) : PairKept s u := by
  obtain ⟨hstat, htwin, hheard⟩ := hst
  obtain ⟨hstat', htwin', hheard'⟩ := htu
  exact ⟨hstat'.trans hstat, htwin'.trans htwin, hheard'.trans hheard⟩

/-- What every item of a list keeps, the list keeps. -/
theorem each_rel {α : Type} {R : State → State → Prop} (hrefl : ∀ s, R s s) (htrans : ∀ {s t u}, R s t → R t u → R s u) (l : List α)
    {f : State → α → State} (s : State) (h : ∀ t x, R t (f t x)) : R s (each l f s) := by
  unfold each
  induction l generalizing s with
  | nil => exact hrefl s
  | cons x l ih => exact htrans (h s x) (ih (f s x))

theorem each_pairKept {α : Type} (l : List α) {f : State → α → State} (s : State) (h : ∀ t x, PairKept t (f t x)) : PairKept s (each l f s) :=
  each_rel pairKept_refl pairKept_trans l s h

theorem pairKept_of_regs {s t : State} (hregs : t.regs = s.regs) (hjnl : t.stm.jnl = s.stm.jnl) : PairKept s t :=
  ⟨rget_congr hregs _, by rw [hjnl], by rw [hjnl]⟩

theorem fput_pairKept (s : State) {off : Nat} (f : Fld) (x : Nat) (h : r_JNL_STAT ≠ off) : PairKept s (fput s off f x) :=
  ⟨by rw [fput, rget_rput_ne _ _ _ _ h], by rw [fput_stm], by rw [fput_stm]⟩

theorem jrnlCell_pairKept (s : State) (words : List Nat) : PairKept s (jrnlCell s words) :=
  pairKept_trans (pairKept_of_regs rfl rfl) (fput_pairKept _ _ _ (by decide))

theorem jrnlSend_pairKept (s : State) (hold : Bool) (kind : Nat) (bs : List Byte) : PairKept s (jrnlSend s hold kind bs) := by
  simp only [jrnlSend]
  split
  · exact jrnlCell_pairKept s _
  · split
    · exact ⟨rfl, rfl, rfl⟩
    · exact pairKept_trans (jrnlCell_pairKept s _) ⟨rfl, rfl, rfl⟩

theorem sendAck_pairKept (s : State) (n seq kind status digest : Nat) : PairKept s (sendAck s n seq kind status digest) := jrnlSend_pairKept _ _ _ _

theorem sendState_pairKept (s : State) (n : Nat) : PairKept s (sendState s n) := by
  rw [sendState]
  split
  · exact pairKept_refl s
  · exact jrnlSend_pairKept _ _ _ _

theorem pstate_of_pairKept {s t : State} (h : PairKept s t) : pstate t = pstate s := by
  obtain ⟨hstat, -, -⟩ := h
  rw [pstate, pstate, fget, fget, hstat]

theorem isRunner_of_pairKept {s t : State} (h : PairKept s t) : isRunner t = isRunner s := by
  obtain ⟨hstat, -, -⟩ := h
  rw [isRunner, isRunner, fbit, fbit, fget, fget, hstat]

/-! ### JNL_STAT -/

theorem pstate_setPstate (s : State) {x : Nat} (hx : x < 8) : pstate (setPstate s x) = x := by
  rw [pstate, setPstate, fget_fput_eq _ _ _ _ (by decide) (by decide)]
  exact Nat.mod_eq_of_lt hx

theorem pstate_setRunner (s : State) (b : Bool) : pstate (setRunner s b) = pstate s := by
  rw [pstate, pstate, setRunner, modJnl, fget_congr (modStm_regs _ _), fget_fput_other _ _ _ _ _ (by decide) (by decide) (by decide) (by decide)]

theorem isRunner_setRunner (s : State) (b : Bool) : isRunner (setRunner s b) = b := by
  rw [isRunner, setRunner, modJnl, fbit_congr (modStm_regs _ _), fbit_fput_eq _ (by decide) (by decide)]
  cases b <;> rfl

theorem isRunner_setPstate (s : State) (x : Nat) : isRunner (setPstate s x) = isRunner s :=
  fbit_fput_other s (by decide) (by decide) (by decide) (by decide)

/-! ### BEATs and transfers -/

section Pair
variable {s : State}

theorem enterJoining_leaves (s : State) : PairKept (setPstate s 1) (enterJoining s) :=
  pairKept_trans (each_pairKept _ _ fun t _ => jrnlSend_pairKept t _ _ _) (each_pairKept _ _ fun t n => sendState_pairKept t n)

theorem fromTwin_peer (hpeer : jnlPeerV s = true) : fromTwin s (jnlPeer s) = true := by rw [fromTwin, hpeer, beq_self_eq_true]; rfl

/-- The BEAT is noted; it names this module. -/
def beatNoted (s : State) (pst : Nat) (run so : Bool) : State := modJnl (heardTwin s) fun j => { j with twin := (pst, run, so), named := true }

theorem exec_jrnlBeatReceive_joins {run so : Bool} (hpeer : jnlPeerV s = true) (halone : pstate s = 0) :
    exec (.jrnlBeatReceive (jnlPeer s) 0 run so (myPkg s)) s = .next (enterJoining (beatNoted s 0 run so)) := by
  have hlone (b c : Bool) : ¬ (b && ((0 : Nat) == 1 || (0 : Nat) == 2) && c) = true := by revert b c; decide
  have halone' : pstate (beatNoted s 0 run so) = 0 := halone
  rw [exec_jrnlBeatReceive]
  simp only [execJrnlBeatReceive, fromTwin_peer hpeer, beq_self_eq_true, Bool.not_true, Bool.false_eq_true, if_false]
  rw [← beatNoted, if_pos halone']
  exact congrArg Host.Outcome.next (if_neg (hlone _ _))

theorem enterJoining_beatNoted (s : State) (pst : Nat) (run so : Bool) : pstate (enterJoining (beatNoted s pst run so)) = 1
    ∧ (enterJoining (beatNoted s pst run so)).stm.jnl.twin = (pst, run, so)
    ∧ (enterJoining (beatNoted s pst run so)).stm.jnl.lastHeard = s.tb.tb := by
  obtain ⟨-, htwin, hheard⟩ := enterJoining_leaves (beatNoted s pst run so)
  exact ⟨(pstate_of_pairKept (enterJoining_leaves _)).trans (pstate_setPstate _ (by decide)), htwin.trans (by rw [setPstate, fput_stm]; rfl),
    hheard.trans (by rw [setPstate, fput_stm]; rfl)⟩

theorem enterPaired_ofRunner {s : State} (hholds : isRunner s = false) (hruns : s.stm.jnl.twin.2.1 = true) :
    pstate (enterPaired s) = 2 ∧ isRunner (enterPaired s) = false := by
  have hlead (x : Nat) : isRunner (fput (setPstate s 2) r_JNL_STAT f_JNL_STAT_LEADER x) = false := by
    rw [isRunner, fbit_fput_other _ (by decide) (by decide) (by decide) (by decide), ← isRunner, isRunner_setPstate, hholds]
  have htwin (x : Nat) : (fput (setPstate s 2) r_JNL_STAT f_JNL_STAT_LEADER x).stm.jnl.twin.2.1 = true := by rw [fput_stm, setPstate, fput_stm, hruns]
  have hpaired : enterPaired s = fput (setPstate s 2) r_JNL_STAT f_JNL_STAT_LEADER (if decide (myPkg s < jnlPeer s) then 1 else 0) := by
    rw [enterPaired]
    simp only [hlead, htwin]
    exact if_neg (by decide)
  rw [hpaired]
  refine ⟨?_, hlead _⟩
  rw [pstate, fget_fput_other _ _ _ _ _ (by decide) (by decide) (by decide) (by decide)]
  exact pstate_setPstate s (by decide)

end Pair

/-! ### What holding a record leaves -/

/-- No stream's STM_CFG differs. -/
def CfgKept (s t : State) : Prop := ∀ m, rget t (r_STM_CFG m) = rget s (r_STM_CFG m)

theorem cfgKept_of_regs {s t : State} (h : t.regs = s.regs) : CfgKept s t := fun m => rget_congr h (r_STM_CFG m)
theorem cfgKept_trans {s t u : State} (hst : CfgKept s t) (htu : CfgKept t u) : CfgKept s u := fun m => (htu m).trans (hst m)
theorem rput_cfgKept (s : State) {off : Nat} (v : W32) (h : ∀ m, r_STM_CFG m ≠ off) : CfgKept s (rput s off v) := fun m => rget_rput_ne s off _ v (h m)

theorem setInflight_cfgKept (s : State) (n x : Nat) : CfgKept s (setInflight s n x) :=
  rput_cfgKept s _ fun m => by unfold r_STM_CFG r_STM_STAT; omega

theorem setStSeq_cfgKept (s : State) (n seq : Nat) : CfgKept s (setStSeq s n seq) :=
  cfgKept_trans (rput_cfgKept s _ fun m => by unfold r_STM_CFG r_STM_SEQ_LO; omega) (rput_cfgKept _ _ fun m => by unfold r_STM_CFG r_STM_SEQ_HI; omega)

theorem retireRec_cfgKept (s : State) (n seq : Nat) : CfgKept s (retireRec s n seq) := by
  rw [retireRec]; split <;> exact cfgKept_of_regs rfl

theorem dropItem_cfgKept (s : State) (n seq : Nat) : CfgKept s (dropItem s n seq) := by
  rw [dropItem]
  split
  · exact cfgKept_trans (cfgKept_of_regs rfl) (setInflight_cfgKept _ _ _)
  · exact cfgKept_of_regs rfl

theorem writeRec_cfgKept (s : State) (r : JRec) : CfgKept s (writeRec s r 0) := by
  have hgood : (decide (2 ≤ 0) && !s.stm.jnl.failed.contains (blockOf r.stream r.seq)) = false := rfl
  simp only [writeRec, hgood, Bool.false_eq_true, if_false]
  split <;> exact cfgKept_of_regs rfl

theorem commitRec_cfgKept (s : State) (r : JRec) : CfgKept s (commitRec s r) := by
  have hcount : CfgKept s (fadd s r_JNL_COMMITS f_JNL_COMMITS_CNT 1) := rput_cfgKept s _ fun m => by unfold r_STM_CFG r_JNL_COMMITS; omega
  simp only [commitRec]
  split
  · exact hcount
  · exact cfgKept_trans hcount (cfgKept_of_regs rfl)

theorem holdItem_cfgKept (s : State) (n : Nat) (r : JRec) : CfgKept s (holdItem s n r) :=
  cfgKept_trans (cfgKept_of_regs rfl) (setInflight_cfgKept _ _ _)

/-- The record of an older item in the slot of `r` is retired. -/
def slotFreed (s : State) (r : JRec) : State :=
  match tblFind s.stm.jnl.recs (recSlot r.stream r.seq) with
  | some o => if o.seq = r.seq then s else dropItem (retireRec s r.stream o.seq) r.stream o.seq
  | none => s

theorem slotFreed_cfgKept (s : State) (r : JRec) : CfgKept s (slotFreed s r) := by
  rw [slotFreed]
  split
  · split
    · exact cfgKept_of_regs rfl
    · exact cfgKept_trans (retireRec_cfgKept _ _ _) (dropItem_cfgKept _ _ _)
  · exact cfgKept_of_regs rfl

/-- The record is written, committed and accepted. -/
def recHeld (s : State) (r : JRec) : State := holdItem (commitRec (writeRec (slotFreed s r) { r with commit := 0 } 0) r) r.stream r

theorem recHeld_cfgKept (s : State) (r : JRec) : CfgKept s (recHeld s r) :=
  cfgKept_trans (slotFreed_cfgKept s r) (cfgKept_trans (writeRec_cfgKept _ _) (cfgKept_trans (commitRec_cfgKept _ r) (holdItem_cfgKept _ _ r)))

theorem holdRec_eq (s : State) (r : JRec) : holdRec s r = if ahead (stSeq (recHeld s r) r.stream) r.seq = 0 ∧ stSeq (recHeld s r) r.stream ≠ r.seq
    then recHeld s r else setStSeq (recHeld s r) r.stream ((r.seq + 1) % 2 ^ 48) := rfl

theorem holdRec_cfgKept (s : State) (r : JRec) : CfgKept s (holdRec s r) := by
  rw [holdRec_eq]
  split
  · exact recHeld_cfgKept s r
  · exact cfgKept_trans (recHeld_cfgKept s r) (setStSeq_cfgKept _ _ _)

theorem stMode_holdRec (s : State) (r : JRec) (n : Nat) : stMode (holdRec s r) n = stMode s n := by
  rw [stMode, stMode, fget, fget, holdRec_cfgKept s r n]

/-! ### Cells of the twin -/

section Cells
variable {s : State}

/-! Hearing the twin leaves what the cells are decided by. -/

theorem pstate_heardTwin (s : State) : pstate (heardTwin s) = pstate s := rfl
theorem stMode_heardTwin (s : State) (n : Nat) : stMode (heardTwin s) n = stMode s n := rfl
theorem stState_heardTwin (s : State) (n : Nat) : stState (heardTwin s) n = stState s n := rfl
theorem isHolder_heardTwin (s : State) (n : Nat) : isHolder (heardTwin s) n = isHolder s n := rfl
theorem getRec_heardTwin (s : State) (n seq : Nat) : getRec (heardTwin s) n seq = getRec s n seq := rfl
theorem getDone_heardTwin (s : State) (n seq : Nat) : getDone (heardTwin s) n seq = getDone s n seq := rfl
theorem getStrm_heardTwin (s : State) (n : Nat) : getStrm (heardTwin s) n = getStrm s n := rfl
theorem answered_heardTwin (s : State) : (heardTwin s).stm.jnl.answered = s.stm.jnl.answered := rfl

/-- A cell of the twin is taken while this module is not alone and its MRAM has energy. -/
theorem twinCell_taken (hpeer : jnlPeerV s = true) (htwo : soloed s = false) (hon : mramOn s = true) :
    (!fromTwin s (jnlPeer s) || soloed s || !mramOn s) = false := by
  rw [fromTwin_peer hpeer, htwo, hon]; rfl

theorem answered_find?_eq_none {n seq : Nat} (hnew : ∀ x ∈ s.stm.jnl.answered, ¬ (x.1 = n ∧ x.2.1 = seq)) :
    s.stm.jnl.answered.find? (fun x => x.1 == n && x.2.1 == seq) = none := by
  rw [List.find?_eq_none]
  intro x hx hboth
  rw [Bool.and_eq_true, beq_iff_eq, beq_iff_eq] at hboth
  exact hnew x hx hboth

theorem exec_recCell_taken {r : JRec} (hpeer : jnlPeerV s = true) (htwo : soloed s = false) (hon : mramOn s = true) (hpaired : pstate s ≠ 4)
    (hnew : ∀ x ∈ s.stm.jnl.answered, ¬ (x.1 = r.stream ∧ x.2.1 = r.seq)) :
    (stState s r.stream ≠ stRun → stMode s r.stream = 1 → exec (.recCell (jnlPeer s) r) s = .next (sendAck (heardTwin s) r.stream r.seq r.mark 2 0))
    ∧ (stState s r.stream = stRun → stMode s r.stream = 1 → isHolder s r.stream = true → getRec s r.stream r.seq = none → getDone s r.stream r.seq = none →
        exec (.recCell (jnlPeer s) r) s = .next (sendAck (holdRec (heardTwin s) r) r.stream r.seq r.mark 0 0)) := by
  have hexec : exec (.recCell (jnlPeer s) r) s = execRec (jnlPeer s) r s := exec_recCell ..
  have hone : ¬ (1 : Nat) = 2 := by decide
  constructor
  · intro hstopped hmode
    rw [hexec]
    simp only [execRec, twinCell_taken hpeer htwo hon, Bool.false_eq_true, if_false, pstate_heardTwin, if_neg hpaired, answered_heardTwin,
      answered_find?_eq_none hnew, stState_heardTwin, stMode_heardTwin, hmode, beq_false_of_ne hstopped, Bool.false_and, Bool.not_false, if_true, if_neg hone]
  · intro hruns hmode hholder hrec hdone
    have hlive : (!(stState s r.stream == stRun && (1 : Nat) != 0)) = false := by rw [hruns]; rfl
    rw [hexec]
    simp only [execRec, twinCell_taken hpeer htwo hon, Bool.false_eq_true, if_false, pstate_heardTwin, if_neg hpaired, answered_heardTwin,
      answered_find?_eq_none hnew, stState_heardTwin, stMode_heardTwin, stMode_holdRec, isHolder_heardTwin, getRec_heardTwin, getDone_heardTwin, hlive, hmode,
      hholder, hrec, hdone, Option.any_none, Option.isSome_none, Bool.or_self, Bool.not_true, if_neg hone]

theorem exec_jrnlDone_held {n : Nat} {c : Cpl} (hpeer : jnlPeerV s = true) (htwo : soloed s = false) (hon : mramOn s = true) (hpaired : pstate s ≠ 4)
    (hmode : stMode s n = 1) (hholder : isHolder s n = true) (hnew : getDone s n c.seq = none) :
    exec (.jrnlDone (jnlPeer s) n c) s = .next (sendAck (holdDone (heardTwin s) n c) n c.seq 0x11 0 0) := by
  rw [exec_jrnlDone]
  simp only [execJrnlDone, twinCell_taken hpeer htwo hon, Bool.false_eq_true, if_false, pstate_heardTwin, if_neg hpaired, stMode_heardTwin, hmode,
    if_neg (show ¬ (1 : Nat) = 2 by decide), isHolder_heardTwin, hholder, getDone_heardTwin, hnew, Option.isSome_none, Bool.not_false, Bool.and_self, if_true]

theorem exec_jrnlState_kept {n seq mode st : Nat} (hpeer : jnlPeerV s = true) (hon : mramOn s = true) (hpaired : pstate s ≠ 4)
    (huntwinned : twinned s n = false) : exec (.jrnlState (jnlPeer s) n seq mode st) s =
      .next (sendAck (modJnl (heardTwin s) fun j => { j with peer := tblPut j.peer n (seq, mode, st) }) n 0 0x12 0 0) := by
  have htaken : (!fromTwin s (jnlPeer s) || !mramOn s) = false := by rw [fromTwin_peer hpeer, hon]; rfl
  have hpaired' (f : Journal → Journal) : pstate (modJnl (heardTwin s) f) ≠ 4 := hpaired
  have huntwinned' (f : Journal → Journal) : twinned (modJnl (heardTwin s) f) n = false := huntwinned
  rw [exec_jrnlState]
  simp only [execJrnlState, htaken, Bool.false_eq_true, if_false, if_neg (hpaired' _), huntwinned', Bool.false_and]

theorem exec_query_answered {n seq : Nat} (hpeer : jnlPeerV s = true) (htwo : soloed s = false) : exec (.query (jnlPeer s) n seq) s =
    .next (sendAck (heardTwin s) n seq 0x14 (if (getDone s n seq).isSome then 5 else if (getRec s n seq).any fun r => r.commit == 1 then 3 else 4) 0) := by
  have htaken : (!fromTwin s (jnlPeer s) || soloed s) = false := by rw [fromTwin_peer hpeer, htwo]; rfl
  rw [exec_query]
  simp only [execQuery, htaken, Bool.false_eq_true, if_false, getDone_heardTwin, getRec_heardTwin]
  rfl

theorem exec_jrnlAck_waiting {n seq : Nat} (hpeer : jnlPeerV s = true) (htwo : soloed s = false) (hon : mramOn s = true)
    (hwaits : ((getStrm s n).prepared.any fun q => q.1.seq == seq) = true) :
    exec (.jrnlAck (jnlPeer s) n seq 1 0) s = .next (drainTodo (settle (modJnl (heardTwin s) fun j => { j with acked := addOnce j.acked (n, seq) }) n))
    ∧ exec (.jrnlAck (jnlPeer s) n seq 1 1) s = .next (drainTodo (twinDiff (heardTwin s) n seq)) := by
  have hexec (status : Nat) : exec (.jrnlAck (jnlPeer s) n seq 1 status) s = execJrnlAck (jnlPeer s) n seq 1 status s := exec_jrnlAck ..
  constructor
  · rw [hexec]
    simp only [execJrnlAck, twinCell_taken hpeer htwo hon, Bool.false_eq_true, if_false, true_or, if_true, getStrm_heardTwin, hwaits, Bool.not_true]
  · rw [hexec]
    simp only [execJrnlAck, twinCell_taken hpeer htwo hon, Bool.false_eq_true, if_false, true_or, if_true, getStrm_heardTwin, hwaits, Bool.not_true,
      if_neg (show ¬ (1 : Nat) = 0 by decide)]

/-! ### A transfer -/

/-- JNL_STAT does not differ. -/
def StatKept (s t : State) : Prop := rget t r_JNL_STAT = rget s r_JNL_STAT

theorem statKept_of_regs {s t : State} (h : t.regs = s.regs) : StatKept s t := rget_congr h _
theorem statKept_trans {s t u : State} (hst : StatKept s t) (htu : StatKept t u) : StatKept s u := Eq.trans htu hst
theorem each_statKept {α : Type} (l : List α) {f : State → α → State} (s : State) (h : ∀ t x, StatKept t (f t x)) : StatKept s (each l f s) :=
  each_rel (R := StatKept) (fun _ => rfl) statKept_trans l s h
theorem fput_statKept (s : State) {off : Nat} (f : Fld) (x : Nat) (h : r_JNL_STAT ≠ off) : StatKept s (fput s off f x) := rget_rput_ne _ _ _ _ h

theorem endStall_statKept (s : State) (c : Nat) : StatKept s (endStall s c) := by
  rw [endStall]
  split
  · rfl
  · exact statKept_trans (statKept_of_regs rfl) (fput_statKept _ _ _ (by decide))

theorem dropCtx_statKept (s : State) (c : Nat) (posted : Bool) : StatKept s (dropCtx s c posted) :=
  statKept_trans (endStall_statKept s c) (statKept_of_regs rfl)

theorem modStrm_regs (s : State) (n : Nat) (f : Strm → Strm) : (modStrm s n f).regs = s.regs := rfl

theorem stat_ne_strm (n : Nat) : r_JNL_STAT ≠ r_STM_PTR n ∧ r_JNL_STAT ≠ r_STM_STAT n := by unfold r_JNL_STAT r_STM_PTR r_STM_STAT; omega

theorem rewindSq_statKept (s : State) (n k : Nat) : StatKept s (rewindSq s n k) := by
  obtain ⟨hptr, hstat⟩ := stat_ne_strm n
  simp only [rewindSq]
  split
  · exact statKept_trans (fput_statKept s _ _ hptr) (fput_statKept _ _ _ hstat)
  · exact fput_statKept s _ _ hptr

theorem retireStrm_statKept (s : State) (n : Nat) : StatKept s (retireStrm s n) := by
  obtain ⟨-, hstat⟩ := stat_ne_strm n
  refine statKept_trans (u := retireStrm s n) ?_ (fput_statKept _ _ _ hstat)
  refine statKept_trans ?_ (statKept_of_regs (modStrm_regs _ _ _))
  refine statKept_trans ?_ (rewindSq_statKept _ _ _)
  exact statKept_trans (statKept_of_regs rfl) (each_statKept _ _ fun t c => dropCtx_statKept t c true)

theorem exec_syncreq_retires (hpeer : jnlPeerV s = true) (hon : mramOn s = true) :
    ∃ l f, exec (.syncreq (jnlPeer s)) s = .next (each l retireStrm (modJnl (setPstate (heardTwin s) 4) f)) := by
  have htaken : ¬ (!fromTwin s (jnlPeer s) || !mramOn s) = true := by rw [fromTwin_peer hpeer, hon]; exact Bool.false_ne_true
  exact ⟨_, _, (exec_syncreq s (jnlPeer s)).trans (if_neg htaken)⟩

theorem exec_syncreq_transfers (hpeer : jnlPeerV s = true) (hon : mramOn s = true) : ∃ t, exec (.syncreq (jnlPeer s)) s = .next t ∧ pstate t = 4 := by
  obtain ⟨l, f, hexec⟩ := exec_syncreq_retires hpeer hon
  have hkept : StatKept (setPstate (heardTwin s) 4) (each l retireStrm (modJnl (setPstate (heardTwin s) 4) f)) :=
    statKept_trans (statKept_of_regs (modStm_regs _ _)) (each_statKept l _ retireStrm_statKept)
  refine ⟨_, hexec, ?_⟩
  rw [pstate, fget, hkept]
  exact pstate_setPstate (heardTwin s) (by decide)

/-- The holder is paired with a runner again. -/
def rejoined (s : State) : State := enterPaired (modJnl (setRunner (heardTwin s) false) fun j => { j with twin := (2, true, false) })

theorem rejoined_leaves (s : State) : pstate (rejoined s) = 2 ∧ isRunner (rejoined s) = false := by
  refine enterPaired_ofRunner ?_ rfl
  rw [isRunner, modJnl, fbit_congr (modStm_regs _ _)]
  exact isRunner_setRunner (heardTwin s) false

theorem exec_syncend_pairs {cnt : Nat} (hpeer : jnlPeerV s = true) (htwo : soloed s = false) (hon : mramOn s = true) (hjoining : pstate s = 4)
    (hall : cnt ≤ s.stm.jnl.synced) :
    exec (.syncend (jnlPeer s) cnt) s = .next (sendAck (each (twinStrms (rejoined s)) sendState (rejoined s)) 0 0 0x16 0 0) := by
  have hall' : cnt ≤ (heardTwin s).stm.jnl.synced := hall
  rw [exec_syncend]
  simp only [execSyncend, twinCell_taken hpeer htwo hon, Bool.false_eq_true, if_false, pstate_heardTwin, hjoining, if_true, if_pos hall']
  rfl

theorem exec_syncend_leaves {cnt : Nat} (hpeer : jnlPeerV s = true) (htwo : soloed s = false) (hon : mramOn s = true) (hjoining : pstate s = 4)
    (hall : cnt ≤ s.stm.jnl.synced) : ∃ t, exec (.syncend (jnlPeer s) cnt) s = .next t ∧ pstate t = 2 ∧ isRunner t = false := by
  obtain ⟨hpaired, hholds⟩ := rejoined_leaves s
  have hkept : PairKept (rejoined s) (sendAck (each (twinStrms (rejoined s)) sendState (rejoined s)) 0 0 0x16 0 0) :=
    pairKept_trans (each_pairKept _ _ sendState_pairKept) (sendAck_pairKept _ _ _ _ _ _)
  exact ⟨_, exec_syncend_pairs hpeer htwo hon hjoining hall, (pstate_of_pairKept hkept).trans hpaired, (isRunner_of_pairKept hkept).trans hholds⟩

/-! ### Losing and regaining the twin -/

theorem exec_twinlost_silent (htwo : soloed s = false) (hpeer : jnlPeerV s = true)
    (hsilent : fget s r_JNL_PAIR f_JNL_PAIR_TMO * 1000000 ≤ (s.tb.tb - s.stm.jnl.lastHeard).toNat) :
    exec .twinlost s = .next (let t := fput s r_JNL_STAT f_JNL_STAT_TWINLOST 1
      if fbit t r_JNL_PAIR f_JNL_PAIR_AUTOSOLO then enterSolo t else modJnl (setPstate t 0) fun j => { j with named := false, peer := [] }) := by
  rw [exec_twinlost]
  simp only [execTwinlost, hpeer, htwo, decide_eq_true hsilent, Bool.not_false, Bool.true_or, Bool.and_self, if_true]
  exact (apply_ite Host.Outcome.next _ _ _).symm

/-- The runner begins the transfer. -/
def rejoining (s : State) : State := setRunner (setPstate (heardTwin s) 4) true

theorem rejoining_leaves (s : State) : pstate (rejoining s) = 4 ∧ isRunner (rejoining s) = true :=
  ⟨(pstate_setRunner _ _).trans (pstate_setPstate _ (by decide)), isRunner_setRunner _ _⟩

theorem exec_rejoin_sends (hsolo : soloed s = true) (hnone : twinStrms s = []) : ∃ t, exec .rejoin s = .next t ∧ PairKept (rejoining s) t := by
  refine ⟨_, by rw [exec_rejoin, execRejoin, hsolo, hnone]; rfl, ?_⟩
  refine pairKept_trans ?_ (jrnlSend_pairKept _ _ _ _)
  refine pairKept_trans ?_ (each_pairKept _ _ sendState_pairKept)
  refine pairKept_trans ?_ (each_pairKept _ _ fun t _ => jrnlSend_pairKept t _ _ _)
  refine pairKept_trans ?_ (each_pairKept _ _ fun t _ => jrnlSend_pairKept t _ _ _)
  exact jrnlSend_pairKept _ _ _ _

end Cells

/-! ### The journal itself -/

theorem exec_journalRecovery_empty {s : State} (hfirst : s.stm.jnl.recovered = false) (hnone : s.stm.jnl.streams = []) (bad : List Nat) :
    exec (.journalRecovery bad) s = .next (modJnl (rput
      (fput s r_JNL_STAT f_JNL_STAT_CLEAN (if s.stm.jnl.clean then 1 else 0)) r_JNL_RECOV 0) fun j => { j with recovered := true, clean := false, asked := [] }) := by
  rw [exec_journalRecovery, execJournalRecovery, hfirst]
  simp only [Bool.false_eq_true, if_false, modJnl, modStm_stm, rput_stm, fput_stm, hnone]
  rfl

theorem exec_jrnlResend_due {s : State} {i : Nat} {c : JCell} (hcell : s.stm.jnl.unacked[i]? = some c) (hdue : 1000000 ≤ (s.tb.tb - c.sent).toNat) :
    exec (.jrnlResend i) s = .next (fadd (jrnlCell (modJnl s fun j => { j with unacked := j.unacked.set i { c with sent := s.tb.tb } }) c.words)
      r_JNL_TWIN_RTX f_JNL_TWIN_RTX_CNT 1) := by
  rw [exec_jrnlResend, execJrnlResend, hcell]
  exact when_of_true (decide_eq_true hdue) s _

/-- Settles O55: the cells' equations hold once `twinCell_taken`; PSTATE and RUNNER are followed through what `PairKept` and `StatKept` say is left. -/
theorem twinsKeepTheJournal : Obligations.TwinsKeepTheJournal := by
  unfold Obligations.TwinsKeepTheJournal
  refine ⟨fun s hon blk cnt hblk hcnt hgood => ?_, fun s => exec_journalRecovery_empty, fun s hpeer => ⟨fun hdue => ?_, ?_, ?_⟩,
    fun s i c => exec_jrnlResend_due, fun s htwo => ⟨?_, exec_twinlost_silent htwo⟩, fun s hsolo hnone => ?_⟩
  · rw [exec_spareMove, execSpareMove]
    exact when_of_true (by simp [hblk, hcnt, hon, hgood]) s _
  · rw [exec_jrnlBeat, execJrnlBeat]
    exact when_of_true (by rw [hpeer, decide_eq_true hdue]; rfl) s _
  · rintro pst run so halone rfl
    exact ⟨_, exec_jrnlBeatReceive_joins hpeer halone, enterJoining_beatNoted s 0 run so⟩
  · rintro p htwo rfl hon
    refine ⟨fun r hpaired hnew => exec_recCell_taken hpeer htwo hon hpaired hnew, fun n c => exec_jrnlDone_held hpeer htwo hon,
      fun n seq mode st => exec_jrnlState_kept hpeer hon, fun n seq hdone => ?_, fun n seq r hdone hrec => ?_, fun n seq => exec_jrnlAck_waiting hpeer htwo hon,
      exec_syncreq_transfers hpeer hon, fun cnt => exec_syncend_leaves hpeer htwo hon⟩
    · rw [exec_query_answered hpeer htwo, if_pos hdone]
    · rw [exec_query_answered hpeer htwo, hdone, hrec]
      simp
  · rw [exec_solo, execSolo]
    exact when_of_true (by rw [htwo]; rfl) s _
  · obtain ⟨t, hexec, hkept⟩ := exec_rejoin_sends hsolo hnone
    obtain ⟨hjoining, hruns⟩ := rejoining_leaves s
    exact ⟨t, hexec, (pstate_of_pairKept hkept).trans hjoining, (isRunner_of_pairKept hkept).trans hruns⟩

end Sys2Proof.Machine
